-- ==== Sys2Proof/Word.lean ====
section
/-! DEFINITION. The word types of the VK8128 model (R4: registers are 32 bits wide). -/
namespace Sys2Proof

/-- A register, command-entry or completion-entry word (R4). -/
abbrev Word := BitVec 32

/-- A byte of a buffer or of a frame store. -/
abbrev Byte := BitVec 8

/-- A word from a natural number, modulo 2^32. -/
abbrev Word.of (n : Nat) : Word := BitVec.ofNat 32 n

end Sys2Proof
end

