-- ==== Sys2Proof/Syntax.lean ====
section
/-! DEFINITION. The commands of the VK8128 as terms: one constructor of Instr per row of the opcode table, with the row's operands. -/
namespace Sys2Proof

/-- A register page of BAR0 that carries the common header (R31, R32, R33). -/
inductive PageRef where
  | top | hq | evt | fw | pcie | thrm | pwr | lard | nvs | keys | ptp
  | hbmc (k : Fin 4)
  | fstr | audm | asrc | loup | rout
  | tdmp (p : Fin 16)
  | lane (l : Fin 128)
  | pcs (p : Fin 128)
  | mac (p : Fin 128)
  | msec (p : Fin 128)
  | siev (t : Fin 16)
  | prsm (e : Fin 144)
  | comp (t : Fin 16)
  | scan (t : Fin 16)
  | frc (e : Fin 144)
  | outc (o : Fin 512)
  deriving DecidableEq, Repr

/-- What a drain of R53 or R60 runs on: the block of a page, or a queue pair. -/
inductive DrainRef where
  | page (p : PageRef)
  /-- a queue pair, with the tags of the entries that wait in its ring -/
  | pair (q : Fin 316) (tags : List (BitVec 16))
  deriving DecidableEq, Repr

/-- What a port's receivers find while passing a bring-up stage: which lanes are inverted, the order of the lanes, the skew in 10 ps units (R119, R123, R136), and what auto-negotiation resolved (R144). -/
structure StageObs where
  inverted : Fin 16
  order : Fin 256
  skew : Fin 65536
  fec : Fin 8
  page : BitVec 48
  deriving DecidableEq, Repr

/-- A stage of the receive equaliser with an adapt bit of its own (R134). -/
inductive EqStage where
  | vga | ctle | ffe | dfe | float
  deriving DecidableEq, Repr

/-- The kinds of PTP message the slave knows (R152, R153). -/
inductive PtpKind where
  | announce | sync | syncTwoStep | followUp | delayResp | pdelayResp
  /-- another known message, which the slave does not act on -/
  | other
  /-- a messageType that IEEE 1588-2019 does not define -/
  | unknown
  deriving DecidableEq, Repr

/-- A grandmaster as an Announce describes it, in the order the default best-master algorithm compares (R152). -/
structure PtpMaster where
  priority1 : Nat
  clockClass : Nat
  accuracy : Nat
  variance : Nat
  priority2 : Nat
  identity : BitVec 64
  deriving DecidableEq, Repr

/-- A received PTP message (R153): its header, its timestamp field, its correction in nanoseconds, and what an Announce carries. -/
structure PtpMsg where
  kind : PtpKind
  version : Nat
  domain : Nat
  lengthOk : Bool
  seconds : Nat
  nanos : Nat
  correction : Int
  seq : Nat
  master : PtpMaster
  utcOffset : Int
  utcValid : Bool
  deriving DecidableEq, Repr

/-- What a read of HBM meets at a row: which stack, pseudo-channel, bank and row the keyed hash placed it on (R193), how many correctable errors it corrected there, whether it met an uncorrectable one (R212 to R214), and the frame-store blocks of 256 bytes that the row holds, as handle index × 2^25 + block of the handle. -/
structure HbmError where
  stack : Fin 4
  pch : Fin 32
  bank : Fin 64
  row : Fin 262144
  corrected : Nat
  uncorrectable : Bool
  blocks : List Nat
  deriving DecidableEq, Repr

/-- Where an uncorrectable SRAM error stands (R432). -/
inductive SramSite where
  /-- a line buffer of a physical engine -/
  | line (e : Fin 144)
  /-- the Stockpot plane of the run of an output that holds a layer -/
  | stockpot (o : Fin 512) (layer : Fin 4096)
  /-- the shared packet buffer, in a packet of an ingress flow -/
  | packet (f : Fin 4096)
  /-- a flow, route or context table or the LUT RAM, with the outputs that the word affects -/
  | table (outs : List (Fin 512))
  /-- the memory of a Muard core -/
  | core (k : Fin 9)
  /-- audio history of an input channel: one sample, counted back from the newest -/
  | audio (ch : Fin 16384) (back : Nat)
  deriving DecidableEq, Repr

/-- What the self-test of the spares finds failed (R104): spare engines as physical engines, the spare Muard core, spare PLLs by quad, and spare banks as general, die 0 and die 1. -/
structure SpareFailures where
  engines : List (Fin 144)
  core : Bool
  plls : List (Fin 32)
  sram : Fin 17
  pkt0 : Fin 5
  pkt1 : Fin 5
  deriving DecidableEq, Repr

/-- The commands and events of the part: one constructor per row of the opcode table. Operands named `dt` are the nanoseconds of the system counter that have passed since the command before. -/
inductive Instr where
  /-- REG_WRITE (R38): A write to a register or table-window field that has no row of its own is range-checked and either stored or ignored whole. -/
  | regWrite (fn : Fin 64) (addr : BitVec 26) (v : Word)
  /-- PAGE_ENABLE (R34): Writing PAGE_CTL.ENABLE to 1 enables a block, unless an unwritten reset-undefined field or a block-specific check refuses it. -/
  | pageEnable (p : PageRef)
  /-- PAGE_DISABLE (R53): Writing PAGE_CTL.ENABLE to 0 stops intake, starts the drain and applies the pending commits of a disabled output. -/
  | pageDisable (p : PageRef)
  /-- PAGE_DRAIN (R490): Setting PAGE_CTL.DRAIN on a running block drains in-flight work while ENABLE stays 1. -/
  | pageDrain (p : PageRef)
  /-- PAGE_RESET (R53): Setting PAGE_CTL.RESET drains and disables the block, then returns its block-specific registers to their reset values. -/
  | pageReset (p : PageRef)
  /-- DRAIN_END (R53): In-flight work reaches the drain point, queued commands are cancelled, BUSY clears and IDLE latches. -/
  | drainEnd (r : DrainRef) (dt : Nat)
  /-- DRAIN_FORCED (R54): The drain bound passes with work still in flight, so the part discards that work and records DRAIN_FORCED. -/
  | drainForced (r : DrainRef) (dt : Nat)
  /-- ERR_CODE_CLR (R34): Writing ERR_CODE.CLR clears CODE, COUNT and ERR_INFO. -/
  | errCodeClr (p : PageRef)
  /-- EVT_FORCE (R34): A write of EVT_FORCE latches the named bits in EVT_PEND as though the events had occurred. -/
  | evtForce (p : PageRef) (v : Word)
  /-- EVT_PEND_CLEAR (R37): Writing 1 to EVT_PEND bits clears latched events and may release their event source. -/
  | evtPendClear (p : PageRef) (v : Word)
  /-- PAGE_LOCK_STICKY (R34): Setting PAGE_LOCK.STICKY freezes PAGE_LOCK until the next device-level reset. -/
  | pageLockSticky (p : PageRef) (locks : Fin 8)
  /-- EVT_MAP_WRITE (R79): A write to an event-to-vector map entry sets its vector and enable, and sends a message when enabling an already pending source. -/
  | evtMapWrite (src : Fin 2048) (v : Word)
  /-- MSIX_UNMASK (R79): Unmasking an MSI-X vector sends one message when its pending bit is still set. -/
  | msixUnmask (fn : Fin 64) (vec : Fin 2048)
  /-- COMMIT_GO (R44): Writing TOP_COMMIT.GO queues a register commit for validation, or records COMMIT_BUSY during validation. -/
  | commitGo
  /-- COMMIT_SALVO (R51): Writing TOP_COMMIT with SALVO makes the commit a salvo at the instant held in TOP_SALVO_*. -/
  | commitSalvo
  /-- COMMIT_DRY_RUN (R43): Writing TOP_COMMIT with DRY_RUN validates without accepting, capturing or consuming a sequence number. -/
  | commitDryRun (salvo : Bool)
  /-- COMMIT_VALIDATION_END (R44): Validation of a commit ends after checking permission, quotas, consistency, latch guard, admission and salvo timing, and the commit is accepted or rejected. -/
  | commitValidationEnd (dt : Nat)
  /-- LATCH_LINE (R318): At an output's latch line the part applies commits, evaluates route slots, hides layers, acts on Lid trips and updates Stockpot runs. -/
  | latchLine (o : Fin 512) (dt : Nat)
  /-- FRAME_BOUNDARY (R327): An output frame starts at its boundary; jobs select source slots and take references, and the write-back writer opens a slot. -/
  | frameBoundary (o : Fin 512) (dt : Nat)
  /-- RASTER_LINE (R330): The compositor blends and packs active line y during raster line y and hands it to packetizer and write-back. -/
  | rasterLine (o : Fin 512) (late : List (Fin 4096)) (bad : List (Fin 4096 × HbmError)) (dt : Nat)
  /-- PACKET_TX (R338): A packetizer packet of an egress flow leaves at its scheduled instant on its legs. -/
  | packetTx (e : Fin 4096) (dt : Nat)
  /-- LOUPE_RESULT (R347): The Loupe produces a rectangle check result and compares it with the expected value. -/
  | loupeResult (o : Fin 512) (r : Fin 8) (dt : Nat)
  /-- OUTC_LPE_RELEARN (R345): Writing OUTC_LPE_RELEARN makes the next value of a HOLD rectangle its expected value. -/
  | outcLpeRelearn (o : Fin 512) (v : Word)
  /-- LEG_UPDATE (R322): Writing LEG_UPDATE.GO acts as TOP_COMMIT.GO written by PF0. -/
  | legUpdate (o : Fin 512) (v : Word)
  /-- SQ_DOORBELL (R65): A write of the submission doorbell advances the tail or is ignored as a doorbell error. -/
  | sqDoorbell (q : Fin 316) (v : Word)
  /-- CQ_DOORBELL (R65): A write of the completion doorbell frees completion slots and re-arms messages. -/
  | cqDoorbell (q : Fin 316) (v : Word)
  /-- QP_ENABLE (R60): Setting HQ_QP_CFG.EN resets heads, tails and phase and starts the pair. -/
  | qpEnable (q : Fin 316) (v : Word) (byVf : Bool)
  /-- QP_DISABLE (R60): Clearing HQ_QP_CFG.EN drains the pair and cancels commands before their commit point. -/
  | qpDisable (q : Fin 316) (v : Word) (byVf : Bool)
  /-- COMMAND_FETCH (R68): The part fetches a submission entry when room, quota and ordering allow. -/
  | commandFetch (q : Fin 316) (entry : Option (List Word)) (dt : Nat)
  /-- COMMAND_TIMEOUT (R61): A command not at its commit point within TIMEOUT completes TIMEOUT. -/
  | commandTimeout (q : Fin 316) (tag : BitVec 16) (dt : Nat)
  /-- COALESCE_TIMEOUT (R70): TIME µs pass since the first unreported completion and a message is sent. -/
  | coalesceTimeout (q : Fin 316) (dt : Nat)
  /-- CMD_NOP (R71): A no-operation command completes at fetch. -/
  | cmdNop (q : Fin 316) (tag : BitVec 16)
  /-- CMD_COMMIT (R72): A queued commit, salvo or dry run enters validation with its function's dirty shadows. -/
  | cmdCommit (q : Fin 316) (tag : BitVec 16)
  /-- CMD_ABORT (R76): An abort is ordered against its target's commit point and aborts it or completes ABORT_TOO_LATE. -/
  | cmdAbort (q : Fin 316) (tag : BitVec 16)
  /-- CMD_SHADOW_WRITE (R73): Up to six shadow fields of an owned object are written all-or-none. -/
  | cmdShadowWrite (q : Fin 316) (tag : BitVec 16)
  /-- CMD_SHADOW_READ (R73): A shadow or live field of an owned object is returned in RESULT_LO. -/
  | cmdShadowRead (q : Fin 316) (tag : BitVec 16)
  /-- CMD_SET_OWNER (R74): Ownership of a range of objects passes all-or-none with their use and charges. -/
  | cmdSetOwner (q : Fin 316) (tag : BitVec 16)
  /-- CMD_ENABLE (R75): An output, port, engine or TDM port is enabled as its page writes would. -/
  | cmdEnable (q : Fin 316) (tag : BitVec 16)
  /-- CMD_DISABLE (R75): An output, port, engine or TDM port is disabled under R53. -/
  | cmdDisable (q : Fin 316) (tag : BitVec 16)
  /-- CMD_FS_ALLOC (R197): A frame store handle is allocated with its slots and granules. -/
  | cmdFsAlloc (q : Fin 316) (tag : BitVec 16)
  /-- CMD_FREE (R208): A handle is unmapped and marked FREEING, completing at once or when its last reference retires. -/
  | cmdFree (q : Fin 316) (tag : BitVec 16)
  /-- CMD_FS_MAP (R210): Aperture slots are mapped to or unmapped from a handle's granules. -/
  | cmdFsMap (q : Fin 316) (tag : BitVec 16)
  /-- CMD_FENCE (R206): A host slot is published, pinned or unpinned. -/
  | cmdFence (q : Fin 316) (tag : BitVec 16)
  /-- CMD_LAYER_ALLOC (R296): A layer context is allocated and bound to an output. -/
  | cmdLayerAlloc (q : Fin 316) (tag : BitVec 16)
  /-- CMD_LAYER_FREE (R297): A layer context is released and its references retired. -/
  | cmdLayerFree (q : Fin 316) (tag : BitVec 16)
  /-- CMD_FLOW_CLAIM (R185): An ingress or egress flow index is claimed, optionally from a seen report. -/
  | cmdFlowClaim (q : Fin 316) (tag : BitVec 16)
  /-- CMD_FLOW_RELEASE (R186): A flow index is released, its groups left and its quota credited. -/
  | cmdFlowRelease (q : Fin 316) (tag : BitVec 16)
  /-- CMD_NV_READ (R446): Raw bytes, a record, a counter or a journal key is read from the non-volatile store. -/
  | cmdNvRead (q : Fin 316) (tag : BitVec 16)
  /-- CMD_NV_WRITE (R446): Raw bytes, a record, a counter increment, a journal set or delete is written to the non-volatile store. -/
  | cmdNvWrite (q : Fin 316) (tag : BitVec 16) (data : List Byte)
  /-- CMD_KEY_WRITE (R460): A key slot is written or erased, volatile or non-volatile. -/
  | cmdKeyWrite (q : Fin 316) (tag : BitVec 16)
  /-- CMD_LIFECYCLE (R466): A lifecycle transition destroys every key and moves to the target state. -/
  | cmdLifecycle (q : Fin 316) (tag : BitVec 16)
  /-- CMD_FW_LOAD (R96): A firmware image load is started through the queue. -/
  | cmdFwLoad (q : Fin 316) (tag : BitVec 16)
  /-- FW_LOAD (R95): Setting FW_CTL.LOAD starts a firmware load from the image registers. -/
  | fwLoad
  /-- FW_IMAGE_FETCHED (R97): The image is read into the window and its header checks run. -/
  | fwImageFetched (image : Option (List Byte)) (dt : Nat)
  /-- FW_VERIFY_DONE (R97): Cryptographic verification ends and the image is accepted or zeroed. -/
  | fwVerifyDone (dt : Nat)
  /-- FW_SEC_COMMIT (R100): A write of FW_SEC_COMMIT blows fuses to raise FW_SEC_MIN. -/
  | fwSecCommit (v : Word)
  /-- POWER_ON_RESET (R89): The core supply crossing its threshold resets the whole part. -/
  | powerOnReset
  /-- PERST_ASSERT (R89): PERST# asserted resets everything but the always-on domain and the non-volatile contents. -/
  | perstAssert
  /-- HOT_RESET (R89): A PCI Express hot reset or link down resets the part as PERST# does. -/
  | hotReset
  /-- PF0_FLR (R89): Function-level reset of PF0 resets the part and clears VF Enable. -/
  | pf0Flr
  /-- VF_FLR (R83): Function-level reset of a VF stops its pairs and discards its shadows within 100 ms. -/
  | vfFlr (fn : Fin 64)
  /-- BOOT_ROM_START (R92): On PERST# deassertion the boot ROM senses fuses, reads records, repairs SRAM, draws the hash key and starts HBM training. -/
  | bootRomStart (mv : Fin 4096) (entropy : Bool) (dt : Nat)
  /-- HBM_TRAINING_DONE (R101): HBM training and hard repair end and HBM_READY is set, or the sequence stops on FW_HBM_TRAIN. -/
  | hbmTrainingDone (failed : Option (Fin 4)) (dt : Nat)
  /-- WORIDE_START (R101): Cores leave ROM after training and verification, Woride initialises and PF0 fetching opens. -/
  | worideStart (dt : Nat)
  /-- SPARE_SELF_TEST_DONE (R101): The self-test of the spares completes. -/
  | spareSelfTestDone (failed : SpareFailures) (dt : Nat)
  /-- FW_TILE_UP (R101): A tile's bring-up completes and its TILE_UP bit is set. -/
  | fwTileUp (t : Fin 16) (dt : Nat)
  /-- ACTIVE_SELF_TEST_DONE (R104): The self-test of a tile's active engines completes and failures are mapped to spares. -/
  | activeSelfTestDone (t : Fin 16) (failed : BitVec 9) (dt : Nat)
  /-- FW_READY (R101): The engine map and admission limits are set, VF fetching opens and READY is reported. -/
  | fwReady (dt : Nat)
  /-- FW_HEARTBEAT_TICK (R105): Woride advances FW_HEARTBEAT every 10 ms. -/
  | fwHeartbeatTick (dt : Nat)
  /-- FW_HEARTBEAT_LOST (R105): The heartbeat does not advance for 100 ms, so the part enters FAILED and stops fetching. -/
  | fwHeartbeatLost (dt : Nat)
  /-- PARTNER_ARRIVED (R124): Signal present for ARRIVE_US declares a partner arrived, possibly waking RX. -/
  | partnerArrived (l : Fin 128) (dt : Nat)
  /-- PARTNER_DEPARTED (R124): Signal absent for DEPART_US declares a partner departed and downs the link with cause 1. -/
  | partnerDeparted (l : Fin 128) (dt : Nat)
  /-- PCS_STAGE_PASS (R119): A port passes a bring-up stage and moves to the next one. -/
  | pcsStagePass (p : Fin 128) (ob : StageObs) (dt : Nat)
  /-- STAGE_TIMEOUT (R121): A bring-up stage exceeds its maximum and the port restarts at cold CDR_LOCK. -/
  | stageTimeout (p : Fin 128) (ob : StageObs) (dt : Nat)
  /-- CDR_LOCK_LOST (R122): The phase detector is out of lock for 1 µs and the port returns to warm CDR_LOCK. -/
  | cdrLockLost (p : Fin 128) (dt : Nat)
  /-- BLOCK_LOCK_LOSS (R122): 16 invalid sync headers within 64 return the port to BLOCK_LOCK. -/
  | blockLockLoss (p : Fin 128) (dt : Nat)
  /-- AM_LOCK_LOSS (R122): 3 consecutive bad alignment markers return the port to AM_LOCK. -/
  | amLockLoss (p : Fin 128) (dt : Nat)
  /-- FEC_LOSS (R122): 8 uncorrectable codewords within 1 ms return the port to BLOCK_LOCK. -/
  | fecLoss (p : Fin 128) (dt : Nat)
  /-- PLL_LOCK_LOST (R135): A quad PLL loses lock, transmitters stop and the Larder switches to the spare PLL. -/
  | pllLockLost (q : Fin 32) (dt : Nat)
  /-- SPARE_PLL_RESUME (R135): Transmission resumes on the spare PLL within 2 ms and ports come up warm. -/
  | sparePllResume (q : Fin 32) (dt : Nat)
  /-- LANE_REF_LOST (R112): A lane reference is lost and every quad it serves loses lock. -/
  | laneRefLost (k : Fin 4) (dt : Nat)
  /-- ADAPT_LIMIT (R115): An equaliser tap or gain sits at a range end for 1 s. -/
  | adaptLimit (l : Fin 128) (dt : Nat)
  /-- LANE_EQ_RESTART (R117): Setting LANE_EQ_CTL.RESTART discards adapted values and reruns cold adaptation. -/
  | laneEqRestart (l : Fin 128)
  /-- EQ_ADAPT_FREEZE (R116): Clearing an adapt bit freezes the stage and copies its value into the override register. -/
  | eqAdaptFreeze (l : Fin 128) (st : EqStage)
  /-- TX_SLEEP (R125): Setting or clearing LANE_SLEEP.TX_SLEEP puts the transmitter to sleep or wakes it. -/
  | txSleep (l : Fin 128) (on : Bool)
  /-- RX_SLEEP (R125): Setting or clearing LANE_SLEEP.RX_SLEEP powers the receiver down or wakes it. -/
  | rxSleep (l : Fin 128) (on : Bool)
  /-- WAKE_DONE (R135): TX or RX reaches its wake point. -/
  | wakeDone (l : Fin 128) (rx : Bool) (dt : Nat)
  /-- PRBS_INJECT (R129): Setting LANE_PRBS_CTL.INJECT flips one transmitted bit. -/
  | prbsInject (l : Fin 128)
  /-- PRBS_CLEAR (R134): Setting LANE_PRBS_CTL.CLEAR clears the PRBS counters and lock losses. -/
  | prbsClear (l : Fin 128)
  /-- PRBS_CHECKER_LOCK (R129): The checker locks after 256 consecutive error-free bits. -/
  | prbsCheckerLock (l : Fin 128) (inverted : Bool) (dt : Nat)
  /-- PRBS_LOCK_LOST (R129): More than 256 errors within 1,024 bits lose checker lock. -/
  | prbsLockLost (l : Fin 128) (errs : Nat) (dt : Nat)
  /-- EYE_SCAN_START (R131): Setting LANE_EYE_CTL.START starts an eye scan or is refused. -/
  | eyeScanStart (l : Fin 128)
  /-- EYE_SCAN_ABORT (R132): Setting LANE_EYE_CTL.ABORT ends a running scan as aborted. -/
  | eyeScanAbort (l : Fin 128)
  /-- EYE_SCAN_DONE (R131): The last point of a scan completes, or the scan ends aborted. -/
  | eyeScanDone (l : Fin 128) (dt : Nat)
  /-- PCS_CNT_CLR (R136): Writing PCS_CNT_CLR clears the PCS counters. -/
  | pcsCntClr (p : Fin 128)
  /-- PCS_AN_RESTART (R146): Setting PCS_AN_CTL.RESTART restarts auto-negotiation. -/
  | pcsAnRestart (p : Fin 128)
  /-- AN_FAIL (R145): An auto-negotiation or training attempt fails and restarts through break-link. -/
  | anFail (p : Fin 128) (training : Bool) (failed : Fin 16) (dt : Nat)
  /-- MAC_RX_FRAME (R147): A received frame is checked by the MAC and, when passed, classified and handled by the Sieve. -/
  | macRxFrame (p : Fin 128) (bytes : List Byte) (trunc phy : Bool) (dt : Nat)
  /-- FRAME_DISCARD (R175): An incomplete frame is discarded once a later frame has arrived and any merge window has passed. -/
  | frameDiscard (f : Fin 4096) (dt : Nat)
  /-- MIRROR_SEQ_LOST (R179): Packet N is declared lost when MIRROR_WIN_US passes and held packets are released. -/
  | mirrorSeqLost (f : Fin 4096) (dt : Nat)
  /-- MIRROR_SKEW (R180): The 1 s skew average exceeds MIRROR_WIN_US. -/
  | mirrorSkew (f : Fin 4096) (dt : Nat)
  /-- LEG_LOST (R181): A leg delivers nothing for FLOW_TMO periods and is lost. -/
  | legLost (f : Fin 4096) (legB : Bool) (dt : Nat)
  /-- SEEN_REPORT (R183): After watching a discovery key for 10 ms the Sieve writes a seen report. -/
  | seenReport (t : Fin 16) (k : Nat) (dt : Nat)
  /-- MEMBERSHIP_REPORT (R187): An IGMPv3 or MLDv2 report is sent at its scheduled instant. -/
  | membershipReport (p : Fin 128) (k : Nat) (dt : Nat)
  /-- SIEV_CNT_CLR (R189): Writing SIEV_CNT_CLR clears the Sieve counters. -/
  | sievCntClr (t : Fin 16)
  /-- FP_SWITCH (R231): At switch frame F a fast-path entry changes its carried flow. -/
  | fpSwitch (e : Fin 4096) (dt : Nat)
  /-- FP_HOLD_TIMEOUT (R231): Held new-flow packets are released 1 ms after the first was held. -/
  | fpHoldTimeout (e : Fin 4096) (dt : Nat)
  /-- FP_REVERT (R235): An entry returns to SOURCE after REVERT_FRAMES frames of presence. -/
  | fpRevert (e : Fin 4096) (dt : Nat)
  /-- ROUT_CNT_CLR (R240): Writing ROUT_CNT_CLR clears the routing counters. -/
  | routCntClr
  /-- AP_WRITE (R211): A host write through the BAR2 aperture lands in a store slot or is dropped. -/
  | apWrite (fn : Fin 64) (addr : Nat) (bytes : List Byte)
  /-- FSTR_QUERY (R217): A write of FSTR_QUERY snapshots a handle index into the query words. -/
  | fstrQuery (v : Word)
  /-- FSTR_MAP_QUERY (R217): A write of FSTR_MAP_QUERY snapshots an aperture mapping. -/
  | fstrMapQuery (v : Word)
  /-- FSTR_CNT_CLR (R217): Writing FSTR_CNT_CLR clears the FSTR counters. -/
  | fstrCntClr
  /-- HBM_SCRUB (R212): A controller scrub pass reads and corrects its stack. -/
  | hbmScrub (k : Fin 4) (errs : List HbmError) (dt : Nat)
  /-- PCH_LOST (R215): A pseudo-channel fails whole and the HBM floor drops by 25,792 MB/s. -/
  | pchLost (k : Fin 4) (c : Fin 32) (dt : Nat)
  /-- REFRESH_2X (R216): A stack above 85 °C doubles its refresh rate, returning below 80 °C. -/
  | refresh2x (k : Fin 4) (celsius : Nat) (dt : Nat)
  /-- HBMC_CNT_CLR (R219): Writing HBMC_CNT_CLR clears the error counters. -/
  | hbmcCntClr (k : Fin 4)
  /-- PRSM_CNT_CLR (R267): Writing PRSM_CNT_CLR clears the engine counters. -/
  | prsmCntClr (e : Fin 144)
  /-- ESTIMATION_DONE (R278): Motion estimation of a frame pair completes. -/
  | estimationDone (o : Fin 512) (l : Fin 4096) (dt : Nat)
  /-- FRC_JOB_SEL (R291): A write of FRC_JOB_SEL snapshots a job's frame-rate state. -/
  | frcJobSel (e : Fin 144) (v : Word)
  /-- FRC_CNT_CLR (R291): Writing FRC_CNT_CLR clears the frame-rate counters. -/
  | frcCntClr (e : Fin 144)
  /-- STOCK_BUILD_DONE (R313): A best-effort Stockpot plane build completes, spilling or failing when space is short. -/
  | stockBuildDone (o : Fin 512) (member : Fin 4096) (kib : Nat) (dt : Nat)
  /-- COMP_CNT_CLR (R323): Writing COMP_CNT_CLR clears the composition counters. -/
  | compCntClr (t : Fin 16)
  /-- HTX_SEND (R342): The part sends the next host transmit slot or skips it. -/
  | htxSend (t : Fin 16) (slot : List Byte) (dt : Nat)
  /-- SCAN_CNT_CLR (R349): Writing SCAN_CNT_CLR clears the scan-out counters. -/
  | scanCntClr (t : Fin 16)
  /-- LOUP_CNT_CLR (R350): Writing LOUP_CNT_CLR clears the Loupe counters. -/
  | loupCntClr
  /-- MAC_CNT_CLR (R149): Writing MAC_CNT_CLR clears every MAC counter. -/
  | macCntClr (p : Fin 128)
  /-- MSEC_CNT_CLR (R162): Writing MSEC_CNT_CLR clears every MACsec counter. -/
  | msecCntClr (p : Fin 128)
  /-- MSEC_TX_AN_WRITE (R160): A write of MSEC_TX_AN selects the transmitting association from the next frame. -/
  | msecTxAnWrite (p : Fin 128) (v : Word)
  /-- PTP_MESSAGE (R153): A received PTP message is checked and fed to the servo, which may step or slew the time base. -/
  | ptpMessage (p : Fin 128) (m : PtpMsg) (dt : Nat)
  /-- PTP_LOCKED (R154): The filtered offset stays within ±100 ns for 10 s. -/
  | ptpLocked (dt : Nat)
  /-- ANNOUNCE_TIMEOUT (R154): Announce receipt times out, switching to the backup port or entering HOLDOVER. -/
  | announceTimeout (onBackup : Bool) (dt : Nat)
  /-- PPS_PULSE (R156): A 1PPS edge aligns the time base phase and takes an armed label. -/
  | ppsPulse (dt : Nat)
  /-- REF_10M_PRESENT (R154): The 10 MHz input appears and the servo leaves WAITING. -/
  | ref10mPresent (dt : Nat)
  /-- REF_LOST (R156): 10 MHz absent for 10 µs or no pulse for 1.1 s enters HOLDOVER. -/
  | refLost (tenMhz : Bool) (dt : Nat)
  /-- PTP_SET (R156): Setting PTP_SET_CTL.SET loads the time at once as a step in free-run. -/
  | ptpSet
  /-- PPS_ARM (R156): Setting PTP_SET_CTL.PPS_ARM labels the next pulse with the set seconds. -/
  | ppsArm
  /-- PTP_SOURCE_WRITE (R157): A change of PTP_CTL.SOURCE enters FREE_RUN, ACQUIRING or WAITING. -/
  | ptpSourceWrite (v : Word)
  /-- AUDIO_SAMPLE (R355): An output channel makes its sample for media time t at PTP time t from delayed inputs. -/
  | audioSample (ch : Fin 16384) (dt : Nat)
  /-- ALIGN_REGAINED (R373): Every member delivers for REGAIN_MS and the group is aligned again. -/
  | alignRegained (g : Fin 256) (dt : Nat)
  /-- AUDIO_CHANGE_POINT (R366): An audio channel change begins its out phase at its change instant. -/
  | audioChangePoint (ch : Fin 16384) (dt : Nat)
  /-- ZC_TIMEOUT (R367): No zero crossing within ZC_TMO_MS, so the signal ramps over 1 ms. -/
  | zcTimeout (ch : Fin 16384) (dt : Nat)
  /-- NONPCM_MARK_CLEAR (R377): A non-PCM mark clears after 8,192 samples without a sign. -/
  | nonpcmMarkClear (ch : Fin 16384) (dt : Nat)
  /-- ASRC_LOCKED (R375): An ASRC channel settles within range for LOCK_MS and locks. -/
  | asrcLocked (a : Fin 2048) (dt : Nat)
  /-- ASRC_RANGE (R375): The measured ratio deviation exceeds RANGE_PPM. -/
  | asrcRange (a : Fin 2048) (dev : Word) (dt : Nat)
  /-- AUDM_CNT_CLR (R381): Writing AUDM_CNT_CLR clears the audio counters. -/
  | audmCntClr
  /-- ASRC_CNT_CLR (R382): Writing ASRC_CNT_CLR clears the unlock counter. -/
  | asrcCntClr
  /-- TDM_FRAME_SYNC (R395): An active frame-sync edge transfers a TDM frame, checks counters and applies captured masks. -/
  | tdmFrameSync (p : Fin 16) (off : Nat) (din : List Word) (dt : Nat)
  /-- TDMP_RESTART (R397): Setting TDMP_CTL.RESTART mutes the port and flushes its FIFOs. -/
  | tdmpRestart (p : Fin 16)
  /-- CLOCK_LOST (R390): A slave port loses its bit clock, frame sync or range. -/
  | clockLost (p : Fin 16) (cause : Fin 3) (dt : Nat)
  /-- CLOCK_RESTORED (R390): Clocks present and in range for RELOCK_MS restart the port. -/
  | clockRestored (p : Fin 16) (dt : Nat)
  /-- TDM_RATE_MEASURE (R389): Every 10 ms a slave port measures its frame rate deviation and bit clock. -/
  | tdmRateMeasure (p : Fin 16) (ppm hz : Word) (dt : Nat)
  /-- SLOT_ZC_TIMEOUT (R393): A slot phase finds no zero crossing in the timeout and ramps. -/
  | slotZcTimeout (p : Fin 16) (tx : Bool) (slot : Fin 32) (dt : Nat)
  /-- TDMP_CNT_CLR (R400): Writing TDMP_CNT_CLR clears the TDM counters. -/
  | tdmpCntClr (p : Fin 16)
  /-- THERMAL_EVALUATE (R407): Every 10 ms the thermal block evaluates channels, faults, levels and compensation. -/
  | thermalEvaluate (xs : List (Int × Fin 3)) (dt : Nat)
  /-- LEVEL_DOWN (R408): The level falls one step once its entry conditions have not held for HOLD_S. -/
  | levelDown (dt : Nat)
  /-- SENSOR_RECOVERED (R405): A faulted channel clears after 10 s of good readings. -/
  | sensorRecovered (c : Fin 60) (dt : Nat)
  /-- THRM_HARD_TRIP (R412): The shutdown does not end by 20 ms or a die reaches CRIT + 10 °C, so every switched domain is removed. -/
  | thrmHardTrip (late : Bool) (dt : Nat)
  /-- PWR_OFF_WRITE (R416): A write of PWR_OFF switches single power domains off or on. -/
  | pwrOffWrite (k : Fin 3) (v : Word)
  /-- PWR_TILE_OFF_WRITE (R415): A write of PWR_TILE_OFF switches all five domains of a tile in order. -/
  | pwrTileOffWrite (v : Word)
  /-- DOMAIN_ON (R416): A domain is powered again after its wake time. -/
  | domainOn (d : Fin 96) (dt : Nat)
  /-- DOMAIN_OFF (R415): A domain turns off. -/
  | domainOff (d : Fin 96) (dt : Nat)
  /-- LARD_SWAP (R426): Writing LARD_SWAP with GO swaps a spare into a logical engine. -/
  | lardSwap (v : Word)
  /-- ENGINE_FAILED (R428): An engine reports an error, its undelivered lines are withheld and a spare swap starts. -/
  | engineFailed (e : Fin 144) (dt : Nat)
  /-- IST_STEP (R430): Every PERIOD_S / 9 an in-service test step swaps the next slot of each tile out for testing. -/
  | istStep (dt : Nat)
  /-- IST_NOW (R430): Setting LARD_CTL.IST_NOW starts the next test step at once. -/
  | istNow
  /-- IST_TEST_DONE (R430): An engine's in-service test ends and it becomes SPARE or FAILED. -/
  | istTestDone (e : Fin 144) (pass : Bool) (dt : Nat)
  /-- RETIRED_ENGINE_TEST_DONE (R425): A re-enabled retired engine completes its test and becomes SPARE. -/
  | retiredEngineTestDone (e : Fin 144) (pass : Bool) (dt : Nat)
  /-- CORE_TAKEOVER (R431): A Muard core fails and the spare takes over its work. -/
  | coreTakeover (k : Fin 9) (dt : Nat)
  /-- SRAM_UNCORR (R432): An uncorrectable SRAM error is handled according to its array. -/
  | sramUncorr (site : SramSite) (dt : Nat)
  /-- SRAM_REPAIRED (R433): A failing SRAM bank is copied to a spare bank and reads switch over. -/
  | sramRepaired (location : Fin 65536) (dt : Nat)
  /-- PKTBUF_REPAIRED (R433): A failing packet-buffer bank is copied to a spare bank and reads switch over. -/
  | pktbufRepaired (location : Fin 65536) (dt : Nat)
  /-- MAP_WRITE_FAIL (R434): A repair-map write fails and is retried every 10 s. -/
  | mapWriteFail (dt : Nat)
  /-- WEAR_HOUR_TICK (R435): Once per hour the wear counters of engines and cores advance. -/
  | wearHourTick (dt : Nat)
  /-- LARD_MAP_QUERY (R436): A write of LARD_MAP_QUERY snapshots a repair-map entry. -/
  | lardMapQuery (v : Word)
  /-- LARD_WEAR_SEL (R436): A write of LARD_WEAR_SEL snapshots an engine's or core's wear. -/
  | lardWearSel (v : Word)
  /-- NV_PAGE_WRITE_DONE (R441): A non-volatile page write is programmed and verified, and the next queued page write can start. -/
  | nvPageWriteDone (replaced : Bool) (dt : Nat)
  /-- NV_WINDOW_WRITE (R444): A write through the direct window gathers into the page buffer. -/
  | nvWindowWrite (off : Fin 65536) (bytes : List Byte)
  /-- NV_WINDOW_READ (R445): A read through the direct window returns data or is held during a page write. -/
  | nvWindowRead (off : Fin 65536) (len : Nat)
  /-- NVS_FLUSH (R444): Setting NVS_WIN_CTL.FLUSH writes the gathered page. -/
  | nvsFlush
  /-- NV_WINDOW_IDLE (R444): IDLE_US without a window write starts the page write. -/
  | nvWindowIdle (dt : Nat)
  /-- NVS_WIN_TIMEOUT (R445): A window access held for 6 ms is completed with zero data or dropped. -/
  | nvsWinTimeout (dt : Nat)
  /-- NVS_SCRUB (R452): A periodic scrub pass reads the store and refreshes or replaces pages. -/
  | nvsScrub (findings : List (Fin 131072 × Fin 3)) (dt : Nat)
  /-- NVS_CNT_CLR (R453): Writing NVS_CNT_CLR clears the store counters. -/
  | nvsCntClr
  /-- POWER_LOSS (R442): Supply loss lets the hold-up capacitor finish a started page write while later writes are dropped. -/
  | powerLoss (mv : Fin 4096) (holdup : Bool) (dt : Nat)
  /-- KEYS_RNG_READ (R471): A read of KEYS_RNG returns 32 random bits, or 0 while the DRBG is failed. -/
  | keysRngRead
  /-- KEYS_SLOT_QUERY (R472): A write of KEYS_SLOT_QUERY snapshots a slot's status. -/
  | keysSlotQuery (v : Word)
  /-- ENTROPY_FAIL (R471): A health test fails in service and the DRBG stops. -/
  | entropyFail (dt : Nat)
  /-- ENTROPY_RETEST (R471): Every 1 s the source is retested and reseeds after three passes. -/
  | entropyRetest (pass : Bool) (dt : Nat)
  /-- SALVO_ACTIVATION (R42): A pending salvo's activation instant T passes: its values for disabled outputs become live and the salvo leaves flight. -/
  | salvoActivation (dt : Nat)
  /-- PCIE_LINK_UP (R101): The PCI Express link trains and configuration requests are answered, opening the FW page and PF0 pair 0, and ending a hot-reset or link-down condition. -/
  | pcieLinkUp (dt : Nat)
  /-- DELAY_REQUEST_TX (R157): At the log2 delay-request interval of PTP_PROFILE the slave sends a Delay_Req or Pdelay_Req on its PTP port. -/
  | delayRequestTx (dt : Nat)
  /-- ASRC_WITHIN_RANGE (R375): An OUT_OF_RANGE ASRC channel finds its measured deviation back within RANGE_PPM and returns to ACQUIRING. -/
  | asrcWithinRange (a : Fin 2048) (dev : Word) (dt : Nat)
  /-- LANE_REF_RESTORED (R112): A lost lane reference input returns and the quad PLLs it serves can lock again. -/
  | laneRefRestored (k : Fin 4) (dt : Nat)
  /-- FUSE_BLOW_DONE (R466): A one-time fuse blow, taking up to 20 ms, completes and the lifecycle transition or the FW_SEC_MIN raise moves on. -/
  | fuseBlowDone (dt : Nat)
  /-- AP_READ (R213): A host read through the BAR2 aperture returns mapped data, zeros, or an EP completion on an uncorrectable HBM error, which is logged and may soft-repair the row. -/
  | apRead (fn : Fin 64) (addr len : Nat) (bad : Option HbmError)
  /-- COHERENT_SNAPSHOT_READ (R16): A read of the lowest word of a value wider than 32 bits takes a coherent snapshot that later reads of its higher words return. -/
  | coherentSnapshotRead (fn : Fin 64) (addr : BitVec 26)
  deriving DecidableEq, Repr

end Sys2Proof
end

