-- ==== Sys2Proof/Decode.lean ====
section
/-! DEFINITION. Reading a command from a word: the opcode table of this hardware gives no row any bits, so that no word spells a command. -/
namespace Sys2Proof

/-- The command that a word of `nbits` bits spells by the bits of the opcode table: none, since the table gives no row bits. -/
def decodeTableWord (_nbits _w : Nat) : Option Instr := none

end Sys2Proof
end

