-- ==== Sys2Proof/Config.lean ====
section
/-! DEFINITION. What an implementation fixes and what the manual leaves open: constants without a body, so that nothing can be proved of their value. -/
namespace Sys2Proof

/-- A free value: the `n`-th value that the manual leaves open along a run. -/
opaque Config.freeValue : Nat → BitVec 64

/-- Error of the timestamp of a frame on a port at an instant, in nanoseconds plus 4: R151 states stamps to within 4 ns. -/
opaque Config.stampError : Nat → Nat → Nat

/-- HMAC-SHA-256 over a message with a key (R205). -/
opaque Config.hmacSha256 : List Byte → List Byte → BitVec 256

/-- SHA-384 of a message (R97, R443). -/
opaque Config.sha384 : List Byte → BitVec 384

/-- ECDSA verification with curve P-384: public key, digest, signature (R97). -/
opaque Config.ecdsaVerify : List Byte → BitVec 384 → List Byte → Bool

/-- GCM-AES-256 of IEEE 802.1AE: key, initialisation vector, data to encrypt, associated data, to ciphertext and check value (R158). -/
opaque Config.gcmSeal : List Byte → List Byte → List Byte → List Byte → List Byte

/-- The inverse of `gcmSeal` with the same arguments: the data, or none where the check value fails (R158). -/
opaque Config.gcmOpen : List Byte → List Byte → List Byte → List Byte → Option (List Byte)

/-- Spare rows of a bank of HBM: stack, pseudo-channel, bank (R214, R215). -/
opaque Config.spareRows : Nat → Nat → Nat → Nat

/-- Coefficient of a built-in scaler set: set, vertical, phase, tap (R257 names the kernels and states no coefficient). -/
opaque Config.builtinCoef : Nat → Bool → Nat → Nat → Int

/-- The standard curve of a transfer characteristic, coded value to linear light, both in units of 2^-16 (R302). -/
opaque Config.toLinear : Nat → Nat → Nat

/-- What motion estimation finds for a block of a vector field: forward x, y, backward x, y in quarter pixels, and confidence (R278 states the search and no matching criterion). -/
opaque Config.motion : Nat → Nat → Nat → (Int × Int × Int × Int × Nat)

/-- Which frame of a pair has the consistent vector in a covered or uncovered block of a vector field: the first where true (R279 states no criterion). -/
opaque Config.consistent : Nat → Nat → Nat → Bool

/-- PAGE_CAP [17:0] of a page type: BLOCK is the owning chapter's and no chapter states it, and no table states HAS_DRAIN (R34). -/
opaque Config.pageCap : Nat → Nat

/-- The per-device key in the fuses, which only the key-store cipher reads (R457, R469). -/
opaque Config.deviceKey : List Byte

/-- The vendor root hash in the fuses, as a number whose first byte is the most significant (R92, R469). -/
opaque Config.rootHash : BitVec 384

end Sys2Proof
end

