-- ==== Sys2Proof/Machine/State.lean ====
section
/-! DEFINITION. The state of the part as plain data: every register, table, queue, buffer, counter and mode the spec names. -/
namespace Sys2Proof.Machine

/-- Why the machine stops. -/
inductive Fault where
  /-- Raised by a meaning whose operand lists are not those of any command (Instr.wellFormed fails): safe, no such command exists. -/
  | illFormed
  deriving DecidableEq, Repr

/-- Why a command has no meaning. -/
inductive Refusal where
  /-- Raised by an arm of exec whose row has no meaning yet: safe, nothing is claimed of it. -/
  | notModelled (mnemonic : String)
  deriving DecidableEq, Repr

/-- A finite map over natural keys, held as a list of entries with strictly rising keys. -/
abbrev FMap (α : Type) : Type := List (Nat × α)

/-- A stated range of a field of a register (R38): the bits and the raw values allowed. -/
structure FieldRange where
  lo : Nat
  len : Nat
  ok : List (Nat × Nat)
  deriving DecidableEq, Repr

/-- One row of a chapter's register table, for a register that software can write (R5, R7, R38). -/
structure Row where
  off : Nat
  count : Nat
  stride : Nat
  shadowed : Bool
  reset : Nat
  /-- the bits a write stores -/
  wmask : Nat
  /-- the bits that start an action and read as 0 -/
  pulse : Nat
  /-- writable only while the block is disabled (reason 2 of R38) -/
  whileOff : Bool
  /-- reset value "—": to be written before the block is enabled (R7) -/
  undef : Bool
  flds : List FieldRange
  deriving DecidableEq, Repr

/-- A shadow (R39): the value last written, who wrote it, and whether a commit has yet to capture it. -/
structure Shadow where
  val : Word
  writer : Nat
  dirty : Bool
  deriving DecidableEq, Repr

/-- What the part puts on its interfaces. -/
inductive Out where
  /-- an MSI-X message of a function on a vector (R70, R79) -/
  | msix (fn vec : Nat)
  /-- a completion entry, four words, on a queue pair (R63) -/
  | completion (q : Nat) (w0 w1 w2 w3 : Word)
  /-- the data of a register read -/
  | readData (v : Word)
  /-- the data of an aperture or window read, and whether the completion is poisoned (R213) -/
  | readBytes (bytes : List Byte) (poisoned : Bool)
  /-- bytes written to host memory -/
  | hostWrite (addr : Nat) (bytes : List Byte)
  /-- an Ethernet frame handed to the MAC of a port, without FCS -/
  | frame (port : Nat) (bytes : List Byte)
  /-- a membership report of a port: whether IPv6, and its group records as type and group (R187) -/
  | report (port : Nat) (ipv6 : Bool) (records : List (Nat × Nat))
  /-- an RTP packet of egress flow `e` on a leg's port: sequence number, timestamp, marker, and what it carries -/
  | packet (e port seq ts : Nat) (marker : Bool) (payload : List Byte)
  /-- a PTP message of the slave (R157) -/
  | ptp (port : Nat) (kind : Nat)
  /-- the samples of one TDM frame, slot by slot -/
  | tdm (port : Nat) (samples : List Int)
  /-- a value on an output pin: pin number and level -/
  | pin (n : Nat) (level : Bool)
  deriving DecidableEq, Repr

/-- Time, registers, shadows, events and interfaces: what every block shares. -/
structure Io where
  /-- PTP time: the system counter, nanoseconds on the TAI scale (R150) -/
  now : Nat
  /-- nanoseconds of the always-on clock since power-on: every interval that is no PTP time is measured on it -/
  up : Nat
  /-- the model's own: how many free values have been taken -/
  freeCtr : Nat
  /-- live registers and tables by address -/
  regs : FMap Word
  /-- shadows written since they last equalled the live value (R39) -/
  shadow : FMap Shadow
  /-- addresses of registers with reset "—" written since reset (R7) -/
  written : List Nat
  /-- snapshots of higher words of wide values (R16) -/
  snap : FMap Word
  /-- MSI-X vectors unmasked, by function × 2048 + vector (R79) -/
  unmasked : List Nat
  /-- the MSI-X pending-bit array (R79) -/
  pba : List Nat
  /-- drains that run, and when each began: pages by their address, queue pairs by 2^32 and their number (R53, R54) -/
  drains : FMap Nat
  /-- the model's own: what the part has put on its interfaces, newest first -/
  out : List Out
  deriving DecidableEq, Repr

/-- Serial lanes and link bring-up beyond what the LANE and PCS pages hold. -/
structure Ser where
  /-- lanes whose partner is declared arrived (R124) -/
  present : List Nat
  /-- lane reference inputs that are lost (R112) -/
  refLost : List Nat
  /-- quads whose PLL has lost lock (R135) -/
  pllLost : List Nat
  /-- lanes with an eye scan running, and when it started (R131) -/
  eyeSince : FMap Nat
  /-- lanes whose PRBS checker is locked, and the time up to which it has counted (R129) -/
  prbsSince : FMap Nat
  /-- ports whose present or next CDR_LOCK stage is warm (R119) -/
  warm : List Nat
  /-- ports and the time at which their link was last up (R119) -/
  lastUp : FMap Nat
  deriving DecidableEq, Repr

/-- The PTP servo beyond what the PTP page holds (R152 to R157). -/
structure Ptp where
  /-- seconds that the next pulse takes (R156) -/
  armed : Option Nat
  /-- a labelled pulse has been taken since the source was selected (R156) -/
  labelled : Bool
  /-- the 10 MHz input is present -/
  ref10 : Bool
  /-- the best master heard on the primary port, while its announces last -/
  primary : Option PtpMaster
  /-- the best master heard on the backup port, while its announces last -/
  backup : Option PtpMaster
  /-- consecutive outliers (R153) -/
  outliers : Nat
  /-- consecutive pulses off their instant (R156) -/
  jumps : Nat
  /-- the time base has stepped since ACQUIRING was entered (R154) -/
  stepped : Bool
  /-- the two-step Sync awaiting its Follow_Up: sequence number, receive time, correction -/
  sync : Option (Nat × Nat × Int)
  /-- the last receive time less origin time, ns -/
  skew : Int
  /-- requests sent: sequence number and time -/
  requests : List (Nat × Nat)
  /-- sequence number of the next request -/
  nextSeq : Nat
  deriving DecidableEq, Repr

/-- A slot of a frame store (R200). -/
structure Slot where
  /-- 0 FREE, 1 FILLING, 2 READY, 3 NEWEST -/
  state : Nat
  /-- when it last became FREE, as a rising number: the writer opens the oldest -/
  freed : Nat
  /-- publication count of the handle when it was published (R206) -/
  count : Nat
  /-- media time of the frame it holds -/
  media : Nat
  /-- RTP timestamp of the frame it holds -/
  rtp : Nat
  /-- time of its publication -/
  at_ : Nat
  deriving DecidableEq, Repr

/-- An allocated frame store (R197, R198). -/
structure Store where
  gen : Nat
  owner : Nat
  kind : Nat
  writer : Nat
  auth : Bool
  keySlot : Nat
  width : Nat
  height : Nat
  slotBytes : Nat
  format : Nat
  slotG : Nat
  slots : List Slot
  fence : Bool
  freeing : Bool
  published : Nat
  /-- host pins as function and slot (R206) -/
  pins : List (Nat × Nat)
  /-- the free command that waits for the last reference: queue pair and tag (R208) -/
  waiter : Option (Nat × Nat)
  /-- granules that hold a permanently poisoned block (R215) -/
  bad : List Nat
  deriving DecidableEq, Repr

/-- A reference that a job holds on a slot for the frame in scan-out (R201). -/
structure JobRef where
  out : Nat
  layer : Nat
  index : Nat
  slot : Nat
  deriving DecidableEq, Repr

/-- Correctable errors collected by a row of HBM, with their times (R214). -/
structure RowErr where
  stack : Nat
  pch : Nat
  bank : Nat
  row : Nat
  times : List Nat
  deriving DecidableEq, Repr

/-- Frame stores, the aperture and HBM (ch. 8). -/
structure Stores where
  /-- allocated handles by index -/
  table : FMap Store
  /-- current generation by index (R196) -/
  gens : FMap Nat
  /-- numbers the instants at which slots become FREE -/
  clock : Nat
  /-- aperture mappings by function × 4096 + slot: handle, granule offset, WRITE (R209) -/
  maps : FMap (Nat × Nat × Bool)
  jobs : List JobRef
  /-- bytes of HBM by index × 2^33 + offset in the handle -/
  hbm : FMap Byte
  /-- 256-byte blocks with an uncorrectable error, by the same key / 256 (R213) -/
  poisoned : List Nat
  /-- blocks marked permanently poisoned (R215) -/
  dead : List Nat
  rows : List RowErr
  /-- rows soft-repaired since reset (R214) -/
  repaired : List (Nat × Nat × Nat × Nat)
  /-- time of the last discard for want of a slot, by index (R202) -/
  starvedAt : FMap Nat
  /-- time of the last dropped aperture write (R211) -/
  dropAt : Option Nat
  /-- pseudo-channels lost, as stack and channel (R215) -/
  lost : List (Nat × Nat)
  deriving DecidableEq, Repr

/-- A commit waiting for or in validation (R43, R44). -/
structure CommitReq where
  fn : Nat
  /-- queue pair and tag, for a commit that came on a queue -/
  src : Option (Nat × Nat)
  /-- activation instant of a salvo, in nanoseconds, with its range error kept aside -/
  salvo : Option Nat
  badTime : Bool
  dry : Bool
  /-- captured addresses and values; a dry run captures nothing -/
  vals : List (Nat × Word)
  deriving DecidableEq, Repr

/-- An accepted commit that is not yet live everywhere (R45, R50). -/
structure Pend where
  seq : Nat
  fn : Nat
  src : Option (Nat × Nat)
  salvo : Option Nat
  acceptedAt : Nat
  /-- values that are not yet live -/
  vals : List (Nat × Word)
  /-- outputs yet to apply it -/
  outs : List Nat
  /-- egress flows whose fast-path entry has yet to reach its switch frame -/
  fasts : List Nat
  /-- values for disabled outputs and other objects wait for the instant of the salvo -/
  waitT : Bool
  /-- some output deferred it (R50) -/
  deferred : Bool
  /-- frame count at which the last output so far applied it -/
  lastFrame : Nat
  /-- it names at least one output -/
  named : Bool
  deriving DecidableEq, Repr

/-- A layer that keeps its previous live state until its fence signals (R49). -/
structure HeldLayer where
  out : Nat
  layer : Nat
  /-- the route slot that routes it -/
  slot : Nat
  vals : List (Nat × Word)
  deriving DecidableEq, Repr

/-- Commits (ch. 2). -/
structure Commits where
  /-- in validation, then waiting for validation, in order of arrival -/
  queue : List CommitReq
  /-- accepted and not yet complete, in sequence order -/
  pend : List Pend
  held : List HeldLayer
  /-- layers marked for hiding under R86 or R27, with their cause -/
  marked : List (Nat × Nat)
  /-- functions whose quota was lowered below use and await their ranking (R86) -/
  cuts : List Nat
  /-- live capacity or placement fell short (R27) -/
  shed : Bool
  deriving DecidableEq, Repr

/-- A command in flight (R68). -/
structure Cmd where
  q : Nat
  tag : Nat
  fn : Nat
  words : List Word
  /-- when it was fetched -/
  since : Nat
  /-- it has passed its commit point (R60, R76) -/
  past : Bool
  /-- it has begun: only a command not yet begun can be run by its row -/
  begun : Bool
  /-- it leaves no completion entry: its pair was stopped or its function reset (R60, R66, R83) -/
  silent : Bool
  deriving DecidableEq, Repr

/-- Runtime of a queue pair beyond its context (R59). -/
structure PairRt where
  phase : Bool
  /-- completion entries written and not yet consumed -/
  used : Nat
  /-- a ring access failed, and the pair has stopped (R66) -/
  stopped : Bool
  /-- completions not yet reported by a message (R70) -/
  unreported : Nat
  /-- time of the first unreported completion -/
  since : Option Nat
  /-- a message has been sent and the completion doorbell has not been written since (R70) -/
  armed : Bool
  draining : Bool
  deriving DecidableEq, Repr

/-- A command cannot be cancelled while one of these waits: an enable or disable in progress (R75). -/
structure Waiting where
  q : Nat
  tag : Nat
  kind : Nat
  index : Nat
  enable : Bool
  /-- code of a drain that was forced, 0 for none (R54) -/
  code : Nat
  deriving DecidableEq, Repr

/-- Queues, functions and ownership (ch. 3). -/
structure Queues where
  cmds : List Cmd
  pairs : FMap PairRt
  /-- enables and disables that complete later (R75) -/
  waiting : List Waiting
  /-- owners of outputs, egress flows and audio channels by kind × 65536 + index: PF0 where unlisted (R74) -/
  owner : FMap Nat
  /-- claimed flows: ingress by index, egress by 4096 + index, with their owner (R185) -/
  claims : FMap Nat
  deriving DecidableEq, Repr
/-- A UDP datagram that the Sieve handles, parsed from its frame (R165, R172). -/
structure Pkt where
  port : Nat
  vlan : Option Nat
  ipv6 : Bool
  dst : List Byte
  src : List Byte
  udpSrc : Nat
  udpDst : Nat
  payload : List Byte
  /-- the timestamp the MAC gave it (R151) -/
  arrival : Nat
  deriving DecidableEq, Repr

/-- A packet held by the merge (R179). -/
structure HeldPkt where
  seq : Nat
  legB : Bool
  pkt : Pkt
  deriving DecidableEq, Repr

/-- A frame that the Sieve assembles for a flow (R175). -/
structure Assembly where
  rtp : Nat
  /-- RTP timestamp of the second field, once one of its packets has arrived (R175) -/
  rtp2 : Option Nat
  media : Nat
  /-- slot of the store it writes, if it has one -/
  slot : Option Nat
  ancSlot : Option Nat
  /-- sequence number of its first packet, when the marker before it was received -/
  first : Option Nat
  /-- extended sequence numbers received -/
  seqs : List Nat
  /-- sequence numbers of the marker packets received -/
  markers : List Nat
  /-- when a later frame's packet arrived -/
  laterAt : Option Nat
  /-- payloads kept until the frame is complete: ancillary data and SDI (R176, R177) -/
  parts : List (Nat × List Byte)
  deriving DecidableEq, Repr

/-- What the Sieve keeps for a valid flow beyond its status words (R171 to R181). -/
structure FlowRt where
  /-- instant at which VALID 1 became live -/
  validAt : Nat
  /-- a new RTP timestamp has begun since (R171) -/
  started : Bool
  lastA : Option Nat
  lastB : Option Nat
  lostA : Bool
  lostB : Bool
  /-- next extended sequence number due -/
  nextSeq : Option Nat
  held : List HeldPkt
  /-- sequence numbers whose copy on the other leg has not come: number, leg, arrival -/
  copies : List (Nat × Bool × Nat)
  /-- skews measured since the last average, in nanoseconds -/
  skews : List Int
  skewRaised : Bool
  /-- frames being assembled, oldest first -/
  frames : List Assembly
  /-- RTP timestamp of the newest frame begun, or of the packet before it -/
  lastRtp : Option Nat
  /-- sequence number of the last marker packet -/
  marked : Option Nat
  /-- last packet drop (R174) -/
  dropAt : Option Nat
  /-- last fast-path drop (R178) -/
  fastDropAt : Option Nat
  /-- captured words 24 to 29 waiting for the frame boundary (R171) -/
  fmt : List (Nat × Word)
  deriving DecidableEq, Repr

/-- A discovery under watch or in holdoff (R183). -/
structure Watch where
  tile : Nat
  listen : Nat
  first : Pkt
  marker : Bool
  count : Nat
  /-- when its report was written -/
  reported : Option Nat
  deriving DecidableEq, Repr

/-- A group record of a membership report: its type, its group and its sources (R187). -/
structure GroupRecord where
  kind : Nat
  group : List Byte
  sources : List (List Byte)
  deriving DecidableEq, Repr

/-- A membership report scheduled on a port (R187). -/
structure Report where
  port : Nat
  ipv6 : Bool
  vlan : Option Nat
  records : List GroupRecord
  /-- times it is still to be sent -/
  left : Nat
  /-- bound of its random delay in nanoseconds, and when it was scheduled -/
  bound : Nat
  since : Nat
  deriving DecidableEq, Repr

/-- The Sieves of the 16 tiles (ch. 7). -/
structure Sieve where
  flows : FMap FlowRt
  watches : List Watch
  reports : List Report
  /-- frames punted by a tile within the running second: tile, when it began, count (R188) -/
  puntRate : FMap (Nat × Nat)
  deriving DecidableEq, Repr


/-- A change of the flow that a fast-path entry carries (R231). -/
structure FpChange where
  /-- commit that made it; none for a loss switch, a return or a resumption -/
  seq : Option Nat
  /-- switch frame, as a frame number on the reference grid -/
  frame : Nat
  /-- flow carried from then on; none ends the egress flow -/
  flow : Option Nat
  /-- that flow is BACKUP -/
  backup : Bool
  /-- values that become live with it -/
  vals : List (Nat × Word)
  deriving DecidableEq, Repr

/-- A fast-path entry beyond its status words (R229 to R235). -/
structure FpRt where
  /-- accepted changes that await their switch frame, in order -/
  changes : List FpChange
  /-- flow that sends now -/
  carried : Option Nat
  /-- the switch in progress: old flow, RTP timestamp of the switch frame -/
  turning : Option (Option Nat × Nat)
  /-- packets of the new flow held, oldest first -/
  held : List Pkt
  /-- when the first of them was held -/
  heldAt : Option Nat
  /-- the marker of the frame before F has gone, or the hold has ended -/
  released : Bool
  /-- the first packet of F has been forwarded -/
  announced : Bool
  /-- since when SOURCE has been PRESENT while on backup (R235) -/
  presentAt : Option Nat
  /-- source and backup are both absent -/
  silent : Bool
  /-- bytes in the packet buffer of the entry's share, and since when it drains -/
  used : Nat
  usedAt : Nat
  deriving DecidableEq, Repr

/-- A route slot beyond its status word (R226, R227). -/
structure SlotRt where
  onBackupFrozen : Bool
  /-- the slot of a store that a FROZEN route slot holds: handle index and slot -/
  hold : Option (Nat × Nat)
  deriving DecidableEq, Repr

/-- Routing (ch. 9). -/
structure Routing where
  fast : FMap FpRt
  /-- by output × 16 + slot -/
  slots : FMap SlotRt
  deriving DecidableEq, Repr

/-- The timing that a frame began with (R327, R328). -/
structure Timing where
  /-- frames per second are num / den, den 1 or 1001 -/
  num : Nat
  den : Nat
  phase : Nat
  vTotal : Nat
  actW : Nat
  actH : Nat
  scan : Nat
  deriving DecidableEq, Repr

/-- What one layer shows in the picture being composed (R273, R284, R285). -/
structure Shown where
  layer : Nat
  slot : Nat
  /-- 0 nothing, 1 a stored picture, 2 a colour, 3 opaque black -/
  kind : Nat
  /-- the source is the backup of the route slot -/
  backup : Bool
  /-- handle indexes and slots of A and B -/
  a : Option (Nat × Nat)
  b : Option (Nat × Nat)
  /-- the field of A's frame and of B's frame that is the source picture (R284) -/
  fieldA : Option Nat
  fieldB : Option Nat
  /-- slots of the same stores that hold the even lines of a film frame, when its fields lie in two frames (R283) -/
  evenA : Option Nat
  evenB : Option Nat
  /-- quantised phase, 0 to 64 -/
  q : Nat
  /-- combine along vectors, with the number of the vector field -/
  vectors : Option Nat
  deriving DecidableEq, Repr

/-- An egress flow beyond its status words (R335, R337, R338). -/
structure EgrRt where
  /-- frame, or packet of audio, whose packets are being sent -/
  frame : Nat
  /-- packets of it that have been sent -/
  sent : Nat
  /-- its packets have not all been sent -/
  busy : Bool
  /-- next sequence number, with the ST 2110-20 extension -/
  seq : Nat
  /-- IPv4 identification -/
  ident : Nat
  /-- a frame has begun since VALID 1 became live (R335) -/
  started : Bool
  /-- captured header words that wait for the next frame or packet (R335) -/
  pending : List (Nat × Word)
  deriving DecidableEq, Repr

/-- An output with its timing generator (R326 to R332). -/
structure OutRt where
  /-- the timing that the frame in progress began with -/
  tm : Timing
  /-- the output format word that the frame in progress began with -/
  fmt : Word
  frame : Nat
  /-- a frame has begun since the output was enabled or resynchronised -/
  inFrame : Bool
  /-- no frame starts before this instant -/
  notBefore : Nat
  /-- a step of the time base awaits the end of the frame -/
  resync : Bool
  /-- nanoseconds that the time base has stepped by since the frame began: its lines keep to the old scale -/
  shift : Int
  /-- the latch line of the frame has passed -/
  latched : Bool
  /-- active lines of the frame composed so far, in the order of the raster -/
  line : Nat
  shown : List Shown
  /-- layers that have underrun in this frame -/
  under : List Nat
  /-- layers whose lines are withheld to the end of the frame, with the line, counted as `line` counts, from which on (R428) -/
  withheld : List (Nat × Nat)
  /-- packed samples of the frame by picture line; for 4:2:0 a pair of lines stands at its first -/
  picture : FMap (List Nat)
  /-- accumulated alpha and chroma of a first line of a pair, until its second is composed -/
  half : List (Int × Int × Int)
  /-- Loupe's own blend of the raster's columns of the Lid rectangle, as `picture` and `half` -/
  lidPicture : FMap (List Nat)
  lidHalf : List (Int × Int × Int)
  /-- a Lid line had not arrived when its result fell due (R346) -/
  lidMissing : Bool
  /-- linear light of the background (key 0) and of COLOUR sources (1 + 2·slot, plus 1 for the backup), as three 18-bit values (R302) -/
  lin : FMap Nat
  /-- the slate's handle index and slot that the frame shows (R311) -/
  slate : Option (Nat × Nat)
  /-- ancillary data of the frame, as an ANC slot holds them (R341) -/
  anc : List Byte
  /-- write-back slot being filled: handle index and slot -/
  wb : Option (Nat × Nat)
  /-- a Lid mismatch has been reported and awaits the latch line: when -/
  tripAt : Option Nat
  /-- when the last commit of PF0 that captured OUTC_LID and has applied was accepted (R311) -/
  lidAt : Option Nat
  /-- the output is held as PREVIEW (R410) -/
  held : Bool
  /-- the layers' underrun streaks that have been reported (R317) -/
  persisted : List Nat
  deriving DecidableEq, Repr

/-- A Stockpot run (R312 to R315). -/
structure Run where
  out : Nat
  members : List Nat
  settle : Nat
  /-- slots that the members showed in the last frame, or that the plane was built from: layer, handle index, slot -/
  shown : List (Nat × Nat × Nat)
  /-- 0 uncached, 1 building, 2 built and waiting for the latch line, 3 live, 4 live and rebuilding, 5 live with a new plane ready -/
  plane : Nat
  /-- the last build found no space, and none has been freed since (R314) -/
  full : Bool
  /-- KiB of the plane in the Stockpot half and in the spill -/
  kib : Nat
  spill : Nat
  newKib : Nat
  newSpill : Nat
  /-- the plane line by line, pixels as four 18-bit values (R314), and the plane that replaces it -/
  image : List (List Nat)
  newImage : List (List Nat)
  deriving DecidableEq, Repr

/-- A layer's frame-rate stage (R271 to R285). -/
structure FrcRt where
  out : Nat
  layer : Nat
  /-- media time of the source picture taken last as A -/
  lastA : Option Nat
  /-- publication count up to which frames have been taken or counted as dropped -/
  upto : Option Nat
  /-- pairs whose vector field is complete: media times and number of the field -/
  fields : List (Nat × Nat × Nat)
  /-- source pictures classified so far, newest first: repeated or new (R282) -/
  bits : List Bool
  /-- publication count of the last picture classified -/
  judged : Nat
  /-- 0 unlocked, 1 3:2, 2 2:2 -/
  cadence : Nat
  phase : Nat
  /-- film frames since lock, oldest first: media time on the grid, publication count of the source frame, and whether it begins with the second field (R283) -/
  films : List (Nat × Nat × Bool)
  tau : Nat
  sA : Nat
  delay : Nat
  q : Nat
  slotA : Nat
  slotB : Nat
  cut : Bool
  estLate : Bool
  srcLate : Bool
  conf : Nat
  blocks : Nat
  /-- mode the stage runs in, after any downgrade (R289) -/
  mode : Nat
  deriving DecidableEq, Repr

/-- A conversion job on an engine (R263). -/
structure Job where
  out : Nat
  layer : Nat
  strip : Nat
  strips : Nat
  reserve : Bool
  /-- charge as a fraction of Mpix/s -/
  num : Nat
  den : Nat
  /-- layer lines at 9 bytes per destination pixel, bytes per second as a fraction -/
  linesNum : Nat
  linesDen : Nat
  /-- logical engine; none when no engine has room -/
  engine : Option Nat
  /-- engine it moves to at its output's next latch line -/
  moveTo : Option Nat
  deriving DecidableEq, Repr

/-- Loupe results (R345). -/
structure LoupeRt where
  /-- expected value of a HOLD rectangle, by output × 8 + rectangle -/
  expect : FMap Nat
  /-- last value and how many frames it has stood -/
  last : FMap (Nat × Nat)
  /-- rectangles whose result for the frame has been made -/
  done : List Nat
  deriving DecidableEq, Repr

/-- Composition and scan-out (ch. 10 to 13). -/
structure Scanout where
  outs : FMap OutRt
  runs : List Run
  frcs : List FrcRt
  jobs : List Job
  loupe : LoupeRt
  egr : FMap EgrRt
  /-- last late job, clamp, source-late and late field of an engine by engine × 4 + kind (R266, R269, R275, R280) -/
  engineAt : FMap Nat
  /-- last underrun by tile (R317) -/
  underAt : FMap Nat
  /-- last host frame sent by tile (R342) -/
  htxAt : FMap Nat
  /-- number of the next vector field -/
  nextField : Nat
  deriving DecidableEq, Repr
/-- A change of an output channel that awaits its instant (R366 to R369). -/
structure AudChange where
  /-- change instant C -/
  at_ : Nat
  /-- the commit that made it; none for a followed source -/
  seq : Option Nat
  /-- entry words that become live with it: word and value -/
  words : List (Nat × Word)
  /-- the input channel that source 0 follows from then on, when the followed source changes -/
  follow : Option (Option Nat)
  deriving DecidableEq, Repr

/-- An output channel beyond its entry and status words (R355, R363, R367). -/
structure OutCh where
  /-- number of the last sample made -/
  idx : Option Nat
  /-- last sample sent out -/
  last : Int
  /-- last sample of the signal that is examined for zero crossings -/
  lastSig : Option Int
  /-- 0 none, 1 out, 2 in, 3 gain (R367, R368) -/
  phase : Nat
  since : Nat
  /-- the ramp in progress began then -/
  ramp : Option Nat
  /-- entry words, delay and followed source of the old signal -/
  old : List Word
  oldDelay : Nat
  oldFollow : Option Nat
  /-- delay in force in microseconds -/
  delay : Nat
  /-- input channel that source 0 follows now -/
  follow : Option Nat
  queue : List AudChange
  /-- commit of the change in progress -/
  doing : Option Nat
  deriving DecidableEq, Repr

/-- A bound input channel (R356, R377). -/
structure InCh where
  /-- number of the newest sample -/
  newest : Nat
  /-- non-PCM: number of the last sample with a sign -/
  mark : Option Nat
  /-- number of the sample that ends the ST 337 burst (R379) -/
  burst : Option Nat
  /-- AES3 channel status bits of the block collected so far -/
  status : List Bool
  deriving DecidableEq, Repr

/-- An ASRC channel (R374, R375); its state, deviation and lock time stand in its status entry. -/
structure AsrcRt where
  entry : Nat
  input : Nat
  clock : Nat
  fast : Bool
  /-- since when it has settled within range -/
  since : Nat
  deriving DecidableEq, Repr

/-- An alignment group beyond its status words (R373). -/
structure GroupRt where
  /-- first instant since the last missing sample at which every member delivered -/
  good : Option Nat
  /-- delay in force, microseconds -/
  delay : Nat
  deriving DecidableEq, Repr

/-- Audio (ch. 14). -/
structure Audio where
  outs : FMap OutCh
  ins : FMap InCh
  /-- history of bound inputs: 24-bit samples with V, U and C in bits 24 to 26, by channel × 2^48 + sample number (R356) -/
  hist : FMap Nat
  /-- samples made by output channels, by channel × 2^48 + sample number, as `hist` -/
  made : FMap Nat
  asrcs : List AsrcRt
  groups : FMap GroupRt
  /-- number of the last missing sample counted, by group × 2^14 + input channel -/
  missed : FMap Nat
  /-- last clip, non-PCM mute, zero-crossing timeout and embedded drop raised, by bit of the AUDM page -/
  raisedAt : FMap Nat
  /-- output channels ramping to 0 after a disable of AUDM, and since when (R381) -/
  fading : Option Nat
  deriving DecidableEq, Repr

/-- A slot of a TDM port in one direction (R391 to R394). -/
structure TdmSlot where
  /-- channel it carries; none while the slot is not live -/
  ch : Option Nat
  /-- 0 none, 1 enabling, 2 removing -/
  phase : Nat
  since : Nat
  ramp : Option Nat
  lastSig : Option Int
  /-- channels that the slot takes up after the phase in progress, in order; none removes it -/
  next : List (Option Nat)
  deriving DecidableEq, Repr

/-- A TDM port beyond its page (ch. 15). -/
structure TdmRt where
  /-- number of the frame that the last frame sync opened -/
  frame : Nat
  rx : FMap TdmSlot
  tx : FMap TdmSlot
  /-- frames in the receive FIFO -/
  fifo : Nat
  /-- captured masks and bases that await their frame sync, with the earliest instant and the commit -/
  waiting : List (Nat × Option Nat × List (Nat × Word))
  /-- clocks present and within range since then -/
  okSince : Option Nat
  /-- enabled at, for the first frame of a master port (R399) -/
  startAt : Nat
  /-- last slot zero-crossing timeout raised -/
  zcAt : Option Nat
  /-- frame syncs and bit clocks counted in the running 10 ms: when it began, frames -/
  window : Nat × Nat
  /-- commits whose slots are still in a phase -/
  doing : List Nat
  deriving DecidableEq, Repr

/-- TDM ports (ch. 15). -/
structure Tdm where
  ports : FMap TdmRt
  deriving DecidableEq, Repr


/-- The thermal block beyond the THRM page (R404 to R414). -/
structure Thermal where
  /-- evaluations of the last minute, newest first: time and the 60 values in 0.1 °C -/
  samples : List (Nat × List Int)
  /-- channels whose value has not changed: since when, and the least and greatest value of the tile's ring oscillator since -/
  still : FMap (Nat × Int × Int)
  /-- faulted channels: since when -/
  faults : FMap Nat
  /-- faulted channels whose readings meet none of the criteria: since when -/
  clean : FMap Nat
  /-- by level: when its entry conditions last held, hysteresis included (R408) -/
  held : FMap Nat
  /-- tiles whose ring oscillator is calibrated (R404) -/
  calibrated : List Nat
  /-- since when every counting channel has read below CRIT less HYST (R413) -/
  cool : Option Nat
  /-- entry into CRIT (R412) -/
  critAt : Option Nat
  /-- `THERM_TRIP_N` is low (R488) -/
  trip : Bool
  deriving DecidableEq, Repr

/-- Power domains beyond the PWR page (R415, R416). -/
structure Power where
  /-- transitions in order of arrival, the running one first: domain, and whether it goes on -/
  moves : List (Nat × Bool)
  deriving DecidableEq, Repr

/-- A swap of a logical engine from one physical engine to another (R426). -/
structure Swap where
  logical : Nat
  /-- the engine that gives up the ID -/
  from_ : Nat
  /-- the spare that takes it -/
  dest : Nat
  /-- what becomes of `from_`: 0 TESTING, 1 SPARE, 2 RETIRED, 3 FAILED -/
  why : Nat
  /-- outputs whose jobs have yet to move -/
  outs : List Nat
  deriving DecidableEq, Repr

/-- An entry of the repair map (R434). -/
structure Repair where
  kind : Nat
  state : Nat
  location : Nat
  time : Nat
  deriving DecidableEq, Repr

/-- The Larder beyond its page (ch. 17). -/
structure Larder where
  swaps : List Swap
  /-- swaps that wait for one of their tile to end: logical ID, and what becomes of its engine -/
  waiting : List (Nat × Nat)
  /-- engines in an in-service test -/
  testing : List Nat
  /-- retired engines in the test that an enable starts (R425) -/
  enabling : List Nat
  /-- when the last step started -/
  stepAt : Option Nat
  /-- the repair map, oldest entry first -/
  map : List Repair
  /-- entries not yet written to the store -/
  unwritten : Nat
  /-- spare banks left: general SRAM, and packet buffer of die 0 and of die 1 -/
  sram : Nat
  pkt0 : Nat
  pkt1 : Nat
  /-- when the wear hours were last advanced -/
  hourAt : Nat
  deriving DecidableEq, Repr

/-- Bytes to be merged into one page of the store (R441). -/
structure PageWrite where
  page : Nat
  off : Nat
  bytes : List Byte
  deriving DecidableEq, Repr

/-- What a command or the part wants of the non-volatile store. -/
inductive NvKind where
  /-- `CMD_NV_READ`: mode, target, length, host address -/
  | read (mode target len addr : Nat)
  /-- raw bytes -/
  | raw (off : Nat) (bytes : List Byte)
  /-- a record: slot, TYPE, payload -/
  | record (slot typ : Nat) (bytes : List Byte)
  /-- one increment of a counter -/
  | counter (k : Nat)
  /-- a journal entry: system journal, key, payload; no payload deletes the key -/
  | journal (system : Bool) (key : Nat) (bytes : Option (List Byte))
  /-- a key slot write or erase (R460) -/
  | key (slot use : Nat) (volatile erase : Bool) (bytes : List Byte)
  /-- a lifecycle transition towards a state with its confirmation word; without one it runs from step 2 again (R466, R468) -/
  | lifecycle (target : Nat) (confirm : Option Nat)
  /-- a page rewritten with its own contents (R452) -/
  | refresh (page : Nat)
  /-- a descriptor rewritten as EMPTY (R458, R459) -/
  | empty (slot : Nat)
  /-- a journal compacted into its other half (R450) -/
  | compact (system : Bool)
  deriving DecidableEq, Repr

/-- A job of the store, in the one order of R447. -/
structure NvJob where
  /-- queue pair and tag, for a command -/
  src : Option (Nat × Nat)
  kind : NvKind
  /-- it has started -/
  begun : Bool
  /-- page writes yet to run, the running one first -/
  writes : List PageWrite
  /-- bytes of a raw write that have been written -/
  written : Nat
  /-- stage of a lifecycle transition: 0 pages, 1 fuse, 2 final record (R466) -/
  stage : Nat
  deriving DecidableEq, Repr

/-- A window access held while a page write runs (R445). -/
structure HeldAccess where
  off : Nat
  /-- bytes written, or none for a read -/
  data : Option (List Byte)
  len : Nat
  since : Nat
  deriving DecidableEq, Repr

/-- The non-volatile store (ch. 18). -/
structure Nvs where
  /-- cells by byte address of the store -/
  cells : FMap Byte
  /-- pages ever written -/
  ever : List Nat
  /-- 8-byte groups that read as uncorrectable -/
  lost : List Nat
  /-- pages replaced by a spare page: page and spare -/
  remap : FMap Nat
  /-- corrected groups of a page outside the privileged regions, with their times -/
  corrected : FMap (List Nat)
  jobs : List NvJob
  /-- the page write in progress: whether it is the window's, and when it started -/
  running : Option (Bool × Nat)
  /-- bytes gathered through the window: page, patches in order, and the last write -/
  buffer : Option (Nat × List (Nat × List Byte) × Nat)
  /-- the gathered page being programmed -/
  flushing : List PageWrite
  held : List HeldAccess
  /-- when the last scrub pass ended -/
  scrubAt : Nat
  deriving DecidableEq, Repr

/-- A key slot as the protected SRAM and the descriptors hold it (R457, R458). -/
structure KeySlot where
  use : Nat
  volatile : Bool
  /-- the key, which no path returns -/
  key : List Byte
  deriving DecidableEq, Repr

/-- Keys and lifecycle (ch. 19). -/
structure Keys where
  /-- slots in use -/
  slots : FMap KeySlot
  /-- writes of a slot, saturating -/
  writes : FMap Nat
  /-- one-time fuses BLANK_FUSED and RETIRED_FUSED -/
  blank : Bool
  retired : Bool
  /-- a torn slot awaits its descriptor's rewrite at step 9 -/
  torn : List Nat
  /-- a record is restored once Woride runs (R467) -/
  restore : Bool
  /-- a lifecycle destruction is pending or running (R461) -/
  destroying : Bool
  /-- the transition waits for its fuse (R466 step 4) -/
  fusing : Bool
  /-- consecutive passes of a failed entropy source -/
  passes : Nat
  /-- the entropy source has failed -/
  failed : Bool
  /-- last retest -/
  testAt : Nat
  deriving DecidableEq, Repr

/-- Start-up and firmware (ch. 4). -/
structure Boot where
  /-- the instant of R89 from which start-up is timed, on the always-on clock -/
  start : Nat
  /-- a reset is in force: PERST# asserted, or the link is down after a hot reset -/
  inReset : Bool
  /-- BOOT_ROM_START has run -/
  rom : Bool
  /-- the PCI Express link is up (step 4 of R101) -/
  link : Bool
  /-- the image is accepted (step 8) -/
  accepted : Bool
  /-- Woride has started (step 9) -/
  woride : Bool
  /-- the load in progress: address, length, and the command it came from -/
  load : Option (Nat × Nat × Option (Nat × Nat))
  /-- the image read from host memory -/
  image : List Byte
  /-- the firmware window: ranges with their contents -/
  window : List (Nat × List Byte)
  /-- minimum security version in the fuses -/
  secMin : Nat
  /-- the value that a fuse blow raises it to -/
  blowing : Option Nat
  /-- the interleave hash key (R91) -/
  hashKey : Nat
  /-- when the heartbeat last advanced -/
  beatAt : Nat
  /-- tiles whose active engines have been tested -/
  tested : List Nat
  /-- engines found failed by the start-up self-test -/
  bad : List Nat
  /-- lanes' quads whose spare PLL has failed -/
  badPll : List Nat
  deriving DecidableEq, Repr

/-- The part. -/
structure Dev where
  io : Io
  ser : Ser
  ptp : Ptp
  /-- frame stores, aperture, HBM -/
  st : Stores
  /-- commits -/
  com : Commits
  /-- queues, functions and ownership -/
  hq : Queues
  /-- Sieves -/
  sv : Sieve
  /-- routing -/
  rt : Routing
  /-- composition and scan-out -/
  sc : Scanout
  aud : Audio
  tdm : Tdm
  therm : Thermal
  power : Power
  lard : Larder
  nvs : Nvs
  keys : Keys
  boot : Boot
  deriving DecidableEq, Repr

/-- The machine: the waiting commands, first in first out, and the part. -/
structure State where
  pending : List Instr
  dev : Dev
  deriving DecidableEq, Repr

/-- Time, registers and interfaces after reset. -/
def Io.reset : Io :=
  { now := 0, up := 0, freeCtr := 0, regs := [], shadow := [], written := [], snap := []
    unmasked := [], pba := [], drains := [], out := [] }

/-- Lanes after reset. -/
def Ser.reset : Ser :=
  { present := [], refLost := [], pllLost := [], eyeSince := [], prbsSince := [], warm := [], lastUp := [] }

/-- The servo after reset. -/
def Ptp.reset : Ptp :=
  { armed := none, labelled := false, ref10 := false, primary := none, backup := none, outliers := 0, jumps := 0
    stepped := false, sync := none, skew := 0, requests := [], nextSeq := 0 }

/-- Frame stores after reset: none is allocated, and HBM contents are lost (R89, R91). -/
def Stores.reset : Stores :=
  { table := [], gens := [], clock := 0, maps := [], jobs := [], hbm := [], poisoned := [], dead := [], rows := []
    repaired := [], starvedAt := [], dropAt := none, lost := [] }

/-- No commit after reset. -/
def Commits.reset : Commits := { queue := [], pend := [], held := [], marked := [], cuts := [], shed := false }

/-- No command after reset. -/
def Queues.reset : Queues := { cmds := [], pairs := [], waiting := [], owner := [], claims := [] }

/-- The Sieves after reset. -/
def Sieve.reset : Sieve := { flows := [], watches := [], reports := [], puntRate := [] }

/-- Routing after reset. -/
def Routing.reset : Routing := { fast := [], slots := [] }

/-- Composition and scan-out after reset. -/
def Scanout.reset : Scanout :=
  { outs := [], runs := [], frcs := [], jobs := [], loupe := { expect := [], last := [], done := [] }, egr := []
    engineAt := [], underAt := [], htxAt := [], nextField := 0 }

/-- Audio after reset. -/
def Audio.reset : Audio :=
  { outs := [], ins := [], hist := [], made := [], asrcs := [], groups := [], missed := [], raisedAt := [], fading := none }

/-- TDM ports after reset. -/
def Tdm.reset : Tdm := { ports := [] }

/-- The thermal block after a power-on reset. -/
def Thermal.reset : Thermal :=
  { samples := [], still := [], faults := [], clean := [], held := [], calibrated := [], cool := none, critAt := none
    trip := false }

/-- Power domains after reset. -/
def Power.reset : Power := { moves := [] }

/-- The Larder after reset with an empty repair map: 16 general spare banks and 4 packet-buffer banks per die (R421). -/
def Larder.reset : Larder :=
  { swaps := [], waiting := [], testing := [], enabling := [], stepAt := none, map := [], unwritten := 0
    sram := 16, pkt0 := 4, pkt1 := 4, hourAt := 0 }

/-- The store as it is before anything has been written to it. -/
def Nvs.reset : Nvs :=
  { cells := [], ever := [], lost := [], remap := [], corrected := [], jobs := [], running := none, buffer := none
    flushing := [], held := [], scrubAt := 0 }

/-- Keys and lifecycle before anything has been written: no key, no fuse blown. -/
def Keys.reset : Keys :=
  { slots := [], writes := [], blank := false, retired := false, torn := [], restore := false, destroying := false
    fusing := false, passes := 0, failed := false, testAt := 0 }

/-- Start-up after a power-on reset, PERST# asserted. -/
def Boot.reset : Boot :=
  { start := 0, inReset := true, rom := false, link := false, accepted := false, woride := false, load := none
    image := [], window := [], secMin := 0, blowing := none, hashKey := 0, beatAt := 0, tested := [], bad := [], badPll := [] }

/-- The part after reset. -/
def Dev.reset : Dev :=
  { io := Io.reset, ser := Ser.reset, ptp := Ptp.reset, st := Stores.reset, com := Commits.reset, hq := Queues.reset
    sv := Sieve.reset, rt := Routing.reset, sc := Scanout.reset, aud := Audio.reset, tdm := Tdm.reset
    therm := Thermal.reset, power := Power.reset, lard := Larder.reset, nvs := Nvs.reset, keys := Keys.reset
    boot := Boot.reset }

/-- The machine right after reset: a power-on reset with PERST# asserted and nothing yet sent to the part. -/
def State.reset : State := { pending := [], dev := Dev.reset }

end Sys2Proof.Machine
end

