-- ==== Sys2Proof/Machine/FMap.lean ====
section
/-! DEFINITION. Finite maps over natural keys: the one canonical form in which registers, tables and memories are held. -/
namespace Sys2Proof.Machine

/-- The entry listed for key `a`, if any. -/
def FMap.find {α : Type} : FMap α → Nat → Option α
  | [], _ => none
  | (k, v) :: m, a => if a = k then some v else FMap.find m a

/-- The value of key `a`: the listed entry, else what an unlisted key reads as. -/
def FMap.get {α : Type} (d : Nat → α) (m : FMap α) (a : Nat) : α :=
  (FMap.find m a).getD (d a)

/-- The map without an entry for `a`. -/
def FMap.erase {α : Type} : FMap α → Nat → FMap α
  | [], _ => []
  | (k, v) :: m, a => if a = k then m else (k, v) :: FMap.erase m a

/-- The map with `v` listed at `a`, keys strictly rising. -/
def FMap.insert {α : Type} : FMap α → Nat → α → FMap α
  | [], a, v => [(a, v)]
  | (k, w) :: m, a, v =>
    if a < k then (a, v) :: (k, w) :: m
    else if a = k then (a, v) :: m
    else (k, w) :: FMap.insert m a v

/-- Write `v` at `a`, keeping the canonical form: a value that an unlisted key reads as is not listed. -/
def FMap.set {α : Type} [DecidableEq α] (d : Nat → α) (m : FMap α) (a : Nat) (v : α) : FMap α :=
  if v = d a then FMap.erase m a else FMap.insert m a v

/-- Change the value at `a` by `f`. -/
def FMap.upd {α : Type} [DecidableEq α] (d : Nat → α) (m : FMap α) (a : Nat) (f : α → α) : FMap α :=
  FMap.set d m a (f (FMap.get d m a))

/-- The keys are above `lo`, strictly rising, and no entry equals its default. -/
def FMap.wfFrom {α : Type} [DecidableEq α] (d : Nat → α) : Nat → FMap α → Bool
  | _, [] => true
  | lo, (k, v) :: m => decide (lo ≤ k) && decide (v ≠ d k) && FMap.wfFrom d (k + 1) m

/-- The canonical form: keys strictly rising, and no entry equal to what an unlisted key reads as. -/
def FMap.wf {α : Type} [DecidableEq α] (d : Nat → α) (m : FMap α) : Bool :=
  FMap.wfFrom d 0 m

/-- The entries whose key satisfies `p`. -/
def FMap.keep {α : Type} (p : Nat → Bool) (m : FMap α) : FMap α :=
  m.filter (fun e => p e.1)

end Sys2Proof.Machine
end

