-- ==== Sys2Proof/Machine/Operands.lean ====
section
/-! DEFINITION. Bit fields, signed readings, saturation and byte order: the forms in which operands and register fields are read and written (R2, R4). -/
namespace Sys2Proof.Machine

/-- Bits [lo+len-1:lo] of a word, as a number (R2). -/
def bits (w : Word) (lo len : Nat) : Nat := w.toNat / 2 ^ lo % 2 ^ len

/-- Bit `i` of a word (R2). -/
def bit (w : Word) (i : Nat) : Bool := w.toNat.testBit i

/-- The word with bits [lo+len-1:lo] replaced by `v` modulo 2^len. -/
def setBits (w : Word) (lo len v : Nat) : Word :=
  Word.of (w.toNat - bits w lo len * 2 ^ lo + v % 2 ^ len * 2 ^ lo)

/-- The word with bit `i` set to `b`. -/
def setBit (w : Word) (i : Nat) (b : Bool) : Word := setBits w i 1 (if b then 1 else 0)

/-- A number saturated at the largest value of `n` bits. -/
def sat (n x : Nat) : Nat := min x (2 ^ n - 1)

/-- Two's-complement reading of an `n`-bit value. -/
def signed (n x : Nat) : Int :=
  if 2 * (x % 2 ^ n) < 2 ^ n then Int.ofNat (x % 2 ^ n) else Int.ofNat (x % 2 ^ n) - Int.ofNat (2 ^ n)

/-- The `n`-bit two's-complement encoding of an integer. -/
def unsigned (n : Nat) (x : Int) : Nat := (x % (2 ^ n : Int)).toNat

/-- Clamp an integer to a range. -/
def clampInt (lo hi x : Int) : Int := max lo (min hi x)

/-- 1 for true, 0 for false. -/
def b2n (b : Bool) : Nat := if b then 1 else 0

/-- Quotient rounded up. -/
def ceilDiv (a b : Nat) : Nat := (a + b - 1) / b

/-- The byte `i` of a word, least significant first (R4). -/
def wordByte (w : Word) (i : Nat) : Byte := BitVec.ofNat 8 (bits w (8 * i) 8)

/-- The four bytes of a word, least significant first (R4). -/
def wordBytes (w : Word) : List Byte := [wordByte w 0, wordByte w 1, wordByte w 2, wordByte w 3]

/-- The number that bytes spell, least significant first (R4). -/
def leNat : List Byte → Nat
  | [] => 0
  | b :: bs => b.toNat + 256 * leNat bs

/-- The number that bytes spell in network order (R4). -/
def beNat (bs : List Byte) : Nat := bs.foldl (fun n b => 256 * n + b.toNat) 0

/-- The `n` bytes of a number, least significant first (R4). -/
def leBytes : Nat → Nat → List Byte
  | 0, _ => []
  | n + 1, x => BitVec.ofNat 8 x :: leBytes n (x / 256)

/-- The `n` bytes of a number in network order (R4). -/
def beBytes (n x : Nat) : List Byte := (leBytes n x).reverse

/-- The number in a slice of a byte list, network order. -/
def beAt (bs : List Byte) (off n : Nat) : Nat := beNat ((bs.drop off).take n)

/-- The number in a slice of a byte list, least significant first. -/
def leAt (bs : List Byte) (off n : Nat) : Nat := leNat ((bs.drop off).take n)

/-- The list with its element `i` changed by `f`. -/
def modifyAt {α : Type} (f : α → α) : Nat → List α → List α
  | _, [] => []
  | 0, x :: xs => f x :: xs
  | n + 1, x :: xs => x :: modifyAt f n xs

/-- A non-negative fraction: charges and rates are kept exact (R22). -/
structure Q where
  num : Nat
  den : Nat
  deriving DecidableEq, Repr

/-- The fraction n / d in lowest terms. -/
def Q.of (n d : Nat) : Q := let g := Nat.gcd n d; { num := n / g, den := d / g }

/-- Zero. -/
def Q.zero : Q := { num := 0, den := 1 }

/-- A whole number. -/
def Q.nat (n : Nat) : Q := { num := n, den := 1 }

/-- Sum. -/
def Q.add (a b : Q) : Q :=
  if a.num = 0 then b else if b.num = 0 then a
  else if a.den = b.den then Q.of (a.num + b.num) a.den
  else Q.of (a.num * b.den + b.num * a.den) (a.den * b.den)

/-- Difference, 0 where it would be negative. -/
def Q.sub (a b : Q) : Q := Q.of (a.num * b.den - b.num * a.den) (a.den * b.den)

/-- Product with n / d. -/
def Q.scale (a : Q) (n d : Nat) : Q := Q.of (a.num * n) (a.den * d)

/-- Order. -/
def Q.le (a b : Q) : Bool := decide (a.num * b.den ≤ b.num * a.den)

/-- Strict order. -/
def Q.lt (a b : Q) : Bool := decide (a.num * b.den < b.num * a.den)

/-- The greater of two. -/
def Q.max (a b : Q) : Q := if a.le b then b else a

/-- Rounded down. -/
def Q.floor (a : Q) : Nat := a.num / a.den

/-- Rounded up. -/
def Q.ceil (a : Q) : Nat := ceilDiv a.num a.den

/-- Sum of a list. -/
def Q.sum (xs : List Q) : Q := xs.foldl Q.add Q.zero

/-- The list in order of `le`, by insertion: equal elements keep their order. -/
def sortBy {α : Type} (le : α → α → Bool) : List α → List α
  | [] => []
  | x :: xs => put x (sortBy le xs)
where
  /-- Put an element before the first that it does not follow. -/
  put (x : α) : List α → List α
  | [] => [x]
  | y :: ys => if le x y then x :: y :: ys else y :: put x ys

/-- Integer square root, rounded down, by bits from `2^n` down. -/
def isqrt (x : Nat) : Nat → Nat → Nat
  | 0, r => r
  | n + 1, r => isqrt x n (if (r + 2 ^ n) * (r + 2 ^ n) ≤ x then r + 2 ^ n else r)

/-- Bits of a number as a list, most significant first. -/
def bitsOf : Nat → Nat → List Bool
  | 0, _ => []
  | n + 1, x => x.testBit n :: bitsOf n x

/-- The number that bits spell, most significant first. -/
def ofBits (bs : List Bool) : Nat := bs.foldl (fun n b => 2 * n + b2n b) 0

/-- The list cut into pieces of `n` elements, at most `k` of them. -/
def chunks {α : Type} (n : Nat) : Nat → List α → List (List α)
  | 0, _ => []
  | k + 1, xs => if xs.isEmpty then [] else xs.take n :: chunks n k (xs.drop n)

/-- CRC-32 of IEEE 802.3: one byte (R344). -/
def crcByte (c b : Nat) : Nat :=
  (List.range 8).foldl (fun c _ => if c % 2 = 1 then (c / 2) ^^^ 0xEDB88320 else c / 2) (c ^^^ b)

/-- CRC-32 of IEEE 802.3 over bytes (R344). -/
def crc32 (bs : List Byte) : Nat :=
  (bs.foldl (fun c b => crcByte c b.toNat) 0xFFFFFFFF) ^^^ 0xFFFFFFFF

end Sys2Proof.Machine
end

