-- ==== Sys2Proof/Machine/RegNames.lean ====
section
/-! DEFINITION. The names of the registers: each constant is a register's byte offset in its page, as the chapters' tables give it. -/
namespace Sys2Proof.Machine.Reg

abbrev TOP_ADM_ENG_LIMIT : Nat := 0x100
abbrev TOP_ADM_ENG_RSV : Nat := 0x104
abbrev TOP_ADM_HBM_FLOOR : Nat := 0x108
abbrev TOP_ADM_HOST_RSV : Nat := 0x10c
abbrev TOP_ADM_HBM_RSV : Nat := 0x110
abbrev TOP_ADM_PKTBUF_LIMIT : Nat := 0x114
abbrev TOP_ADM_ENG_USED : Nat := 0x118
abbrev TOP_ADM_HBM_USED : Nat := 0x11c
abbrev TOP_ADM_RSV_ENG_USED : Nat := 0x120
abbrev TOP_ADM_RSV_HBM_USED : Nat := 0x124
abbrev TOP_ADM_PKTBUF_USED : Nat := 0x128
abbrev TOP_ADM_MC_USED : Nat := 0x12c
abbrev PAGE_ID : Nat := 0x0
abbrev PAGE_VER : Nat := 0x4
abbrev PAGE_CAP : Nat := 0x8
abbrev PAGE_CTL : Nat := 0x10
abbrev PAGE_STAT : Nat := 0x14
abbrev EVT_RAW : Nat := 0x20
abbrev EVT_EN : Nat := 0x24
abbrev EVT_PEND : Nat := 0x28
abbrev EVT_FORCE : Nat := 0x2c
abbrev ERR_CODE : Nat := 0x30
abbrev ERR_INFO : Nat := 0x34
abbrev SHADOW_STAT : Nat := 0x38
abbrev PAGE_LOCK : Nat := 0x3c
abbrev TOP_COMMIT : Nat := 0x40
abbrev TOP_COMMIT_STAT : Nat := 0x44
abbrev TOP_COMMIT_SEQ : Nat := 0x48
abbrev TOP_COMMIT_PEND : Nat := 0x4c
abbrev TOP_SALVO_NS : Nat := 0x50
abbrev TOP_SALVO_SEC_LO : Nat := 0x54
abbrev TOP_SALVO_SEC_HI : Nat := 0x58
abbrev TOP_COMMIT_DEFER_MAX : Nat := 0x5c
abbrev TOP_COMMIT_APPLIED : Nat := 0x60
abbrev TOP_COMMIT_TIME_LO : Nat := 0x64
abbrev TOP_COMMIT_TIME_HI : Nat := 0x68
abbrev TOP_VIEW_SEL : Nat := 0x70
abbrev OUTC_LATCH_GUARD : Nat := 0x40
abbrev OUTC_COMMIT_STAT : Nat := 0x44
abbrev OUTC_APPLY_SEQ : Nat := 0x48
abbrev OUTC_APPLY_FRAME_LO : Nat := 0x4c
abbrev OUTC_APPLY_FRAME_HI : Nat := 0x50
abbrev OUTC_APPLY_TIME_LO : Nat := 0x54
abbrev OUTC_APPLY_TIME_HI : Nat := 0x58
abbrev OUTC_APPLY_LOG : Nat := 0x60
abbrev HQ_QP_SQ_BASE_LO : Nat := 0x0
abbrev HQ_QP_SQ_BASE_HI : Nat := 0x4
abbrev HQ_QP_CQ_BASE_LO : Nat := 0x8
abbrev HQ_QP_CQ_BASE_HI : Nat := 0xc
abbrev HQ_QP_CFG : Nat := 0x10
abbrev HQ_QP_SQ_HEAD : Nat := 0x14
abbrev HQ_QP_SQ_TAIL : Nat := 0x18
abbrev HQ_QP_CQ_TAIL : Nat := 0x1c
abbrev HQ_QP_CQ_HEAD : Nat := 0x20
abbrev HQ_QP_INFLIGHT : Nat := 0x24
abbrev HQ_QP_STAT : Nat := 0x28
abbrev HQ_QP_COAL : Nat := 0x2c
abbrev HQ_FN_Q_HBM : Nat := 0x0
abbrev HQ_FN_Q_LAYERS : Nat := 0x4
abbrev HQ_FN_Q_FLOWS : Nat := 0x8
abbrev HQ_FN_Q_BW : Nat := 0xc
abbrev HQ_FN_Q_PIX : Nat := 0x10
abbrev HQ_FN_Q_INFLIGHT : Nat := 0x14
abbrev HQ_FN_U_HBM : Nat := 0x20
abbrev HQ_FN_U_LAYERS : Nat := 0x24
abbrev HQ_FN_U_FLOWS : Nat := 0x28
abbrev HQ_FN_U_BW : Nat := 0x2c
abbrev HQ_FN_U_PIX : Nat := 0x30
abbrev HQ_FN_U_INFLIGHT : Nat := 0x34
abbrev HQ_FN_STAT : Nat := 0x38
abbrev HQ_FN_HIDDEN : Nat := 0x3c
abbrev HQ_FN_NOTICE_LOST : Nat := 0x40
abbrev HQ_FN_BAD_WRITES : Nat := 0x44
abbrev FW_CTL : Nat := 0x40
abbrev FW_STAT : Nat := 0x44
abbrev FW_IMG_ADDR_LO : Nat := 0x48
abbrev FW_IMG_ADDR_HI : Nat := 0x4c
abbrev FW_IMG_LEN : Nat := 0x50
abbrev FW_IMG_VER : Nat := 0x54
abbrev FW_SEC_VER : Nat := 0x58
abbrev FW_SEC_MIN : Nat := 0x5c
abbrev FW_SEC_COMMIT : Nat := 0x60
abbrev FW_BOOT_MS : Nat := 0x64
abbrev FW_RESET_CAUSE : Nat := 0x68
abbrev FW_HEARTBEAT : Nat := 0x6c
abbrev FW_ST_SUMMARY : Nat := 0x70
abbrev LANE_CFG : Nat := 0x40
abbrev LANE_SLEEP : Nat := 0x44
abbrev LANE_STAT : Nat := 0x48
abbrev LANE_SD_CFG : Nat := 0x4c
abbrev LANE_PARTNER_CNT : Nat := 0x50
abbrev LANE_PARTNER_TS_LO : Nat := 0x54
abbrev LANE_PARTNER_TS_HI : Nat := 0x58
abbrev LANE_EQ_CTL : Nat := 0x80
abbrev LANE_EQ_CTLE : Nat := 0x84
abbrev LANE_EQ_FFE : Nat := 0x88
abbrev LANE_EQ_DFE : Nat := 0x8c
abbrev LANE_EQ_FLOAT : Nat := 0xac
abbrev LANE_EQ_METRIC : Nat := 0xb0
abbrev LANE_TX_FIR : Nat := 0xc0
abbrev LANE_PRBS_CTL : Nat := 0x100
abbrev LANE_PRBS_STAT : Nat := 0x104
abbrev LANE_PRBS_ERR_LO : Nat := 0x108
abbrev LANE_PRBS_ERR_HI : Nat := 0x10c
abbrev LANE_PRBS_BITS_LO : Nat := 0x110
abbrev LANE_PRBS_BITS_HI : Nat := 0x114
abbrev LANE_EYE_CTL : Nat := 0x180
abbrev LANE_EYE_PHASE : Nat := 0x184
abbrev LANE_EYE_VOLT : Nat := 0x188
abbrev LANE_EYE_STAT : Nat := 0x18c
abbrev LANE_EYE_RES : Nat := 0x400
abbrev PCS_CFG : Nat := 0x40
abbrev PCS_STAT : Nat := 0x44
abbrev PCS_LANE_MAP : Nat := 0x48
abbrev PCS_SKEW : Nat := 0x4c
abbrev PCS_LINK_CNT : Nat := 0x50
abbrev PCS_LINK_TS_LO : Nat := 0x54
abbrev PCS_LINK_TS_HI : Nat := 0x58
abbrev PCS_BLK_ERR_LO : Nat := 0x60
abbrev PCS_BLK_ERR_HI : Nat := 0x64
abbrev PCS_FEC_CORR_LO : Nat := 0x68
abbrev PCS_FEC_CORR_HI : Nat := 0x6c
abbrev PCS_FEC_UNCORR_LO : Nat := 0x70
abbrev PCS_FEC_UNCORR_HI : Nat := 0x74
abbrev PCS_FEC_SYM_LO : Nat := 0x78
abbrev PCS_FEC_SYM_HI : Nat := 0x7c
abbrev PCS_CNT_CLR : Nat := 0x80
abbrev PCS_AN_CTL : Nat := 0x200
abbrev PCS_AN_STAT : Nat := 0x204
abbrev PCS_AN_LP_LO : Nat := 0x208
abbrev PCS_AN_LP_HI : Nat := 0x20c
abbrev PCS_LT_STAT : Nat := 0x210
abbrev MAC_CFG : Nat := 0x40
abbrev MAC_ADDR_LO : Nat := 0x44
abbrev MAC_ADDR_HI : Nat := 0x48
abbrev MAC_MAXLEN : Nat := 0x4c
abbrev MAC_IPG : Nat := 0x50
abbrev MAC_TS_RX_ADJ : Nat := 0x54
abbrev MAC_TS_TX_ADJ : Nat := 0x58
abbrev MAC_CNT_CLR : Nat := 0xfc
abbrev MAC_RX_FRAMES_LO : Nat := 0x100
abbrev MAC_RX_FRAMES_HI : Nat := 0x104
abbrev MAC_RX_BYTES_LO : Nat := 0x108
abbrev MAC_RX_BYTES_HI : Nat := 0x10c
abbrev MAC_RX_FCS_ERR_LO : Nat := 0x110
abbrev MAC_RX_FCS_ERR_HI : Nat := 0x114
abbrev MAC_RX_RUNT_LO : Nat := 0x118
abbrev MAC_RX_RUNT_HI : Nat := 0x11c
abbrev MAC_RX_OVERSIZE_LO : Nat := 0x120
abbrev MAC_RX_OVERSIZE_HI : Nat := 0x124
abbrev MAC_RX_TRUNC_LO : Nat := 0x128
abbrev MAC_RX_TRUNC_HI : Nat := 0x12c
abbrev MAC_RX_FILTERED_LO : Nat := 0x130
abbrev MAC_RX_FILTERED_HI : Nat := 0x134
abbrev MAC_RX_PAUSE_LO : Nat := 0x138
abbrev MAC_RX_PAUSE_HI : Nat := 0x13c
abbrev MAC_RX_PHY_ERR_LO : Nat := 0x140
abbrev MAC_RX_PHY_ERR_HI : Nat := 0x144
abbrev MAC_TX_FRAMES_LO : Nat := 0x148
abbrev MAC_TX_FRAMES_HI : Nat := 0x14c
abbrev MAC_TX_BYTES_LO : Nat := 0x150
abbrev MAC_TX_BYTES_HI : Nat := 0x154
abbrev MAC_TX_ABORTED_LO : Nat := 0x158
abbrev MAC_TX_ABORTED_HI : Nat := 0x15c
abbrev PTP_CTL : Nat := 0x40
abbrev PTP_PROFILE : Nat := 0x44
abbrev PTP_PORT_SEL : Nat := 0x48
abbrev PTP_STAT : Nat := 0x4c
abbrev PTP_OFFSET : Nat := 0x50
abbrev PTP_MEAN_PATH : Nat := 0x54
abbrev PTP_GM_ID_LO : Nat := 0x58
abbrev PTP_GM_ID_HI : Nat := 0x5c
abbrev PTP_SLEW_MAX : Nat := 0x60
abbrev PTP_FREQ_ADJ : Nat := 0x64
abbrev PTP_STEP_LAST : Nat := 0x68
abbrev PTP_UTC_OFFSET : Nat := 0x6c
abbrev PTP_MSG_DROP : Nat := 0x70
abbrev PTP_TIME_NS : Nat := 0x80
abbrev PTP_TIME_SEC_LO : Nat := 0x84
abbrev PTP_TIME_SEC_HI : Nat := 0x88
abbrev PTP_TIME64_LO : Nat := 0x90
abbrev PTP_TIME64_HI : Nat := 0x94
abbrev PTP_SET_NS : Nat := 0xa0
abbrev PTP_SET_SEC_LO : Nat := 0xa4
abbrev PTP_SET_SEC_HI : Nat := 0xa8
abbrev PTP_SET_CTL : Nat := 0xac
abbrev MSEC_CFG : Nat := 0x40
abbrev MSEC_TX_SCI_LO : Nat := 0x44
abbrev MSEC_TX_SCI_HI : Nat := 0x48
abbrev MSEC_TX_AN : Nat := 0x4c
abbrev MSEC_REPLAY_WIN : Nat := 0x50
abbrev MSEC_PN_THRESH : Nat := 0x54
abbrev MSEC_CNT_CLR : Nat := 0xfc
abbrev MSEC_IN_OK_LO : Nat := 0x100
abbrev MSEC_IN_OK_HI : Nat := 0x104
abbrev MSEC_IN_INVALID_LO : Nat := 0x108
abbrev MSEC_IN_INVALID_HI : Nat := 0x10c
abbrev MSEC_IN_LATE_LO : Nat := 0x110
abbrev MSEC_IN_LATE_HI : Nat := 0x114
abbrev MSEC_IN_NOSA_LO : Nat := 0x118
abbrev MSEC_IN_NOSA_HI : Nat := 0x11c
abbrev MSEC_IN_UNTAGGED_LO : Nat := 0x120
abbrev MSEC_IN_UNTAGGED_HI : Nat := 0x124
abbrev MSEC_IN_BYPASS_LO : Nat := 0x128
abbrev MSEC_IN_BYPASS_HI : Nat := 0x12c
abbrev MSEC_OUT_PROT_LO : Nat := 0x130
abbrev MSEC_OUT_PROT_HI : Nat := 0x134
abbrev MSEC_OUT_DROP_LO : Nat := 0x138
abbrev MSEC_OUT_DROP_HI : Nat := 0x13c
abbrev SIEV_CFG : Nat := 0x40
abbrev SIEV_SEEN_CFG : Nat := 0x44
abbrev SIEV_SEEN_HEAD : Nat := 0x48
abbrev SIEV_SEEN_TAIL : Nat := 0x4c
abbrev SIEV_FLOW_LOG_HEAD : Nat := 0x50
abbrev SIEV_PUNT_CFG : Nat := 0x54
abbrev SIEV_PUNT_BASE_LO : Nat := 0x58
abbrev SIEV_PUNT_BASE_HI : Nat := 0x5c
abbrev SIEV_PUNT_HEAD : Nat := 0x60
abbrev SIEV_PUNT_TAIL : Nat := 0x64
abbrev SIEV_UNMATCHED_LO : Nat := 0x80
abbrev SIEV_UNMATCHED_HI : Nat := 0x84
abbrev SIEV_L3_ERR_LO : Nat := 0x88
abbrev SIEV_L3_ERR_HI : Nat := 0x8c
abbrev SIEV_PUNTED_LO : Nat := 0x90
abbrev SIEV_PUNTED_HI : Nat := 0x94
abbrev SIEV_PUNT_DROP_LO : Nat := 0x98
abbrev SIEV_PUNT_DROP_HI : Nat := 0x9c
abbrev SIEV_SEEN_SUPPRESSED_LO : Nat := 0xa0
abbrev SIEV_SEEN_SUPPRESSED_HI : Nat := 0xa4
abbrev SIEV_FAST_DROP_LO : Nat := 0xa8
abbrev SIEV_FAST_DROP_HI : Nat := 0xac
abbrev SIEV_IGMP_TX_LO : Nat := 0xb0
abbrev SIEV_IGMP_TX_HI : Nat := 0xb4
abbrev SIEV_QUERY_OLD_LO : Nat := 0xb8
abbrev SIEV_QUERY_OLD_HI : Nat := 0xbc
abbrev SIEV_MLD_SUPPRESSED_LO : Nat := 0xc0
abbrev SIEV_MLD_SUPPRESSED_HI : Nat := 0xc4
abbrev SIEV_CNT_CLR : Nat := 0xfc
abbrev SIEV_FLOW_LOG : Nat := 0x400
abbrev FSTR_GRAN_TOTAL : Nat := 0x40
abbrev FSTR_GRAN_FREE : Nat := 0x44
abbrev FSTR_LOW_WATER : Nat := 0x48
abbrev FSTR_HANDLES : Nat := 0x4c
abbrev FSTR_QUERY : Nat := 0x50
abbrev FSTR_QUERY_DATA : Nat := 0x54
abbrev FSTR_MAP_QUERY : Nat := 0x70
abbrev FSTR_MAP_DATA0 : Nat := 0x74
abbrev FSTR_MAP_DATA1 : Nat := 0x78
abbrev FSTR_AP_DROP_LO : Nat := 0x80
abbrev FSTR_AP_DROP_HI : Nat := 0x84
abbrev FSTR_WRITER_STARVED_LO : Nat := 0x88
abbrev FSTR_WRITER_STARVED_HI : Nat := 0x8c
abbrev FSTR_POISON_READS_LO : Nat := 0x90
abbrev FSTR_POISON_READS_HI : Nat := 0x94
abbrev FSTR_CNT_CLR : Nat := 0xfc
abbrev FSTR_LOG_HEAD : Nat := 0x100
abbrev FSTR_LOG : Nat := 0x200
abbrev HBMC_STAT : Nat := 0x40
abbrev HBMC_TEMP : Nat := 0x44
abbrev HBMC_BW_RD : Nat := 0x48
abbrev HBMC_BW_WR : Nat := 0x4c
abbrev HBMC_SCRUB_CFG : Nat := 0x50
abbrev HBMC_SCRUB_STAT : Nat := 0x54
abbrev HBMC_CORR_LO : Nat := 0x58
abbrev HBMC_CORR_HI : Nat := 0x5c
abbrev HBMC_UNCORR_LO : Nat := 0x60
abbrev HBMC_UNCORR_HI : Nat := 0x64
abbrev HBMC_PPR_STAT : Nat := 0x68
abbrev HBMC_CORR_THRESH : Nat := 0x6c
abbrev HBMC_CNT_CLR : Nat := 0xfc
abbrev HBMC_ERR_LOG : Nat := 0x100
abbrev HBMC_LOG_HEAD : Nat := 0x180
abbrev ROUT_WIN_SEL : Nat := 0x40
abbrev ROUT_FP_SEL : Nat := 0x44
abbrev ROUT_CFG : Nat := 0x48
abbrev ROUT_FP_COUNT : Nat := 0x4c
abbrev ROUT_OFF_PRIMARY : Nat := 0x50
abbrev ROUT_LOG_HEAD : Nat := 0x54
abbrev ROUT_FP_LATE_LO : Nat := 0x80
abbrev ROUT_FP_LATE_HI : Nat := 0x84
abbrev ROUT_LOSS_SW_LO : Nat := 0x88
abbrev ROUT_LOSS_SW_HI : Nat := 0x8c
abbrev ROUT_CNT_CLR : Nat := 0xfc
abbrev PRSM_STAT : Nat := 0x40
abbrev PRSM_LOAD : Nat := 0x44
abbrev PRSM_BUSY : Nat := 0x48
abbrev PRSM_LEAD : Nat := 0x4c
abbrev PRSM_JOBS_DONE_LO : Nat := 0x50
abbrev PRSM_JOBS_DONE_HI : Nat := 0x54
abbrev PRSM_LATE_LO : Nat := 0x58
abbrev PRSM_LATE_HI : Nat := 0x5c
abbrev PRSM_CLAMP_LO : Nat := 0x60
abbrev PRSM_CLAMP_HI : Nat := 0x64
abbrev PRSM_CNT_CLR : Nat := 0xfc
abbrev PRSM_JOB : Nat := 0x100
abbrev TOP_DIST_MEAN : Nat := 0x140
abbrev TOP_DIST_BOUND : Nat := 0x144
abbrev TOP_DIST_MAX : Nat := 0x148
abbrev TOP_DIST_XDIE01 : Nat := 0x14c
abbrev TOP_DIST_XDIE10 : Nat := 0x150
abbrev TOP_DIST_MOVES : Nat := 0x154
abbrev OUTC_FRC_CTL : Nat := 0xe0
abbrev OUTC_FRC_STAT : Nat := 0xe4
abbrev FRC_JOB_SEL : Nat := 0x40
abbrev FRC_JOB_STAT : Nat := 0x44
abbrev FRC_JOB_TAU_LO : Nat := 0x48
abbrev FRC_JOB_TAU_HI : Nat := 0x4c
abbrev FRC_JOB_SA_LO : Nat := 0x50
abbrev FRC_JOB_SA_HI : Nat := 0x54
abbrev FRC_JOB_DELAY : Nat := 0x58
abbrev FRC_JOB_CONF : Nat := 0x5c
abbrev FRC_PICTURES_LO : Nat := 0x80
abbrev FRC_PICTURES_HI : Nat := 0x84
abbrev FRC_REPEATS_LO : Nat := 0x88
abbrev FRC_REPEATS_HI : Nat := 0x8c
abbrev FRC_DROPS_LO : Nat := 0x90
abbrev FRC_DROPS_HI : Nat := 0x94
abbrev FRC_FALLBACK_BLOCKS_LO : Nat := 0x98
abbrev FRC_FALLBACK_BLOCKS_HI : Nat := 0x9c
abbrev FRC_SCENE_CUTS_LO : Nat := 0xa0
abbrev FRC_SCENE_CUTS_HI : Nat := 0xa4
abbrev FRC_EST_LATE_LO : Nat := 0xa8
abbrev FRC_EST_LATE_HI : Nat := 0xac
abbrev FRC_SOURCE_LATE_LO : Nat := 0xb0
abbrev FRC_SOURCE_LATE_HI : Nat := 0xb4
abbrev FRC_CAD_BREAKS_LO : Nat := 0xb8
abbrev FRC_CAD_BREAKS_HI : Nat := 0xbc
abbrev FRC_CNT_CLR : Nat := 0xfc
abbrev OUTC_COMP_CFG : Nat := 0x100
abbrev OUTC_OUT_FMT : Nat := 0x104
abbrev OUTC_OUT_MATRIX : Nat := 0x108
abbrev OUTC_POST_LUT : Nat := 0x10c
abbrev OUTC_BG : Nat := 0x110
abbrev OUTC_LID : Nat := 0x120
abbrev OUTC_SLATE : Nat := 0x124
abbrev OUTC_LID_STAT : Nat := 0x128
abbrev OUTC_COMP_STAT : Nat := 0x12c
abbrev OUTC_UNDERRUN_FRAMES : Nat := 0x130
abbrev OUTC_LAYERS : Nat := 0x140
abbrev COMP_LOAD : Nat := 0x40
abbrev COMP_STOCK_USED : Nat := 0x44
abbrev COMP_STOCK_SPILL : Nat := 0x48
abbrev COMP_STOCK_PLANES : Nat := 0x4c
abbrev COMP_UNDERRUN_LO : Nat := 0x50
abbrev COMP_UNDERRUN_HI : Nat := 0x54
abbrev COMP_STOCK_BUILDS_LO : Nat := 0x58
abbrev COMP_STOCK_BUILDS_HI : Nat := 0x5c
abbrev COMP_STOCK_DISCARDS_LO : Nat := 0x60
abbrev COMP_STOCK_DISCARDS_HI : Nat := 0x64
abbrev COMP_CNT_CLR : Nat := 0xfc
abbrev OUTC_RASTER : Nat := 0x180
abbrev OUTC_VTIMING : Nat := 0x184
abbrev OUTC_RATE : Nat := 0x188
abbrev OUTC_PHASE : Nat := 0x18c
abbrev OUTC_SCAN_STAT : Nat := 0x190
abbrev OUTC_LINE : Nat := 0x194
abbrev OUTC_FRAME_CNT_LO : Nat := 0x198
abbrev OUTC_FRAME_CNT_HI : Nat := 0x19c
abbrev OUTC_BOUNDARY_LO : Nat := 0x1a0
abbrev OUTC_BOUNDARY_HI : Nat := 0x1a4
abbrev OUTC_RESYNC : Nat := 0x1a8
abbrev OUTC_WB : Nat := 0x1c0
abbrev OUTC_WB_HANDLE : Nat := 0x1c4
abbrev OUTC_WB_FRAMES : Nat := 0x1c8
abbrev OUTC_ANC_CFG : Nat := 0x1e0
abbrev OUTC_ANC_LINES : Nat := 0x1e4
abbrev OUTC_TC_OFS : Nat := 0x1e8
abbrev OUTC_LPE_RELEARN : Nat := 0x2c0
abbrev OUTC_LPE_STAT : Nat := 0x2c4
abbrev SCAN_STAT : Nat := 0x40
abbrev SCAN_EGR_SEL : Nat := 0x44
abbrev SCAN_HTX_CFG : Nat := 0x48
abbrev SCAN_HTX_BASE_LO : Nat := 0x4c
abbrev SCAN_HTX_BASE_HI : Nat := 0x50
abbrev SCAN_HTX_TAIL : Nat := 0x54
abbrev SCAN_HTX_HEAD : Nat := 0x58
abbrev SCAN_PKTS_TX_LO : Nat := 0x80
abbrev SCAN_PKTS_TX_HI : Nat := 0x84
abbrev SCAN_ANC_DROP_LO : Nat := 0x88
abbrev SCAN_ANC_DROP_HI : Nat := 0x8c
abbrev SCAN_HTX_SENT_LO : Nat := 0x90
abbrev SCAN_HTX_SENT_HI : Nat := 0x94
abbrev SCAN_HTX_BAD_LO : Nat := 0x98
abbrev SCAN_HTX_BAD_HI : Nat := 0x9c
abbrev SCAN_CNT_CLR : Nat := 0xfc
abbrev SCAN_ANC_ALLOW : Nat := 0x100
abbrev LOUP_STAT : Nat := 0x40
abbrev LOUP_LOG_HEAD : Nat := 0x44
abbrev LOUP_CHECKS_LO : Nat := 0x80
abbrev LOUP_CHECKS_HI : Nat := 0x84
abbrev LOUP_MISMATCHES_LO : Nat := 0x88
abbrev LOUP_MISMATCHES_HI : Nat := 0x8c
abbrev LOUP_CNT_CLR : Nat := 0xfc
abbrev LOUP_LOG : Nat := 0x200
abbrev AUDM_CFG : Nat := 0x40
abbrev AUDM_STAT : Nat := 0x44
abbrev AUDM_GROUPS_LOST : Nat := 0x48
abbrev AUDM_HIST_BW : Nat := 0x4c
abbrev AUDM_LOG_HEAD : Nat := 0x50
abbrev AUDM_UNDERRUN_SAMPLES_LO : Nat := 0x80
abbrev AUDM_UNDERRUN_SAMPLES_HI : Nat := 0x84
abbrev AUDM_NONPCM_MUTES_LO : Nat := 0x88
abbrev AUDM_NONPCM_MUTES_HI : Nat := 0x8c
abbrev AUDM_CLIPS_LO : Nat := 0x90
abbrev AUDM_CLIPS_HI : Nat := 0x94
abbrev AUDM_ZC_TIMEOUTS_LO : Nat := 0x98
abbrev AUDM_ZC_TIMEOUTS_HI : Nat := 0x9c
abbrev AUDM_EMBED_DROP_LO : Nat := 0xa0
abbrev AUDM_EMBED_DROP_HI : Nat := 0xa4
abbrev AUDM_CNT_CLR : Nat := 0xfc
abbrev AUDM_LOG : Nat := 0x200
abbrev ASRC_CFG : Nat := 0x40
abbrev ASRC_STAT : Nat := 0x44
abbrev ASRC_UNLOCKS_LO : Nat := 0x80
abbrev ASRC_UNLOCKS_HI : Nat := 0x84
abbrev ASRC_CNT_CLR : Nat := 0xfc
abbrev TDMP_CFG : Nat := 0x40
abbrev TDMP_CTL : Nat := 0x44
abbrev TDMP_CLK_CFG : Nat := 0x48
abbrev TDMP_RX_MASK : Nat := 0x50
abbrev TDMP_TX_MASK : Nat := 0x54
abbrev TDMP_RX_BASE : Nat := 0x58
abbrev TDMP_TX_BASE : Nat := 0x5c
abbrev TDMP_STAT : Nat := 0x60
abbrev TDMP_RATE_PPM : Nat := 0x64
abbrev TDMP_BCLK_HZ : Nat := 0x68
abbrev TDMP_PHASE_BITS : Nat := 0x6c
abbrev TDMP_LAST_SYNC_LO : Nat := 0x70
abbrev TDMP_LAST_SYNC_HI : Nat := 0x74
abbrev TDMP_FRAMES_LO : Nat := 0x80
abbrev TDMP_FRAMES_HI : Nat := 0x84
abbrev TDMP_CLOCK_LOSSES_LO : Nat := 0x88
abbrev TDMP_CLOCK_LOSSES_HI : Nat := 0x8c
abbrev TDMP_SLIPS_LO : Nat := 0x90
abbrev TDMP_SLIPS_HI : Nat := 0x94
abbrev TDMP_FIFO_ERRS_LO : Nat := 0x98
abbrev TDMP_FIFO_ERRS_HI : Nat := 0x9c
abbrev TDMP_RESTARTS_LO : Nat := 0xa0
abbrev TDMP_RESTARTS_HI : Nat := 0xa4
abbrev TDMP_ZC_TIMEOUTS_LO : Nat := 0xa8
abbrev TDMP_ZC_TIMEOUTS_HI : Nat := 0xac
abbrev TDMP_CNT_CLR : Nat := 0xfc
abbrev OUTC_THRM_CTL : Nat := 0xe8
abbrev OUTC_THRM_STAT : Nat := 0xec
abbrev THRM_STAT : Nat := 0x40
abbrev THRM_HOTTEST : Nat := 0x44
abbrev THRM_LIM_DIE : Nat := 0x48
abbrev THRM_LIM_HBM : Nat := 0x4c
abbrev THRM_LIM_EXT : Nat := 0x50
abbrev THRM_ROR_CFG : Nat := 0x70
abbrev THRM_HYST : Nat := 0x74
abbrev THRM_EXT_CFG : Nat := 0x78
abbrev THRM_EXT_NTC : Nat := 0x7c
abbrev THRM_COMP_CTL : Nat := 0x80
abbrev THRM_FAULT_LO : Nat := 0x84
abbrev THRM_FAULT_HI : Nat := 0x88
abbrev THRM_LEVEL_CNT : Nat := 0x8c
abbrev THRM_TRIP_LOG : Nat := 0x90
abbrev THRM_CH : Nat := 0x100
abbrev PWR_ON : Nat := 0x40
abbrev PWR_OFF : Nat := 0x50
abbrev PWR_TILE_OFF : Nat := 0x60
abbrev PWR_STAT : Nat := 0x64
abbrev PWR_EST : Nat := 0x68
abbrev LARD_CTL : Nat := 0x40
abbrev LARD_IST_CFG : Nat := 0x44
abbrev LARD_STAT : Nat := 0x48
abbrev LARD_IST_STAT : Nat := 0x4c
abbrev LARD_IST_LAST_LO : Nat := 0x50
abbrev LARD_IST_LAST_HI : Nat := 0x54
abbrev LARD_SWAPS : Nat := 0x58
abbrev LARD_LOW_WATER : Nat := 0x5c
abbrev LARD_MAP_QUERY : Nat := 0x60
abbrev LARD_MAP_DATA0 : Nat := 0x64
abbrev LARD_MAP_DATA1 : Nat := 0x68
abbrev LARD_MAP_DATA2 : Nat := 0x6c
abbrev LARD_MAP_COUNT : Nat := 0x70
abbrev LARD_WEAR_SEL : Nat := 0x74
abbrev LARD_WEAR_HOURS : Nat := 0x78
abbrev LARD_WEAR_CNT : Nat := 0x7c
abbrev LARD_SWAP : Nat := 0x80
abbrev LARD_LMAP : Nat := 0x100
abbrev LARD_PSTAT : Nat := 0x400
abbrev LARD_CORE : Nat := 0x640
abbrev NVS_STAT : Nat := 0x40
abbrev NVS_WIN_BASE : Nat := 0x44
abbrev NVS_WIN_CTL : Nat := 0x48
abbrev NVS_VDD : Nat := 0x4c
abbrev NVS_VDD_MIN : Nat := 0x50
abbrev NVS_SCRUB_CFG : Nat := 0x54
abbrev NVS_SCRUB_STAT : Nat := 0x58
abbrev NVS_JRN_STAT : Nat := 0x5c
abbrev NVS_CORR_LO : Nat := 0x60
abbrev NVS_CORR_HI : Nat := 0x64
abbrev NVS_UNCORR_LO : Nat := 0x68
abbrev NVS_UNCORR_HI : Nat := 0x6c
abbrev NVS_REFRESH_LO : Nat := 0x70
abbrev NVS_REFRESH_HI : Nat := 0x74
abbrev NVS_PAGE_WRITES_LO : Nat := 0x78
abbrev NVS_PAGE_WRITES_HI : Nat := 0x7c
abbrev NVS_CNT_CLR : Nat := 0xfc
abbrev KEYS_LC_STAT : Nat := 0x40
abbrev KEYS_LC_TIME : Nat := 0x44
abbrev KEYS_STAT : Nat := 0x48
abbrev KEYS_SLOT_QUERY : Nat := 0x4c
abbrev KEYS_SLOT_DATA : Nat := 0x50
abbrev KEYS_RNG : Nat := 0x54
abbrev KEYS_ENT_STAT : Nat := 0x58
abbrev KEYS_ROOT : Nat := 0x60
abbrev LANE_EQ_DFEN : Nat := 0x90
abbrev MSEC_RX_SCI : Nat := 0x60
abbrev MSEC_SA : Nat := 0x200
abbrev MSEC_SA_PN_LO : Nat := 0x204
abbrev MSEC_SA_PN_HI : Nat := 0x208
abbrev MSEC_SA_SSCI : Nat := 0x20c
abbrev MSEC_SA_SALT0 : Nat := 0x210
abbrev MSEC_SA_SALT1 : Nat := 0x214
abbrev MSEC_SA_SALT2 : Nat := 0x218
abbrev SIEV_PORT_IP4 : Nat := 0x200
abbrev SIEV_PORT_LL0 : Nat := 0x204
abbrev SIEV_PORT_LL1 : Nat := 0x208
abbrev SIEV_PORT_LL2 : Nat := 0x20c
abbrev SIEV_PORT_LL3 : Nat := 0x210
abbrev OUTC_LPE_XY : Nat := 0x200
abbrev OUTC_LPE_WH : Nat := 0x204
abbrev OUTC_LPE_CTL : Nat := 0x208
abbrev OUTC_LPE_EXP : Nat := 0x20c
abbrev LEG_CTL : Nat := 0x400
abbrev LEG_BG : Nat := 0x404
abbrev LEG_VID_SRC : Nat := 0x408
abbrev LEG_VID_CROP_XY : Nat := 0x40c
abbrev LEG_VID_CROP_WH : Nat := 0x410
abbrev LEG_VID_DST_XY : Nat := 0x414
abbrev LEG_VID_DST_WH : Nat := 0x418
abbrev LEG_VID_ALPHA : Nat := 0x41c
abbrev LEG_GFX_SRC : Nat := 0x420
abbrev LEG_GFX_XY : Nat := 0x424
abbrev LEG_GFX_ALPHA : Nat := 0x428
abbrev LEG_UPDATE : Nat := 0x47c

end Sys2Proof.Machine.Reg
end

