-- ==== Sys2Proof/Machine/RegTable.lean ====
section
/-! DEFINITION. The writable registers of every page, row by row, as the chapters' register tables give them (R5, R7, R38): offset, stored bits, stated ranges, reset value. -/
namespace Sys2Proof.Machine

/-- Writable registers of the TOP page. -/
def rowsTop : List Row :=
  [{ off := 0x104, count := 1, stride := 4, shadowed := true, reset := 0x6400, wmask := 0xffffffff, pulse := 0x0, whileOff := false, undef := false, flds := [⟨0, 32, [(0, 128000)]⟩] },
   { off := 0x110, count := 1, stride := 4, shadowed := true, reset := 0x186a0, wmask := 0xffffffff, pulse := 0x0, whileOff := false, undef := false, flds := [⟨0, 32, [(0, 660000)]⟩] },
   { off := 0x40, count := 1, stride := 4, shadowed := false, reset := 0x0, wmask := 0x0, pulse := 0x7, whileOff := false, undef := false, flds := [] },
   { off := 0x50, count := 1, stride := 4, shadowed := false, reset := 0x0, wmask := 0xffffffff, pulse := 0x0, whileOff := false, undef := false, flds := [] },
   { off := 0x54, count := 1, stride := 4, shadowed := false, reset := 0x0, wmask := 0xffffffff, pulse := 0x0, whileOff := false, undef := false, flds := [] },
   { off := 0x58, count := 1, stride := 4, shadowed := false, reset := 0x0, wmask := 0xffff, pulse := 0x0, whileOff := false, undef := false, flds := [] },
   { off := 0x5c, count := 1, stride := 4, shadowed := false, reset := 0x2, wmask := 0x7, pulse := 0x0, whileOff := false, undef := false, flds := [] },
   { off := 0x70, count := 1, stride := 4, shadowed := false, reset := 0x0, wmask := 0x1, pulse := 0x0, whileOff := false, undef := false, flds := [] }]

/-- Writable registers of the FW page. -/
def rowsFw : List Row :=
  [{ off := 0x40, count := 1, stride := 4, shadowed := false, reset := 0x0, wmask := 0x0, pulse := 0x1, whileOff := false, undef := false, flds := [] },
   { off := 0x48, count := 1, stride := 4, shadowed := false, reset := 0x0, wmask := 0xffffffff, pulse := 0x0, whileOff := false, undef := false, flds := [⟨0, 12, [(0, 0)]⟩] },
   { off := 0x4c, count := 1, stride := 4, shadowed := false, reset := 0x0, wmask := 0xffffffff, pulse := 0x0, whileOff := false, undef := false, flds := [] },
   { off := 0x50, count := 1, stride := 4, shadowed := false, reset := 0x0, wmask := 0xffffffff, pulse := 0x0, whileOff := false, undef := false, flds := [⟨0, 2, [(0, 0)]⟩, ⟨0, 32, [(512, 8388608)]⟩] },
   { off := 0x60, count := 1, stride := 4, shadowed := false, reset := 0x0, wmask := 0x0, pulse := 0x3f, whileOff := false, undef := false, flds := [] }]

/-- Writable registers of the LANE page. -/
def rowsLane : List Row :=
  [{ off := 0x40, count := 1, stride := 4, shadowed := false, reset := 0x4, wmask := 0x137, pulse := 0x0, whileOff := false, undef := false, flds := [⟨4, 2, [(0, 2)]⟩] },
   { off := 0x44, count := 1, stride := 4, shadowed := false, reset := 0x0, wmask := 0x3, pulse := 0x0, whileOff := false, undef := false, flds := [] },
   { off := 0x4c, count := 1, stride := 4, shadowed := false, reset := 0x6403e8, wmask := 0xffffffff, pulse := 0x0, whileOff := false, undef := false, flds := [⟨0, 16, [(10, 65535)]⟩, ⟨16, 16, [(1, 10000)]⟩] },
   { off := 0x80, count := 1, stride := 4, shadowed := false, reset := 0x1f, wmask := 0x1f, pulse := 0x100, whileOff := false, undef := false, flds := [] },
   { off := 0x84, count := 1, stride := 4, shadowed := false, reset := 0x400408, wmask := 0x7f0f1f, pulse := 0x0, whileOff := false, undef := false, flds := [] },
   { off := 0x88, count := 1, stride := 4, shadowed := false, reset := 0x4000, wmask := 0xffffff, pulse := 0x0, whileOff := false, undef := false, flds := [⟨0, 8, [(0, 31), (224, 255)]⟩, ⟨8, 8, [(32, 127)]⟩, ⟨16, 8, [(0, 31), (224, 255)]⟩] },
   { off := 0x8c, count := 1, stride := 4, shadowed := false, reset := 0x0, wmask := 0xffff, pulse := 0x0, whileOff := false, undef := false, flds := [⟨0, 8, [(0, 127), (129, 255)]⟩, ⟨8, 8, [(0, 127), (129, 255)]⟩] },
   { off := 0x90, count := 7, stride := 4, shadowed := false, reset := 0x0, wmask := 0xffff, pulse := 0x0, whileOff := false, undef := false, flds := [⟨0, 8, [(0, 63), (193, 255)]⟩, ⟨8, 8, [(0, 63), (193, 255)]⟩] },
   { off := 0xac, count := 1, stride := 4, shadowed := false, reset := 0x2814, wmask := 0x3f3f, pulse := 0x0, whileOff := false, undef := false, flds := [⟨0, 6, [(15, 62)]⟩, ⟨8, 6, [(15, 62)]⟩] },
   { off := 0xc0, count := 1, stride := 4, shadowed := false, reset := 0xe3c000, wmask := 0x3fffffff, pulse := 0x0, whileOff := false, undef := false, flds := [] },
   { off := 0x100, count := 1, stride := 4, shadowed := false, reset := 0x2000, wmask := 0x3f1f, pulse := 0x30000, whileOff := false, undef := false, flds := [⟨0, 4, [(0, 6)]⟩, ⟨8, 4, [(0, 6)]⟩] },
   { off := 0x180, count := 1, stride := 4, shadowed := false, reset := 0x184, wmask := 0x3fc, pulse := 0x3, whileOff := false, undef := false, flds := [⟨2, 2, [(0, 2)]⟩, ⟨4, 6, [(16, 34)]⟩] },
   { off := 0x184, count := 1, stride := 4, shadowed := false, reset := 0x41fe0, wmask := 0xffffff, pulse := 0x0, whileOff := false, undef := false, flds := [⟨0, 8, [(0, 31), (224, 255)]⟩, ⟨8, 8, [(0, 31), (224, 255)]⟩, ⟨16, 8, [(1, 63)]⟩] },
   { off := 0x188, count := 1, stride := 4, shadowed := false, reset := 0x107f81, wmask := 0xffffff, pulse := 0x0, whileOff := false, undef := false, flds := [⟨0, 8, [(0, 127), (129, 255)]⟩, ⟨8, 8, [(0, 127), (129, 255)]⟩, ⟨16, 8, [(1, 254)]⟩] }]

/-- Writable registers of the PCS page. -/
def rowsPcs : List Row :=
  [{ off := 0x40, count := 1, stride := 4, shadowed := false, reset := 0x102, wmask := 0x177, pulse := 0x0, whileOff := true, undef := true, flds := [⟨0, 3, [(0, 4)]⟩] },
   { off := 0x80, count := 1, stride := 4, shadowed := false, reset := 0x0, wmask := 0x0, pulse := 0x1, whileOff := false, undef := false, flds := [] },
   { off := 0x200, count := 1, stride := 4, shadowed := false, reset := 0x30, wmask := 0x33, pulse := 0x4, whileOff := true, undef := false, flds := [] }]

/-- Writable registers of the MAC page. -/
def rowsMac : List Row :=
  [{ off := 0x40, count := 1, stride := 4, shadowed := false, reset := 0x3, wmask := 0xf, pulse := 0x0, whileOff := false, undef := false, flds := [] },
   { off := 0x44, count := 1, stride := 4, shadowed := false, reset := 0x0, wmask := 0xffffffff, pulse := 0x0, whileOff := false, undef := false, flds := [] },
   { off := 0x48, count := 1, stride := 4, shadowed := false, reset := 0x0, wmask := 0xffff, pulse := 0x0, whileOff := false, undef := false, flds := [] },
   { off := 0x4c, count := 1, stride := 4, shadowed := false, reset := 0x5f2, wmask := 0x3fff, pulse := 0x0, whileOff := false, undef := false, flds := [⟨0, 14, [(64, 9216)]⟩] },
   { off := 0x50, count := 1, stride := 4, shadowed := false, reset := 0xc, wmask := 0x3f, pulse := 0x0, whileOff := false, undef := false, flds := [⟨0, 6, [(12, 63)]⟩] },
   { off := 0x54, count := 1, stride := 4, shadowed := false, reset := 0x0, wmask := 0xfffff, pulse := 0x0, whileOff := false, undef := false, flds := [⟨0, 20, [(0, 500000), (548576, 1048575)]⟩] },
   { off := 0x58, count := 1, stride := 4, shadowed := false, reset := 0x0, wmask := 0xfffff, pulse := 0x0, whileOff := false, undef := false, flds := [⟨0, 20, [(0, 500000), (548576, 1048575)]⟩] },
   { off := 0xfc, count := 1, stride := 4, shadowed := false, reset := 0x0, wmask := 0x0, pulse := 0x1, whileOff := false, undef := false, flds := [] }]

/-- Writable registers of the PTP page. -/
def rowsPtp : List Row :=
  [{ off := 0x40, count := 1, stride := 4, shadowed := false, reset := 0x0, wmask := 0x3, pulse := 0x0, whileOff := false, undef := false, flds := [⟨0, 2, [(0, 2)]⟩] },
   { off := 0x44, count := 1, stride := 4, shadowed := false, reset := 0x3de7f, wmask := 0x3fffff, pulse := 0x0, whileOff := false, undef := false, flds := [⟨0, 8, [(0, 127)]⟩, ⟨8, 4, [(0, 1), (13, 15)]⟩, ⟨12, 4, [(0, 1), (9, 15)]⟩, ⟨16, 4, [(2, 10)]⟩] },
   { off := 0x48, count := 1, stride := 4, shadowed := false, reset := 0x0, wmask := 0xff7f, pulse := 0x0, whileOff := false, undef := false, flds := [] },
   { off := 0x60, count := 1, stride := 4, shadowed := false, reset := 0xa, wmask := 0xff, pulse := 0x0, whileOff := false, undef := false, flds := [⟨0, 8, [(1, 200)]⟩] },
   { off := 0xa0, count := 1, stride := 4, shadowed := false, reset := 0x0, wmask := 0xffffffff, pulse := 0x0, whileOff := false, undef := false, flds := [⟨0, 32, [(0, 999999999)]⟩] },
   { off := 0xa4, count := 1, stride := 4, shadowed := false, reset := 0x0, wmask := 0xffffffff, pulse := 0x0, whileOff := false, undef := false, flds := [] },
   { off := 0xa8, count := 1, stride := 4, shadowed := false, reset := 0x0, wmask := 0xffff, pulse := 0x0, whileOff := false, undef := false, flds := [] },
   { off := 0xac, count := 1, stride := 4, shadowed := false, reset := 0x0, wmask := 0x0, pulse := 0x3, whileOff := false, undef := false, flds := [] }]

/-- Writable registers of the MSEC page. -/
def rowsMsec : List Row :=
  [{ off := 0x40, count := 1, stride := 4, shadowed := false, reset := 0xa40, wmask := 0xf7f, pulse := 0x0, whileOff := true, undef := false, flds := [⟨4, 2, [(0, 2)]⟩, ⟨8, 2, [(0, 2)]⟩] },
   { off := 0x44, count := 1, stride := 4, shadowed := false, reset := 0x0, wmask := 0xffffffff, pulse := 0x0, whileOff := false, undef := false, flds := [] },
   { off := 0x48, count := 1, stride := 4, shadowed := false, reset := 0x0, wmask := 0xffffffff, pulse := 0x0, whileOff := false, undef := false, flds := [] },
   { off := 0x4c, count := 1, stride := 4, shadowed := false, reset := 0x0, wmask := 0x3, pulse := 0x0, whileOff := false, undef := false, flds := [] },
   { off := 0x50, count := 1, stride := 4, shadowed := false, reset := 0x0, wmask := 0xffffffff, pulse := 0x0, whileOff := false, undef := false, flds := [⟨0, 32, [(0, 1073741824)]⟩] },
   { off := 0x54, count := 1, stride := 4, shadowed := false, reset := 0xc0000000, wmask := 0xffffffff, pulse := 0x0, whileOff := false, undef := false, flds := [] },
   { off := 0x60, count := 8, stride := 4, shadowed := false, reset := 0x0, wmask := 0xffffffff, pulse := 0x0, whileOff := false, undef := false, flds := [] },
   { off := 0x200, count := 20, stride := 32, shadowed := false, reset := 0x0, wmask := 0x101ff, pulse := 0x0, whileOff := false, undef := false, flds := [] },
   { off := 0x204, count := 20, stride := 32, shadowed := false, reset := 0x0, wmask := 0xffffffff, pulse := 0x0, whileOff := false, undef := false, flds := [] },
   { off := 0x208, count := 20, stride := 32, shadowed := false, reset := 0x0, wmask := 0xffffffff, pulse := 0x0, whileOff := false, undef := false, flds := [] },
   { off := 0x20c, count := 20, stride := 32, shadowed := false, reset := 0x0, wmask := 0xffffffff, pulse := 0x0, whileOff := false, undef := false, flds := [] },
   { off := 0x210, count := 20, stride := 32, shadowed := false, reset := 0x0, wmask := 0xffffffff, pulse := 0x0, whileOff := false, undef := false, flds := [] },
   { off := 0x214, count := 20, stride := 32, shadowed := false, reset := 0x0, wmask := 0xffffffff, pulse := 0x0, whileOff := false, undef := false, flds := [] },
   { off := 0x218, count := 20, stride := 32, shadowed := false, reset := 0x0, wmask := 0xffffffff, pulse := 0x0, whileOff := false, undef := false, flds := [] },
   { off := 0xfc, count := 1, stride := 4, shadowed := false, reset := 0x0, wmask := 0x0, pulse := 0x1, whileOff := false, undef := false, flds := [] }]

/-- Writable registers of the SIEV page. -/
def rowsSiev : List Row :=
  [{ off := 0x40, count := 1, stride := 4, shadowed := false, reset := 0xa20064, wmask := 0xff703ff, pulse := 0x0, whileOff := false, undef := false, flds := [⟨0, 10, [(1, 1000)]⟩, ⟨16, 3, [(1, 7)]⟩, ⟨20, 8, [(1, 255)]⟩] },
   { off := 0x44, count := 1, stride := 4, shadowed := false, reset := 0x103e8, wmask := 0x1ffff, pulse := 0x0, whileOff := false, undef := false, flds := [⟨0, 16, [(10, 60000)]⟩] },
   { off := 0x48, count := 1, stride := 4, shadowed := false, reset := 0x0, wmask := 0x7f, pulse := 0x0, whileOff := false, undef := false, flds := [] },
   { off := 0x54, count := 1, stride := 4, shadowed := false, reset := 0x700, wmask := 0xf1f, pulse := 0x0, whileOff := false, undef := false, flds := [] },
   { off := 0x58, count := 1, stride := 4, shadowed := false, reset := 0x0, wmask := 0xffffffff, pulse := 0x0, whileOff := false, undef := false, flds := [⟨0, 12, [(0, 0)]⟩] },
   { off := 0x5c, count := 1, stride := 4, shadowed := false, reset := 0x0, wmask := 0xffffffff, pulse := 0x0, whileOff := false, undef := false, flds := [] },
   { off := 0x60, count := 1, stride := 4, shadowed := false, reset := 0x0, wmask := 0xfff, pulse := 0x0, whileOff := false, undef := false, flds := [] },
   { off := 0xfc, count := 1, stride := 4, shadowed := false, reset := 0x0, wmask := 0x0, pulse := 0x1, whileOff := false, undef := false, flds := [] },
   { off := 0x200, count := 8, stride := 32, shadowed := false, reset := 0x0, wmask := 0xffffffff, pulse := 0x0, whileOff := false, undef := false, flds := [] },
   { off := 0x204, count := 8, stride := 32, shadowed := false, reset := 0x0, wmask := 0xffffffff, pulse := 0x0, whileOff := false, undef := false, flds := [] },
   { off := 0x208, count := 8, stride := 32, shadowed := false, reset := 0x0, wmask := 0xffffffff, pulse := 0x0, whileOff := false, undef := false, flds := [] },
   { off := 0x20c, count := 8, stride := 32, shadowed := false, reset := 0x0, wmask := 0xffffffff, pulse := 0x0, whileOff := false, undef := false, flds := [] },
   { off := 0x210, count := 8, stride := 32, shadowed := false, reset := 0x0, wmask := 0xffffffff, pulse := 0x0, whileOff := false, undef := false, flds := [] }]

/-- Writable registers of the FSTR page. -/
def rowsFstr : List Row :=
  [{ off := 0x48, count := 1, stride := 4, shadowed := false, reset := 0x4000, wmask := 0xffffffff, pulse := 0x0, whileOff := false, undef := false, flds := [⟨0, 32, [(0, 2228224)]⟩] },
   { off := 0x50, count := 1, stride := 4, shadowed := false, reset := 0x0, wmask := 0xffff, pulse := 0x0, whileOff := false, undef := false, flds := [] },
   { off := 0x70, count := 1, stride := 4, shadowed := false, reset := 0x0, wmask := 0x3ffff, pulse := 0x0, whileOff := false, undef := false, flds := [] },
   { off := 0xfc, count := 1, stride := 4, shadowed := false, reset := 0x0, wmask := 0x0, pulse := 0x1, whileOff := false, undef := false, flds := [] }]

/-- Writable registers of the HBMC page. -/
def rowsHbmc : List Row :=
  [{ off := 0x50, count := 1, stride := 4, shadowed := false, reset := 0x18, wmask := 0xff, pulse := 0x0, whileOff := false, undef := false, flds := [⟨0, 8, [(1, 168)]⟩] },
   { off := 0x6c, count := 1, stride := 4, shadowed := false, reset := 0x4, wmask := 0xff, pulse := 0x0, whileOff := false, undef := false, flds := [⟨0, 8, [(1, 255)]⟩] },
   { off := 0xfc, count := 1, stride := 4, shadowed := false, reset := 0x0, wmask := 0x0, pulse := 0x1, whileOff := false, undef := false, flds := [] }]

/-- Writable registers of the ROUT page. -/
def rowsRout : List Row :=
  [{ off := 0x40, count := 1, stride := 4, shadowed := false, reset := 0x0, wmask := 0x1ff, pulse := 0x0, whileOff := false, undef := false, flds := [] },
   { off := 0x44, count := 1, stride := 4, shadowed := false, reset := 0x0, wmask := 0xfff, pulse := 0x0, whileOff := false, undef := false, flds := [] },
   { off := 0x48, count := 1, stride := 4, shadowed := false, reset := 0x19, wmask := 0xff, pulse := 0x0, whileOff := false, undef := false, flds := [⟨0, 8, [(1, 255)]⟩] },
   { off := 0xfc, count := 1, stride := 4, shadowed := false, reset := 0x0, wmask := 0x0, pulse := 0x1, whileOff := false, undef := false, flds := [] }]

/-- Writable registers of the PRSM page. -/
def rowsPrsm : List Row :=
  [{ off := 0xfc, count := 1, stride := 4, shadowed := false, reset := 0x0, wmask := 0x0, pulse := 0x1, whileOff := false, undef := false, flds := [] }]

/-- Writable registers of the OUTC page. -/
def rowsOutc : List Row :=
  [{ off := 0x40, count := 1, stride := 4, shadowed := true, reset := 0x2, wmask := 0xf, pulse := 0x0, whileOff := false, undef := false, flds := [] },
   { off := 0xe0, count := 1, stride := 4, shadowed := true, reset := 0x0, wmask := 0x1, pulse := 0x0, whileOff := false, undef := false, flds := [] },
   { off := 0x100, count := 1, stride := 4, shadowed := true, reset := 0x842, wmask := 0xfff3, pulse := 0x0, whileOff := false, undef := false, flds := [⟨4, 4, [(1, 15)]⟩, ⟨8, 8, [(1, 255)]⟩] },
   { off := 0x104, count := 1, stride := 4, shadowed := true, reset := 0x0, wmask := 0xdff3f, pulse := 0x0, whileOff := false, undef := true, flds := [⟨0, 4, [(0, 5), (8, 8)]⟩, ⟨8, 4, [(0, 4)]⟩, ⟨12, 4, [(0, 3)]⟩, ⟨18, 2, [(0, 2)]⟩] },
   { off := 0x108, count := 1, stride := 4, shadowed := true, reset := 0x0, wmask := 0x1ff, pulse := 0x0, whileOff := false, undef := false, flds := [] },
   { off := 0x10c, count := 1, stride := 4, shadowed := true, reset := 0x0, wmask := 0x3, pulse := 0x0, whileOff := false, undef := false, flds := [] },
   { off := 0x110, count := 1, stride := 4, shadowed := true, reset := 0x0, wmask := 0xbfffffff, pulse := 0x0, whileOff := false, undef := false, flds := [] },
   { off := 0x120, count := 1, stride := 4, shadowed := true, reset := 0x0, wmask := 0xffff, pulse := 0x0, whileOff := false, undef := false, flds := [⟨13, 2, [(0, 2)]⟩] },
   { off := 0x124, count := 1, stride := 4, shadowed := true, reset := 0x0, wmask := 0xffffffff, pulse := 0x0, whileOff := false, undef := false, flds := [] },
   { off := 0x180, count := 1, stride := 4, shadowed := true, reset := 0x0, wmask := 0x3fff3fff, pulse := 0x0, whileOff := false, undef := true, flds := [⟨0, 14, [(16, 8192)]⟩, ⟨16, 14, [(16, 8192)]⟩] },
   { off := 0x184, count := 1, stride := 4, shadowed := true, reset := 0x0, wmask := 0x33fff, pulse := 0x0, whileOff := false, undef := true, flds := [⟨16, 2, [(0, 2)]⟩] },
   { off := 0x188, count := 1, stride := 4, shadowed := true, reset := 0x0, wmask := 0x8003ffff, pulse := 0x0, whileOff := false, undef := true, flds := [] },
   { off := 0x18c, count := 1, stride := 4, shadowed := true, reset := 0x0, wmask := 0x3ffffff, pulse := 0x0, whileOff := false, undef := false, flds := [] },
   { off := 0x1c0, count := 1, stride := 4, shadowed := true, reset := 0x0, wmask := 0x1, pulse := 0x0, whileOff := false, undef := false, flds := [] },
   { off := 0x1c4, count := 1, stride := 4, shadowed := true, reset := 0x0, wmask := 0xffffffff, pulse := 0x0, whileOff := false, undef := false, flds := [] },
   { off := 0x1e0, count := 1, stride := 4, shadowed := true, reset := 0x0, wmask := 0x3f, pulse := 0x0, whileOff := false, undef := false, flds := [] },
   { off := 0x1e4, count := 1, stride := 4, shadowed := true, reset := 0xa0009, wmask := 0xfff0fff, pulse := 0x0, whileOff := false, undef := false, flds := [⟨0, 12, [(1, 4095)]⟩, ⟨16, 12, [(1, 4095)]⟩] },
   { off := 0x1e8, count := 1, stride := 4, shadowed := true, reset := 0x0, wmask := 0x3ffff, pulse := 0x0, whileOff := false, undef := false, flds := [⟨0, 18, [(0, 86399), (175745, 262143)]⟩] },
   { off := 0xe8, count := 1, stride := 4, shadowed := true, reset := 0x0, wmask := 0x1, pulse := 0x0, whileOff := false, undef := false, flds := [] },
   { off := 0x200, count := 7, stride := 16, shadowed := true, reset := 0x0, wmask := 0x3fff3fff, pulse := 0x0, whileOff := false, undef := false, flds := [] },
   { off := 0x204, count := 7, stride := 16, shadowed := true, reset := 0x0, wmask := 0x3fff3fff, pulse := 0x0, whileOff := false, undef := false, flds := [⟨0, 14, [(1, 8192)]⟩, ⟨16, 14, [(1, 8192)]⟩] },
   { off := 0x208, count := 7, stride := 16, shadowed := true, reset := 0x0, wmask := 0xff07, pulse := 0x0, whileOff := false, undef := false, flds := [⟨1, 2, [(0, 2)]⟩] },
   { off := 0x20c, count := 7, stride := 16, shadowed := true, reset := 0x0, wmask := 0xffffffff, pulse := 0x0, whileOff := false, undef := false, flds := [] },
   { off := 0x2c0, count := 1, stride := 4, shadowed := false, reset := 0x0, wmask := 0x0, pulse := 0x7f, whileOff := false, undef := false, flds := [] },
   { off := 0x400, count := 1, stride := 4, shadowed := true, reset := 0x0, wmask := 0x1f, pulse := 0x0, whileOff := false, undef := false, flds := [] },
   { off := 0x404, count := 1, stride := 4, shadowed := true, reset := 0x0, wmask := 0x3fffffff, pulse := 0x0, whileOff := false, undef := false, flds := [] },
   { off := 0x408, count := 1, stride := 4, shadowed := true, reset := 0x0, wmask := 0xffffffff, pulse := 0x0, whileOff := false, undef := false, flds := [] },
   { off := 0x40c, count := 1, stride := 4, shadowed := true, reset := 0x0, wmask := 0x3fff3fff, pulse := 0x0, whileOff := false, undef := false, flds := [] },
   { off := 0x410, count := 1, stride := 4, shadowed := true, reset := 0x0, wmask := 0x3fff3fff, pulse := 0x0, whileOff := false, undef := false, flds := [] },
   { off := 0x414, count := 1, stride := 4, shadowed := true, reset := 0x0, wmask := 0x3fff3fff, pulse := 0x0, whileOff := false, undef := false, flds := [] },
   { off := 0x418, count := 1, stride := 4, shadowed := true, reset := 0x0, wmask := 0x3fff3fff, pulse := 0x0, whileOff := false, undef := false, flds := [] },
   { off := 0x41c, count := 1, stride := 4, shadowed := true, reset := 0x0, wmask := 0xff, pulse := 0x0, whileOff := false, undef := false, flds := [] },
   { off := 0x420, count := 3, stride := 16, shadowed := true, reset := 0x0, wmask := 0xffffffff, pulse := 0x0, whileOff := false, undef := false, flds := [] },
   { off := 0x424, count := 3, stride := 16, shadowed := true, reset := 0x0, wmask := 0x3fff3fff, pulse := 0x0, whileOff := false, undef := false, flds := [] },
   { off := 0x428, count := 3, stride := 16, shadowed := true, reset := 0x0, wmask := 0x1ff, pulse := 0x0, whileOff := false, undef := false, flds := [] },
   { off := 0x47c, count := 1, stride := 4, shadowed := false, reset := 0x0, wmask := 0x0, pulse := 0x1, whileOff := false, undef := false, flds := [] }]

/-- Writable registers of the FRC page. -/
def rowsFrc : List Row :=
  [{ off := 0x40, count := 1, stride := 4, shadowed := false, reset := 0x0, wmask := 0x3f, pulse := 0x0, whileOff := false, undef := false, flds := [] },
   { off := 0xfc, count := 1, stride := 4, shadowed := false, reset := 0x0, wmask := 0x0, pulse := 0x1, whileOff := false, undef := false, flds := [] }]

/-- Writable registers of the COMP page. -/
def rowsComp : List Row :=
  [{ off := 0xfc, count := 1, stride := 4, shadowed := false, reset := 0x0, wmask := 0x0, pulse := 0x1, whileOff := false, undef := false, flds := [] }]

/-- Writable registers of the SCAN page. -/
def rowsScan : List Row :=
  [{ off := 0x44, count := 1, stride := 4, shadowed := false, reset := 0x0, wmask := 0xfff, pulse := 0x0, whileOff := false, undef := false, flds := [] },
   { off := 0x48, count := 1, stride := 4, shadowed := false, reset := 0x0, wmask := 0x1f, pulse := 0x0, whileOff := false, undef := false, flds := [⟨1, 4, [(4, 12)]⟩] },
   { off := 0x4c, count := 1, stride := 4, shadowed := false, reset := 0x0, wmask := 0xffffffff, pulse := 0x0, whileOff := false, undef := false, flds := [⟨0, 12, [(0, 0)]⟩] },
   { off := 0x50, count := 1, stride := 4, shadowed := false, reset := 0x0, wmask := 0xffffffff, pulse := 0x0, whileOff := false, undef := false, flds := [] },
   { off := 0x54, count := 1, stride := 4, shadowed := false, reset := 0x0, wmask := 0xfff, pulse := 0x0, whileOff := false, undef := false, flds := [] },
   { off := 0xfc, count := 1, stride := 4, shadowed := false, reset := 0x0, wmask := 0x0, pulse := 0x1, whileOff := false, undef := false, flds := [] },
   { off := 0x100, count := 32, stride := 4, shadowed := false, reset := 0x0, wmask := 0x1ffff, pulse := 0x0, whileOff := false, undef := false, flds := [] }]

/-- Writable registers of the LOUP page. -/
def rowsLoup : List Row :=
  [{ off := 0xfc, count := 1, stride := 4, shadowed := false, reset := 0x0, wmask := 0x0, pulse := 0x1, whileOff := false, undef := false, flds := [] }]

/-- Writable registers of the AUDM page. -/
def rowsAudm : List Row :=
  [{ off := 0x40, count := 1, stride := 4, shadowed := false, reset := 0xa, wmask := 0x7f, pulse := 0x0, whileOff := false, undef := false, flds := [⟨0, 7, [(1, 100)]⟩] },
   { off := 0xfc, count := 1, stride := 4, shadowed := false, reset := 0x0, wmask := 0x0, pulse := 0x1, whileOff := false, undef := false, flds := [] }]

/-- Writable registers of the ASRC page. -/
def rowsAsrc : List Row :=
  [{ off := 0x40, count := 1, stride := 4, shadowed := false, reset := 0x3e80064, wmask := 0x7ff00ff, pulse := 0x0, whileOff := false, undef := false, flds := [⟨0, 8, [(10, 255)]⟩, ⟨16, 11, [(1, 2000)]⟩] },
   { off := 0xfc, count := 1, stride := 4, shadowed := false, reset := 0x0, wmask := 0x0, pulse := 0x1, whileOff := false, undef := false, flds := [] }]

/-- Writable registers of the TDMP page. -/
def rowsTdmp : List Row :=
  [{ off := 0x40, count := 1, stride := 4, shadowed := false, reset := 0x11c74, wmask := 0x1ffff, pulse := 0x0, whileOff := true, undef := false, flds := [⟨9, 2, [(0, 2)]⟩, ⟨12, 2, [(0, 2)]⟩] },
   { off := 0x44, count := 1, stride := 4, shadowed := false, reset := 0xa01, wmask := 0x7f01, pulse := 0x2, whileOff := false, undef := false, flds := [⟨8, 7, [(1, 100)]⟩] },
   { off := 0x48, count := 1, stride := 4, shadowed := false, reset := 0xa03e8, wmask := 0xff07ff, pulse := 0x0, whileOff := false, undef := false, flds := [⟨0, 11, [(1, 2000)]⟩, ⟨16, 8, [(1, 255)]⟩] },
   { off := 0x50, count := 1, stride := 4, shadowed := true, reset := 0x0, wmask := 0xffffffff, pulse := 0x0, whileOff := false, undef := false, flds := [] },
   { off := 0x54, count := 1, stride := 4, shadowed := true, reset := 0x0, wmask := 0xffffffff, pulse := 0x0, whileOff := false, undef := false, flds := [] },
   { off := 0x58, count := 1, stride := 4, shadowed := true, reset := 0x0, wmask := 0x3fff, pulse := 0x0, whileOff := false, undef := false, flds := [] },
   { off := 0x5c, count := 1, stride := 4, shadowed := true, reset := 0x0, wmask := 0x3fff, pulse := 0x0, whileOff := false, undef := false, flds := [] },
   { off := 0xfc, count := 1, stride := 4, shadowed := false, reset := 0x0, wmask := 0x0, pulse := 0x1, whileOff := false, undef := false, flds := [] }]

/-- Writable registers of the THRM page. -/
def rowsThrm : List Row :=
  [{ off := 0x48, count := 1, stride := 4, shadowed := false, reset := 0x7369645f, wmask := 0xffffffff, pulse := 0x0, whileOff := false, undef := false, flds := [] },
   { off := 0x4c, count := 1, stride := 4, shadowed := false, reset := 0x695f5a55, wmask := 0xffffffff, pulse := 0x0, whileOff := false, undef := false, flds := [] },
   { off := 0x50, count := 8, stride := 4, shadowed := false, reset := 0x0, wmask := 0xffffffff, pulse := 0x0, whileOff := false, undef := false, flds := [] },
   { off := 0x70, count := 1, stride := 4, shadowed := false, reset := 0x46321404, wmask := 0xffffff3f, pulse := 0x0, whileOff := false, undef := false, flds := [⟨0, 6, [(1, 60)]⟩] },
   { off := 0x74, count := 1, stride := 4, shadowed := false, reset := 0xa03, wmask := 0xff0f, pulse := 0x0, whileOff := false, undef := false, flds := [⟨0, 4, [(1, 15)]⟩, ⟨8, 8, [(1, 255)]⟩] },
   { off := 0x78, count := 1, stride := 4, shadowed := false, reset := 0x0, wmask := 0x77777777, pulse := 0x0, whileOff := false, undef := false, flds := [] },
   { off := 0x7c, count := 1, stride := 4, shadowed := false, reset := 0x3e80d6b, wmask := 0xffffffff, pulse := 0x0, whileOff := false, undef := false, flds := [] },
   { off := 0x80, count := 1, stride := 4, shadowed := false, reset := 0x0, wmask := 0x1, pulse := 0x0, whileOff := false, undef := false, flds := [] }]

/-- Writable registers of the PWR page. -/
def rowsPwr : List Row :=
  [{ off := 0x50, count := 3, stride := 4, shadowed := false, reset := 0x0, wmask := 0xffffffff, pulse := 0x0, whileOff := false, undef := false, flds := [] },
   { off := 0x60, count := 1, stride := 4, shadowed := false, reset := 0x0, wmask := 0xffff, pulse := 0x0, whileOff := false, undef := false, flds := [] }]

/-- Writable registers of the LARD page. -/
def rowsLard : List Row :=
  [{ off := 0x40, count := 1, stride := 4, shadowed := false, reset := 0x1, wmask := 0x1, pulse := 0x2, whileOff := false, undef := false, flds := [] },
   { off := 0x44, count := 1, stride := 4, shadowed := false, reset := 0x708, wmask := 0x1ffff, pulse := 0x0, whileOff := false, undef := false, flds := [⟨0, 17, [(60, 86400)]⟩] },
   { off := 0x5c, count := 1, stride := 4, shadowed := false, reset := 0x4, wmask := 0x1f, pulse := 0x0, whileOff := false, undef := false, flds := [⟨0, 5, [(0, 16)]⟩] },
   { off := 0x60, count := 1, stride := 4, shadowed := false, reset := 0x0, wmask := 0xfff, pulse := 0x0, whileOff := false, undef := false, flds := [] },
   { off := 0x74, count := 1, stride := 4, shadowed := false, reset := 0x0, wmask := 0xff, pulse := 0x0, whileOff := false, undef := false, flds := [] },
   { off := 0x80, count := 1, stride := 4, shadowed := false, reset := 0x0, wmask := 0x0, pulse := 0x8000007f, whileOff := false, undef := false, flds := [] }]

/-- Writable registers of the NVS page. -/
def rowsNvs : List Row :=
  [{ off := 0x44, count := 1, stride := 4, shadowed := false, reset := 0x0, wmask := 0xf, pulse := 0x0, whileOff := false, undef := false, flds := [] },
   { off := 0x48, count := 1, stride := 4, shadowed := false, reset := 0x6400, wmask := 0xff00, pulse := 0x1, whileOff := false, undef := false, flds := [⟨8, 8, [(10, 255)]⟩] },
   { off := 0x50, count := 1, stride := 4, shadowed := false, reset := 0x6ae, wmask := 0xfff, pulse := 0x0, whileOff := false, undef := false, flds := [⟨0, 12, [(1620, 1890)]⟩] },
   { off := 0x54, count := 1, stride := 4, shadowed := false, reset := 0x18, wmask := 0xff, pulse := 0x0, whileOff := false, undef := false, flds := [⟨0, 8, [(1, 168)]⟩] },
   { off := 0xfc, count := 1, stride := 4, shadowed := false, reset := 0x0, wmask := 0x0, pulse := 0x1, whileOff := false, undef := false, flds := [] }]

/-- Writable registers of the KEYS page. -/
def rowsKeys : List Row :=
  [{ off := 0x4c, count := 1, stride := 4, shadowed := false, reset := 0x0, wmask := 0x1ff, pulse := 0x0, whileOff := false, undef := false, flds := [] }]

end Sys2Proof.Machine
end

