-- ==== Sys2Proof/Machine/Pages.lean ====
section
/-! DEFINITION. The BAR0 address map (R28, R31, R32), the identity of every page (R34, R36), its error class (R55) and its event sources (R77, R78 and the chapters' event tables). -/
namespace Sys2Proof.Machine

/-- Byte address of a page in BAR0 (R31, R32). -/
def pageBase : PageRef → Nat
  | .top => 0x0 | .evt => 0x1000 | .fw => 0x4000 | .pcie => 0x5000
  | .thrm => 0x6000 | .pwr => 0x7000 | .lard => 0x8000 | .nvs => 0x9000
  | .keys => 0xA000 | .ptp => 0xB000
  | .hbmc k => 0xC000 + k * 0x1000
  | .fstr => 0x10000 | .audm => 0x11000 | .asrc => 0x12000 | .loup => 0x13000
  | .rout => 0x14000
  | .tdmp p => 0x20000 + p * 0x1000
  | .hq => 0x40000
  | .lane l => 0x1000000 + (l / 8) * 0x100000 + (l % 8) * 0x1000
  | .pcs l => 0x1008000 + (l / 8) * 0x100000 + (l % 8) * 0x1000
  | .mac l => 0x1010000 + (l / 8) * 0x100000 + (l % 8) * 0x1000
  | .msec l => 0x1018000 + (l / 8) * 0x100000 + (l % 8) * 0x1000
  | .siev t => 0x1020000 + t * 0x100000
  | .prsm e => 0x1030000 + (e / 9) * 0x100000 + (e % 9) * 0x1000
  | .comp t => 0x1040000 + t * 0x100000
  | .scan t => 0x1041000 + t * 0x100000
  | .frc e => 0x1048000 + (e / 9) * 0x100000 + (e % 9) * 0x1000
  | .outc o => 0x2000000 + o * 0x1000

/-- Bytes of address space a block's pages take from its base (R31, R32). -/
def pageSpan : PageRef → Nat
  | .rout => 0x4000 | .siev _ => 0x4000 | .hq => 0x10000 | _ => 0x1000

/-- Where an address of BAR0 of PF0 lies (R28). The indirect windows have internal addresses of their own above BAR0. -/
inductive Place where
  | page (p : PageRef) (off : Nat)
  | evtMap (src : Nat)
  | nvsWin (off : Nat)
  | layc (l off : Nat)
  | flow (f off : Nat)
  | lut (off : Nat)
  | audio (off : Nat)
  | route (o w : Nat)
  | fast (e w : Nat)
  | egr (e w : Nat)
  | reserved
  deriving DecidableEq, Repr

/-- The place of an offset inside a tile window (R32). -/
def placeInTile (t : Fin 16) (r : Nat) : Place :=
  let i := r / 0x1000
  let off := r % 0x1000
  let lane := Fin.ofNat 128 (8 * t + i % 8)
  if i < 8 then .page (.lane lane) off
  else if i < 16 then .page (.pcs lane) off
  else if i < 24 then .page (.mac lane) off
  else if i < 32 then .page (.msec lane) off
  else if i < 36 then .page (.siev t) (r - 0x20000)
  else if 0x30 ≤ i ∧ i < 0x39 then .page (.prsm (Fin.ofNat 144 (9 * t + (i - 0x30)))) off
  else if i = 0x40 then .page (.comp t) off
  else if i = 0x41 then .page (.scan t) off
  else if 0x48 ≤ i ∧ i < 0x51 then .page (.frc (Fin.ofNat 144 (9 * t + (i - 0x48)))) off
  else .reserved

/-- The place of an offset in the device-level area (R31). -/
def placeInDevice (a : Nat) : Place :=
  let i := a / 0x1000
  let off := a % 0x1000
  if i = 0 then .page .top off
  else if i = 1 then .page .evt off
  else if i < 4 then .evtMap ((a - 0x2000) / 4)
  else if i = 4 then .page .fw off
  else if i = 5 then .page .pcie off
  else if i = 6 then .page .thrm off
  else if i = 7 then .page .pwr off
  else if i = 8 then .page .lard off
  else if i = 9 then .page .nvs off
  else if i = 10 then .page .keys off
  else if i = 11 then .page .ptp off
  else if i < 16 then .page (.hbmc (Fin.ofNat 4 (i - 12))) off
  else if i = 16 then .page .fstr off
  else if i = 17 then .page .audm off
  else if i = 18 then .page .asrc off
  else if i = 19 then .page .loup off
  else if i < 24 then .page .rout (a - 0x14000)
  else if 0x20 ≤ i ∧ i < 0x30 then .page (.tdmp (Fin.ofNat 16 (i - 0x20))) off
  else if 0x40 ≤ i ∧ i < 0x50 then .page .hq (a - 0x40000)
  else if 0x80 ≤ i ∧ i < 0x90 then .nvsWin (a - 0x80000)
  else .reserved

/-- Internal address of word `w` of the route entry of output `o`, behind the ROUT window (R240). -/
def routeAddr (o w : Nat) : Nat := 0x4000000 + o * 0x400 + 4 * w
/-- Internal address of word `w` of the fast-path entry of egress flow `e` (R240). -/
def fastAddr (e w : Nat) : Nat := 0x5000000 + e * 0x100 + 4 * w
/-- Internal address of word `w` of the egress entry `e`, behind the SCAN window (R334, R349). -/
def egrAddr (e w : Nat) : Nat := 0x6000000 + e * 0x100 + 4 * w
/-- Address of word `w` of layer context `l` (R28). -/
def laycAddr (l w : Nat) : Nat := 0x2200000 + l * 0x100 + 4 * w
/-- Address of word `w` of ingress flow entry `f` (R28). -/
def flowAddr (f w : Nat) : Nat := 0x2300000 + f * 0x100 + 4 * w
/-- Address of the register at `off` of a page. -/
def regAddr (p : PageRef) (off : Nat) : Nat := pageBase p + off

/-- The place of an address (R28, R29). -/
def placeOf (a : Nat) : Place :=
  if a < 0x100000 then placeInDevice a
  else if a < 0x1000000 then .reserved
  else if a < 0x2000000 then placeInTile (Fin.ofNat 16 ((a - 0x1000000) / 0x100000)) (a % 0x100000)
  else if a < 0x2200000 then .page (.outc (Fin.ofNat 512 ((a - 0x2000000) / 0x1000))) (a % 0x1000)
  else if a < 0x2300000 then .layc ((a - 0x2200000) / 0x100) (a % 0x100)
  else if a < 0x2400000 then .flow ((a - 0x2300000) / 0x100) (a % 0x100)
  else if a < 0x2A00000 then .lut (a - 0x2400000)
  else if a < 0x2B00000 then .audio (a - 0x2A00000)
  else if a < 0x4000000 then .reserved
  else if a < 0x5000000 then .route ((a - 0x4000000) / 0x400) (a % 0x400 / 4)
  else if a < 0x6000000 then .fast ((a - 0x5000000) / 0x100) (a % 0x100 / 4)
  else if a < 0x7000000 then .egr ((a - 0x6000000) / 0x100) (a % 0x100 / 4)
  else .reserved

/-- PAGE_ID.TYPE (R36). -/
def pageType : PageRef → Nat
  | .top => 0x01 | .hq => 0x02 | .evt => 0x03 | .fw => 0x04 | .pcie => 0x05
  | .lane _ => 0x06 | .pcs _ => 0x07 | .mac _ => 0x08 | .msec _ => 0x09
  | .ptp => 0x0A | .siev _ => 0x0B | .rout => 0x0C | .fstr => 0x0D
  | .hbmc _ => 0x0E | .prsm _ => 0x0F | .frc _ => 0x10 | .comp _ => 0x11
  | .scan _ => 0x12 | .loup => 0x13 | .audm => 0x14 | .asrc => 0x15
  | .tdmp _ => 0x16 | .thrm => 0x17 | .pwr => 0x18 | .lard => 0x19
  | .nvs => 0x1A | .keys => 0x1B | .outc _ => 0x1C

/-- The tile whose window holds the page (R32), 0xFF for a page outside the tile windows. -/
def pageTile : PageRef → Nat
  | .lane l => l / 8 | .pcs l => l / 8 | .mac l => l / 8 | .msec l => l / 8
  | .siev t => t | .comp t => t | .scan t => t
  | .prsm e => e / 9 | .frc e => e / 9
  | _ => 0xFF

/-- PAGE_ID.TILE (R12, R28, R34): an output page is no device-level page, and its tile is the output's. -/
def pageHome : PageRef → Nat
  | .outc o => o / 32
  | p => pageTile p

/-- PAGE_ID.INSTANCE (R34): lane, port, slot, output or block instance. -/
def pageInstance : PageRef → Nat
  | .lane l => l | .pcs l => l | .mac l => l | .msec l => l
  | .prsm e => e % 9 | .frc e => e % 9
  | .outc o => o | .hbmc k => k | .tdmp p => p
  | _ => 0

/-- High byte of the error codes of a page (R55). -/
def errClass : PageRef → Nat
  | .top => 0x01 | .outc _ => 0x01
  | .hq => 0x02 | .evt => 0x02 | .pcie => 0x02
  | .fw => 0x03
  | .lane _ => 0x04 | .pcs _ => 0x04
  | .mac _ => 0x05 | .msec _ => 0x05 | .ptp => 0x05
  | .siev _ => 0x06 | .rout => 0x07 | .fstr => 0x08 | .prsm _ => 0x09
  | .frc _ => 0x0A | .comp _ => 0x0B | .scan _ => 0x0C | .loup => 0x0C
  | .audm => 0x0D | .asrc => 0x0D | .tdmp _ => 0x0E | .thrm => 0x0F
  | .pwr => 0x0F | .lard => 0x10 | .nvs => 0x11 | .keys => 0x12
  | .hbmc _ => 0x13

/-- The event source that bit `b` of a page's EVT_PEND feeds (R57, R77, R78 and the chapters' event tables). -/
def eventSource (p : PageRef) (b : Nat) : Option Nat :=
  match p with
  | .top =>
    if b = 0 then some 2038 else if b = 2 then some 2032 else if b = 3 then some 2033
    else if b = 4 then some 2034 else if b = 5 then some 2035 else if b = 6 then some 2036
    else if b = 7 then some 2037 else if b = 8 then some 2039 else if b = 9 then some 2044
    else none
  | .hq => if b = 0 then some 2000 else if 2 ≤ b ∧ b ≤ 7 then some (1999 + b) else none
  | .evt => if b = 0 then some 2007 else none
  | .pcie => if b = 0 then some 2008 else if b = 2 ∨ b = 3 then some (2007 + b) else none
  | .fw =>
    if b = 0 then some 2013 else if b = 2 ∨ b = 3 then some 2014 else if b = 4 then some 2015
    else if b = 5 then some 2016 else if b = 6 ∨ b = 7 then some 2017 else none
  | .rout => some 2011
  | .loup => if b = 0 then some 2012 else none
  | .lane l => some (96 * (l / 8) + l % 8)
  | .pcs l => some (96 * (l / 8) + 8 + l % 8)
  | .mac l => some (96 * (l / 8) + 16 + l % 8)
  | .msec l => some (96 * (l / 8) + 24 + l % 8)
  | .siev t =>
    if b = 0 then some (96 * t + 32) else if b = 2 then some (96 * t + 33)
    else if b = 3 ∨ b = 4 then some (96 * t + 34) else if b = 5 ∨ b = 6 then some (96 * t + 35)
    else if b = 7 then some (96 * t + 36) else if b = 8 then some (96 * t + 37)
    else if b = 9 ∨ b = 10 ∨ b = 11 then some (96 * t + 38)
    else if b = 12 ∨ b = 13 then some (96 * t + 39) else none
  | .prsm e => some (96 * (e / 9) + 40 + e % 9)
  | .frc e => some (96 * (e / 9) + 49 + e % 9)
  | .comp t =>
    if b = 0 then some (96 * t + 58) else if b = 2 ∨ b = 3 then some (96 * t + 59)
    else if b = 4 then some (96 * t + 60) else if b = 5 then some (96 * t + 61) else none
  | .scan t => if b = 0 ∨ b = 2 then some (96 * t + 58) else none
  | .outc o => some (96 * (o / 32) + 62 + o % 32)
  | .audm => if b = 0 then some 1536 else if 2 ≤ b ∧ b ≤ 7 then some (1535 + b) else none
  | .asrc => if b = 0 then some 1600 else if 2 ≤ b ∧ b ≤ 4 then some (1599 + b) else none
  | .tdmp p => tdmpSource p b
  | .thrm =>
    if b = 0 then some 1728 else if b = 2 ∨ b = 3 then some 1729
    else if b = 4 ∨ b = 5 then some 1730 else if b = 6 then some 1732 else none
  | .pwr => if b = 0 then some 1760 else if b = 2 ∨ b = 3 then some 1761 else none
  | .lard => if b = 0 then some 1792 else if 2 ≤ b ∧ b ≤ 11 then some (1791 + b) else none
  | .nvs => if b = 0 then some 1856 else if 2 ≤ b ∧ b ≤ 9 then some (1855 + b) else none
  | .keys => if b = 0 then some 1888 else if 2 ≤ b ∧ b ≤ 5 then some (1887 + b) else none
  | .ptp => if b = 0 then some 1904 else if 2 ≤ b ∧ b ≤ 8 then some (1903 + b) else none
  | .hbmc k => if b = 0 then some (1936 + 8 * k) else if 2 ≤ b ∧ b ≤ 7 then some (1935 + 8 * k + b) else none
  | .fstr => if b = 0 then some 1968 else if 2 ≤ b ∧ b ≤ 6 then some (1967 + b) else none
where
  /-- Sources 1664 + 4·p to 1664 + 4·p + 3 of TDM port p (R401). -/
  tdmpSource (p : Fin 16) (b : Nat) : Option Nat :=
    if b = 0 then some (1664 + 4 * p) else if b = 2 ∨ b = 3 then some (1665 + 4 * p)
    else if b = 4 ∨ b = 5 then some (1666 + 4 * p)
    else if b = 6 ∨ b = 7 ∨ b = 8 then some (1667 + 4 * p) else none

/-- The sources that a page's events feed, each once. -/
def pageSources (p : PageRef) : List Nat :=
  ((List.range 32).filterMap (eventSource p)).eraseDups

/-- The bits of a page's EVT_PEND that feed source `s`, as a mask. -/
def sourceMask (p : PageRef) (s : Nat) : Nat :=
  (List.range 32).foldl (fun m b => if eventSource p b = some s then m + 2 ^ b else m) 0

/-- The pages whose events feed the sources of `p`: the page itself, and for COMP and SCAN the other page of the pair, which shares source 96·t + 58 (R351). -/
def pageFeeders : PageRef → List PageRef
  | .comp t => [.comp t, .scan t]
  | .scan t => [.scan t, .comp t]
  | p => [p]

end Sys2Proof.Machine
end

