-- ==== Sys2Proof/Machine/Ops.lean ====
section
/-! DEFINITION. The named operations over registers, shadows, events, errors, time and free values: every meaning acts through them. -/
namespace Sys2Proof.Machine

/-- The writable rows of a page (R5). -/
def rowsOf : PageRef → List Row
  | .top => rowsTop | .fw => rowsFw | .lane _ => rowsLane | .pcs _ => rowsPcs
  | .mac _ => rowsMac | .msec _ => rowsMsec | .ptp => rowsPtp | .siev _ => rowsSiev
  | .rout => rowsRout | .fstr => rowsFstr | .hbmc _ => rowsHbmc | .prsm _ => rowsPrsm
  | .frc _ => rowsFrc | .comp _ => rowsComp | .scan _ => rowsScan | .outc _ => rowsOutc
  | .loup => rowsLoup | .audm => rowsAudm | .asrc => rowsAsrc | .tdmp _ => rowsTdmp
  | .thrm => rowsThrm | .pwr => rowsPwr | .lard => rowsLard | .nvs => rowsNvs
  | .keys => rowsKeys | .hq => [] | .evt => [] | .pcie => []

/-- The row covers an offset. -/
def Row.covers (r : Row) (off : Nat) : Bool :=
  decide (r.off ≤ off) && decide ((off - r.off) % r.stride = 0) && decide ((off - r.off) / r.stride < r.count)

/-- The writable row at an offset of a page. -/
def rowAt (p : PageRef) (off : Nat) : Option Row := (rowsOf p).find? (fun r => r.covers off)

/-- Reset values of the read-only registers that do not reset to 0, and of the quota block's in-flight quota (R84). -/
def roReset (p : PageRef) (off : Nat) : Nat :=
  match p with
  | .top =>
    if off = Reg.TOP_ADM_ENG_LIMIT then 0x9C400 else if off = Reg.TOP_ADM_HBM_FLOOR then 0x326000
    else if off = Reg.TOP_ADM_HOST_RSV then 0x11170 else if off = Reg.TOP_ADM_PKTBUF_LIMIT then 0xB000 else 0
  | .fstr => if off = Reg.FSTR_GRAN_TOTAL ∨ off = Reg.FSTR_GRAN_FREE then 0x220000 else 0
  | .prsm _ => if off = Reg.PRSM_LEAD then 0xFFFF else 0
  | .pwr => if off = 0x40 ∨ off = 0x44 ∨ off = 0x48 then 0xFFFFFFFF else 0
  | .hq => if 0x1080 ≤ off ∧ off < 0x3000 ∧ off % 0x80 = Reg.HQ_FN_Q_INFLIGHT then 0x10 else 0
  | _ => 0

/-- The value of every register and table word after reset (R7). -/
def resetVal (a : Nat) : Word :=
  match placeOf a with
  | .page p off =>
    match rowAt p off with
    | some r => Word.of r.reset
    | none => Word.of (roReset p off)
  | _ => 0

/-- The live value at an address. -/
def Io.rd (io : Io) (a : Nat) : Word := FMap.get resetVal io.regs a

/-- Make `v` the live value at an address. -/
def Io.wr (io : Io) (a : Nat) (v : Word) : Io := { io with regs := FMap.insert io.regs a v }

/-- The live register at `off` of a page. -/
def Io.reg (io : Io) (p : PageRef) (off : Nat) : Word := io.rd (regAddr p off)

/-- Make `v` the live value of the register at `off` of a page. -/
def Io.put (io : Io) (p : PageRef) (off : Nat) (v : Word) : Io := io.wr (regAddr p off) v

/-- A field of a register of a page. -/
def Io.fld (io : Io) (p : PageRef) (off lo len : Nat) : Nat := bits (io.reg p off) lo len

/-- Replace a field of a register of a page. -/
def Io.setFld (io : Io) (p : PageRef) (off lo len v : Nat) : Io :=
  io.put p off (setBits (io.reg p off) lo len v)

/-- A one-bit field of a register of a page. -/
def Io.flag (io : Io) (p : PageRef) (off i : Nat) : Bool := bit (io.reg p off) i

/-- Replace a one-bit field of a register of a page. -/
def Io.setFlag (io : Io) (p : PageRef) (off i : Nat) (b : Bool) : Io :=
  io.put p off (setBit (io.reg p off) i b)

/-- Advance a field by `n`, saturating. -/
def Io.addSat (io : Io) (p : PageRef) (off lo len n : Nat) : Io :=
  io.setFld p off lo len (sat len (io.fld p off lo len + n))

/-- The 64-bit value of a register pair, low word first (R4). -/
def Io.wide (io : Io) (p : PageRef) (off : Nat) : Nat :=
  (io.reg p off).toNat + 2 ^ 32 * (io.reg p (off + 4)).toNat

/-- Write a register pair, low word first (R4). -/
def Io.putWide (io : Io) (p : PageRef) (off v : Nat) : Io :=
  (io.put p off (Word.of v)).put p (off + 4) (Word.of (v / 2 ^ 32))

/-- Advance a 64-bit counter of a page by `n`. -/
def Io.count (io : Io) (p : PageRef) (off n : Nat) : Io := io.putWide p off (io.wide p off + n)

/-- Advance a 48-bit counter of a page by `n`, saturating (R149). -/
def Io.count48 (io : Io) (p : PageRef) (off n : Nat) : Io := io.putWide p off (sat 48 (io.wide p off + n))


/-- Clear `n` registers of a page from `off` on. -/
def Io.clearFrom (io : Io) (p : PageRef) (off : Nat) : Nat → Io
  | 0 => io
  | n + 1 => (io.put p off 0).clearFrom p (off + 4) n

/-- The 64-bit nanosecond view of PTP time (R150). -/
def Io.ns64 (io : Io) : Nat := io.now % 2 ^ 64

/-- Let `dt` nanoseconds of the system counter pass. -/
def Io.tick (io : Io) (dt : Nat) : Io := { io with now := io.now + dt, up := io.up + dt }

/-- Put an item on the part's interfaces. -/
def Io.emit (io : Io) (x : Out) : Io := { io with out := x :: io.out }

/-- The next free value, of `n` bits: a value the manual leaves open. -/
def Io.freeNat (io : Io) (n : Nat) : Nat := (Config.freeValue io.freeCtr).toNat % 2 ^ n

/-- A free value has been taken. -/
def Io.took (io : Io) : Io := { io with freeCtr := io.freeCtr + 1 }

/-- A register takes a free value in the given field. -/
def Io.setFree (io : Io) (p : PageRef) (off lo len : Nat) : Io :=
  (io.setFld p off lo len (io.freeNat len)).took

/-- The word a read at the field's own offset returns for a shadowed register: the shadow, else the live value (R5, R39). -/
def Io.shadowRd (io : Io) (a : Nat) : Word :=
  match FMap.find io.shadow a with
  | some s => s.val
  | none => io.rd a

/-- A write lands in the shadow and marks it dirty for the function that wrote it (R39). -/
def Io.shadowWr (io : Io) (fn a : Nat) (v : Word) : Io :=
  { io with shadow := FMap.insert io.shadow a { val := v, writer := fn, dirty := true } }

/-- The addresses and values of the shadows that function `fn` has dirtied (R39). -/
def Io.dirtyOf (io : Io) (fn : Nat) : List (Nat × Word) :=
  io.shadow.filterMap (fun e => if e.2.dirty ∧ e.2.writer = fn then some (e.1, e.2.val) else none)

/-- A capture marks the captured shadows clean (R39). -/
def Io.captured (io : Io) (fn : Nat) : Io :=
  { io with shadow := io.shadow.map (fun e => if e.2.writer = fn then (e.1, { e.2 with dirty := false }) else e) }

/-- Discarded shadows take the live value again, but for those written again since (R39). -/
def Io.discard (io : Io) (as : List Nat) : Io :=
  { io with shadow := io.shadow.filter (fun e => e.2.dirty || !as.contains e.1) }

/-- Every dirty shadow of a function is discarded (R83). -/
def Io.discardOf (io : Io) (fn : Nat) : Io :=
  { io with shadow := io.shadow.filter (fun e => !(e.2.dirty && decide (e.2.writer = fn))) }

/-- Discard the shadows at addresses that satisfy `p`, dirty or not (R186, R297). -/
def Io.discardWhere (io : Io) (p : Nat → Bool) : Io :=
  { io with shadow := io.shadow.filter (fun e => !p e.1) }

/-- Captured values become live (R42). -/
def Io.makeLive (io : Io) : List (Nat × Word) → Io
  | [] => io
  | (a, v) :: xs => (io.wr a v).makeLive xs

/-! Events (R37, R79). -/

/-- The level of a source: some enabled pending bit of a page that feeds it is set (R37). -/
def Io.sourceLevel (io : Io) (p : PageRef) (s : Nat) : Bool :=
  (pageFeeders p).any fun q =>
    decide (((io.reg q Reg.EVT_PEND).toNat &&& (io.reg q Reg.EVT_EN).toNat) &&& sourceMask q s ≠ 0)

/-- Address of entry `s` of the event-to-vector map (R79). -/
def evtMapAddr (s : Nat) : Nat := 0x2000 + 4 * s

/-- Whether a source is pending, as EVT_SRC_PEND shows it (R80). -/
def Io.srcPending (io : Io) (s : Nat) : Bool := io.flag .evt (0x100 + 4 * (s / 32)) (s % 32)

/-- Send a message of a function on a vector, or set its pending bit while the vector is masked (R79). -/
def Io.message (io : Io) (fn vec : Nat) : Io :=
  let k := fn * 2048 + vec
  if io.unmasked.contains k then io.emit (.msix fn vec)
  else { io with pba := if io.pba.contains k then io.pba else k :: io.pba }

/-- The vector of a source when its map entry is enabled (R79). -/
def Io.sourceVector (io : Io) (s : Nat) : Option Nat :=
  let e := io.rd (evtMapAddr s)
  if bit e 16 then some (bits e 0 11) else none

/-- A rising edge of a source sends one message when its entry is enabled (R79). -/
def Io.edge (io : Io) (s : Nat) : Io :=
  match io.sourceVector s with
  | some v => io.message 0 v
  | none => io

/-- Some enabled source mapped to the vector is pending: only listed map entries can be enabled, since an entry resets to 0 (R79). -/
def Io.vectorHeld (io : Io) (v : Nat) : Bool :=
  io.regs.any fun e =>
    decide (0x2000 ≤ e.1 ∧ e.1 < 0x4000) && bit e.2 16 && decide (bits e.2 0 11 = v)
      && io.srcPending ((e.1 - 0x2000) / 4)

/-- The pending bit of a masked vector clears once every enabled source mapped to it has ceased to be pending (R79). -/
def Io.release (io : Io) (s : Nat) : Io :=
  match io.sourceVector s with
  | some v => if io.vectorHeld v then io else { io with pba := io.pba.filter (fun k => k ≠ v) }
  | none => io

/-- Bring one source to its level: PEND of its map entry, EVT_SRC_PEND, and the message or release that follows (R37, R79, R80). -/
def Io.setSource (io : Io) (s : Nat) (level : Bool) : Io :=
  if io.srcPending s = level then io
  else
    let io := io.setFlag .evt (0x100 + 4 * (s / 32)) (s % 32) level
    let io := io.wr (evtMapAddr s) (setBit (io.rd (evtMapAddr s)) 24 level)
    if level then io.edge s else io.release s

/-- Bring the sources of a page to their levels after its EVT_PEND or EVT_EN has changed. -/
def Io.refresh (io : Io) (p : PageRef) : Io :=
  (pageSources p).foldl (fun io s => io.setSource s (io.sourceLevel p s)) io

/-- An event of a page occurs: the bit latches in EVT_PEND, whatever EVT_EN (R37). -/
def Io.raise (io : Io) (p : PageRef) (b : Nat) : Io :=
  (io.setFlag p Reg.EVT_PEND b true).refresh p

/-! Errors (R34, R37, R38, R55). -/

/-- Record an error code with its detail in a page and raise the page's error event (R34, R37). -/
def Io.recordErr (io : Io) (p : PageRef) (code info : Nat) : Io :=
  let n := sat 8 (io.fld p Reg.ERR_CODE 16 8 + 1)
  let io := io.put p Reg.ERR_CODE (Word.of (code + n * 2 ^ 16))
  (io.put p Reg.ERR_INFO (Word.of info)).raise p 0

/-- Record a code whose ERR_INFO no rule lays out: the detail is a free value. -/
def Io.recordOpen (io : Io) (p : PageRef) (code : Nat) : Io := (io.recordErr p code (io.freeNat 32)).took

/-- The code of REG_WRITE_IGNORED of a page's class (R55). -/
def codeIgnored (p : PageRef) : Nat := errClass p * 256 + 0x01

/-- The code of DRAIN_FORCED of a page's class (R55). -/
def codeForced (p : PageRef) : Nat := errClass p * 256 + 0x02

/-- A write to a page fails and is recorded there with its reason (R38). -/
def Io.ignored (io : Io) (p : PageRef) (off reason : Nat) : Io :=
  io.recordErr p (codeIgnored p) (off % 2 ^ 14 + reason * 2 ^ 14)

/-- A write to a table window fails and is recorded in the TOP page (R38). -/
def Io.tableIgnored (io : Io) (table area entry reason : Nat) : Io :=
  io.recordErr .top 0x0101 (entry + reason * 2 ^ 14 + table * 2 ^ 24 + 2 ^ 26 + area * 2 ^ 27)

/-! State of blocks (R35). -/

/-- PAGE_STAT.STATE (R35). -/
def Io.stateOf (io : Io) (p : PageRef) : Nat := io.fld p Reg.PAGE_STAT 1 3

/-- Set PAGE_STAT.STATE. -/
def Io.setState (io : Io) (p : PageRef) (s : Nat) : Io := io.setFld p Reg.PAGE_STAT 1 3 s

/-- The block is running (STATE 2). -/
def Io.running (io : Io) (p : PageRef) : Bool := decide (io.stateOf p = 2)

/-- PAGE_STAT.BUSY. -/
def Io.busy (io : Io) (p : PageRef) : Bool := io.flag p Reg.PAGE_STAT 0

/-- The block is disabled: OFF, POWERED_DOWN or SPARE (R35). -/
def Io.isOff (io : Io) (p : PageRef) : Bool :=
  decide (io.stateOf p = 0 ∨ io.stateOf p = 5 ∨ io.stateOf p = 7)

/-- The power domain in which a page's block lies (R415): device-level blocks that the table does not list lie in the fabric half of die 0, and an output in the fabric half of its die. -/
def domainOf : PageRef → Nat
  | .prsm e => 5 * (e / 9) | .frc e => 5 * (e / 9)
  | .lane l => 5 * (l / 8) + 2 | .pcs l => 5 * (l / 8) + 2
  | .mac l => 5 * (l / 8) + 2 | .msec l => 5 * (l / 8) + 2
  | .siev t => 5 * t + 3 | .scan t => 5 * t + 3
  | .comp t => 5 * t + 4
  | .hbmc k => 80 + k | .pcie => 84
  | .audm => 86 | .asrc => 86 | .tdmp _ => 87
  | .nvs => 88 | .keys => 88 | .thrm => 89 | .pwr => 89
  | .ptp => 94 | .loup => 95
  | .outc o => 92 + o / 256
  | .top => 92 | .hq => 92 | .evt => 92 | .fw => 92 | .lard => 92 | .fstr => 92 | .rout => 92

/-- Domain `d` is powered (PWR_ON, R418). -/
def Io.domainOn (io : Io) (d : Nat) : Bool := io.flag .pwr (Reg.PWR_ON + 4 * (d / 32)) (d % 32)

/-- The tile of a page has been brought up, as FW_STAT.TILE_UP shows it; other pages need no tile (R93, R107). -/
def Io.tileUp (io : Io) (p : PageRef) : Bool :=
  decide (pageTile p = 0xFF) || io.flag .fw Reg.FW_STAT (16 + pageTile p)

/-- The page's unit is powered: its domain is on, and its tile is brought up (R17, R93). -/
def Io.powered (io : Io) (p : PageRef) : Bool :=
  io.tileUp p && io.domainOn (domainOf p)

/-- A drain begins now (R53). -/
def Io.drainFrom (io : Io) (key : Nat) : Io := { io with drains := FMap.insert io.drains key io.up }

/-- A drain has ended. -/
def Io.drained (io : Io) (key : Nat) : Io := { io with drains := FMap.erase io.drains key }

/-- A drain has run for `bound` nanoseconds (R54). -/
def Io.drainOver (io : Io) (key bound : Nat) : Bool :=
  match FMap.find io.drains key with
  | some t => decide (t + bound ≤ io.up)
  | none => false

/-! Register writes (R38). -/

/-- A field of the value lies within its stated range. -/
def FieldRange.admits (r : FieldRange) (v : Word) : Bool :=
  r.ok.any fun iv => decide (iv.1 ≤ bits v r.lo r.len) && decide (bits v r.lo r.len ≤ iv.2)

/-- The reason why a write of a block-specific register is ignored, in the order 3, 1, 2, 0 (R38). -/
def Io.writeReason (io : Io) (p : PageRef) (r : Row) (v : Word) : Option Nat :=
  if !io.powered p then some 3
  else if io.flag p Reg.PAGE_LOCK 1 then some 1
  else if r.whileOff && !io.isOff p then some 2
  else if r.flds.all (fun f => f.admits v) then none
  else some 0

/-- The stored value after a write: writable bits from `v`, the others kept (R5, R6). -/
def Row.merge (r : Row) (old v : Word) : Word :=
  (v &&& Word.of r.wmask) ||| (old &&& ~~~(Word.of r.wmask))

/-- Mark a register with reset "—" as written (R7). -/
def Io.markWritten (io : Io) (r : Row) (a : Nat) : Io :=
  if r.undef && !io.written.contains a then { io with written := a :: io.written } else io

/-- The write of a block-specific register that has passed its checks: stored, or into the shadow (R5, R39). -/
def Io.store (io : Io) (fn : Nat) (p : PageRef) (r : Row) (off : Nat) (v : Word) : Io :=
  let a := regAddr p off
  let io := io.markWritten r a
  if r.shadowed then io.shadowWr fn a (r.merge (io.shadowRd a) v)
  else io.wr a (r.merge (io.rd a) v)

/-- A write of a block-specific register: range-checked as it arrives, then stored or ignored whole (R38).
A write to a read-only or reserved offset is ignored without any record (R5, R29). -/
def Io.regWrite (io : Io) (fn : Nat) (p : PageRef) (off : Nat) (v : Word) : Io :=
  match rowAt p off with
  | none => io
  | some r =>
    match io.writeReason p r v with
    | some reason => io.ignored p off reason
    | none => io.store fn p r off v

/-- The write at `off` of a page would pass its checks. -/
def Io.accepts (io : Io) (p : PageRef) (off : Nat) (v : Word) : Bool :=
  match rowAt p off with
  | none => false
  | some r => (io.writeReason p r v).isNone

/-- Every register of the page with reset "—" has been written (R7). -/
def Io.definedAll (io : Io) (p : PageRef) : Bool :=
  (rowsOf p).all fun r => !r.undef || io.written.contains (regAddr p r.off)

/-- Block-specific registers return to their reset values (R53 step 4): live values, shadows and write marks of the page from 0x040 on. -/
def Io.resetBlock (io : Io) (p : PageRef) : Io :=
  let lo := pageBase p + 0x40
  let hi := pageBase p + pageSpan p
  let inside := fun a => decide (lo ≤ a) && decide (a < hi)
  { io with
    regs := io.regs.filter (fun e => !inside e.1)
    shadow := io.shadow.filter (fun e => !inside e.1)
    written := io.written.filter (fun a => !inside a)
    snap := io.snap.filter (fun e => !inside e.1) }

/-- A ring log of `n` entries of `words` words at `base`, whose head register holds the next entry: write the entry, advance the head. -/
def Io.logTo (io : Io) (p : PageRef) (headOff base n words : Nat) (ws : List Word) : Io :=
  let h := (io.reg p headOff).toNat % n
  let io := (ws.zipIdx).foldl (fun io e => io.put p (base + 4 * words * h + 4 * e.2) e.1) io
  io.put p headOff (Word.of ((h + 1) % n))

/-- How a command completes: status, error code, RESULT_HI and RESULT_LO (R63). -/
structure Reply where
  status : Nat
  code : Nat
  hi : Nat
  lo : Nat
  deriving DecidableEq, Repr

/-- `DONE` with results. -/
def Reply.done (hi lo : Nat) : Reply := { status := 0, code := 0, hi := hi, lo := lo }
/-- `REJECTED` with a code. -/
def Reply.rejected (code : Nat) : Reply := { status := 5, code := code, hi := 0, lo := 0 }
/-- `NOT_PERMITTED` with a code. -/
def Reply.denied (code : Nat) : Reply := { status := 7, code := code, hi := 0, lo := 0 }
/-- `OVER_QUOTA` with a code. -/
def Reply.quota (code : Nat) : Reply := { status := 8, code := code, hi := 0, lo := 0 }

/-- Offset of a register of function `f`'s quota block in the HQ pages (R84); functions lie below 64. -/
def fnReg (f off : Nat) : Nat := 0x1000 + f % 64 * 0x80 + off

/-- A register of a function's quota block. -/
def Io.fn (io : Io) (f off : Nat) : Nat := (io.reg .hq (fnReg f off)).toNat

/-- Write a register of a function's quota block; PF0 has none (R84). -/
def Io.setFn (io : Io) (f off v : Nat) : Io := if f = 0 then io else io.put .hq (fnReg f off) (Word.of v)

/-- The low 32 bits of the 64-bit nanosecond view. -/
def Io.ns32 (io : Io) : Word := Word.of io.ns64

/-- The part with its time, registers and interfaces changed by `f`. -/
def Dev.onIo (d : Dev) (f : Io → Io) : Dev := { d with io := f d.io }

/-- Let `dt` nanoseconds of the system counter pass. -/
def Dev.tick (d : Dev) (dt : Nat) : Dev := d.onIo (fun io => io.tick dt)

/-- A command changes the part by `f` and leaves the waiting commands alone. -/
def State.run (s : State) (f : Dev → Dev) : Host.Outcome State Fault Refusal :=
  .next { s with dev := f s.dev }

/-- A command whose operand lists must have the shape `ok` demands: without it there is no such command. -/
def State.runIf (s : State) (ok : Bool) (f : Dev → Dev) : Host.Outcome State Fault Refusal :=
  if ok then s.run f else .fault .illFormed

end Sys2Proof.Machine
end

