-- ==== Sys2Proof/Machine/Views.lean ====
section
/-! DEFINITION. Views of the shadowed state (R39 to R42): the fields of flows, routes, layers, outputs, egress and fast-path entries read through one view, which is the live state or the state after a commit; picture formats and rates (R167, R168, R197, R222, R229, R298, R307, R326, R334). -/
namespace Sys2Proof.Machine

/-- A view gives each register and table word a value: the live state, or the state a commit would give. `addrs` lists every address that may differ from its reset value. -/
structure View where
  get : Nat → Word
  addrs : List Nat

/-- The live view. -/
def Io.live (io : Io) : View := { get := fun a => io.rd a, addrs := io.regs.map (·.1) }

/-- A view with captured values laid over it: the last of several values for one address counts. -/
def View.over (v : View) (xs : List (Nat × Word)) : View :=
  { get := fun a =>
      match xs.reverse.find? (fun e => e.1 = a) with
      | some e => e.2
      | none => v.get a
    addrs := v.addrs ++ xs.map (·.1) }

/-- Rising indexes of the table entries of `size` bytes from `base` on, `n` of them, whose word `w` may differ from its reset value. -/
def View.entries (v : View) (base size w n : Nat) : List Nat :=
  let hits := v.addrs.filterMap fun a =>
    if base ≤ a ∧ a < base + n * size ∧ (a - base) % size = 4 * w then some ((a - base) / size) else none
  sortBy (fun a b => decide (a ≤ b)) hits.eraseDups

/-! Ingress flow entries (R167). -/

/-- Word `w` of ingress flow entry `f`. -/
def View.flow (v : View) (f w : Nat) : Word   := v.get (flowAddr f w)
/-- VALID. -/
def View.flowValid (v : View) (f : Nat) : Bool := bit (v.flow f 0) 0
/-- TYPE. -/
def View.flowType (v : View) (f : Nat) : Nat := bits (v.flow f 0) 1 3
/-- STORE. -/
def View.flowStore (v : View) (f : Nat) : Bool := bit (v.flow f 0) 4
/-- MIRROR. -/
def View.flowMirror (v : View) (f : Nat) : Bool := bit (v.flow f 0) 5
/-- PORT_A, or PORT_B. -/
def View.flowPort (v : View) (f : Nat) (legB : Bool) : Nat := bits (v.flow f 1) (if legB then 8 else 0) 7
/-- FLOW_TMO, 0 selecting 2. -/
def View.flowTmo (v : View) (f : Nat) : Nat :=
  let n := bits (v.flow f 0) 16 4
  if n = 0 then 2 else n
/-- MIRROR_WIN_US, 0 selecting 1,000. -/
def View.flowWin (v : View) (f : Nat) : Nat :=
  let n := bits (v.flow f 2) 0 15
  if n = 0 then 1000 else n
/-- CHANNELS and FIRST_CH. -/
def View.flowChannels (v : View) (f : Nat) : Nat := bits (v.flow f 27) 16 7
/-- FIRST_CH. -/
def View.flowFirstCh (v : View) (f : Nat) : Nat := bits (v.flow f 27) 0 14

/-! Rates and times (R168, R327). -/

/-- A frame rate of `num` / `den` frames per second, den 1 or 1,001; num 0 means none. -/
structure Rate where
  num : Nat
  den : Nat
  deriving DecidableEq, Repr

/-- The rate that RATE_NUM and RATE_1001 give. -/
def rateOf (w : Word) : Rate := { num := bits w 0 18, den := if bit w 31 then 1001 else 1 }

/-- The rates that R168 accepts. -/
def Rate.accepted (r : Rate) : Bool :=
  if r.den = 1 then [24, 25, 30, 48, 50, 60, 100, 120].contains r.num
  else [24000, 30000, 48000, 60000, 120000].contains r.num

/-- The frame period in nanoseconds, exactly. -/
def Rate.period (r : Rate) : Q := Q.of (r.den * nsPerS) r.num
where
  /-- Nanoseconds in a second. -/
  nsPerS : Nat := 1000000000

/-- Frames begun by instant `t` on the grid of the rate with an offset: the number of the last frame whose boundary is at or before `t`. -/
def Rate.frameAt (r : Rate) (phase t : Nat) : Nat := (t - phase) * r.num / (r.den * 1000000000)

/-- The number of the first frame whose boundary is at or after `t`. -/
def Rate.frameFrom (r : Rate) (phase t : Nat) : Nat := ceilDiv ((t - phase) * r.num) (r.den * 1000000000)

/-- The boundary of frame `n`, rounded down to the nanosecond view. -/
def Rate.boundary (r : Rate) (phase n : Nat) : Nat := n * r.den * 1000000000 / r.num + phase

/-- Packet times per second of a PTIME value, as a fraction (R167, R231). -/
def ptimeRate (p : Nat) : Rate :=
  if p = 0 then { num := 8000, den := 1 } else if p = 1 then { num := 4000, den := 1 }
  else if p = 2 then { num := 3000, den := 1 } else if p = 3 then { num := 1000, den := 1 }
  else { num := 250, den := 1 }

/-- The frame rate of a flow, or its packet rate for audio (R231). -/
def View.flowRate (v : View) (f : Nat) : Rate :=
  if v.flowType f = 2 ∨ v.flowType f = 3 then ptimeRate (bits (v.flow f 27) 26 3) else rateOf (v.flow f 26)

/-- RTP clock of a flow in Hz (R173). -/
def View.flowClock (v : View) (f : Nat) : Nat :=
  let t := v.flowType f
  if t = 5 then 27000000 else if t = 2 ∨ t = 3 then (if bit (v.flow f 27) 24 then 96000 else 48000) else 90000

/-! Picture formats (R168, R197, R198). -/

/-- A stored picture: its size, sampling, depth code, scan, colour description, range and rate. -/
structure Pic where
  w : Nat
  h : Nat
  sampling : Nat
  depth : Nat
  scan : Nat
  color : Nat
  tcs : Nat
  full : Bool
  rate : Rate
  deriving DecidableEq, Repr

/-- Bits of a depth code. -/
def depthBits (d : Nat) : Nat := if d = 0 then 8 else if d = 1 then 10 else if d = 2 then 12 else 16

/-- Twice the samples per pixel of a sampling (R198). -/
def samples2 (s : Nat) : Nat :=
  if s = 0 ∨ s = 4 then 4 else if s = 2 then 3 else if s = 8 then 8 else 6

/-- Twice the bits per stored pixel. -/
def bpp2 (sampling depth : Nat) : Nat := samples2 sampling * depthBits depth

/-- Bytes per line of a store (R198). -/
def pitchOf (w sampling depth : Nat) : Nat := ceilDiv (w * bpp2 sampling depth) (16 * 256) * 256

/-- Granules per slot of a video store (R198). -/
def slotGranules (w h sampling depth : Nat) : Nat := ceilDiv (pitchOf w sampling depth * h) 65536

/-- The picture of an ingress flow (R167). -/
def View.flowPic (v : View) (f : Nat) : Pic :=
  let a := v.flow f 24
  let b := v.flow f 25
  { w := bits a 0 14, h := bits a 16 14, sampling := bits b 0 4, depth := bits b 4 2, scan := bits b 6 2
    color := bits b 8 4, tcs := bits b 12 4, full := bit b 16, rate := rateOf (v.flow f 26) }

/-! Frame stores (R196). -/

/-- A known handle: its index is allocated, its generation current, its reserved bit 0 (R196). -/
def Stores.known (st : Stores) (h : Nat) : Option Store :=
  match FMap.find st.table (h % 65536) with
  | some s => if h / 65536 = s.gen then some s else none
  | none => none

/-- The handle value of an index. -/
def Store.handle (s : Store) (i : Nat) : Nat := i + s.gen * 65536

/-- The picture that a video store holds; its colour description comes from word 20 of the layer context (R249). -/
def Store.pic (s : Store) (w20 : Word) (rate : Rate) : Pic :=
  { w := s.width, h := s.height, sampling := s.format % 16, depth := s.format / 16 % 4, scan := s.format / 64 % 4
    color := bits w20 0 4, tcs := bits w20 4 4, full := bit w20 8, rate := rate }

/-! Route entries (R222). -/

/-- Word `w` of the route entry of output `o`. -/
def View.route (v : View) (o w : Nat) : Word   := v.get (routeAddr o w)
/-- SLOT_EN bit of slot `k`. -/
def View.slotEn (v : View) (o k : Nat) : Bool := bit (v.route o 0) k
/-- LAYER of slot `k`. -/
def View.slotLayer (v : View) (o k : Nat) : Nat := bits (v.route o (16 + 8 * k)) 0 12
/-- SRC_KIND or BKP_KIND. -/
def View.slotKind (v : View) (o k : Nat) (backup : Bool) : Nat :=
  bits (v.route o (16 + 8 * k)) (if backup then 18 else 16) 2
/-- SOURCE or BACKUP. -/
def View.slotSrc (v : View) (o k : Nat) (backup : Bool) : Nat :=
  (v.route o ((if backup then 18 else 17) + 8 * k)).toNat
/-- LOSS. -/
def View.slotLoss (v : View) (o k : Nat) : Nat := bits (v.route o (16 + 8 * k)) 20 2
/-- REVERT. -/
def View.slotRevert (v : View) (o k : Nat) : Bool := bit (v.route o (16 + 8 * k)) 22
/-- The enabled slots of an output. -/
def View.enabledSlots (v : View) (o : Nat) : List Nat := (List.range 16).filter (v.slotEn o)
/-- The slot that routes a layer. -/
def View.slotOf (v : View) (o l : Nat) : Option Nat := (v.enabledSlots o).find? (fun k => v.slotLayer o k = l)

/-! Layer contexts (R298, R299). -/

/-- Word `w` of layer context `l`. -/
def View.layer (v : View) (l w : Nat) : Word   := v.get (laycAddr l w)
/-- ALLOCATED. -/
def View.layerUsed (v : View) (l : Nat) : Bool := bit (v.layer l 32) 15
/-- OUTPUT to which it is bound. -/
def View.layerOut (v : View) (l : Nat) : Nat := bits (v.layer l 32) 0 9
/-- OWNER. -/
def View.layerOwner (v : View) (l : Nat) : Nat := bits (v.layer l 32) 16 6
/-- HIDDEN. -/
def View.layerHidden (v : View) (l : Nat) : Bool := bit (v.layer l 32) 23
/-- STATIC. -/
def View.layerStatic (v : View) (l : Nat) : Bool := bit (v.layer l 0) 4
/-- Z. -/
def View.layerZ (v : View) (l : Nat) : Nat := bits (v.layer l 0) 0 4
/-- PRIORITY. -/
def View.layerPriority (v : View) (l : Nat) : Nat := bits (v.layer l 0) 8 8
/-- MODE of the frame-rate stage. -/
def View.layerMode (v : View) (l : Nat) : Nat := bits (v.layer l 24) 0 2
/-- DELAY_ADD_US, 0 selecting 1,000. -/
def View.layerDelayAdd (v : View) (l : Nat) : Nat :=
  let n := bits (v.layer l 25) 0 16
  if n = 0 then 1000 else n
/-- Delay factor k (R271). -/
def View.delayFactor (v : View) (l : Nat) : Nat :=
  if v.layerMode l = 1 then 1 else if v.layerMode l = 2 then 2 else if bit (v.layer l 24) 2 then 7 else 3

/-- A rectangle. -/
structure Rect where
  x : Nat
  y : Nat
  w : Nat
  h : Nat
  deriving DecidableEq, Repr

/-- Destination rectangle of a layer. -/
def View.layerDst (v : View) (l : Nat) : Rect :=
  { x := bits (v.layer l 2) 0 14, y := bits (v.layer l 2) 16 14, w := bits (v.layer l 3) 0 14, h := bits (v.layer l 3) 16 14 }

/-- Source rectangle of a layer in a picture, 0 selecting the whole size. -/
def View.layerSrc (v : View) (l : Nat) (p : Pic) : Rect :=
  let w := bits (v.layer l 5) 0 14
  let h := bits (v.layer l 5) 16 14
  { x := bits (v.layer l 4) 0 14, y := bits (v.layer l 4) 16 14
    w := if w = 0 then p.w else w, h := if h = 0 then p.h else h }

/-! Outputs (R306, R307, R326). -/

/-- A register of an `OUTC` page. -/
def View.outc (v : View) (o off : Nat) : Word   := v.get (0x2000000 + o * 0x1000 + off)
/-- The timing of an output in a view. -/
def View.timing (v : View) (o : Nat) : Timing :=
  let r := rateOf (v.outc o Reg.OUTC_RATE)
  { num := r.num, den := r.den, phase := bits (v.outc o Reg.OUTC_PHASE) 0 26
    vTotal := bits (v.outc o Reg.OUTC_VTIMING) 0 14, actW := bits (v.outc o Reg.OUTC_RASTER) 0 14
    actH := bits (v.outc o Reg.OUTC_RASTER) 16 14, scan := bits (v.outc o Reg.OUTC_VTIMING) 16 2 }
/-- The frame rate of a timing. -/
def Timing.rate (t : Timing) : Rate := { num := t.num, den := t.den }
/-- The picture format of an output. -/
def View.outPic (v : View) (o : Nat) : Pic :=
  let t := v.timing o
  let f := v.outc o Reg.OUTC_OUT_FMT
  { w := t.actW, h := t.actH, sampling := bits f 0 4, depth := bits f 4 2, scan := t.scan
    color := bits f 8 4, tcs := bits f 12 4, full := bit f 16, rate := t.rate }
/-- LEGACY. -/
def View.legacy (v : View) (o : Nat) : Bool := bit (v.outc o Reg.OUTC_COMP_CFG) 0
/-- The Lid of an output when enabled (R309). -/
def View.lid (v : View) (o : Nat) : Option Nat :=
  let w := v.outc o Reg.OUTC_LID
  if bit w 12 then some (bits w 0 12) else none
/-- WB_EN. -/
def View.wbOn (v : View) (o : Nat) : Bool := bit (v.outc o Reg.OUTC_WB) 0
/-- The write-back handle. -/
def View.wbHandle (v : View) (o : Nat) : Nat := (v.outc o Reg.OUTC_WB_HANDLE).toNat
/-- First line of field 2 (R328). -/
def Timing.field2 (t : Timing) : Nat := ceilDiv t.vTotal 2
/-- The raster line that follows the last active line of the frame (R328). -/
def Timing.blankFrom (t : Timing) : Nat := if t.scan = 0 then t.actH else t.field2 + t.actH / 2
/-- Lines of the vertical blanking of R46. -/
def Timing.blankLines (t : Timing) : Nat := t.vTotal - t.blankFrom
/-- The latch line (R46, R328). -/
def Timing.latchLine (t : Timing) (guard : Nat) : Nat := t.blankFrom + guard
/-- The start of raster line `y` of frame `n` is at or before instant `now`. -/
def Timing.lineBegun (t : Timing) (n y now : Nat) : Bool :=
  decide ((n * t.vTotal + y) * t.den * 1000000000 ≤ (now - t.phase) * t.num * t.vTotal) && decide (t.phase ≤ now)
/-- The start of raster line `y` of frame `n`, rounded down. -/
def Timing.lineStart (t : Timing) (n y : Nat) : Nat :=
  (n * t.vTotal + y) * t.den * 1000000000 / (t.num * t.vTotal) + t.phase

/-! Fast-path and egress entries (R229, R334). -/

/-- Word `w` of a fast-path entry. -/
def View.fast (v : View) (e w : Nat) : Word   := v.get (fastAddr e w)
/-- EN. -/
def View.fastEn (v : View) (e : Nat) : Bool := bit (v.fast e 0) 0
/-- SOURCE. -/
def View.fastSrc (v : View) (e : Nat) : Nat := bits (v.fast e 1) 0 12
/-- BACKUP with BACKUP_EN. -/
def View.fastBkp (v : View) (e : Nat) : Option Nat := if bit (v.fast e 0) 2 then some (bits (v.fast e 2) 0 12) else none
/-- STATE: 0 OFF, 1 FAST, 2 PROMOTED. -/
def View.fastState (v : View) (e : Nat) : Nat := bits (v.fast e 16) 0 2
/-- PROMOTE_OUTPUT. -/
def View.fastOut (v : View) (e : Nat) : Nat := bits (v.fast e 3) 0 9
/-- Word `w` of an egress entry. -/
def View.egr (v : View) (e w : Nat) : Word   := v.get (egrAddr e w)
/-- VALID. -/
def View.egrValid (v : View) (e : Nat) : Bool := bit (v.egr e 0) 0
/-- TYPE. -/
def View.egrType (v : View) (e : Nat) : Nat := bits (v.egr e 0) 1 3
/-- FEED. -/
def View.egrFeed (v : View) (e : Nat) : Nat := bits (v.egr e 0) 4 2
/-- OUTPUT. -/
def View.egrOut (v : View) (e : Nat) : Nat := bits (v.egr e 24) 0 9
/-- Ports on which the flow sends. -/
def View.egrPorts (v : View) (e : Nat) : List Nat :=
  bits (v.egr e 1) 0 7 :: (if bit (v.egr e 0) 7 then [bits (v.egr e 1) 8 7] else [])
/-- MAX_PAYLOAD, 0 selecting 1,200. -/
def View.egrPayload (v : View) (e : Nat) : Nat :=
  let n := bits (v.egr e 24) 16 14
  if n = 0 then 1200 else n

/-- Fields in which a flow shares timing with the reference format, by TYPE (R230): word 24 to 27 of the flow against the copies. -/
def sharesTiming (typ : Nat) (a b : Nat → Word) : Bool :=
  let same := fun w lo n => decide (bits (a w) lo n = bits (b w) lo n)
  let rate := same 26 0 18 && same 26 31 1
  if typ = 0 then same 24 0 14 && same 24 16 14 && same 25 0 8 && same 25 17 3 && rate
  else if typ = 1 then same 24 0 14 && same 24 16 14 && same 25 6 2 && same 25 18 2 && rate
  else if typ = 5 then same 24 16 14 && same 25 6 2 && rate
  else if typ = 2 then same 27 16 7 && same 27 24 2 && same 27 26 3
  else if typ = 3 then same 27 16 7 && same 27 24 1 && same 27 26 3
  else rate

/-- All indexes below `n` at which a predicate holds. -/
def allWhere (n : Nat) (p : Nat → Bool) : List Nat := (List.range n).filter p

/-- The valid ingress flows. -/
def View.flows (v : View) : List Nat := (v.entries 0x2300000 0x100 0 4096).filter v.flowValid

/-- The valid egress flows. -/
def View.egrs (v : View) : List Nat := (v.entries 0x6000000 0x100 0 4096).filter v.egrValid

/-- The fast-path entries with EN. -/
def View.fasts (v : View) : List Nat := (v.entries 0x5000000 0x100 0 4096).filter v.fastEn

/-- The allocated layer contexts, rising. -/
def View.layers (v : View) : List Nat := (v.entries 0x2200000 0x100 32 4096).filter v.layerUsed

/-- The layer contexts bound to an output, rising (R295). -/
def View.layersOf (v : View) (o : Nat) : List Nat := v.layers.filter (fun l => v.layerOut l = o)

/-- The outputs whose route entry enables some slot, rising. -/
def View.routedOuts (v : View) : List Nat := v.entries 0x4000000 0x400 0 512

/-- Output `o` is enabled. -/
def Io.outOn (io : Io) (o : Nat) : Bool := decide (io.stateOf (.outc (Fin.ofNat 512 o)) = 1 ∨ io.stateOf (.outc (Fin.ofNat 512 o)) = 2)

/-- The enabled outputs, rising. -/
def Io.outsOn (io : Io) : List Nat := (io.live.entries 0x2000000 0x1000 5 512).filter io.outOn

/-- The page of output `o`. -/
def outPage (o : Nat) : PageRef := .outc (Fin.ofNat 512 o)

/-- A port is configured: its PCS page is enabled, so that it is the lowest lane of a port that serves (R32, R170). -/
def Io.portConfigured (io : Io) (p : Nat) : Bool := decide (p < 128) && io.running (.pcs (Fin.ofNat 128 p))

end Sys2Proof.Machine
end

