-- ==== Sys2Proof/Machine/Stores.lean ====
section
/-! DEFINITION. Frame stores, the BAR2 aperture and HBM errors (R193 to R221): what each operation does to the handle table, the slots, the mappings, HBM and the FSTR and HBMC pages. -/
namespace Sys2Proof.Machine

/-- What a byte of HBM that nothing has written reads as: no rule states it, and the model takes 0 (DESIGN CHOICE, unsafe: notes/assumptions). -/
def hbmUnlisted (_ : Nat) : Byte := 0

/-- Key of byte `off` of a handle index in HBM. -/
def hbmKey (i off : Nat) : Nat := i * 2 ^ 33 + off

/-- Key of the 256-byte block that holds byte `off` of a handle index. -/
def blockKey (i off : Nat) : Nat := i * 2 ^ 25 + off / 256

/-- The byte at `off` of a handle index. -/
def Stores.byte (st : Stores) (i off : Nat) : Byte := FMap.get hbmUnlisted st.hbm (hbmKey i off)

/-- `n` bytes from `off` of a handle index. -/
def Stores.bytes (st : Stores) (i off n : Nat) : List Byte := (List.range n).map (fun k => st.byte i (off + k))

/-- A write of bytes; a write of a whole block clears its error (R213). -/
def Stores.write (st : Stores) (i off : Nat) (bs : List Byte) : Stores :=
  let hbm := bs.zipIdx.foldl (fun m e => FMap.set hbmUnlisted m (hbmKey i (off + e.2)) e.1) st.hbm
  let whole := fun key =>
    let b := key % 2 ^ 25
    decide (key / 2 ^ 25 = i) && decide (off ≤ b * 256) && decide (b * 256 + 256 ≤ off + bs.length)
  { st with hbm := hbm, poisoned := st.poisoned.filter (fun k => !whole k) }

/-- Change the store of an allocated index. -/
def Stores.modify (st : Stores) (i : Nat) (f : Store → Store) : Stores :=
  match FMap.find st.table i with
  | some s => { st with table := FMap.insert st.table i (f s) }
  | none => st

/-- Change a slot of a store. -/
def Store.setSlot (s : Store) (k : Nat) (f : Slot → Slot) : Store := { s with slots := modifyAt f k s.slots }

/-- The slot numbers of a store in a state. -/
def Store.inState (s : Store) (x : Nat) : List Nat :=
  s.slots.zipIdx.filterMap (fun e => if e.1.state = x then some e.2 else none)

/-- The NEWEST slot. -/
def Store.newest (s : Store) : Option Nat := (s.inState 3).head?

/-- A slot number in a state that readers may pick: READY or NEWEST (R200). -/
def Store.published_ (s : Store) (k : Nat) : Bool :=
  match s.slots[k]? with
  | some x => decide (x.state ≥ 2)
  | none => false

/-- Granules that a store takes (R199). -/
def Store.granules (s : Store) : Nat := s.slots.length * s.slotG

/-- Granules that a function holds (R199). -/
def Stores.heldBy (st : Stores) (fn : Nat) : Nat :=
  st.table.foldl (fun n e => if e.2.owner = fn then n + e.2.granules else n) 0

/-- Granules of 64 KiB rounded up to MiB (R199). -/
def mibOf (granules : Nat) : Nat := ceilDiv granules 16

/-- Show the memory that a function holds in `HQ_FN_U_HBM` (R199). -/
def Io.showHeld (io : Io) (st : Stores) (fn : Nat) : Io := io.setFn fn 0x20 (mibOf (st.heldBy fn))

/-- Show the number of handles allocated and FREEING (R217). -/
def Io.showHandles (io : Io) (st : Stores) : Io :=
  io.put .fstr Reg.FSTR_HANDLES
    (Word.of (st.table.length + (st.table.filter (fun e => e.2.freeing)).length * 2 ^ 16))

/-- `FSTR_GRAN_FREE` takes a new value; falling below `FSTR_LOW_WATER` raises `MEMORY_LOW` (R199). -/
def Io.setFree_ (io : Io) (n : Nat) : Io :=
  let old := (io.reg .fstr Reg.FSTR_GRAN_FREE).toNat
  let low := (io.reg .fstr Reg.FSTR_LOW_WATER).toNat
  let io := io.put .fstr Reg.FSTR_GRAN_FREE (Word.of n)
  if n < low ∧ low ≤ old then io.raise .fstr 6 else io

/-- The next generation of an index (R196). -/
def nextGen (g : Nat) : Nat := if g ≥ 32767 then 1 else g + 1

/-- The current generation of an index: 1 before the first free completes (R196). -/
def Stores.genOf (st : Stores) (i : Nat) : Nat := (FMap.find st.gens i).getD 1

/-- The lowest index from `i` on that is not allocated. -/
def freeIndex (t : FMap Store) : Nat → Nat → Option Nat
  | 0, _ => none
  | n + 1, i => if (FMap.find t i).isNone then some i else freeIndex t n (i + 1)

/-- The fields of `CMD_FS_ALLOC` lie within their ranges, and their combination is allowed (R197). -/
def fsFormatOk (p0 p1 p2 : Word) : Bool :=
  let slots := bits p0 0 3
  let kind := bits p0 4 2
  let writer := bits p0 6 2
  let sampling := bits p2 0 4
  decide (1 ≤ slots ∧ slots ≤ 6) && decide (kind ≠ 3) && decide (writer ≠ 3) &&
  !(decide (writer = 1) && decide (kind = 2)) && !(bit p0 8 && decide (writer ≠ 0)) &&
  (decide (kind ≠ 0) ||
    (decide (16 ≤ bits p1 0 14 ∧ bits p1 0 14 ≤ 8192) && decide (16 ≤ bits p1 16 14 ∧ bits p1 16 14 ≤ 8192) &&
      decide (sampling ≤ 5 ∨ sampling = 8) && decide (bits p2 6 2 ≠ 3))) &&
  (decide (kind ≠ 2) || decide (1 ≤ p1.toNat ∧ p1.toNat ≤ 1073741824))

/-- Granules per slot that the parameters give (R198). -/
def fsSlotG (p0 p1 p2 : Word) : Nat :=
  if bits p0 4 2 = 0 then slotGranules (bits p1 0 14) (bits p1 16 14) (bits p2 0 4) (bits p2 4 2)
  else if bits p0 4 2 = 1 then 1
  else ceilDiv p1.toNat 65536

/-- A new store. -/
def newStore (fn gen : Nat) (p0 p1 p2 : Word) (clock : Nat) : Store :=
  let video := decide (bits p0 4 2 = 0)
  { gen := gen, owner := fn, kind := bits p0 4 2, writer := bits p0 6 2, auth := bit p0 8, keySlot := bits p0 16 9
    width := if video then bits p1 0 14 else 0, height := if video then bits p1 16 14 else 0
    slotBytes := if bits p0 4 2 = 2 then p1.toNat else 0, format := bits p2 0 8, slotG := fsSlotG p0 p1 p2
    slots := (List.range (bits p0 0 3)).map fun k => { state := 0, freed := clock + k, count := 0, media := 0, rtp := 0, at_ := 0 }
    fence := false, freeing := false, published := 0, pins := [], waiter := none, bad := [] }

/-- `CMD_FS_ALLOC` (R197 to R199): permission first, then the fields, the quota, the pool and the index. -/
def fsAlloc (fn : Nat) (p0 p1 p2 : Word) (io : Io) (st : Stores) : Reply × Io × Stores :=
  let g := fsSlotG p0 p1 p2
  let need := bits p0 0 3 * g
  let free := (io.reg .fstr Reg.FSTR_GRAN_FREE).toNat
  if bit p0 8 ∧ fn ≠ 0 then (Reply.denied 0x0217, io, st)
  else if !fsFormatOk p0 p1 p2 then (Reply.rejected 0x0814, io, st)
  else if fn ≠ 0 ∧ (st.heldBy fn + need) * 64 > io.fn fn 0 * 1024 then (Reply.quota 0x0220, io, st)
  else if free < need then (Reply.rejected 0x0811, io, st)
  else
    match freeIndex st.table 65535 1 with
    | none => (Reply.rejected 0x0812, io, st)
    | some i =>
      let s := newStore fn (st.genOf i) p0 p1 p2 st.clock
      let st := { st with table := FMap.insert st.table i s, clock := st.clock + s.slots.length }
      let io := ((io.setFree_ (free - need)).showHandles st).showHeld st fn
      (Reply.done g (s.handle i), io, st)

/-- A slot takes up FREE, and its place in the order of free slots (R202). -/
def Stores.toFree (st : Stores) (i k : Nat) : Stores :=
  { st.modify i (fun s => s.setSlot k (fun x => { x with state := 0, freed := st.clock })) with clock := st.clock + 1 }

/-- Publish a slot: NEWEST, the previous NEWEST becomes READY, and the fence signals (R200, R204). -/
def Stores.publish (st : Stores) (i k rtp media now : Nat) : Stores :=
  st.modify i fun s =>
    let slots := s.slots.map (fun x => if x.state = 3 then { x with state := 2 } else x)
    let n := sat 32 (s.published + 1)
    { s with
      slots := modifyAt (fun x => { x with state := 3, count := n, rtp := rtp, media := media, at_ := now }) k slots
      fence := true
      published := n }

/-- The oldest FREE slot (R202). -/
def Store.oldestFree (s : Store) : Option Nat :=
  (s.slots.zipIdx.foldl (fun best e =>
    if e.1.state = 0 then
      match best with
      | some (f, _) => if e.1.freed < f then some (e.1.freed, e.2) else best
      | none => some (e.1.freed, e.2)
    else best) (none : Option (Nat × Nat))).map (·.2)

/-- A writer starts a frame: it opens the oldest FREE slot, or discards the frame (R202). -/
def openSlot (i : Nat) (io : Io) (st : Stores) : Option Nat × Io × Stores :=
  match FMap.find st.table i with
  | none => (none, io, st)
  | some s =>
    match s.oldestFree with
    | some k => (some k, io, st.modify i (fun s => s.setSlot k (fun x => { x with state := 1 })))
    | none =>
      let io := io.count48 .fstr 0x88 1
      let quiet := match FMap.find st.starvedAt i with
        | some t => decide (t + 1000000000 ≤ io.up)
        | none => true
      (none, if quiet then io.raise .fstr 3 else io, { st with starvedAt := FMap.insert st.starvedAt i io.up })

/-- Write an FSTR log entry (R217). -/
def Io.fstrLog (io : Io) (i slot event fn : Nat) : Io :=
  io.logTo .fstr Reg.FSTR_LOG_HEAD 0x200 64 2
    [Word.of (i % 2 ^ 16 + slot % 8 * 2 ^ 16 + event * 2 ^ 20 + fn * 2 ^ 24), io.ns32]

/-! The BAR2 aperture (R209 to R211). -/

/-- Aperture slots of a function (R209). -/
def apSlots (fn : Nat) : Nat := if fn = 0 then 4096 else 64

/-- Where an aperture address leads: aperture slot, and the mapping with the handle offset of the address. -/
def Stores.apTarget (st : Stores) (fn addr : Nat) : Option (Nat × Nat × Bool) :=
  if addr / 2 ^ 24 < apSlots fn then
    (FMap.find st.maps (fn * 4096 + addr / 2 ^ 24)).map fun m => (m.1, m.2.1 * 65536 + addr % 2 ^ 24, m.2.2)
  else none

/-- The store slot that holds `n` bytes from `off`, when they lie in one slot of the handle. -/
def Store.slotAt (s : Store) (off n : Nat) : Option Nat :=
  let size := s.slotG * 65536
  let k := off / size
  if k < s.slots.length ∧ off + n ≤ (k + 1) * size then some k else none

/-- The conditions under which an aperture write lands, with the slot it lands in (R211). -/
def Stores.apLands (st : Stores) (fn addr n : Nat) : Option (Nat × Nat × Nat) :=
  match st.apTarget fn addr with
  | none => none
  | some (h, off, w) =>
    match st.known h with
    | none => none
    | some s =>
      match s.slotAt off n with
      | none => none
      | some k =>
        let ok := match s.slots[k]? with
          | some x => decide (x.state ≤ 1)
          | none => false
        if w && decide (s.writer = 0) && !s.freeing && ok && decide (addr % 2 ^ 24 + n ≤ 2 ^ 24) then
          some (h % 65536, k, off)
        else none

/-- An aperture write (R211). -/
def apWrite (fn addr : Nat) (bs : List Byte) (io : Io) (st : Stores) : Io × Stores :=
  match st.apLands fn addr bs.length with
  | some (i, k, off) =>
    (io, (st.modify i (fun s => s.setSlot k (fun x => { x with state := 1 }))).write i off bs)
  | none =>
    let io := io.count48 .fstr 0x80 1
    let io := io.recordErr .fstr 0x0819 (addr / 2 ^ 24 % 2 ^ 12 + fn * 2 ^ 12)
    let quiet := match st.dropAt with
      | some t => decide (t + 1000000000 ≤ io.up)
      | none => true
    let i := match st.apTarget fn addr with
      | some (h, _, _) => h % 65536
      | none => 0
    let io := if quiet then (io.fstrLog i 0 2 fn).raise .fstr 2 else io
    (io, { st with dropAt := some io.up })

/-- The bytes that an aperture read returns: zeros for an unmapped slot and beyond the end of the handle (R209). -/
def Stores.apBytes (st : Stores) (fn addr n : Nat) : List Byte :=
  (List.range n).map fun j =>
    match st.apTarget fn (addr + j) with
    | some (h, off, _) =>
      match st.known h with
      | some s => if off < s.granules * 65536 then st.byte (h % 65536) off else 0
      | none => 0
    | none => 0

/-- Some byte of an aperture read lies in a block with an uncorrectable error (R213). -/
def Stores.apPoisoned (st : Stores) (fn addr n : Nat) : Bool :=
  (List.range n).any fun j =>
    match st.apTarget fn (addr + j) with
    | some (h, off, _) => let k := blockKey (h % 65536) off; st.poisoned.contains k || st.dead.contains k
    | none => false

/-- `n` aperture slots from `a` on are free. -/
def Stores.apFree (st : Stores) (fn a n : Nat) : Bool :=
  (List.range n).all fun j => (FMap.find st.maps (fn * 4096 + a + j)).isNone

/-- The lowest run of `n` free aperture slots, by trial from `a` on. -/
def Stores.apRun (st : Stores) (fn n : Nat) : Nat → Nat → Option Nat
  | 0, _ => none
  | k + 1, a =>
    if a + n ≤ apSlots fn ∧ st.apFree fn a n then some a else st.apRun fn n k (a + 1)

/-- `CMD_FS_MAP` on a handle that its issuer may name (R210). -/
def fsMap (fn h : Nat) (p1 p2 p3 : Word) (st : Stores) : Reply × Stores :=
  let n := bits p1 16 8
  let g := bits p2 0 24
  match st.known h with
  | none => (Reply.rejected 0x0810, st)
  | some s =>
    if s.freeing then (Reply.rejected 0x0813, st)
    else
      let first := if bit p1 15 then st.apRun fn n (apSlots fn) 0 else some (bits p1 0 12)
      match first with
      | none => (Reply.rejected 0x0818, st)
      | some a =>
        if a + n > apSlots fn ∨ !st.apFree fn a n ∨ g + 256 * (n - 1) ≥ s.granules then (Reply.rejected 0x0818, st)
        else
          let maps := (List.range n).foldl (fun m j => FMap.insert m (fn * 4096 + a + j) (h, g + 256 * j, bit p3 0)) st.maps
          (Reply.done 0 a, { st with maps := maps })

/-- UNMAP releases the slots; a slot number beyond the function's BAR2 is refused (R210). -/
def fsUnmap (fn : Nat) (p1 : Word) (st : Stores) : Reply × Stores :=
  let a := bits p1 0 12
  let n := bits p1 16 8
  if a + n > apSlots fn then (Reply.rejected 0x0818, st)
  else (Reply.done 0 a, { st with maps := (List.range n).foldl (fun m j => FMap.erase m (fn * 4096 + a + j)) st.maps })

/-- Unmap every aperture slot that maps a handle (R208). -/
def Stores.unmapAll (st : Stores) (h : Nat) : Stores := { st with maps := st.maps.filter (fun e => e.2.1 ≠ h) }

/-- `FSTR_MAP_QUERY` snapshots an aperture mapping (R217). -/
def fstrMapQuery (v : Word) (io : Io) (st : Stores) : Io :=
  let io := io.regWrite 0 .fstr Reg.FSTR_MAP_QUERY v
  match FMap.find st.maps (bits v 12 6 * 4096 + bits v 0 12) with
  | some m =>
    (io.put .fstr Reg.FSTR_MAP_DATA0 (Word.of m.1)).put .fstr Reg.FSTR_MAP_DATA1 (Word.of (m.2.1 + b2n m.2.2 * 2 ^ 24))
  | none => (io.put .fstr Reg.FSTR_MAP_DATA0 0).put .fstr Reg.FSTR_MAP_DATA1 0

/-! HBM errors (R212 to R216). -/

/-- Spare rows that a bank starts with: no rule states the number. -/
def spareRows (e : HbmError) : Nat := Config.spareRows e.stack e.pch e.bank

/-- Write an HBMC log entry (R219). -/
def Io.hbmLog (io : Io) (e : HbmError) (kind : Nat) : Io :=
  io.logTo (.hbmc e.stack) Reg.HBMC_LOG_HEAD 0x100 16 2
    [Word.of (e.pch.val + e.bank.val * 2 ^ 5 + e.row.val * 2 ^ 11 + kind * 2 ^ 29), io.ns32]

/-- Rows already repaired in the bank of an error. -/
def Stores.bankRepairs (st : Stores) (e : HbmError) : Nat :=
  (st.repaired.filter (fun r => decide (r.1 = e.stack.val ∧ r.2.1 = e.pch.val ∧ r.2.2.1 = e.bank.val))).length

/-- Soft repair of the row, or its blocks marked permanently poisoned when the bank has no spare row (R214, R215).
The last component says that a row was repaired, for the repair map. -/
def softRepair (e : HbmError) (io : Io) (st : Stores) : Io × Stores × Bool :=
  let pg : PageRef := .hbmc e.stack
  if st.bankRepairs e < spareRows e then
    let io := (io.addSat pg Reg.HBMC_PPR_STAT 0 16 1).setFld pg Reg.HBMC_PPR_STAT 16 16 (io.fld pg Reg.HBMC_PPR_STAT 16 16 - 1)
    ((io.hbmLog e 2).raise pg 4,
      { st with repaired := (e.stack.val, e.pch.val, e.bank.val, e.row.val) :: st.repaired
                rows := st.rows.filter (fun r => !(decide (r.stack = e.stack.val ∧ r.pch = e.pch.val ∧ r.bank = e.bank.val ∧ r.row = e.row.val))) },
      true)
  else
    let io := ((io.hbmLog e 3).recordOpen pg 0x1311).raise pg 5
    let st := { st with dead := e.blocks ++ st.dead }
    (io, e.blocks.foldl (fun st b =>
      st.modify (b / 2 ^ 25) (fun s => { s with bad := (b % 2 ^ 25 / 256 :: s.bad).eraseDups })) st, false)

/-- The row's record of correctable errors within 24 hours, with the new ones (R214). -/
def Stores.rowTimes (st : Stores) (e : HbmError) (now : Nat) : List Nat :=
  let old := match st.rows.find? (fun r => decide (r.stack = e.stack.val ∧ r.pch = e.pch.val ∧ r.bank = e.bank.val ∧ r.row = e.row.val)) with
    | some r => r.times
    | none => []
  old.filter (fun t => decide (now ≤ t + 86400000000000)) ++ List.replicate (min e.corrected 256) now

/-- A read meets errors at a row: counted, logged and repaired (R212 to R215). -/
def hbmError (e : HbmError) (io : Io) (st : Stores) : Io × Stores × Bool :=
  let pg : PageRef := .hbmc e.stack
  let io := if e.corrected = 0 then io else (io.count48 pg Reg.HBMC_CORR_LO e.corrected).hbmLog e 0
  let times := st.rowTimes e io.up
  let row : RowErr := { stack := e.stack, pch := e.pch, bank := e.bank, row := e.row, times := times }
  let st := { st with rows := row :: st.rows.filter (fun r => !(decide (r.stack = e.stack.val ∧ r.pch = e.pch.val ∧ r.bank = e.bank.val ∧ r.row = e.row.val))) }
  let reached := decide (e.corrected > 0) && decide (times.length ≥ io.fld pg Reg.HBMC_CORR_THRESH 0 8)
  let io := if reached then io.raise pg 2 else io
  if e.uncorrectable then
    let io := (((io.count48 pg Reg.HBMC_UNCORR_LO 1).hbmLog e 1).recordOpen pg 0x1310).raise pg 3
    softRepair e io { st with poisoned := (e.blocks ++ st.poisoned).eraseDups }
  else if reached then softRepair e io st
  else (io, st, false)

/-- A scrub pass ends: progress and passes (R219). -/
def Io.scrubDone (io : Io) (k : Fin 4) : Io :=
  (io.setFld (.hbmc k) Reg.HBMC_SCRUB_STAT 0 10 1000).addSat (.hbmc k) Reg.HBMC_SCRUB_STAT 16 16 1

/-- A pseudo-channel fails whole: the floor falls by 25,792 MB/s (R215). -/
def pchLost (k : Fin 4) (c : Fin 32) (io : Io) (st : Stores) : Io × Stores :=
  if st.lost.contains (k.val, c.val) then (io, st)
  else
    let io := (io.recordErr (.hbmc k) 0x1312 c.val).raise (.hbmc k) 6
    let io := io.addSat (.hbmc k) Reg.HBMC_STAT 8 5 1
    let f := (io.reg .top Reg.TOP_ADM_HBM_FLOOR).toNat
    (io.put .top Reg.TOP_ADM_HBM_FLOOR (Word.of (f - 25792)), { st with lost := (k.val, c.val) :: st.lost })

/-- A stack reports its temperature (R216). -/
def Io.hbmTemp (io : Io) (k : Fin 4) (celsius : Nat) : Io :=
  let io := io.setFld (.hbmc k) Reg.HBMC_TEMP 0 8 celsius
  if celsius > 85 ∧ io.flag (.hbmc k) Reg.HBMC_STAT 1 = false then (io.setFlag (.hbmc k) Reg.HBMC_STAT 1 true).raise (.hbmc k) 7
  else if celsius < 80 then io.setFlag (.hbmc k) Reg.HBMC_STAT 1 false
  else io

end Sys2Proof.Machine
end

