-- ==== Sys2Proof/Machine/Charges.lean ====
section
/-! DEFINITION. Conversion jobs and charges: source pictures of route slots, working sizes, taps, strips (R255 to R262), charges of jobs, flows, write-back and slates (R22, R23, R239, R311), and wire rates (R491). -/
namespace Sys2Proof.Machine

/-- The output whose `OUTC_WB_HANDLE` names a handle, the lowest when several do (R274). -/
def View.wbWriter (v : View) (h : Nat) : Option Nat :=
  if h = 0 then none else (v.entries 0x2000000 0x1000 0x71 512).find? (fun o => v.wbHandle o = h)

/-- The flow whose STORE_HANDLE names a handle, the lowest when several do. -/
def View.flowWriter (v : View) (h : Nat) : Option Nat := v.flows.find? (fun f => v.flowStore f && decide ((v.flow f 28).toNat = h))

/-- The frame rate of a store: that of the output that names it for write-back (R274), else that of the flow that writes it. -/
def View.storeRate (v : View) (h : Nat) : Rate :=
  match v.wbWriter h with
  | some o => rateOf (v.outc o Reg.OUTC_RATE)
  | none =>
    match v.flowWriter h with
    | some f => rateOf (v.flow f 26)
    | none => { num := 0, den := 1 }

/-- The picture of the source, or of the backup, of route slot `k` of output `o`. -/
def View.slotPic (v : View) (st : Stores) (o k : Nat) (backup : Bool) : Option Pic :=
  let kind := v.slotKind o k backup
  let src := v.slotSrc o k backup
  if kind = 1 then some (v.flowPic (src % 4096))
  else if kind = 2 then
    (st.known src).bind fun s =>
      if s.kind = 0 then some (s.pic (v.layer (v.slotLayer o k) 20) (v.storeRate src)) else none
  else none

/-! Working sizes and taps (R255, R257, R259, R260). -/

/-- Working source and destination heights of the vertical axis (R259). -/
def workHeights (srcScan outScan : Nat) (bob : Bool) (srcH dstH : Nat) : Nat × Nat :=
  if srcScan = 1 then
    if outScan = 1 then (srcH / 2, dstH / 2)
    else if bob then (srcH / 2, dstH) else (srcH, dstH)
  else if outScan = 1 then (srcH, dstH / 2) else (srcH, dstH)

/-- H_MAX or V_MAX of a coefficient set (R256, R257). -/
def View.setMax (v : View) (s : Nat) (vertical : Bool) : Nat :=
  if s = 0 then 2
  else if s = 1 then 4
  else if s = 2 then 6
  else if s = 3 then 8
  else if s = 4 then (if vertical then 8 else 12)
  else if s < 8 then (if vertical then 8 else 16)
  else bits (v.get (0x2980000 + s * 0x1000 + 0xC00)) (if vertical then 8 else 0) (if vertical then 4 else 5)

/-- Taps in use on an axis: H_TAPS or V_TAPS, or the set's own (R249). -/
def View.taps (v : View) (l : Nat) (vertical : Bool) : Nat :=
  let w := v.layer l 19
  let n := if vertical then bits w 24 4 else bits w 16 5
  if n = 0 then v.setMax (if vertical then bits w 8 6 else bits w 0 6) vertical else n

/-- The geometry of a job: source picture and rectangles, working heights, bypassed axes. -/
structure Geo where
  pic : Pic
  src : Rect
  dst : Rect
  srcH : Nat
  dstH : Nat
  hBypass : Bool
  vBypass : Bool
  hTaps : Nat
  vTaps : Nat
  deriving DecidableEq, Repr

/-- The geometry of a layer for a source picture (R255, R259). -/
def View.geo (v : View) (o l : Nat) (p : Pic) : Geo :=
  let src := v.layerSrc l p
  let dst := v.layerDst l
  let hs := workHeights p.scan (v.timing o).scan (bit (v.layer l 16) 4) src.h dst.h
  { pic := p, src := src, dst := dst, srcH := hs.1, dstH := hs.2
    hBypass := decide (src.w = dst.w), vBypass := decide (hs.1 = hs.2)
    hTaps := if src.w = dst.w then 0 else v.taps l false
    vTaps := if hs.1 = hs.2 then 0 else v.taps l true }

/-- Lines that a job holds, L of R260. -/
def Geo.lines (g : Geo) (chroma : Nat) : Nat :=
  let scale := if g.vBypass then 1 else g.vTaps + (ceilDiv g.srcH g.dstH - 1)
  let c := if g.pic.sampling = 2 then (if chroma = 1 then 0 else if chroma = 2 then 1 else 2) else 0
  scale + c

/-- Reach of horizontal chroma up-sampling, C of R262. -/
def chromaReach (sampling filter : Nat) : Nat :=
  if sampling = 0 ∨ sampling = 2 ∨ sampling = 4 then
    (if filter = 1 then 0 else if filter = 2 then 2 else if filter = 0 then 4 else 8)
  else 0

/-- Margin of source columns per interior edge, M of R262. -/
def Geo.margin (g : Geo) (filter : Nat) : Nat := g.hTaps / 2 + chromaReach g.pic.sampling filter

/-- Destination columns per strip, D of R262. -/
def stripCols (dstW n : Nat) : Nat := ceilDiv dstW (4 * n) * 4

/-- Destination columns of strip `k` of `n`. -/
def stripWidth (dstW n k : Nat) : Nat := min ((k + 1) * stripCols dstW n) dstW - k * stripCols dstW n

/-! Charges of jobs (R22). -/

/-- A pair of charges: engine pixels per second and HBM bytes per second. -/
structure Charge where
  eng : Q
  hbm : Q
  deriving DecidableEq, Repr

/-- No charge. -/
def Charge.zero : Charge := { eng := Q.zero, hbm := Q.zero }

/-- Sum of charges. -/
def Charge.add (a b : Charge) : Charge := { eng := a.eng.add b.eng, hbm := a.hbm.add b.hbm }

/-- The greater of two charges, for each budget separately (R238). -/
def Charge.max (a b : Charge) : Charge := { eng := a.eng.max b.eng, hbm := a.hbm.max b.hbm }

/-- Pixels per frame at a rate, per second. -/
def pixelRate (pixels : Nat) (r : Rate) : Q := Q.of (pixels * r.num) r.den

/-- Charge of one conversion job in a mode (R22). -/
def jobCharge (mode : Nat) (g : Geo) (f : Rate) : Charge :=
  let s := g.src.w * g.src.h
  let d := g.dst.w * g.dst.h
  let r := (pixelRate s f).scale (bpp2 g.pic.sampling g.pic.depth) 16
  if mode = 3 then { eng := pixelRate (4 * d) f, hbm := r.scale 5 1 }
  else if mode = 2 then { eng := pixelRate (max s d) f, hbm := r.scale 2 1 }
  else { eng := pixelRate (max s d) f, hbm := r }

/-- Charge of a route slot in a mode: the greater of primary and backup for each budget (R239). -/
def View.slotCharge (v : View) (st : Stores) (o k mode : Nat) : Charge :=
  let l := v.slotLayer o k
  let one := fun b =>
    match v.slotPic st o k b with
    | some p => jobCharge mode (v.geo o l p) (v.timing o).rate
    | none => Charge.zero
  (one false).max (one true)

/-- An enabled slot runs a job: its source or its backup is a FLOW or a HANDLE (R239, R263). -/
def View.slotWorks (v : View) (o k : Nat) : Bool :=
  let a := v.slotKind o k false
  let b := v.slotKind o k true
  v.slotEn o k && (decide (a = 1 ∨ a = 2) || decide (b = 1 ∨ b = 2))

/-- Strips of a layer: the smallest of 1, 2 and 4 that fits the line buffer and the engine (R261). -/
def Geo.fits (g : Geo) (chroma filter n : Nat) (eng : Q) : Bool :=
  let edges := if n = 1 then 0 else if n = 2 then 1 else 2
  decide ((ceilDiv g.src.w n + g.margin filter * edges) * g.lines chroma ≤ 65536) &&
  (List.range n).all fun k => (eng.scale (stripWidth g.dst.w n k) g.dst.w).le (Q.nat 5000000000)

/-- STRIP_OK, implied by legacy mode for the layers of the block (R261, R320). -/
def View.stripOk (v : View) (o l : Nat) : Bool := bit (v.layer l 16) 0 || (v.legacy o && decide (v.lid o ≠ some l))

/-- The number of strips of a slot over its primary and backup: the larger of the two counts. -/
def View.strips (v : View) (st : Stores) (o k : Nat) : Option Nat :=
  let l := v.slotLayer o k
  let c := v.slotCharge st o k (v.layerMode l)
  let f := bits (v.layer l 16) 1 2
  let one := fun b =>
    match v.slotPic st o k b with
    | none => some 1
    | some p =>
      let g := v.geo o l p
      if !v.stripOk o l then (if decide (g.src.w * g.lines f ≤ 65536) then some 1 else none)
      else [1, 2, 4].find? (fun n => g.fits f f n c.eng)
  match one false, one true with
  | some a, some b => some (max a b)
  | _, _ => none

/-! Stockpot runs (R312) and reserve charges (R23). -/

/-- The layers of an output shown in the view, Lid excepted, in ascending Z: routed, not hidden (R301, R312). -/
def View.shownLayers (v : View) (hidden : Nat → Bool) (o : Nat) : List Nat :=
  let ls := (v.enabledSlots o).map (v.slotLayer o)
  let ls := ls.filter (fun l => !hidden l && decide (v.lid o ≠ some l))
  sortBy (fun a b => decide (v.layerZ a ≤ v.layerZ b)) ls

/-- Group consecutive elements that satisfy `p`: the maximal sequences, in order. -/
def groupRuns (p : Nat → Bool) : List Nat → List Nat → List (List Nat)
  | [], cur => if cur.isEmpty then [] else [cur]
  | x :: xs, cur =>
    if p x then groupRuns p xs (cur ++ [x])
    else if cur.isEmpty then groupRuns p xs []
    else cur :: groupRuns p xs []

/-- The runs of an output, at most 8 (R312). -/
def View.runsOf (v : View) (hidden : Nat → Bool) (o : Nat) : List (List Nat) :=
  (groupRuns v.layerStatic (v.shownLayers hidden o) []).take 8

/-- A run whose plane is live holds exactly these members (R315). -/
def Scanout.flat (sc : Scanout) (o : Nat) (ms : List Nat) : Bool :=
  sc.runs.any (fun r => decide (r.out = o ∧ r.members = ms ∧ r.plane ≥ 3))

/-! Wire rates (R491). -/

/-- Bytes per packet of a TYPE besides its payload. -/
def View.wireOverhead (v : View) (e typ : Nat) : Nat :=
  let w := v.egr e 0
  14 + 4 + (if bit w 8 then 4 else 0) + (if bit w 6 then 40 else 20) + 8 + 12 + 20
    + (if typ = 0 ∨ typ = 5 then 8 else 0)

/-- SDI interface rate of a format in bits per second (R339). -/
def sdiRate (p : Pic) : Q :=
  let fast := decide (p.h ≥ 1080) && decide (p.scan = 0) && [50, 60, 60000].contains p.rate.num
  let base := if fast then 2970000000 else 1485000000
  if p.rate.den = 1001 then Q.of (base * 1000) 1001 else Q.nat base

/-- Samples per packet time of a word 27 (R357). -/
def samplesPerPtime (w : Word) : Nat :=
  let p := bits w 26 3
  let n := if p = 0 then 6 else if p = 1 then 12 else if p = 2 then 16 else if p = 3 then 48 else 192
  if bit w 24 then 2 * n else n

/-- Bytes per audio sample of a TYPE with a word 27 (R491). -/
def sampleBytes (typ : Nat) (w : Word) : Nat := if typ = 3 then 4 else if bit w 25 then 3 else 2

/-- Wire rate in bits per second and packets per second, from a picture or an audio word (R491). -/
def View.wire (v : View) (e t : Nat) (p : Pic) (w27 : Word) : Q × Q :=
  let h := v.wireOverhead e t
  if t = 0 then
    let w := ((pixelRate (p.w * p.h) p.rate).scale (bpp2 p.sampling p.depth) 2).scale 105 100
    (w, w.scale 1 (8 * (v.egrPayload e + h)))
  else if t = 5 then
    let w := (sdiRate p).scale 105 100
    (w, w.scale 1 (8 * (1376 + h)))
  else if t = 2 ∨ t = 3 then
    let n := Q.of (ptimeRate (bits w27 26 3)).num (ptimeRate (bits w27 26 3)).den
    (n.scale (8 * (bits w27 16 7 * sampleBytes t w27 * samplesPerPtime w27 + h)) 1, n)
  else
    let w := Q.nat ((v.egr e 28).toNat * 1000)
    (w, w.scale 1 (8 * (v.egrPayload e + h)))

/-- Wire rate and packet rate of a fast-path entry that carries flow `f` (R491). -/
def View.flowWire (v : View) (e f : Nat) : Q × Q := v.wire e (v.flowType f) (v.flowPic f) (v.flow f 27)

/-- Wire rate and packet rate that a valid egress entry is charged (R239, R336, R491). -/
def View.egrWire (v : View) (e : Nat) : Q × Q :=
  if v.egrFeed e = 0 then
    if v.fastState e = 2 then v.wire e (v.egrType e) (v.outPic (v.fastOut e)) (v.egr e 27)
    else if v.fastEn e then
      let a := v.flowWire e (v.fastSrc e)
      match v.fastBkp e with
      | some b => let c := v.flowWire e b; (a.1.max c.1, a.2.max c.2)
      | none => a
    else (Q.zero, Q.zero)
  else if v.egrFeed e = 3 then v.wire e (v.egrType e) (v.outPic 0) (v.egr e 27)
  else v.wire e (v.egrType e) (v.outPic (v.egrOut e)) (v.egr e 27)

/-- The wire rate on a port: with EN_TX each packet grows by 32 or 24 bytes (R161, R491). -/
def View.egrOnPort (v : View) (e p : Nat) : Q :=
  let w := v.egrWire e
  let cfg := v.get (regAddr (.msec (Fin.ofNat 128 p)) Reg.MSEC_CFG)
  if bit cfg 0 then w.1.add (w.2.scale (8 * (if bit cfg 6 then 32 else 24)) 1) else w.1

/-- Data rate of a port in bits per second (R110). -/
def View.portRate (v : View) (p : Nat) : Nat :=
  let s := bits (v.get (regAddr (.pcs (Fin.ofNat 128 p)) Reg.PCS_CFG)) 0 3
  25000000000 * 2 ^ s

/-- Packet-buffer charge of a fast-path entry in bytes: 32 KiB, and the merge window of a mirrored flow at its wire rate (R22). -/
def View.fastBuffer (v : View) (e : Nat) : Q :=
  let one := fun f =>
    (Q.nat 32768).add
      (if v.flowMirror f then ((v.flowWire e f).1.scale (v.flowWin f) 1000000).scale 1 8 else Q.zero)
  match v.fastBkp e with
  | some b => (one (v.fastSrc e)).max (one b)
  | none => one (v.fastSrc e)

/-! Charges of everything else against budget 2 (R22, R239, R311, R343). -/

/-- Frame-store write of an ingress flow. -/
def View.flowWrite (v : View) (f : Nat) : Q :=
  if v.flowValid f ∧ v.flowStore f then
    let p := v.flowPic f
    (pixelRate (p.w * p.h) p.rate).scale (bpp2 p.sampling p.depth) 16
  else Q.zero

/-- Pixel rate of an output. -/
def View.outPixels (v : View) (o : Nat) : Q := pixelRate ((v.timing o).actW * (v.timing o).actH) (v.timing o).rate

/-- Write-back, slate and Loupe read-back of an output. -/
def View.outTraffic (v : View) (st : Stores) (o : Nat) : Q :=
  let wb := if v.wbOn o then
      match st.known (v.wbHandle o) with
      | some s => (v.outPixels o).scale (bpp2 (s.format % 16) (s.format / 16 % 4)) 16
      | none => Q.zero
    else Q.zero
  let f := v.outPic o
  let slate := if bit (v.outc o Reg.OUTC_LID) 12 ∧ bits (v.outc o Reg.OUTC_LID) 13 2 = 1 then
      (v.outPixels o).scale (bpp2 f.sampling f.depth) 16
    else Q.zero
  let wide := decide (f.w > 4096) && !(v.egrs.any (fun e => decide (v.egrFeed e = 1 ∧ v.egrOut e = o)))
  let rects := if wide then
      (List.range 7).foldl (fun n r =>
        if bit (v.outc o (Reg.OUTC_LPE_CTL + 16 * r)) 0 then
          n + bits (v.outc o (Reg.OUTC_LPE_WH + 16 * r)) 0 14 * bits (v.outc o (Reg.OUTC_LPE_WH + 16 * r)) 16 14
        else n) 0
        + (match v.lid o with
           | some l => (v.layerDst l).w * (v.layerDst l).h
           | none => 0)
    else 0
  (wb.add slate).add ((pixelRate rects f.rate).scale (bpp2 f.sampling f.depth) 16)

end Sys2Proof.Machine
end

