-- ==== Sys2Proof/Machine/Frames.lean ====
section
/-! DEFINITION. Ethernet, IP and UDP framing: what the MAC, MACsec and the Sieve read from the bytes of a frame, and the frames the part builds (R147, R165, R172, R188). -/
namespace Sys2Proof.Machine

/-- An Ethernet frame without its FCS: addresses, the VLAN identifier of its first tag, its EtherType, and what follows. -/
structure Eth where
  dst : Nat
  src : Nat
  vlan : Option Nat
  etype : Nat
  body : List Byte
  deriving DecidableEq, Repr

/-- Read a frame. One IEEE 802.1Q tag is taken off. -/
def parseEth (bs : List Byte) : Eth :=
  if beAt bs 12 2 = 0x8100 then
    { dst := beAt bs 0 6, src := beAt bs 6 6, vlan := some (beAt bs 14 2 % 2 ^ 12), etype := beAt bs 16 2, body := bs.drop 18 }
  else { dst := beAt bs 0 6, src := beAt bs 6 6, vlan := none, etype := beAt bs 12 2, body := bs.drop 14 }

/-- Ones-complement sum of 16-bit words, network order, an odd last byte padded with 0. -/
def onesSum : List Byte → Nat
  | [] => 0
  | [a] => a.toNat * 256
  | a :: b :: rest => a.toNat * 256 + b.toNat + onesSum rest

/-- The folded 16-bit Internet sum. -/
def fold16 (n : Nat) : Nat :=
  let m := n / 65536 + n % 65536
  let k := m / 65536 + m % 65536
  k / 65536 + k % 65536

/-- The Internet checksum of bytes. -/
def inetSum (bs : List Byte) : Nat := 0xFFFF - fold16 (onesSum bs)

/-- An IP packet: version, addresses, protocol above it, and its payload. -/
structure Ip where
  v6 : Bool
  src : List Byte
  dst : List Byte
  proto : Nat
  /-- a hop-by-hop header stood between the IPv6 header and the payload -/
  hopByHop : Bool
  payload : List Byte
  deriving DecidableEq, Repr

/-- The IPv6 next-header values that name an extension header. -/
def ip6Extension (n : Nat) : Bool := [0, 43, 44, 50, 51, 60, 135, 139, 140].contains n

/-- Read an IPv4 packet, or none where R172 drops it: checksum, IHL, total length against the frame (padding of a minimum frame aside), fragmentation. -/
def parseIp4 (bs : List Byte) (minimum : Bool) : Option Ip :=
  let ihl := (beAt bs 0 1) % 16
  let total := beAt bs 2 2
  let frag := beAt bs 6 2
  let fits := decide (total = bs.length) || (minimum && decide (total ≤ bs.length))
  if decide (ihl ≥ 5) && decide (ihl * 4 ≤ total) && fits && decide (fold16 (onesSum (bs.take (ihl * 4))) = 0xFFFF) &&
      decide (frag % 2 ^ 14 = 0) then
    some { v6 := false, src := (bs.drop 12).take 4, dst := (bs.drop 16).take 4, proto := beAt bs 9 1, hopByHop := false
           payload := (bs.take total).drop (ihl * 4) }
  else none

/-- The packet is ICMPv6 of a type. -/
def Ip.icmp6 (p : Ip) : Option Nat := if p.v6 ∧ p.proto = 58 then some (beAt p.payload 0 1) else none

/-- Read an IPv6 packet, or none where R172 drops it. A hop-by-hop header is let through for a membership query alone, which never comes without one (R165, R187). -/
def parseIp6 (bs : List Byte) (minimum : Bool) : Option Ip :=
  let len := beAt bs 4 2
  let next := beAt bs 6 1
  let fits := decide (len + 40 = bs.length) || (minimum && decide (len + 40 ≤ bs.length))
  let body := (bs.drop 40).take len
  let base : Ip := { v6 := true, src := (bs.drop 8).take 16, dst := (bs.drop 24).take 16, proto := next, hopByHop := false, payload := body }
  if !fits then none
  else if next = 0 then
    let hdr := 8 * (beAt body 1 1 + 1)
    let inner : Ip := { base with proto := beAt body 0 1, hopByHop := true, payload := body.drop hdr }
    if inner.icmp6 = some 130 then some inner else none
  else if ip6Extension next then none
  else some base

/-- The pseudo-header sum over which a UDP checksum is taken. -/
def Ip.pseudo (p : Ip) : Nat := onesSum p.src + onesSum p.dst + p.proto + p.payload.length

/-- The UDP length and checksum agree (R172). -/
def Ip.udpOk (p : Ip) : Bool :=
  let sum := beAt p.payload 6 2
  decide (beAt p.payload 4 2 = p.payload.length) && decide (8 ≤ p.payload.length) &&
  (decide (sum = 0 ∧ p.v6 = false) || (decide (sum ≠ 0) && decide (fold16 (p.pseudo + onesSum p.payload) = 0xFFFF)))

/-- What the Sieve sees of a frame: its IP packet, none where it is no IP, or an error of R172. -/
inductive Layer3 where
  | notIp
  | bad
  | ip (p : Ip)
  deriving DecidableEq, Repr

/-- Read the layers above Ethernet, with the checks of R172. -/
def parseL3 (e : Eth) (frameLen : Nat) : Layer3 :=
  let minimum := decide (frameLen ≤ 60)
  let r := if e.etype = 0x0800 then some (parseIp4 e.body minimum)
    else if e.etype = 0x86DD then some (parseIp6 e.body minimum) else none
  match r with
  | none => .notIp
  | some none => .bad
  | some (some p) => if p.proto = 17 ∧ p.udpOk = false then .bad else .ip p

/-- The UDP datagram of a frame as the Sieve handles it. -/
def datagram (port : Nat) (e : Eth) (p : Ip) (at_ : Nat) : Pkt :=
  { port := port, vlan := e.vlan, ipv6 := p.v6, dst := p.dst, src := p.src, udpSrc := beAt p.payload 0 2
    udpDst := beAt p.payload 2 2, payload := p.payload.drop 8, arrival := at_ }

/-- The frame carries a PTP message over UDP (R152). -/
def isPtp (bs : List Byte) : Bool :=
  match parseL3 (parseEth bs) bs.length with
  | .ip p => decide (p.proto = 17) && [319, 320].contains (beAt p.payload 2 2)
  | _ => false

/-! Frames the part sends. -/

/-- An Ethernet header. -/
def ethHeader (dst src : Nat) (vlan : Option Nat) (etype : Nat) : List Byte :=
  beBytes 6 dst ++ beBytes 6 src ++
    (match vlan with
     | some v => beBytes 2 0x8100 ++ beBytes 2 v
     | none => []) ++ beBytes 2 etype

/-- Group MAC address of an IP multicast address (RFC 1112, RFC 2464). -/
def groupMac (dst : List Byte) : Nat :=
  if dst.length = 4 then 0x01005E000000 + beNat dst % 2 ^ 23 else 0x333300000000 + beNat dst % 2 ^ 32

/-- An IPv4 header without options but those given, whose length is a multiple of 4. -/
def ip4Header (src dst : List Byte) (proto ttl tos ident len : Nat) (df : Bool) (opts : List Byte) : List Byte :=
  let ihl := 5 + opts.length / 4
  let head := fun sum => [BitVec.ofNat 8 (64 + ihl), BitVec.ofNat 8 tos] ++ beBytes 2 (4 * ihl + len) ++ beBytes 2 ident ++
    beBytes 2 (b2n df * 2 ^ 14) ++ [BitVec.ofNat 8 ttl, BitVec.ofNat 8 proto] ++ beBytes 2 sum ++ src ++ dst ++ opts
  head (inetSum (head 0))

/-- An IPv6 header. -/
def ip6Header (src dst : List Byte) (next hop tclass len : Nat) : List Byte :=
  beBytes 4 (0x60000000 + tclass * 2 ^ 20) ++ beBytes 2 len ++ [BitVec.ofNat 8 next, BitVec.ofNat 8 hop] ++ src ++ dst

/-- A UDP header and payload, its checksum over the pseudo-header; without a checksum over IPv4 it is 0. -/
def udpDatagram (src dst : List Byte) (sport dport : Nat) (payload : List Byte) (checksum : Bool) : List Byte :=
  let len := payload.length + 8
  let make := fun sum => beBytes 2 sport ++ beBytes 2 dport ++ beBytes 2 len ++ beBytes 2 sum ++ payload
  if !checksum then make 0
  else
    let s := 0xFFFF - fold16 (onesSum src + onesSum dst + 17 + len + onesSum (make 0))
    make (if s = 0 then 0xFFFF else s)

/-- An RTP header of 12 bytes. -/
def rtpHeader (marker : Bool) (pt seq ts ssrc : Nat) : List Byte :=
  [BitVec.ofNat 8 0x80, BitVec.ofNat 8 (pt % 128 + b2n marker * 128)] ++ beBytes 2 seq ++ beBytes 4 ts ++ beBytes 4 ssrc

end Sys2Proof.Machine
end

