-- ==== Sys2Proof/Machine/Flows.lean ====
section
/-! DEFINITION. Ingress flows: header checks (R172 to R174), merge (R179, R180), depacketization (R175 to R177) and absence (R181, R182). -/
namespace Sys2Proof.Machine

/-- The tile whose Sieve serves a flow (R166). -/
def View.flowTile (v : View) (f : Nat) : Fin 16 := Fin.ofNat 16 (v.flowPort f false / 8)

/-- The SIEV page that serves a flow. -/
def Io.flowPage (io : Io) (f : Nat) : PageRef := .siev (io.live.flowTile f)

/-- A status word of a flow (R169). -/
def Io.fs (io : Io) (f w : Nat) : Word := io.rd (flowAddr f w)

/-- Write a status word of a flow. -/
def Io.setFs (io : Io) (f w : Nat) (v : Word) : Io := io.wr (flowAddr f w) v

/-- STATE of a flow: 0 UNUSED, 1 WAITING, 2 PRESENT, 3 ABSENT (R169). -/
def Io.flowState (io : Io) (f : Nat) : Nat := bits (io.fs f 32) 0 3

/-- Set STATE of a flow. -/
def Io.setFlowState (io : Io) (f s : Nat) : Io := io.setFs f 32 (setBits (io.fs f 32) 0 3 s)

/-- Advance a 32-bit saturating status word of a flow. -/
def Io.flowCount (io : Io) (f w : Nat) : Io := io.setFs f w (Word.of (sat 32 ((io.fs f w).toNat + 1)))

/-- Advance a 48-bit status counter of a flow. -/
def Io.flowCount48 (io : Io) (f w : Nat) : Io :=
  let n := sat 48 ((io.fs f w).toNat + 2 ^ 32 * (io.fs f (w + 1)).toNat + 1)
  (io.setFs f w (Word.of n)).setFs f (w + 1) (Word.of (n / 2 ^ 32))

/-- Write a 64-bit time into two status words of a flow. -/
def Io.setFlowTime (io : Io) (f w t : Nat) : Io :=
  (io.setFs f w (Word.of t)).setFs f (w + 1) (Word.of (t / 2 ^ 32))

/-- Write a flow-log entry (R189, R190). -/
def Io.flowLog (io : Io) (f event detail : Nat) : Io :=
  io.logTo (io.flowPage f) Reg.SIEV_FLOW_LOG_HEAD Reg.SIEV_FLOW_LOG 64 2
    [Word.of (f % 2 ^ 12 + event * 2 ^ 12 + detail % 256 * 2 ^ 16), io.ns32]

/-- Log a flow event and raise its bit (R190, R191). -/
def Io.flowEvent (io : Io) (f event detail bit_ : Nat) : Io := (io.flowLog f event detail).raise (io.flowPage f) bit_

/-- What the Sieve keeps of a flow that has just become valid. -/
def newFlowRt (now : Nat) : FlowRt :=
  { validAt := now, started := false, lastA := none, lastB := none, lostA := false, lostB := false, nextSeq := none
    held := [], copies := [], skews := [], skewRaised := false, frames := [], lastRtp := none, marked := none
    dropAt := none, fastDropAt := none, fmt := [] }

/-- What the Sieve keeps of a flow. -/
def Sieve.rt (sv : Sieve) (f : Nat) : Option FlowRt := FMap.find sv.flows f

/-- Change what the Sieve keeps of a flow. -/
def Sieve.upd (sv : Sieve) (f : Nat) (g : FlowRt → FlowRt) : Sieve :=
  match FMap.find sv.flows f with
  | some r => { sv with flows := FMap.insert sv.flows f (g r) }
  | none => sv

/-! RTP (R173). -/

/-- Bytes of the RTP header with its CSRC list and extension. -/
def rtpHeaderLen (bs : List Byte) : Nat :=
  let b := beAt bs 0 1
  let n := 12 + 4 * (b % 16)
  if b.testBit 4 then n + 4 + 4 * beAt bs (n + 2) 2 else n

/-- RTP timestamp. -/
def rtpTs (bs : List Byte) : Nat := beAt bs 4 4
/-- RTP marker. -/
def rtpMarker (bs : List Byte) : Bool := (beAt bs 1 1).testBit 7
/-- RTP payload type. -/
def rtpPt (bs : List Byte) : Nat := beAt bs 1 1 % 128

/-- Difference of two RTP timestamps modulo 2^32, signed. -/
def tsDiff (a b : Nat) : Int := signed 32 (a + 2 ^ 32 - b % 2 ^ 32)

/-- Ticks of a clock at an instant. -/
def ticksAt (clock t : Nat) : Nat := t * clock / 1000000000

/-- The number of ticks since the epoch that a timestamp names, taken nearest to an instant (R173). -/
def mediaTicks (clock arrival ts : Nat) : Nat :=
  (Int.ofNat (ticksAt clock arrival) - tsDiff (ticksAt clock arrival) ts).toNat

/-- The media time of a timestamp in nanoseconds, rounded to nearest. -/
def mediaTime (clock arrival ts : Nat) : Nat :=
  (2 * mediaTicks clock arrival ts * 1000000000 + clock) / (2 * clock)

/-- The extended sequence number carries 32 bits for ST 2110-20 and ST 2110-40. -/
def seqBits (typ : Nat) : Nat := if typ = 0 ∨ typ = 4 then 32 else 16

/-- The sequence number in a packet: with its extension where the payload header has one. -/
def rawSeq (typ : Nat) (bs : List Byte) : Nat :=
  let low := beAt bs 2 2
  if typ = 0 ∨ typ = 4 then low + 65536 * beAt bs (rtpHeaderLen bs) 2 else low

/-- The extended sequence number nearest to the one due. -/
def extSeq (typ : Nat) (due : Option Nat) (bs : List Byte) : Nat :=
  let n := seqBits typ
  match due with
  | none => 2 ^ n + rawSeq typ bs
  | some d => (Int.ofNat d + signed n (rawSeq typ bs + 2 ^ n - d % 2 ^ n)).toNat

/-! ST 2110-20 (R173, R175). -/

/-- A sample row data header and its data. -/
structure Srd where
  len : Nat
  field : Bool
  row : Nat
  cont : Bool
  off : Nat
  deriving DecidableEq, Repr

/-- Read up to `n` sample row data headers. None when the last one read still announces another. -/
def parseSrd : Nat → List Byte → Option (List Srd)
  | 0, _ => none
  | n + 1, bs =>
    let h : Srd := { len := beAt bs 0 2, field := (beAt bs 2 2).testBit 15, row := beAt bs 2 2 % 2 ^ 15
                     cont := (beAt bs 4 2).testBit 15, off := beAt bs 4 2 % 2 ^ 15 }
    if bs.length < 6 then none
    else if h.cont then (parseSrd n (bs.drop 6)).map (h :: ·) else some [h]

/-- Bytes and pixels of a pixel group (SMPTE ST 2110-20); for 4:2:0 the pixels along a line. -/
def pgroup (sampling depth : Nat) : Nat × Nat :=
  if sampling = 0 ∨ sampling = 4 then
    (if depth = 0 then (4, 2) else if depth = 1 then (5, 2) else if depth = 2 then (6, 2) else (8, 2))
  else if sampling = 2 then
    (if depth = 0 then (6, 2) else if depth = 1 then (15, 4) else if depth = 2 then (9, 2) else (12, 2))
  else if depth = 0 then (3, 1) else if depth = 1 then (15, 4) else if depth = 2 then (9, 2) else (6, 1)

/-- A sample row data header passes check 5 (R173). -/
def srdOk (p : Pic) (h : Srd) : Bool :=
  let (b, n) := pgroup p.sampling p.depth
  decide (h.len ≠ 0) && decide (h.row < p.h) && decide (h.len % b = 0) && decide (h.off + h.len / b * n ≤ p.w) &&
  (decide (p.scan ≠ 0) || !h.field)

/-- Where a row of a frame begins in its slot: 4:2:0 keeps lines in pairs (R198). -/
def rowStart (p : Pic) (h : Srd) : Nat :=
  let line := if p.scan = 0 then h.row
    else if p.sampling = 2 then h.row / 2 * 4 + b2n h.field * 2 else 2 * h.row + b2n h.field
  line * pitchOf p.w p.sampling p.depth

/-- Byte offset of a pixel in its row. -/
def pixelStart (p : Pic) (off : Nat) : Nat :=
  let (b, n) := pgroup p.sampling p.depth
  off / n * b

/-- Write the pixel groups of a packet to the slot whose first byte is at `base` (R175). -/
def writeSrds (p : Pic) (i base : Nat) : List Srd → List Byte → Stores → Stores
  | [], _, st => st
  | h :: hs, bs, st =>
    let st := if h.row < p.h then st.write i (base + rowStart p h + pixelStart p h.off) (bs.take h.len) else st
    writeSrds p i base hs (bs.drop h.len) st

/-! ST 2110-40 (R173, R177). -/

/-- An ancillary data packet: its line, horizontal offset, identifiers, user data words, and its bits as carried. -/
structure Anc where
  /-- colour-difference stream -/
  chroma : Bool
  line : Nat
  hoff : Nat
  did : Nat
  sdid : Nat
  /-- 10-bit user data words -/
  udw : List Nat
  checksumOk : Bool
  deriving DecidableEq, Repr

/-- Checksum word of an ANC packet over 10-bit words: nine bits and the inverted bit 8. -/
def ancChecksum (ws : List Nat) : Nat :=
  let s := (ws.map (· % 512)).sum % 512
  s + (if s ≥ 256 then 0 else 512)

/-- `n` values of 10 bits. -/
def tens (n : Nat) (bs : List Bool) : List Nat := (chunks 10 n (bs.take (10 * n))).map ofBits

/-- Read one ANC packet of an ST 2110-40 payload, with the bits that follow it at the next 32-bit boundary. -/
def readAnc (bs : List Bool) : Option (Anc × List Bool) :=
  if bs.length < 72 then none
  else
    let body := bs.drop 32
    let count := ofBits ((body.drop 20).take 10) % 256
    let words := count + 4
    if body.length < 10 * words then none
    else
      let ws := tens words body
      let data := ws.take (count + 3)
      let a : Anc :=
        { chroma := bs.headD false, line := ofBits ((bs.drop 1).take 11), hoff := ofBits ((bs.drop 12).take 12)
          did := ws.getD 0 0 % 256, sdid := ws.getD 1 0 % 256, udw := (ws.drop 3).take count
          checksumOk := decide (ancChecksum data = ws.getD (count + 3) 0) }
      some (a, body.drop (ceilDiv (10 * words) 32 * 32))

/-- Read `n` ANC packets. -/
def readAncs : Nat → List Bool → Option (List Anc)
  | 0, _ => some []
  | n + 1, bs => (readAnc bs).bind fun r => (readAncs n r.2).map (r.1 :: ·)

/-- The bits of bytes, most significant first. -/
def byteBits (bs : List Byte) : List Bool := bs.flatMap (fun b => bitsOf 8 b.toNat)

/-- The bytes of bits, most significant first, padded with 0. -/
def bitBytes (bs : List Bool) : List Byte :=
  (chunks 8 (bs.length + 1) bs).map fun c => BitVec.ofNat 8 (ofBits (c ++ List.replicate (8 - c.length) false))

/-- Parity bits of an ANC word: bit 8 even parity of the low byte, bit 9 its inverse. -/
def ancWord (b : Nat) : Nat :=
  let p := ((bitsOf 8 b).filter id).length % 2
  b % 256 + p * 256 + (1 - p) * 512

/-- The bits of an ANC packet as ST 2110-40 carries it, aligned to 32 bits. -/
def ancBits (a : Anc) : List Bool :=
  let ws := [ancWord a.did, ancWord a.sdid, ancWord a.udw.length] ++ a.udw
  let body := (ws ++ [ancChecksum ws]).flatMap (bitsOf 10)
  let pad := (32 - body.length % 32) % 32
  [a.chroma] ++ bitsOf 11 a.line ++ bitsOf 12 a.hoff ++ bitsOf 8 0 ++ body ++ List.replicate pad false

/-- The ANC packets of an ST 2110-40 payload after its RTP header. -/
def ancOf (bs : List Byte) : Option (List Anc) :=
  readAncs (beAt bs 4 1) (byteBits (bs.drop 8))

/-- How a slot of an ANC store holds the packets of a frame: their number, then the packets as ST 2110-40 carries them. -/
def ancSlotBytes (xs : List Anc) : List Byte := leBytes 4 xs.length ++ bitBytes (xs.flatMap ancBits)

/-- The packets that a slot of an ANC store holds. -/
def ancSlotRead (bs : List Byte) : List Anc := (readAncs (leAt bs 0 4 % 65536) (byteBits (bs.drop 4))).getD []

/-! ST 2022-6 (R173, R176). -/

/-- FRAME code of a format (SMPTE ST 2022-6). -/
def sdiFrameCode (p : Pic) : Nat :=
  if p.h = 720 then 0x30
  else if p.w = 2048 then (if p.scan = 1 then 0x23 else if p.scan = 2 then 0x25 else 0x24)
  else if p.h = 1080 then (if p.scan = 1 then 0x20 else if p.scan = 2 then 0x22 else 0x21)
  else if p.h = 576 then 0x11 else 0x10

/-- FRATE code of a rate (SMPTE ST 2022-6). -/
def sdiRateCode (r : Rate) : Nat :=
  let n := if r.den = 1001 then r.num / 1000 else r.num
  let base := if n = 60 then 0x10 else if n = 50 then 0x12 else if n = 48 then 0x14 else if n = 30 then 0x16
    else if n = 25 then 0x18 else if n = 24 then 0x1A else 0x00
  if r.den = 1001 then base + 1 else base

/-- Bytes of the ST 2022-6 payload header. -/
def sdiHeaderLen (bs : List Byte) : Nat := if beAt bs 2 2 / 32 % 16 = 0 then 8 else 12

/-! The checks of R173. -/

/-- The first check that a packet fails, as its reason; none where it passes. -/
def flowReason (v : View) (f : Nat) (late : Nat) (due : Option Nat) (p : Pkt) : Option Nat :=
  let bs := p.payload
  let typ := v.flowType f
  let hl := rtpHeaderLen bs
  let body := bs.drop hl
  let pic := v.flowPic f
  let clock := v.flowClock f
  let d := tsDiff (ticksAt clock p.arrival) (rtpTs bs) * 1000000000
  let w27 := v.flow f 27
  if beAt bs 0 1 / 64 ≠ 2 ∨ bs.length < 12 ∨ bs.length < hl then some 0
  else if bit (v.flow f 0) 9 ∧ rtpPt bs ≠ bits (v.flow f 21) 0 7 then some 1
  else if bit (v.flow f 0) 10 ∧ beAt bs 8 4 ≠ (v.flow f 22).toNat then some 2
  else if d < -(1000000 * Int.ofNat clock) ∨ d > Int.ofNat (late * 1000000 * clock) then some 3
  else if (match due with
    | some n => decide (extSeq typ due bs + 32768 < n)
    | none => false) then some 4
  else if typ = 0 then
    match parseSrd 3 (body.drop 2) with
    | none => some 5
    | some hs =>
      if !hs.all (srdOk pic) then some 5
      else if (hs.map Srd.len).sum + 6 * hs.length + 2 ≠ body.length then some 7 else none
  else if typ = 5 then
    let fr := beAt body 4 4
    if fr / 2 ^ 28 ≠ 0 ∨ fr / 2 ^ 20 % 256 ≠ sdiFrameCode pic ∨ fr / 2 ^ 12 % 256 ≠ sdiRateCode pic.rate ∨
        fr / 2 ^ 8 % 16 ≠ 1 then some 5
    else if body.length ≠ sdiHeaderLen body + 1376 then some 6
    else if beAt body 0 1 / 16 ≠ 0 ∨ beAt body 2 2 / 32 % 16 > 3 then some 7 else none
  else if typ = 4 then
    match ancOf body with
    | none => some 7
    | some xs =>
      if !xs.all (fun a => decide (a.line ≤ pic.h)) then some 5
      else if body.length < 8 + beAt body 2 2 ∨ beAt body 5 1 / 64 = 1 then some 7 else none
  else if typ = 2 ∨ typ = 3 then
    if body.length = bits w27 16 7 * (if typ = 3 then 4 else if bit w27 25 then 3 else 2) *
        ((if bit w27 24 then 2 else 1) *
          (if bits w27 26 3 = 0 then 6 else if bits w27 26 3 = 1 then 12 else if bits w27 26 3 = 2 then 16
           else if bits w27 26 3 = 3 then 48 else 192)) then none
    else some 6
  else none

/-- A packet is dropped by R173: counted by reason, and logged on the first after 1 s without drops (R174). -/
def flowDrop (f reason : Nat) (io : Io) (sv : Sieve) : Io × Sieve :=
  let io := io.flowCount48 f 37
  let io := io.flowCount f (48 + reason)
  let io := io.setFs f 32 (setBits (io.fs f 32) 8 3 reason)
  let quiet := match (sv.rt f).bind (·.dropAt) with
    | some t => decide (t + 1000000000 ≤ io.up)
    | none => true
  (if quiet then io.flowEvent f 6 reason 8 else io, sv.upd f (fun r => { r with dropAt := some io.up }))

/-! Legs and absence (R181, R182). -/

/-- LEG_A_UP or LEG_B_UP. -/
def Io.setLeg (io : Io) (f : Nat) (legB up : Bool) : Io :=
  io.setFs f 32 (setBit (io.fs f 32) (if legB then 4 else 3) up)

/-- An absent flow is present again (R181). -/
def Io.flowReturned (io : Io) (f : Nat) : Io :=
  if io.flowState f = 3 then (io.setFlowState f 2).flowEvent f 2 0 4 else io

/-- A leg accepts a packet (R181). -/
def legAccepts (f : Nat) (legB : Bool) (at_ : Nat) (io : Io) (sv : Sieve) : Io × Sieve :=
  let wasLost := match sv.rt f with
    | some r => if legB then r.lostB else r.lostA
    | none => false
  let io := io.setLeg f legB true
  let io := if wasLost then io.flowEvent f 4 (b2n legB) 6 else io
  (io, sv.upd f (fun r => if legB then { r with lastB := some at_, lostB := false } else { r with lastA := some at_, lostA := false }))

/-- The flow is declared absent when it has no leg left (R181). -/
def flowAbsent (f : Nat) (io : Io) (sv : Sieve) : Io :=
  match sv.rt f with
  | some r =>
    if r.lostA && (r.lostB || !io.live.flowMirror f) && decide (io.flowState f ≠ 3) then
      let n := sat 16 (bits (io.fs f 43) 0 16 + 1)
      ((io.setFs f 43 (setBits (io.fs f 43) 0 16 n)).setFlowState f 3).flowEvent f 1 0 3
    else io
  | none => io

/-- A leg is lost: counted, logged and raised, and the flow judged (R181, R182). -/
def legLost (f : Nat) (legB : Bool) (io : Io) (sv : Sieve) : Io × Sieve :=
  match sv.rt f with
  | some r =>
    if (if legB then r.lostB else r.lostA) then (io, sv)
    else
      let sv := sv.upd f (fun r => if legB then { r with lostB := true } else { r with lostA := true })
      let n := sat 16 (bits (io.fs f 43) 16 16 + 1)
      let io := ((io.setFs f 43 (setBits (io.fs f 43) 16 16 n)).setLeg f legB false).flowEvent f 3 (b2n legB) 5
      (flowAbsent f io sv, sv)
  | none => (io, sv)

/-- The legs that a port carries: flow and leg (R182). -/
def Io.legsOn (io : Io) (p : Nat) : List (Nat × Bool) :=
  io.live.flows.flatMap fun f =>
    (if io.live.flowPort f false = p then [(f, false)] else []) ++
    (if io.live.flowMirror f ∧ io.live.flowPort f true = p then [(f, true)] else [])

/-- Every leg that a port carries is lost at once (R182). -/
def portLegsLost (p : Nat) (io : Io) (sv : Sieve) : Io × Sieve :=
  (io.legsOn p).foldl (fun x e => legLost e.1 e.2 x.1 x.2) (io, sv)

/-- FLOW_TMO frame periods of a flow in nanoseconds; 1 ms per period for audio (R181). -/
def View.absenceTime (v : View) (f : Nat) : Nat :=
  if v.flowType f = 2 ∨ v.flowType f = 3 then v.flowTmo f * 1000000
  else ((rateOf (v.flow f 26)).period.scale (v.flowTmo f) 1).floor

/-- FLOW_TMO periods have passed on a leg since its last accepted packet, or since the flow became valid (R181). -/
def legOverdue (f : Nat) (legB : Bool) (io : Io) (sv : Sieve) : Bool :=
  match sv.rt f with
  | some r =>
    let t := ((if legB then r.lastB else r.lastA).getD r.validAt)
    io.live.flowValid f && (!legB || io.live.flowMirror f) && decide (t + io.live.absenceTime f ≤ io.now)
  | none => false

/-! Frames (R175 to R177). -/

/-- Marker packets that a complete frame has: one per field where fields carry their own. -/
def markersNeeded (typ scan : Nat) : Nat := if (typ = 0 ∧ scan ≠ 0) ∨ (typ = 4 ∧ scan = 1) then 2 else 1

/-- Every packet from the first to the last marker has arrived (R175). -/
def Assembly.complete (a : Assembly) (need : Nat) : Bool :=
  match a.seqs with
  | [] => false
  | s :: ss =>
    let lo := a.first.getD (ss.foldl min s)
    let hi := a.markers.foldl max 0
    decide (a.markers.length ≥ need) &&
      decide ((a.seqs.filter (fun q => decide (lo ≤ q) && decide (q ≤ hi))).length = hi + 1 - lo)

/-- The store slot written gets free again. -/
def dropSlot (h : Nat) (slot : Option Nat) (st : Stores) : Stores :=
  match slot with
  | some k => st.toFree (h % 65536) k
  | none => st

/-- An incomplete frame is discarded and its slot reused (R175). -/
def frameDrop (f : Nat) (a : Assembly) (io : Io) (st : Stores) : Io × Stores :=
  let v := io.live
  (io.flowCount f 40, dropSlot (v.flow f 29).toNat a.ancSlot (dropSlot (v.flow f 28).toNat a.slot st))

/-- What a completed frame of SDI gives to the audio path. -/
structure SdiFrame where
  flow : Nat
  media : Nat
  /-- store slots opened for it: picture and ANC -/
  slot : Option Nat
  anc : Option Nat
  rtp : Nat
  bytes : List Byte
  deriving DecidableEq, Repr

/-- Open a slot of the store that a handle names, when it is set and known. -/
def openFor (h : Nat) (want : Bool) (io : Io) (st : Stores) : Option Nat × Io × Stores :=
  if want ∧ (st.known h).isSome then openSlot (h % 65536) io st else (none, io, st)

/-- The first packet of a new RTP timestamp begins a frame (R175, R177). -/
def beginFrame (f : Nat) (ts media : Nat) (first : Option Nat) (io : Io) (st : Stores) : Assembly × Io × Stores :=
  let v := io.live
  let typ := v.flowType f
  let (slot, io, st) := openFor (v.flow f 28).toNat (v.flowStore f && (typ = 0 || typ = 5)) io st
  let (anc, io, st) := openFor (v.flow f 29).toNat (typ = 4 || typ = 5) io st
  ({ rtp := ts, rtp2 := none, media := media, slot := slot, ancSlot := anc, first := first, seqs := [], markers := []
     laterAt := none, parts := [] }, io, st)

/-- A slot is wanted and none was free: the frame is discarded when it completes (R202). -/
def View.starved (v : View) (f : Nat) (a : Assembly) : Bool :=
  v.flowStore f && (v.flowType f = 0 || v.flowType f = 5) && a.slot.isNone

/-- Publish a slot of the store that a handle names. -/
def publishIn (h : Nat) (slot : Option Nat) (a : Assembly) (now : Nat) (st : Stores) : Stores :=
  match slot with
  | some k => st.publish (h % 65536) k a.rtp a.media now
  | none => st

/-- First byte of slot `k` of a store. -/
def Stores.slotBase (st : Stores) (i k : Nat) : Nat :=
  match FMap.find st.table i with
  | some s => k * s.slotG * 65536
  | none => 0

/-- The ANC packets of a frame with good checksums, in order of arrival (R173, R177). -/
def ancPackets (typ : Nat) (parts : List (Nat × List Byte)) : List Anc :=
  if typ = 4 then
    ((sortBy (fun (a b : Nat × List Byte) => decide (a.1 ≤ b.1)) parts).flatMap (fun e => (ancOf e.2).getD [])).filter Anc.checksumOk
  else []

/-- A complete frame is published (R175 to R177). -/
def framePublish (f : Nat) (a : Assembly) (io : Io) (st : Stores) : Io × Stores × Option SdiFrame :=
  let v := io.live
  let typ := v.flowType f
  if v.starved f a then (io.flowCount f 40, st, none)
  else
    let st := match a.ancSlot, decide (typ = 4) with
      | some k, true =>
        let i := (v.flow f 29).toNat % 65536
        st.write i (st.slotBase i k) (ancSlotBytes (ancPackets typ a.parts))
      | _, _ => st
    let st := publishIn (v.flow f 28).toNat a.slot a io.now st
    let st := if typ = 5 then st else publishIn (v.flow f 29).toNat a.ancSlot a io.now st
    let io := (io.flowCount f 39).setFs f 44 (Word.of a.rtp)
    let io := (io.setFlowTime f 45 a.media).flowReturned f
    let sdi := if typ = 5 then
        some { flow := f, media := a.media, slot := a.slot, anc := a.ancSlot, rtp := a.rtp
               bytes := (sortBy (fun (x y : Nat × List Byte) => decide (x.1 ≤ y.1)) a.parts).flatMap (·.2) }
      else none
    (io, st, sdi)

/-- A later frame's packet has arrived: incomplete frames before it are discarded, at once without MIRROR (R175). -/
def laterArrived (f : Nat) (io : Io) (st : Stores) : List Assembly → Io × Stores × List Assembly
  | [] => (io, st, [])
  | a :: as =>
    if io.live.flowMirror f then
      let (io, st, rest) := laterArrived f io st as
      (io, st, { a with laterAt := some (a.laterAt.getD io.now) } :: rest)
    else
      let (io, st) := frameDrop f a io st
      laterArrived f io st as

/-- The packet belongs to the second field of the frame being assembled (R175). -/
def joinsField (v : View) (f : Nat) (bs : List Byte) (a : Assembly) : Bool :=
  let body := bs.drop (rtpHeaderLen bs)
  let second := if v.flowType f = 0 then (beAt body 4 2).testBit 15 else if v.flowType f = 4 then decide (beAt body 5 1 / 64 = 3) else false
  second && decide ((v.flowPic f).scan = 1) && a.rtp2.isNone && decide (tsDiff (rtpTs bs) a.rtp > 0)

/-- What a released packet adds to the frame it belongs to. -/
def addPacket (f seq : Nat) (bs : List Byte) (a : Assembly) (io : Io) (st : Stores) : Assembly × Stores :=
  let v := io.live
  let typ := v.flowType f
  let body := bs.drop (rtpHeaderLen bs)
  let a := if a.seqs.contains seq then a
    else { a with
      seqs := seq :: a.seqs
      markers := if rtpMarker bs then seq :: a.markers else a.markers
      parts := if typ = 4 then (seq, body) :: a.parts
        else if typ = 5 then (seq, body.drop (sdiHeaderLen body)) :: a.parts else a.parts }
  let st := match a.slot, decide (typ = 0), parseSrd 3 (body.drop 2) with
    | some k, true, some hs =>
      let i := (v.flow f 28).toNat % 65536
      writeSrds (v.flowPic f) i (st.slotBase i k) hs (body.drop (2 + 6 * hs.length)) st
    | _, _, _ => st
  (a, st)

/-- Replace the frame that satisfies `p`. -/
def replaceFrame (p : Assembly → Bool) (a : Assembly) : List Assembly → List Assembly
  | [] => []
  | x :: xs => if p x then a :: xs else x :: replaceFrame p a xs

/-- A frame that has taken a packet is published once complete, and leaves the list. -/
def settleFrame (f : Nat) (a : Assembly) (frames : List Assembly) (io : Io) (st : Stores) (sv : Sieve) :
    Io × Stores × Sieve × Option SdiFrame :=
  if a.complete (markersNeeded (io.live.flowType f) (io.live.flowPic f).scan) then
    let (io, st, x) := framePublish f a io st
    (io, st, sv.upd f (fun r => { r with frames := frames.filter (fun y => y.rtp ≠ a.rtp) }), x)
  else (io, st, sv.upd f (fun r => { r with frames := replaceFrame (fun y => y.rtp = a.rtp) a frames }), none)

/--
Sequence number of the first packet of the frame that a packet with a new timestamp begins (R175): the one after the marker
of the frame before, where that frame is the one before in time and its marker has come. Else it is taken from the packets received.
DEDUCED, log 22.
-/
def View.firstSeq (v : View) (f : Nat) (r : FlowRt) (ts seq : Nat) : Option Nat :=
  let rate := rateOf (v.flow f 26)
  let next := match r.lastRtp with
    | some t => decide (0 < tsDiff ts t ∧ (tsDiff ts t - 1) * Int.ofNat rate.num ≤ Int.ofNat (v.flowClock f * rate.den))
    | none => false
  r.marked.bind fun m => if m < seq && next && r.frames.all (fun a => a.seqs.all (fun q => decide (q ≤ m))) then some (m + 1) else none

/-- A released packet is depacketized (R175 to R177). -/
def depacketize (f seq : Nat) (pkt : Pkt) (io : Io) (st : Stores) (sv : Sieve) : Io × Stores × Sieve × Option SdiFrame :=
  let v := io.live
  let typ := v.flowType f
  let bs := pkt.payload
  let ts := rtpTs bs
  match sv.rt f with
  | none => (io, st, sv, none)
  | some r =>
    let newer : Bool := match r.lastRtp with
      | some t => decide (tsDiff ts t > 0)
      | none => true
    let first := v.firstSeq f r ts seq
    let mark := fun (r : FlowRt) =>
      { r with marked := if rtpMarker bs then some (max seq (r.marked.getD 0)) else r.marked
               lastRtp := if newer then some ts else r.lastRtp }
    if typ = 2 ∨ typ = 3 then (io.flowReturned f, st, sv.upd f mark, none)
    else if typ = 1 then
      let sv := sv.upd f mark
      if rtpMarker bs then
        let io := (io.flowCount f 39).setFs f 44 (Word.of ts)
        ((io.setFlowTime f 45 (mediaTime 90000 pkt.arrival ts)).flowReturned f, st, sv, none)
      else (io, st, sv, none)
    else
      match r.frames.find? (fun a => decide (a.rtp = ts ∨ a.rtp2 = some ts)) with
      | some a =>
        let (a, st) := addPacket f seq bs a io st
        settleFrame f a r.frames io st (sv.upd f mark)
      | none =>
        match r.frames.getLast? with
        | some a =>
          if joinsField v f bs a then
            let (a, st) := addPacket f seq bs { a with rtp2 := some ts } io st
            settleFrame f a r.frames io st (sv.upd f mark)
          else if newer then
            let (io, st, old) := laterArrived f io st r.frames
            let (a, io, st) := beginFrame f ts (mediaTime (v.flowClock f) pkt.arrival ts) first io st
            let (a, st) := addPacket f seq bs a io st
            settleFrame f a (old ++ [a]) io st (sv.upd f mark)
          else (io, st, sv, none)
        | none =>
          if newer then
            let (a, io, st) := beginFrame f ts (mediaTime (v.flowClock f) pkt.arrival ts) first io st
            let (a, st) := addPacket f seq bs a io st
            settleFrame f a [a] io st (sv.upd f mark)
          else (io, st, sv, none)

/-! The merge (R179, R180). -/

/-- Extended sequence numbers released from the head of the held packets, in order. -/
def releaseRun : Nat → Nat → List HeldPkt → List HeldPkt × Nat × List HeldPkt
  | 0, n, hs => ([], n, hs)
  | k + 1, n, hs =>
    match hs.find? (fun h => h.seq = n) with
    | some h =>
      let (out, n', rest) := releaseRun k (n + 1) (hs.filter (fun x => x.seq ≠ n))
      (h :: out, n', rest)
    | none => ([], n, hs)

/-- Release what is due, counting what leg B alone has supplied (R179). -/
def mergeRelease (f : Nat) (io : Io) (sv : Sieve) : List HeldPkt × Io × Sieve :=
  match sv.rt f with
  | none => ([], io, sv)
  | some r =>
    match r.nextSeq with
    | none => ([], io, sv)
    | some n =>
      let (out, n', rest) := releaseRun r.held.length n r.held
      let io := out.foldl (fun io h => if h.legB then io.flowCount f 42 else io) io
      (out, io, sv.upd f (fun r => { r with nextSeq := some n', held := rest }))

/-- Note the arrival of a copy, and the skew when its twin has arrived (R180). -/
def noteCopy (seq : Nat) (legB : Bool) (at_ : Nat) (r : FlowRt) : FlowRt :=
  match r.copies.find? (fun c => decide (c.1 = seq) && decide (c.2.1 ≠ legB)) with
  | some c =>
    let d : Int := Int.ofNat at_ - Int.ofNat c.2.2
    { r with skews := (if legB then d else -d) :: r.skews, copies := r.copies.filter (fun x => x.1 ≠ seq) }
  | none => { r with copies := (seq, legB, at_) :: r.copies.filter (fun x => decide (at_ ≤ x.2.2 + 40000000)) }

/-- A packet of a mirrored flow meets the merge (R179): held until its number is due, or discarded as redundant. -/
def mergeArrive (f seq : Nat) (legB : Bool) (pkt : Pkt) (sv : Sieve) : Sieve :=
  sv.upd f fun r =>
    let r := noteCopy seq legB pkt.arrival r
    let due := r.nextSeq.getD seq
    if seq < due then r
    else if r.held.any (fun h => h.seq = seq) then
      { r with held := r.held.map (fun h => if h.seq = seq ∧ !legB then { h with legB := false } else h), nextSeq := some due }
    else { r with held := r.held ++ [{ seq := seq, legB := legB, pkt := pkt }], nextSeq := some due }

/-- When the first packet later than the missing one arrived (R179). -/
def FlowRt.gapSince (r : FlowRt) : Option Nat :=
  match r.nextSeq with
  | none => none
  | some n =>
    (r.held.filter (fun h => decide (n < h.seq))).foldl (fun t h =>
      match t with
      | some x => some (min x h.pkt.arrival)
      | none => some h.pkt.arrival) none

/-- The missing number is lost: MIRROR_WIN_US has passed since the first later packet arrived (R179). -/
def mergeOverdue (f : Nat) (io : Io) (sv : Sieve) : Bool :=
  match sv.rt f with
  | some r =>
    match r.gapSince, r.nextSeq with
    | some t, some n => decide (t + io.live.flowWin f * 1000 ≤ io.now) && !r.held.any (fun h => h.seq = n)
    | _, _ => false
  | none => false

/-- Numbers are declared lost one after the other while the window of each has passed, and held packets are released. -/
def mergeLost (f : Nat) (io : Io) (sv : Sieve) : Nat → List HeldPkt × Io × Sieve
  | 0 => ([], io, sv)
  | k + 1 =>
    if mergeOverdue f io sv then
      let io := io.flowCount f 41
      let sv := sv.upd f (fun r => { r with nextSeq := r.nextSeq.map (· + 1) })
      let (out, io, sv) := mergeRelease f io sv
      let (more, io, sv) := mergeLost f io sv k
      (out ++ more, io, sv)
    else ([], io, sv)

/-- The average skew of the second that ends, in microseconds (R180). -/
def avgSkew (xs : List Int) : Int := if xs.isEmpty then 0 else xs.foldl (· + ·) 0 / (Int.ofNat xs.length * 1000)

/-- SKEW_US takes the 1 s average; beyond the window it is logged and raised once (R180). -/
def skewAverage (f : Nat) (io : Io) (sv : Sieve) : Io × Sieve :=
  match sv.rt f with
  | none => (io, sv)
  | some r =>
    if r.skews.isEmpty then (io, sv)
    else
      let a := clampInt (-32768) 32767 (avgSkew r.skews)
      let io := io.setFs f 32 (setBits (io.fs f 32) 16 16 (unsigned 16 a))
      let wide := decide (a.natAbs > io.live.flowWin f)
      let io := if wide && !r.skewRaised then io.flowEvent f 5 (sat 8 (a.natAbs / 1000)) 7 else io
      (io, sv.upd f (fun r => { r with skews := [], skewRaised := wide }))

/-! Arrival of a packet that matches a flow (R171, R173, R179). -/

/-- Captured words 24 to 29 become live at the first packet with a new RTP timestamp, for audio at the next packet (R171). -/
def flowBoundary (f : Nat) (bs : List Byte) (io : Io) (sv : Sieve) : Io × Sieve :=
  match sv.rt f with
  | none => (io, sv)
  | some r =>
    let audio := decide (io.live.flowType f = 2 ∨ io.live.flowType f = 3)
    let fresh := match r.lastRtp with
      | some t => decide (tsDiff (rtpTs bs) t > 0)
      | none => true
    if r.fmt.isEmpty || !(audio || fresh) then (io, sv)
    else (io.makeLive r.fmt, sv.upd f (fun r => { r with fmt := [] }))

/--
Packets before the first new RTP timestamp since VALID are discarded uncounted (R171): true when the packet counts.
A timestamp is new when another came before it since VALID, or when the frame it names began after VALID (DEDUCED, log 21).
-/
def flowStarts (f : Nat) (pkt : Pkt) (v : View) (sv : Sieve) : Bool × Sieve :=
  let ts := rtpTs pkt.payload
  match sv.rt f with
  | none => (false, sv)
  | some r =>
    let fresh := match r.lastRtp with
      | none => decide (r.validAt ≤ mediaTime (v.flowClock f) pkt.arrival ts)
      | some t => decide (ts ≠ t)
    if r.started then (true, sv)
    else if fresh then (true, sv.upd f (fun r => { r with started := true }))
    else (false, sv.upd f (fun r => { r with lastRtp := some ts }))

/-- A packet that matches a flow on a leg: checked, counted, merged. What it releases follows in order of sequence numbers. -/
def flowPacket (f : Nat) (legB : Bool) (pkt : Pkt) (io : Io) (sv : Sieve) : List HeldPkt × Io × Sieve :=
  let bs := pkt.payload
  let (ok, sv) := flowStarts f pkt io.live sv
  if !ok then ([], io, sv)
  else
    let (io, sv) := flowBoundary f bs io sv
    let v := io.live
    let due := (sv.rt f).bind (·.nextSeq)
    let late := io.fld (io.flowPage f) Reg.SIEV_CFG 0 10
    match flowReason v f late due pkt with
    | some n =>
      let (io, sv) := flowDrop f n io sv
      ([], io, sv)
    | none =>
      let io := (io.flowCount48 f 35).setFlowTime f 33 pkt.arrival
      let io := if io.flowState f = 1 then io.setFlowState f 2 else io
      let (io, sv) := legAccepts f legB pkt.arrival io sv
      let seq := extSeq (v.flowType f) due bs
      if v.flowMirror f then mergeRelease f io (mergeArrive f seq legB pkt sv)
      else
        let n := max (due.getD 0) (seq + 1)
        ([{ seq := seq, legB := false, pkt := pkt }], io, sv.upd f (fun r => { r with nextSeq := some n }))

end Sys2Proof.Machine
end

