-- ==== Sys2Proof/Machine/Lanes.lean ====
section
/-! DEFINITION. Serial lanes and the PCS state machine (R110 to R139, R142 to R146): what each lane and port command does to the registers and to the lane state. -/
namespace Sys2Proof.Machine

/-- A lane number as an index of its page. -/
def laneIx (n : Nat) : Fin 128 := Fin.ofNat 128 n

/-- Lanes per port of a PCS_CFG.SPEED value (R110). -/
def lanesOfSpeed (speed : Nat) : Nat := if speed = 4 then 4 else if speed = 3 then 2 else 1

/-- PCS_CFG.SPEED of a port's page. -/
def Io.speedOf (io : Io) (p : Nat) : Nat := io.fld (.pcs (laneIx p)) Reg.PCS_CFG 0 3

/-- The lanes of a port (R110, R111). -/
def Io.portLanes (io : Io) (p : Nat) : List Nat := (List.range (lanesOfSpeed (io.speedOf p))).map (p + ·)

/-- The page of PCS `p` is enabled. -/
def Io.pcsOn (io : Io) (p : Nat) : Bool := !io.isOff (.pcs (laneIx p))

/-- The enabled port that covers a lane (R111). -/
def Io.portOfLane (io : Io) (l : Nat) : Option Nat :=
  ((List.range 4).map (4 * (l / 4) + ·)).find? fun p => io.pcsOn p && (io.portLanes p).contains l

/-- The bring-up stage of a port (R119). -/
def Io.stage (io : Io) (p : Nat) : Nat := io.fld (.pcs (laneIx p)) Reg.PCS_STAT 0 4

/-- Put a port into a bring-up stage. -/
def Io.setStage (io : Io) (p st : Nat) : Io := io.setFld (.pcs (laneIx p)) Reg.PCS_STAT 0 4 st

/-- Replace a flag of LANE_STAT on a list of lanes. -/
def Io.laneFlags (io : Io) (ls : List Nat) (i : Nat) (b : Bool) : Io :=
  ls.foldl (fun io l => io.setFlag (.lane (laneIx l)) Reg.LANE_STAT i b) io

/-- The lanes of a quad (0 to 31). -/
def quadLanes (q : Nat) : List Nat := (List.range 4).map (4 * q + ·)

/-- Pages of a quad other than `p`. -/
def quadOthers (p : Nat) : List Nat := (quadLanes (p / 4)).filter (fun q => q ≠ p)

/-- The alignment, overlap and speed-mix tests of R111 for port `p` at a speed. -/
def Io.quadAdmits (io : Io) (p speed : Nat) : Bool :=
  let n := lanesOfSpeed speed
  decide (p % n = 0) &&
  (quadOthers p).all fun q =>
    let m := lanesOfSpeed (io.speedOf q)
    let claimed := io.pcsOn q || decide (m > 1)
    let overlap := decide (p < q + m) && decide (q < p + n)
    !(claimed && overlap) && !(io.pcsOn q && (decide (speed = 0) != decide (io.speedOf q = 0)))

/-- The FEC modes permitted at a speed (R142). -/
def fecPermitted (speed fec : Nat) : Bool :=
  if speed = 0 then decide (fec ≤ 2) else decide (fec = 3)

/-- A write of PCS_CFG (R111, R137, R142). -/
def Io.pcsCfgWrite (io : Io) (p : Fin 128) (v : Word) : Io :=
  if io.accepts (.pcs p) Reg.PCS_CFG v &&
      !(io.quadAdmits p (bits v 0 3) && fecPermitted (bits v 0 3) (bits v 4 3)) then
    io.ignored (.pcs p) Reg.PCS_CFG 0
  else io.regWrite 0 (.pcs p) Reg.PCS_CFG v

/-- A write of PCS_AN_CTL: link training without auto-negotiation is refused (R145, R146). -/
def Io.anCtlWrite (io : Io) (p : Fin 128) (v : Word) : Io :=
  if io.accepts (.pcs p) Reg.PCS_AN_CTL v && bit v 1 && !bit v 0 then io.ignored (.pcs p) Reg.PCS_AN_CTL 0
  else
    let io' := io.regWrite 0 (.pcs p) Reg.PCS_AN_CTL v
    if io.accepts (.pcs p) Reg.PCS_AN_CTL v && bit v 2 then io'.put (.pcs p) Reg.PCS_AN_STAT 0 else io'

/-- The FEC mode in force: what auto-negotiation resolved while it is done, else PCS_CFG.FEC (R144). -/
def Io.fecOf (io : Io) (p : Nat) : Nat :=
  if io.flag (.pcs (laneIx p)) Reg.PCS_AN_STAT 0 then io.fld (.pcs (laneIx p)) Reg.PCS_AN_STAT 4 3
  else io.fld (.pcs (laneIx p)) Reg.PCS_CFG 4 3

/-- The mode of the port has the stage (R143): without FEC there is no AM_LOCK, DESKEW or FEC_LOCK, with Clause 74 no AM_LOCK or DESKEW. -/
def Io.hasStage (io : Io) (p st : Nat) : Bool :=
  let fec := io.fecOf p
  !((st = 6 || st = 7) && fec ≤ 1 && io.speedOf p = 0) && !(st = 8 && fec = 0 && io.speedOf p = 0)

/-- The stage that follows `st` when it is passed: AN_LT only when enabled, and stages the mode lacks pass at once (R119, R143). -/
def Io.nextStage (io : Io) (p st : Nat) : Nat :=
  if st = 1 then (if io.flag (.pcs (laneIx p)) Reg.PCS_AN_CTL 0 then 2 else 3)
  else if st = 5 then
    (if io.hasStage p 6 then 6 else if io.hasStage p 8 then 8 else 9)
  else st + 1

/-- Every lane of the port has its LANE page enabled, its receiver awake, its PLL locked and a partner present (R119, R120). -/
def signalsReady (io : Io) (ser : Ser) (p : Nat) : Bool :=
  (io.portLanes p).all fun l =>
    !io.isOff (.lane (laneIx l)) && io.flag (.lane (laneIx l)) Reg.LANE_STAT 4 &&
    io.flag (.lane (laneIx l)) Reg.LANE_STAT 6 && ser.present.contains l

/-- Order value that reads straight for a port of `n` lanes (R137). -/
def straightOrder (n : Nat) : Nat := if n = 4 then 0xE4 else if n = 2 then 0x4 else 0

/-- Bits of ORDER that a port of `n` lanes uses. -/
def orderOf (n : Nat) (o : Fin 256) : Nat := o.val % 2 ^ (2 * n) % (if n = 1 then 1 else 256)

/-- Trained transmit taps: any setting whose absolute values sum to at most 63 (R118, R144). -/
def Io.trainTaps (io : Io) (l : Nat) : Io :=
  let pick := fun (f room : Nat) =>
    let lo := min 32 room
    (Int.ofNat (f % (lo + min 31 room + 1))) - Int.ofNat lo
  let a := pick (io.freeNat 16) 63
  let b := pick (io.freeNat 32 / 2 ^ 16) (63 - a.natAbs)
  let c := pick (io.freeNat 48 / 2 ^ 32) (63 - a.natAbs - b.natAbs)
  let e := pick (io.freeNat 56 / 2 ^ 48) (63 - a.natAbs - b.natAbs - c.natAbs)
  let m := (io.freeNat 64 / 2 ^ 56) % (64 - a.natAbs - b.natAbs - c.natAbs - e.natAbs)
  (io.put (.lane (laneIx l)) Reg.LANE_TX_FIR
    (Word.of (unsigned 6 a + unsigned 6 b * 2 ^ 6 + unsigned 6 c * 2 ^ 12 + m * 2 ^ 18 + unsigned 6 e * 2 ^ 24))).took

/-- Results of auto-negotiation and link training when AN_LT is passed (R144, R146). -/
def Io.anPassed (io : Io) (p : Nat) (ob : StageObs) : Io :=
  let pg : PageRef := .pcs (laneIx p)
  let lt := io.flag pg Reg.PCS_AN_CTL 1
  let n := lanesOfSpeed (io.speedOf p)
  let st := setBits (setBits (setBit (io.reg pg Reg.PCS_AN_STAT) 0 true) 4 3 ob.fec) 1 2 (b2n lt + 2)
  let io := io.put pg Reg.PCS_AN_STAT st
  let io := io.put pg Reg.PCS_AN_LP_LO (Word.of ob.page.toNat)
  let io := io.put pg Reg.PCS_AN_LP_HI (Word.of (ob.page.toNat / 2 ^ 32))
  if lt then
    (io.portLanes p).foldl (fun io l => io.trainTaps l)
      (io.put pg Reg.PCS_LT_STAT (Word.of (2 ^ n - 1)))
  else io.put pg Reg.PCS_LT_STAT 0

/-- CDR_LOCK is passed: the lanes are locked, and a cold pass has run initial adaptation (R115, R119). -/
def Io.cdrPassed (io : Io) (p : Nat) (cold : Bool) : Io :=
  (io.portLanes p).foldl (fun io l =>
    let pg : PageRef := .lane (laneIx l)
    let io := io.setFlag pg Reg.LANE_STAT 1 true
    if cold then (io.setFlag pg Reg.LANE_STAT 5 true).setFree pg Reg.LANE_EQ_METRIC 0 32 else io) io

/-- POLARITY is passed: inversion found where RX_POL_AUTO is 1 (R123). -/
def Io.polarityPassed (io : Io) (p : Nat) (inv : Nat) : Io :=
  let ls := io.portLanes p
  let found := fun l => io.flag (.lane (laneIx l)) Reg.LANE_CFG 2 && inv.testBit (l - p)
  let io' := ls.foldl (fun io l => io.setFlag (.lane (laneIx l)) Reg.LANE_STAT 2 (found l)) io
  io'.setFld (.pcs (laneIx p)) Reg.PCS_LANE_MAP 8 4 (ls.foldl (fun n l => n + b2n (found l) * 2 ^ (l - p)) 0)

/-- DESKEW is passed: order and skew found (R123). -/
def Io.deskewPassed (io : Io) (p : Nat) (ob : StageObs) : Io :=
  let pg : PageRef := .pcs (laneIx p)
  let n := lanesOfSpeed (io.speedOf p)
  let o := orderOf n ob.order
  let crooked := decide (o ≠ straightOrder n)
  let io := io.setFld pg Reg.PCS_LANE_MAP 0 8 o
  let io := io.setFlag pg Reg.PCS_LANE_MAP 12 crooked
  let io := io.put pg Reg.PCS_SKEW (Word.of ob.skew)
  if crooked then io.raise pg 6 else io

/-- The port reaches LINK_UP (R119, R136). -/
def Io.linkUp (io : Io) (p : Nat) : Io :=
  let pg : PageRef := .pcs (laneIx p)
  let io := io.setFlag pg Reg.PCS_STAT 4 true
  let io := io.addSat pg Reg.PCS_LINK_CNT 0 16 1
  (io.putWide pg Reg.PCS_LINK_TS_LO io.ns64).raise pg 2

/-- Whether the observation lets the port pass its stage (R119, R121, R123, R145). -/
def stagePasses (io : Io) (ser : Ser) (p : Nat) (ob : StageObs) : Bool :=
  let st := io.stage p
  let n := lanesOfSpeed (io.speedOf p)
  if st = 0 ∨ st ≥ 9 then false
  else if st = 1 then signalsReady io ser p
  else if st = 2 then
    fecPermitted (io.speedOf p) ob.fec &&
    (ob.fec.val != 2 || io.flag (.pcs (laneIx p)) Reg.PCS_AN_CTL 4) &&
    (ob.fec.val != 1 || io.flag (.pcs (laneIx p)) Reg.PCS_AN_CTL 5)
  else if st = 7 then
    decide (ob.skew.val ≤ 20000) &&
    (io.flag (.pcs (laneIx p)) Reg.PCS_CFG 8 || decide (orderOf n ob.order = straightOrder n))
  else signalsReady io ser p

/-- What passing stage `st` leaves behind, before the next stage is entered. -/
def Io.stageWork (io : Io) (ser : Ser) (p st : Nat) (ob : StageObs) : Io :=
  if st = 2 then io.anPassed p ob
  else if st = 3 then io.cdrPassed p (!ser.warm.contains p)
  else if st = 4 then io.polarityPassed p ob.inverted
  else if st = 7 then io.deskewPassed p ob
  else io

/-- A port passes its stage and moves to the next (R119). -/
def passStage (p : Nat) (ob : StageObs) (io : Io) (ser : Ser) : Io × Ser :=
  if stagePasses io ser p ob then
    let st := io.stage p
    let io := io.stageWork ser p st ob
    let nx := io.nextStage p st
    let io := io.setStage p nx
    if nx = 9 then (io.linkUp p, { ser with lastUp := FMap.insert ser.lastUp p io.up })
    else if nx = 3 then
      let recent := match FMap.find ser.lastUp p with
        | some t => decide (io.up ≤ t + 1000000000)
        | none => false
      (io, { ser with warm := if recent then p :: ser.warm.erase p else ser.warm.erase p })
    else (io, ser)
  else (io, ser)

/-- The port restarts at CDR_LOCK, cold or warm (R117, R119, R121). -/
def restartCdr (p : Nat) (warm : Bool) (io : Io) (ser : Ser) : Io × Ser :=
  let io := io.laneFlags (io.portLanes p) 1 false
  let io := if warm then io else io.laneFlags (io.portLanes p) 5 false
  (io.setStage p 3, { ser with warm := if warm then p :: ser.warm.erase p else ser.warm.erase p })

/-- A loss of an up link: LINK_DOWN, its cause and its count (R122). -/
def Io.linkDown (io : Io) (p cause : Nat) : Io :=
  let pg : PageRef := .pcs (laneIx p)
  if io.stage p = 9 then
    let io := io.setFlag pg Reg.PCS_STAT 4 false
    let io := io.setFld pg Reg.PCS_STAT 5 3 cause
    let io := io.addSat pg Reg.PCS_LINK_CNT 16 16 1
    (io.putWide pg Reg.PCS_LINK_TS_LO io.ns64).raise pg 3
  else io

/-- A loss sends the port back to a stage; auto-negotiation results hold only while the link stays up (R122, R144). -/
def loseLink (p cause st : Nat) (io : Io) (ser : Ser) : Io × Ser :=
  let ser := if io.stage p = 9 then { ser with lastUp := FMap.insert ser.lastUp p io.up } else ser
  let io := io.linkDown p cause
  if st = 3 then restartCdr p true io ser
  else if st ≤ 1 then
    (((io.laneFlags (io.portLanes p) 1 false).setFlag (.pcs (laneIx p)) Reg.PCS_AN_STAT 0 false).setStage p st, ser)
  else (io.setStage p st, ser)

/-- A stage exceeds its maximum: recorded, and the port restarts at cold CDR_LOCK (R121, R123). Stages 1 and 2 have no maximum. -/
def stageTimeout (p : Nat) (ob : StageObs) (io : Io) (ser : Ser) : Io × Ser :=
  let st := io.stage p
  let pg : PageRef := .pcs (laneIx p)
  let n := lanesOfSpeed (io.speedOf p)
  if 3 ≤ st ∧ st ≤ 8 then
    let io := (io.recordErr pg 0x0412 st).raise pg 4
    let io := if st = 7 ∧ ob.skew.val > 20000 then
        ((io.put pg Reg.PCS_SKEW (Word.of ob.skew)).recordOpen pg 0x0413).raise pg 5
      else io
    let io := if st = 7 ∧ io.flag pg Reg.PCS_CFG 8 = false ∧ orderOf n ob.order ≠ straightOrder n then
        io.recordOpen pg 0x0414
      else io
    restartCdr p false io ser
  else (io, ser)

/-- An attempt at auto-negotiation or training fails and restarts (R145). -/
def Io.anFail (io : Io) (p : Fin 128) (training : Bool) (failed : Fin 16) : Io :=
  let pg : PageRef := .pcs p
  if io.stage p = 2 then
    let io := (io.recordOpen pg (if training then 0x0417 else 0x0416)).raise pg 8
    let io := io.addSat pg Reg.PCS_AN_STAT 8 8 1
    let io := io.setFld pg Reg.PCS_AN_STAT 0 2 0
    if training then io.put pg Reg.PCS_LT_STAT (Word.of (failed.val * 16)) else io
  else io

/-! Partners and sleep (R124, R125). -/

/-- No partner event is raised on a lane with loopback selected or whose page is disabled (R124, R130). -/
def Io.watches (io : Io) (l : Fin 128) : Bool :=
  !io.isOff (.lane l) && decide (io.fld (.lane l) Reg.LANE_CFG 4 2 = 0)

/-- A partner is declared arrived; with SD_AUTO_WAKE a sleeping receiver wakes by itself (R124, R125). -/
def partnerArrived (l : Fin 128) (io : Io) (ser : Ser) : Io × Ser :=
  if io.watches l && !ser.present.contains l.val then
    let io := io.setFlag (.lane l) Reg.LANE_STAT 0 true
    let io := io.addSat (.lane l) Reg.LANE_PARTNER_CNT 0 16 1
    let io := (io.putWide (.lane l) Reg.LANE_PARTNER_TS_LO io.ns64).raise (.lane l) 2
    let io := if io.flag (.lane l) Reg.LANE_CFG 8 then io.setFlag (.lane l) Reg.LANE_SLEEP 1 false else io
    (io, { ser with present := l.val :: ser.present })
  else (io, ser)

/-- A partner is declared departed (R124). -/
def partnerDeparted (l : Fin 128) (io : Io) (ser : Ser) : Io × Ser :=
  if io.watches l && ser.present.contains l.val then
    let io := io.setFlag (.lane l) Reg.LANE_STAT 0 false
    let io := io.addSat (.lane l) Reg.LANE_PARTNER_CNT 16 16 1
    let io := (io.putWide (.lane l) Reg.LANE_PARTNER_TS_LO io.ns64).raise (.lane l) 3
    (io, { ser with present := ser.present.erase l.val })
  else (io, ser)

/-! The PRBS checker (R128, R129). -/

/-- Line rate of a lane as a fraction of bits per nanosecond, from LANE_STAT.RATE (R110, R134). -/
def lineRate (io : Io) (l : Fin 128) : Nat × Nat :=
  let r := io.fld (.lane l) Reg.LANE_STAT 8 2
  if r = 1 then (425, 8) else if r = 2 then (825, 32) else (425, 4)

/-- The lane is on NRZ signalling (R110). -/
def Io.nrz (io : Io) (l : Fin 128) : Bool := decide (io.fld (.lane l) Reg.LANE_STAT 8 2 = 2)

/-- Bring the 48-bit counters of a locked checker up to the present time with `errs` more errors; both stop when the compared-bit counter is full (R129). -/
def prbsSync (l : Fin 128) (errs : Nat) (io : Io) (ser : Ser) : Io × Ser :=
  match FMap.find ser.prbsSince l with
  | none => (io, ser)
  | some t =>
    let (n, m) := lineRate io l
    let bitsNow := io.wide (.lane l) Reg.LANE_PRBS_BITS_LO
    let full := 2 ^ 48 - 1
    let io := if bitsNow ≥ full then io
      else (io.putWide (.lane l) Reg.LANE_PRBS_BITS_LO (min full (bitsNow + (io.up - t) * n / m))).putWide
        (.lane l) Reg.LANE_PRBS_ERR_LO (min full (io.wide (.lane l) Reg.LANE_PRBS_ERR_LO + errs))
    (io, { ser with prbsSince := FMap.insert ser.prbsSince l io.up })

/-- The checker stops counting: loss of lock, sleep or disable. -/
def prbsStop (l : Fin 128) (errs : Nat) (io : Io) (ser : Ser) : Io × Ser :=
  let (io, ser) := prbsSync l errs io ser
  (io.setFlag (.lane l) Reg.LANE_PRBS_STAT 0 false, { ser with prbsSince := FMap.erase ser.prbsSince l })

/-- The checker locks (R129). -/
def prbsLock (l : Fin 128) (inverted : Bool) (io : Io) (ser : Ser) : Io × Ser :=
  if io.flag (.lane l) Reg.LANE_PRBS_CTL 12 && io.flag (.lane l) Reg.LANE_STAT 4 &&
      (!inverted || io.flag (.lane l) Reg.LANE_PRBS_CTL 13) && (FMap.find ser.prbsSince l).isNone then
    ((io.setFlag (.lane l) Reg.LANE_PRBS_STAT 0 true).setFlag (.lane l) Reg.LANE_PRBS_STAT 1 inverted,
      { ser with prbsSince := FMap.insert ser.prbsSince l io.up })
  else (io, ser)

/-- More than 256 errors within 1,024 bits: the checker loses lock, counts the loss and searches again (R129). -/
def prbsLost (l : Fin 128) (errs : Nat) (io : Io) (ser : Ser) : Io × Ser :=
  if (FMap.find ser.prbsSince l).isSome && decide (errs > 256) then
    let (io, ser) := prbsStop l errs io ser
    ((io.addSat (.lane l) Reg.LANE_PRBS_STAT 8 8 1).raise (.lane l) 6, ser)
  else (io, ser)

/-- INJECT flips one transmitted bit: a checker fed by near-end loopback counts it (R129, R130). -/
def prbsInject (l : Fin 128) (io : Io) (ser : Ser) : Io × Ser :=
  if io.flag (.lane l) Reg.LANE_PRBS_CTL 4 && decide (io.fld (.lane l) Reg.LANE_CFG 4 2 = 1) then
    prbsSync l 1 io ser
  else (io, ser)

/-- CLEAR zeroes the counters and the lock losses (R134). -/
def prbsClear (l : Fin 128) (io : Io) (ser : Ser) : Io × Ser :=
  let io := ((io.putWide (.lane l) Reg.LANE_PRBS_ERR_LO 0).putWide (.lane l) Reg.LANE_PRBS_BITS_LO 0).setFld
    (.lane l) Reg.LANE_PRBS_STAT 8 8 0
  (io, if (FMap.find ser.prbsSince l).isSome then { ser with prbsSince := FMap.insert ser.prbsSince l io.up } else ser)

/-- The lane's PCS port is disabled: its own page and any page that covers it (R128). -/
def Io.pcsFree (io : Io) (l : Fin 128) : Bool := io.isOff (.pcs l) && (io.portOfLane l).isNone

/-- A write of LANE_PRBS_CTL: enables need the PCS port disabled, SSPRBS needs a PAM4 lane (R128, R134). -/
def prbsCtlWrite (l : Fin 128) (v : Word) (io : Io) (ser : Ser) : Io × Ser :=
  let old := io.reg (.lane l) Reg.LANE_PRBS_CTL
  let enabling := (bit v 4 && !bit old 4) || (bit v 12 && !bit old 12)
  let ssprbs := (bit v 4 && bits v 0 4 = 6) || (bit v 12 && bits v 8 4 = 6)
  if !io.accepts (.lane l) Reg.LANE_PRBS_CTL v then (io.regWrite 0 (.lane l) Reg.LANE_PRBS_CTL v, ser)
  else if enabling && !io.pcsFree l then (io.ignored (.lane l) Reg.LANE_PRBS_CTL 2, ser)
  else if ssprbs && io.nrz l then (io.ignored (.lane l) Reg.LANE_PRBS_CTL 0, ser)
  else
    let (io, ser) := if bit v 12 then (io, ser) else prbsStop l 0 io ser
    let io := (io.regWrite 0 (.lane l) Reg.LANE_PRBS_CTL v).setFlag (.lane l) Reg.LANE_PRBS_STAT 2 (bit v 4)
    let (io, ser) := if bit v 17 then prbsClear l io ser else (io, ser)
    if bit v 16 then prbsInject l io ser else (io, ser)

/-! The eye scan (R131, R132). -/

/-- The ascending grid values of an axis register. -/
def eyeAxis (w : Word) : List Int :=
  let lo := signed 8 (bits w 0 8)
  let hi := signed 8 (bits w 8 8)
  let step := bits w 16 8
  if hi < lo then [] else (List.range ((hi - lo).toNat / step + 1)).map (fun i => lo + Int.ofNat (i * step))

/-- The points of the grid in the order of the scan: phases ascending, voltages ascending at each phase (R131). -/
def Io.eyeGrid (io : Io) (l : Fin 128) : List (Int × Int) :=
  (eyeAxis (io.reg (.lane l) Reg.LANE_EYE_PHASE)).flatMap fun p =>
    (eyeAxis (io.reg (.lane l) Reg.LANE_EYE_VOLT)).map (fun v => (p, v))

/-- The grounds on which START is refused (R132). -/
def Io.eyeRefused (io : Io) (l : Fin 128) : Bool :=
  let n := (io.eyeGrid l).length
  decide (n = 0) || decide (n > 256) || !io.flag (.lane l) Reg.LANE_STAT 1 ||
    !io.flag (.lane l) Reg.LANE_STAT 4 || (io.nrz l && decide (io.fld (.lane l) Reg.LANE_EYE_CTL 2 2 ≠ 1))

/-- START begins a scan, is refused, or is ignored during one (R131, R132). -/
def eyeStart (l : Fin 128) (io : Io) (ser : Ser) : Io × Ser :=
  if !io.powered (.lane l) then (io.ignored (.lane l) Reg.LANE_EYE_CTL 3, ser)
  else if io.flag (.lane l) Reg.PAGE_LOCK 1 then (io.ignored (.lane l) Reg.LANE_EYE_CTL 1, ser)
  else if io.flag (.lane l) Reg.LANE_EYE_STAT 0 then (io, ser)
  else if io.eyeRefused l then
    ((io.ignored (.lane l) Reg.LANE_EYE_CTL 0).recordOpen (.lane l) 0x0411, ser)
  else (io.put (.lane l) Reg.LANE_EYE_STAT 1, { ser with eyeSince := FMap.insert ser.eyeSince l io.up })

/-- Write the result words of the first `n` points: the error counts are what the eye shows, which nothing here fixes. -/
def Io.eyeWrite (io : Io) (l : Fin 128) (n : Nat) : Io :=
  ((io.eyeGrid l).take n).zipIdx.foldl (fun io e =>
    (io.put (.lane l) (Reg.LANE_EYE_RES + 4 * e.2)
      (Word.of (io.freeNat 16 + unsigned 8 e.1.1 * 2 ^ 16 + unsigned 8 e.1.2 * 2 ^ 24))).took) io

/-- Points that a scan started at `t` has completed by now (R131). -/
def Io.eyePoints (io : Io) (l : Fin 128) (t : Nat) : Nat :=
  let (n, m) := lineRate io l
  (io.up - t) * n / m / 2 ^ io.fld (.lane l) Reg.LANE_EYE_CTL 4 6

/-- A running scan ends: all points done, or aborted with the words so far kept (R131, R132). -/
def eyeEnd (l : Fin 128) (aborted : Bool) (io : Io) (ser : Ser) : Io × Ser :=
  match FMap.find ser.eyeSince l with
  | none => (io, ser)
  | some t =>
    let all := (io.eyeGrid l).length
    let n := if aborted then min all (io.eyePoints l t) else all
    let io := io.eyeWrite l n
    let io := io.put (.lane l) Reg.LANE_EYE_STAT (Word.of ((if aborted then 4 else 2) + n * 16))
    (io.raise (.lane l) 7, { ser with eyeSince := FMap.erase ser.eyeSince l })

/-- Loss of CDR lock on a lane ends its scan as aborted (R132). -/
def eyeAbortAll (ls : List Nat) (io : Io) (ser : Ser) : Io × Ser :=
  ls.foldl (fun x l => eyeEnd (laneIx l) true x.1 x.2) (io, ser)

/-! Sleep (R125, R126). -/

/-- The lane belongs to a port with auto-negotiation or link training enabled (R126). -/
def Io.anOnLane (io : Io) (l : Fin 128) : Bool :=
  match io.portOfLane l with
  | some p => decide (io.fld (.pcs (laneIx p)) Reg.PCS_AN_CTL 0 2 ≠ 0)
  | none => decide (io.fld (.pcs l) Reg.PCS_AN_CTL 0 2 ≠ 0)

/-- The value written to LANE_SLEEP passes its checks (R38, R126). -/
def Io.sleepWrite (io : Io) (l : Fin 128) (v : Word) : Io :=
  if io.accepts (.lane l) Reg.LANE_SLEEP v && bit v 0 && io.anOnLane l then io.ignored (.lane l) Reg.LANE_SLEEP 0
  else io.regWrite 0 (.lane l) Reg.LANE_SLEEP v

/-- Transmitter and receiver follow LANE_SLEEP into sleep at once; waking ends at WAKE_DONE (R125). -/
def sleepEffect (l : Fin 128) (io : Io) (ser : Ser) : Io × Ser :=
  let io := if io.flag (.lane l) Reg.LANE_SLEEP 0 then io.setFlag (.lane l) Reg.LANE_STAT 3 false else io
  if io.flag (.lane l) Reg.LANE_SLEEP 1 && io.flag (.lane l) Reg.LANE_STAT 4 then
    let (io, ser) := eyeEnd l true io ser
    let (io, ser) := prbsStop l 0 io ser
    ((io.setFlag (.lane l) Reg.LANE_STAT 4 false).setFlag (.lane l) Reg.LANE_STAT 1 false, ser)
  else (io, ser)

/-- TX or RX reaches its wake point; a receiver continues bring-up at POLARITY (R125). -/
def wakeDone (l : Fin 128) (rx : Bool) (io : Io) (ser : Ser) : Io × Ser :=
  let pg : PageRef := .lane l
  if io.isOff pg || !io.powered pg then (io, ser)
  else if rx then
    if !io.flag pg Reg.LANE_SLEEP 1 && !io.flag pg Reg.LANE_STAT 4 then
      let io := (io.setFlag pg Reg.LANE_STAT 4 true).setFlag pg Reg.LANE_STAT 1 (ser.present.contains l.val)
      let io := io.raise pg 9
      match io.portOfLane l with
      | some p => if io.stage p = 1 ∧ signalsReady io ser p then (io.setStage p 4, ser) else (io, ser)
      | none => (io, ser)
    else (io, ser)
  else if !io.flag pg Reg.LANE_SLEEP 0 && !io.flag pg Reg.LANE_STAT 3 && io.flag pg Reg.LANE_STAT 6 then
    ((io.setFlag pg Reg.LANE_STAT 3 true).raise pg 9, ser)
  else (io, ser)

/-! Equaliser (R114 to R118). -/

/-- A free value of `n` equally coded settings from `lo` up. -/
def Io.freeIn (io : Io) (lo : Int) (n : Nat) : Int := lo + Int.ofNat (io.freeNat 32 % n)

/-- Freeze a stage: its adapted value, which adaptation leaves open within the range of R114, replaces the override value (R116). -/
def Io.freezeStage (io : Io) (l : Fin 128) (st : EqStage) : Io :=
  let pg : PageRef := .lane l
  let put := fun (io : Io) (off lo len : Nat) (a : Int) (n : Nat) =>
    (io.setFld pg off lo len (unsigned len (io.freeIn a n))).took
  match st with
  | .vga => put io Reg.LANE_EQ_CTLE 16 7 0 128
  | .ctle => put (put io Reg.LANE_EQ_CTLE 0 5 0 32) Reg.LANE_EQ_CTLE 8 4 0 16
  | .ffe => put (put (put io Reg.LANE_EQ_FFE 0 8 (-32) 64) Reg.LANE_EQ_FFE 8 8 32 96) Reg.LANE_EQ_FFE 16 8 (-32) 64
  | .dfe =>
    let io := put (put io Reg.LANE_EQ_DFE 0 8 (-127) 255) Reg.LANE_EQ_DFE 8 8 (-127) 255
    (List.range 7).foldl (fun io k =>
      put (put io (Reg.LANE_EQ_DFE + 4 + 4 * k) 0 8 (-63) 127) (Reg.LANE_EQ_DFE + 4 + 4 * k) 8 8 (-63) 127) io
  | .float =>
    let a := io.freeNat 16 % 48
    let b := (a + 1 + io.freeNat 32 / 2 ^ 16 % 47) % 48
    ((io.setFld pg Reg.LANE_EQ_FLOAT 0 6 (15 + a)).setFld pg Reg.LANE_EQ_FLOAT 8 6 (15 + b)).took

/-- Bit of LANE_EQ_CTL of a stage (R134). -/
def eqStageIx : EqStage → Nat
  | .vga => 0 | .ctle => 1 | .ffe => 2 | .dfe => 3 | .float => 4

/-- The equaliser stages. -/
def eqStages : List EqStage := [.vga, .ctle, .ffe, .dfe, .float]

/-- A write of LANE_EQ_CTL: each adapt bit that is cleared freezes its stage (R116). -/
def Io.eqCtlWrite (io : Io) (l : Fin 128) (v : Word) : Io :=
  let old := io.reg (.lane l) Reg.LANE_EQ_CTL
  let io' := io.regWrite 0 (.lane l) Reg.LANE_EQ_CTL v
  if io.accepts (.lane l) Reg.LANE_EQ_CTL v then
    eqStages.foldl (fun io st => if bit old (eqStageIx st) && !bit v (eqStageIx st) then io.freezeStage l st else io) io'
  else io'

/-- A write of LANE_EQ_FLOAT needs two unequal positions (R114, R133). -/
def Io.eqFloatWrite (io : Io) (l : Fin 128) (v : Word) : Io :=
  if io.accepts (.lane l) Reg.LANE_EQ_FLOAT v && decide (bits v 0 6 = bits v 8 6) then
    io.ignored (.lane l) Reg.LANE_EQ_FLOAT 0
  else io.regWrite 0 (.lane l) Reg.LANE_EQ_FLOAT v

/-- Link training runs on the lane's port (R118). -/
def Io.trainingOn (io : Io) (l : Fin 128) : Bool :=
  match io.portOfLane l with
  | some p => decide (io.stage p = 2) && io.flag (.pcs (laneIx p)) Reg.PCS_AN_CTL 1
  | none => false

/-- A write of LANE_TX_FIR: ignored during training, and when the absolute taps sum to more than 63 (R118). -/
def Io.txFirWrite (io : Io) (l : Fin 128) (v : Word) : Io :=
  let s := fun lo => (signed 6 (bits v lo 6)).natAbs
  if io.accepts (.lane l) Reg.LANE_TX_FIR v && io.trainingOn l then io.ignored (.lane l) Reg.LANE_TX_FIR 2
  else if io.accepts (.lane l) Reg.LANE_TX_FIR v && decide (s 0 + s 6 + s 12 + bits v 18 6 + s 24 > 63) then
    io.ignored (.lane l) Reg.LANE_TX_FIR 0
  else io.regWrite 0 (.lane l) Reg.LANE_TX_FIR v

/-- A write of LANE_CFG: loopback changes only while the LANE page is disabled (R130). -/
def Io.laneCfgWrite (io : Io) (l : Fin 128) (v : Word) : Io :=
  if io.accepts (.lane l) Reg.LANE_CFG v && !io.isOff (.lane l) &&
      decide (bits v 4 2 ≠ io.fld (.lane l) Reg.LANE_CFG 4 2) then io.ignored (.lane l) Reg.LANE_CFG 2
  else io.regWrite 0 (.lane l) Reg.LANE_CFG v

/-- A tap or gain has sat at an end of its range for 1 s: advisory (R115). -/
def Io.adaptLimit (io : Io) (l : Fin 128) : Io :=
  if !io.isOff (.lane l) && decide (io.fld (.lane l) Reg.LANE_EQ_CTL 0 5 ≠ 0) then io.raise (.lane l) 8 else io

/-- The counters that PCS_CNT_CLR clears (R136). -/
def Io.pcsCntClr (io : Io) (p : Fin 128) : Io :=
  (io.put (.pcs p) Reg.PCS_LINK_CNT 0).clearFrom (.pcs p) Reg.PCS_BLK_ERR_LO 8

/-! Quad PLLs (R112, R135). -/

/-- The quad's transmitters stop and PLL_LOCK clears; PLL_LOCK_LOST is raised on every lane with the code given. -/
def Io.pllDown (io : Io) (q code : Nat) : Io :=
  (quadLanes q).foldl (fun io l =>
    let io := (io.setFlag (.lane (laneIx l)) Reg.LANE_STAT 6 false).setFlag (.lane (laneIx l)) Reg.LANE_STAT 3 false
    (io.recordOpen (.lane (laneIx l)) code).raise (.lane (laneIx l)) 5) io

/-- The quad has a locked PLL again and its transmitters resume unless asleep. -/
def Io.pllBack (io : Io) (q : Nat) (spare : Bool) : Io :=
  (quadLanes q).foldl (fun io l =>
    let pg : PageRef := .lane (laneIx l)
    let io := io.setFlag pg Reg.LANE_STAT 6 true
    let io := if spare then io.setFlag pg Reg.LANE_STAT 7 true else io
    if io.isOff pg || io.flag pg Reg.LANE_SLEEP 0 then io else io.setFlag pg Reg.LANE_STAT 3 true) io

/-- The enabled ports whose lowest lane lies in a quad. -/
def Io.quadPorts (io : Io) (q : Nat) : List Nat := (quadLanes q).filter io.pcsOn

/-- Enabling a LANE page wakes what LANE_SLEEP leaves awake, and lets a port that waits for it enter SIG_DETECT (R120, R125). -/
def laneEnabled (l : Fin 128) (io : Io) (ser : Ser) : Io × Ser :=
  let pg : PageRef := .lane l
  let io := io.setFlag pg Reg.LANE_STAT 3 (!io.flag pg Reg.LANE_SLEEP 0 && io.flag pg Reg.LANE_STAT 6)
  let io := io.setFlag pg Reg.LANE_STAT 4 (!io.flag pg Reg.LANE_SLEEP 1)
  match io.portOfLane l with
  | some p => (if io.stage p = 0 then io.setStage p 1 else io, ser)
  | none => (io, ser)

/-- Enabling a PCS page enters SIG_DETECT and sets the rate of its lanes (R110, R119). -/
def Io.pcsEnabled (io : Io) (p : Fin 128) : Io :=
  let sp := io.speedOf p
  let rate := if sp = 0 then 2 else if sp = 1 then 1 else 0
  let io := (io.portLanes p).foldl (fun io l => io.setFld (.lane (laneIx l)) Reg.LANE_STAT 8 2 rate) io
  (io.put (.pcs p) Reg.PCS_AN_STAT 0).setStage p 1

end Sys2Proof.Machine
end

