-- ==== Sys2Proof/Machine/Mac.lean ====
section
/-! DEFINITION. MAC and MACsec (R147 to R149, R158 to R162): the receive checks, the transmit path, and the SecY of a port. -/
namespace Sys2Proof.Machine

/-- The timestamp of a frame on a port at this instant, corrected by one of the port's adjust registers, in signed picoseconds (R151). -/
def Io.stamp (io : Io) (port : Fin 128) (adj : Nat) : Nat :=
  (Int.ofNat io.now + signed 20 (io.fld (.mac port) adj 0 20) / 1000 + Int.ofNat (Config.stampError io.now port % 9) - 4).toNat

/-! MACsec (R158 to R162). -/

/-- Number of the association entry of receive channel `c`, association `a` (R162). -/
def rxSa (c a : Nat) : Nat := 4 + 4 * c + a

/-- Offset of word `w` of an association entry. -/
def saReg (n w : Nat) : Nat := 0x200 + 32 * n + 4 * w

/-- A word of an association entry. -/
def Io.sa (io : Io) (p : Fin 128) (n w : Nat) : Word := io.reg (.msec p) (saReg n w)

/-- EN of an association entry. -/
def Io.saOn (io : Io) (p : Fin 128) (n : Nat) : Bool := bit (io.sa p n 0) 16

/-- MSEC_CFG of a port. -/
def Io.msecCfg (io : Io) (p : Fin 128) : Word := io.reg (.msec p) Reg.MSEC_CFG

/-- Packet number of an association: the next to send, or the lowest acceptable (R162). -/
def Io.saPn (io : Io) (p : Fin 128) (n : Nat) : Nat :=
  (io.sa p n 1).toNat + if bit (io.msecCfg p) 2 then 2 ^ 32 * (io.sa p n 2).toNat else 0

/-- Write the packet number of an association; word 2 holds 0 without XPN. -/
def Io.setSaPn (io : Io) (p : Fin 128) (n pn : Nat) : Io :=
  let io := io.put (.msec p) (saReg n 1) (Word.of pn)
  io.put (.msec p) (saReg n 2) (if bit (io.msecCfg p) 2 then Word.of (pn / 2 ^ 32) else 0)

/-- Initialisation vector: SCI and packet number, or SSCI and packet number under the salt with XPN (IEEE 802.1AE-2018). -/
def Io.saIv (io : Io) (p : Fin 128) (n sci pn : Nat) : List Byte :=
  if bit (io.msecCfg p) 2 then
    let salt := (io.sa p n 4).toNat + 2 ^ 32 * (io.sa p n 5).toNat + 2 ^ 64 * (io.sa p n 6).toNat
    beBytes 12 (((io.sa p n 3).toNat * 2 ^ 64 + pn) ^^^ salt)
  else beBytes 12 (sci * 2 ^ 32 + pn % 2 ^ 32)

/-- Bytes of user data in the clear: all with integrity only, else the confidentiality offset (R162). -/
def clearBytes (cfg : Word) (user : Nat) : Nat :=
  if bit cfg 3 then (if bits cfg 4 2 = 0 then 0 else if bits cfg 4 2 = 1 then 30 else 50) else user

/-- EAPOL, and PTP while PTP_BYPASS, pass MACsec by in both directions (R158). -/
def msecBypass (cfg : Word) (bs : List Byte) : Bool :=
  decide ((parseEth bs).etype = 0x888E) || (bit cfg 10 && isPtp bs)

/-- Clear EN of an association (R159). -/
def Io.saOff (io : Io) (p : Fin 128) (n : Nat) : Io :=
  io.put (.msec p) (saReg n 0) (setBit (io.sa p n 0) 16 false)

/-- The SecTAG of a transmitted frame (IEEE 802.1AE-2018). -/
def secTag (cfg : Word) (an sci pn user : Nat) : List Byte :=
  let tci := an + (if bit cfg 3 then 12 else 0) + b2n (bit cfg 6) * 32
  beBytes 2 0x88E5 ++ [BitVec.ofNat 8 tci, BitVec.ofNat 8 (if user < 48 then user else 0)] ++ beBytes 4 pn ++
    (if bit cfg 6 then beBytes 8 sci else [])

/-- Protect a frame with association `n`, whose key is `key`. -/
def protectFrame (io : Io) (p : Fin 128) (n : Nat) (key bs : List Byte) : List Byte :=
  let cfg := io.msecCfg p
  let pn := io.saPn p n
  let sci := io.wide (.msec p) Reg.MSEC_TX_SCI_LO
  let user := bs.drop 12
  let k := clearBytes cfg user.length
  let head := bs.take 12 ++ secTag cfg n sci pn user.length ++ user.take k
  head ++ Config.gcmSeal key (io.saIv p n sci pn) (user.drop k) head

/-- The packet number advances past the one just used: threshold and exhaustion (R160). -/
def Io.advancePn (io : Io) (p : Fin 128) (n : Nat) : Io :=
  let xpn := bit (io.msecCfg p) 2
  let pn := io.saPn p n
  let top := if xpn then 2 ^ 64 - 1 else 2 ^ 32 - 1
  let part := fun x => if xpn then x / 2 ^ 32 else x
  let thr := (io.reg (.msec p) Reg.MSEC_PN_THRESH).toNat
  if pn = top then
    let io := io.put (.msec p) (saReg n 0) (setBit (io.sa p n 0) 17 true)
    (io.recordOpen (.msec p) 0x0512).raise (.msec p) 3
  else
    let io := io.setSaPn p n (pn + 1)
    if part pn ≤ thr ∧ thr < part (pn + 1) then io.raise (.msec p) 2 else io

/-- The transmit half of the SecY: the frame to send, or none where it is dropped (R158 to R160). -/
def msecSend (key : Nat → Option (List Byte)) (p : Fin 128) (bs : List Byte) (io : Io) : Option (List Byte) × Io :=
  let cfg := io.msecCfg p
  if !io.running (.msec p) || !bit cfg 0 || msecBypass cfg bs then (some bs, io)
  else
    let n := io.fld (.msec p) Reg.MSEC_TX_AN 0 2
    let held := key (bits (io.sa p n 0) 0 9)
    match held with
    | some k =>
      if io.saOn p n && !bit (io.sa p n 0) 17 then
        (some (protectFrame io p n k bs), (io.count48 (.msec p) Reg.MSEC_OUT_PROT_LO 1).advancePn p n)
      else (none, io.count48 (.msec p) Reg.MSEC_OUT_DROP_LO 1)
    | none => (none, io.count48 (.msec p) Reg.MSEC_OUT_DROP_LO 1)

/-- The receive channel of a SecTAG: by its SCI, by the end-station address, or channel 0 where the tag names none. -/
def Io.rxChannel (io : Io) (p : Fin 128) (tci : Nat) (bs : List Byte) : Option Nat :=
  let sci := if tci.testBit 5 then some (beAt bs 20 8)
    else if tci.testBit 6 then some (beAt bs 6 6 * 2 ^ 16 + 1) else none
  match sci with
  | some s => (List.range 4).find? (fun c => io.wide (.msec p) (Reg.MSEC_RX_SCI + 8 * c) = s)
  | none => some 0

/-- The full packet number of a received frame: with XPN the upper half is recovered from the lowest acceptable number. -/
def recoverPn (xpn : Bool) (low pn : Nat) : Nat :=
  if !xpn then pn
  else
    let hi := low / 2 ^ 32
    if low % 2 ^ 32 ≥ 2 ^ 31 ∧ pn < 2 ^ 31 then (hi + 1) * 2 ^ 32 + pn else hi * 2 ^ 32 + pn

/-- The lowest acceptable number after a frame with number `pn` (R162). -/
def Io.replayAdvance (io : Io) (p : Fin 128) (n pn : Nat) : Io :=
  let win := (io.reg (.msec p) Reg.MSEC_REPLAY_WIN).toNat
  io.setSaPn p n (max (io.saPn p n) (pn + 1 - win))

/-- What a frame that is not validated becomes: under Strict it is dropped, else it passes unless it is encrypted. -/
def msecLenient (cfg : Word) (tci : Nat) (plain : List Byte) : Option (List Byte) :=
  if bits cfg 8 2 = 2 ∨ tci.testBit 2 then none else some plain

/-- The receive half of the SecY: the frame passed on, or none where it is dropped (R158, R162). -/
def msecReceive (key : Nat → Option (List Byte)) (p : Fin 128) (bs : List Byte) (io : Io) : Option (List Byte) × Io :=
  let cfg := io.msecCfg p
  let pg : PageRef := .msec p
  if !io.running pg || !bit cfg 1 then (some bs, io)
  else if msecBypass cfg bs then (some bs, io.count48 pg Reg.MSEC_IN_BYPASS_LO 1)
  else if beAt bs 12 2 ≠ 0x88E5 then
    let io := io.count48 pg Reg.MSEC_IN_UNTAGGED_LO 1
    (if bits cfg 8 2 = 2 then none else some bs, io)
  else
    let tci := beAt bs 14 1
    let an := tci % 4
    let tag := if tci.testBit 5 then 16 else 8
    let head := bs.take (12 + tag)
    let sealed := bs.drop (12 + tag)
    let bare := sealed.take (sealed.length - 16)
    let plain := bs.take 12 ++ bare
    let noSa := (msecLenient cfg tci plain, (io.count48 pg Reg.MSEC_IN_NOSA_LO 1).raise pg 6)
    match io.rxChannel p tci bs with
    | none => noSa
    | some c =>
      let n := rxSa c an
      match key (bits (io.sa p n 0) 0 9) with
      | none => noSa
      | some k =>
        if !io.saOn p n then noSa
        else
          let pn := recoverPn (bit cfg 2) (io.saPn p n) (beAt bs 16 4)
          let late := bit cfg 11 && decide (pn < io.saPn p n)
          if late then (none, io.count48 pg Reg.MSEC_IN_LATE_LO 1)
          else if bits cfg 8 2 = 0 then (msecLenient cfg tci plain, io)
          else
            let sci := io.wide pg (Reg.MSEC_RX_SCI + 8 * c)
            let nclear := if tci.testBit 2 then clearBytes cfg bare.length else bare.length
            let aad := head ++ sealed.take nclear
            match Config.gcmOpen k (io.saIv p n sci pn) (sealed.drop nclear) aad with
            | some d => (some (bs.take 12 ++ sealed.take nclear ++ d),
                (io.count48 pg Reg.MSEC_IN_OK_LO 1).replayAdvance p n pn)
            | none => (msecLenient cfg tci plain, (io.count48 pg Reg.MSEC_IN_INVALID_LO 1).raise pg 5)

/-- A write to an association entry: EN needs a key in the slot named (R159), and the packet number is writable while EN is 0 (R162). -/
def Io.saWrite (io : Io) (held : Nat → Bool) (p : Fin 128) (off : Nat) (v : Word) : Io :=
  let pg : PageRef := .msec p
  let n := (off - 0x200) / 32
  let w := (off - 0x200) % 32 / 4
  if !io.accepts pg off v then io.regWrite 0 pg off v
  else if w = 0 ∧ bit v 16 ∧ !held (bits v 0 9) then
    let io := io.ignored pg off 0
    io.recordOpen pg 0x0513
  else if (w = 1 ∨ w = 2) ∧ io.saOn p n then io.ignored pg off 2
  else
    let io := io.regWrite 0 pg off v
    if w = 2 ∧ !bit (io.msecCfg p) 2 then io.put pg off 0
    else if w = 1 ∨ w = 2 then io.put pg (saReg n 0) (setBit (io.sa p n 0) 17 false)
    else io

/-- A write of MSEC_TX_AN selects the transmitting association from the next frame (R159, R160). -/
def Io.txAnWrite (io : Io) (p : Fin 128) (v : Word) : Io :=
  let pg : PageRef := .msec p
  if io.accepts pg Reg.MSEC_TX_AN v && !io.saOn p (bits v 0 2) then
    (io.ignored pg Reg.MSEC_TX_AN 0).recordOpen pg 0x0515
  else
    let ok := io.accepts pg Reg.MSEC_TX_AN v
    let io := io.regWrite 0 pg Reg.MSEC_TX_AN v
    if ok then io.raise pg 7 else io

/-- Key destruction clears EN in every association of every port (R159). -/
def Io.dropAssociations (io : Io) : Io :=
  (List.finRange 128).foldl (fun io p =>
    let any := (List.range 20).any (io.saOn p)
    let io := (List.range 20).foldl (fun io n => if io.saOn p n then io.saOff p n else io) io
    if any then (io.recordOpen (.msec p) 0x0514).raise (.msec p) 4 else io) io

/-- The counters of the MSEC page return to 0 (R162). -/
def Io.msecClear (io : Io) (p : Fin 128) : Io := io.clearFrom (.msec p) Reg.MSEC_IN_OK_LO 16

/-! The MAC (R147 to R149). -/

/-- Index of the port whose lowest lane a frame uses, as a page index. -/
def portIx (n : Nat) : Fin 128 := Fin.ofNat 128 n

/-- The station address of a port. -/
def Io.station (io : Io) (p : Fin 128) : Nat :=
  (io.reg (.mac p) Reg.MAC_ADDR_LO).toNat + 2 ^ 32 * io.fld (.mac p) Reg.MAC_ADDR_HI 0 16

/-- The address filter passes a destination (R147). -/
def Io.macFilter (io : Io) (p : Fin 128) (dst : Nat) : Bool :=
  let cfg := io.reg (.mac p) Reg.MAC_CFG
  bit cfg 2 || decide (dst = io.station p) ||
  (if dst = 2 ^ 48 - 1 then !bit cfg 3 else decide (dst / 2 ^ 40 % 2 = 1))

/-- The port receives: its link is up, its MAC runs and RX_EN is set. -/
def Io.macReceives (io : Io) (p : Fin 128) : Bool :=
  decide (io.stage p = 9) && io.running (.mac p) && io.flag (.mac p) Reg.MAC_CFG 0

/-- The checks of R147 on a frame with its FCS: the frame without FCS, or none where it is dropped. -/
def macReceive (p : Fin 128) (bs : List Byte) (trunc phy : Bool) (io : Io) : Option (List Byte) × Io :=
  let pg : PageRef := .mac p
  let n := bs.length
  let body := bs.take (n - 4)
  let drop := fun (io : Io) off => ((none : Option (List Byte)), io.count48 pg off 1)
  if !io.macReceives p then (none, io)
  else if trunc then drop io Reg.MAC_RX_TRUNC_LO
  else if phy then drop (io.raise pg 4) Reg.MAC_RX_PHY_ERR_LO
  else if n < 64 then drop io Reg.MAC_RX_RUNT_LO
  else if n > io.fld pg Reg.MAC_MAXLEN 0 14 then drop (io.raise pg 3) Reg.MAC_RX_OVERSIZE_LO
  else if leAt bs (n - 4) 4 ≠ crc32 body then drop (io.raise pg 2) Reg.MAC_RX_FCS_ERR_LO
  else if beAt bs 12 2 = 0x8808 then drop io Reg.MAC_RX_PAUSE_LO
  else if !io.macFilter p (beAt bs 0 6) then drop io Reg.MAC_RX_FILTERED_LO
  else (some body, (io.count48 pg Reg.MAC_RX_FRAMES_LO 1).count48 pg Reg.MAC_RX_BYTES_LO n)

/-- The port sends: its link is up, its MAC runs and TX_EN is set. -/
def Io.macSends (io : Io) (p : Fin 128) : Bool :=
  decide (io.stage p = 9) && io.running (.mac p) && io.flag (.mac p) Reg.MAC_CFG 1

/-- A frame without FCS leaves on a port through MACsec and the MAC: padded to 64 bytes with its FCS, or dropped where it would exceed MAC_MAXLEN (R148). -/
def macSend (key : Nat → Option (List Byte)) (p : Fin 128) (bs : List Byte) (io : Io) : Io :=
  if !io.macSends p then io
  else
    match msecSend key p bs io with
    | (none, io) => io
    | (some bs, io) =>
      let bs := bs ++ List.replicate (60 - bs.length) 0
      let n := bs.length + 4
      if n > io.fld (.mac p) Reg.MAC_MAXLEN 0 14 then (io.count48 (.mac p) Reg.MAC_TX_ABORTED_LO 1).raise (.mac p) 5
      else
        ((io.count48 (.mac p) Reg.MAC_TX_FRAMES_LO 1).count48 (.mac p) Reg.MAC_TX_BYTES_LO n).emit (.frame p bs)

/-- The counters of the MAC page return to 0 (R149). -/
def Io.macClear (io : Io) (p : Fin 128) : Io := io.clearFrom (.mac p) Reg.MAC_RX_FRAMES_LO 24

end Sys2Proof.Machine
end

