-- ==== Sys2Proof/Machine/Egress.lean ====
section
/-! DEFINITION. Egress flows: headers (R337), sending on the legs (R340), and the fast path with its switches (R178, R229 to R235). -/
namespace Sys2Proof.Machine

/-- What an egress flow keeps beyond its status words, before it has sent anything. -/
def EgrRt.fresh : EgrRt := { frame := 0, sent := 0, busy := false, seq := 0, ident := 0, started := false, pending := [] }

/-- What an egress flow keeps. -/
def Scanout.egrRt (sc : Scanout) (e : Nat) : EgrRt := (FMap.find sc.egr e).getD EgrRt.fresh

/-- Change what an egress flow keeps. -/
def Scanout.setEgr (sc : Scanout) (e : Nat) (r : EgrRt) : Scanout := { sc with egr := FMap.insert sc.egr e r }

/-- A status word of an egress flow (R334). -/
def Io.es (io : Io) (e w : Nat) : Word := io.rd (egrAddr e w)

/-- Write a status word of an egress flow. -/
def Io.setEs (io : Io) (e w : Nat) (v : Word) : Io := io.wr (egrAddr e w) v

/-- Advance a 48-bit status counter of an egress flow. -/
def Io.egrCount48 (io : Io) (e w n : Nat) : Io :=
  let x := sat 48 ((io.es e w).toNat + 2 ^ 32 * (io.es e (w + 1)).toNat + n)
  (io.setEs e w (Word.of x)).setEs e (w + 1) (Word.of (x / 2 ^ 32))

/-- Set STATE of an egress flow: 0 OFF, 1 SENDING, 2 SILENT. -/
def Io.setEgrState (io : Io) (e s : Nat) : Io := io.setEs e 32 (setBits (io.es e 32) 0 2 s)

/-- Address bytes from word `w` of an egress entry: network byte order from the lowest word (R167). -/
def View.egrAddrBytes (v : View) (e w : Nat) : List Byte :=
  if bit (v.egr e 0) 6 then (List.range 4).flatMap (fun i => wordBytes (v.egr e (w + i))) else wordBytes (v.egr e w)

/-- The frame that carries a UDP payload on a leg of an egress flow (R337). -/
def egressFrame (v : View) (io : Io) (e : Nat) (legB : Bool) (ident : Nat) (payload : List Byte) : List Byte :=
  let w0 := v.egr e 0
  let w2 := v.egr e 2
  let port := bits (v.egr e 1) (if legB then 8 else 0) 7
  let dst := v.egrAddrBytes e (if legB then 12 else 4)
  let src := v.egrAddrBytes e (if legB then 16 else 8)
  let dmac := (v.egr e (if legB then 22 else 20)).toNat + 2 ^ 32 * bits (v.egr e (if legB then 23 else 21)) 0 16
  let mac := if bit w0 9 then dmac else groupMac dst
  let ttl := if bits w2 8 8 = 0 then 64 else bits w2 8 8
  let tag := if bit w0 8 then some (bits (v.egr e 1) 16 12 + bits (v.egr e 1) 28 3 * 2 ^ 13) else none
  let dport := bits (v.egr e 3) (if legB then 16 else 0) 16
  let udp := udpDatagram src dst (bits w2 16 16) dport payload (bit w0 6 || bit w0 12)
  let smac := io.station (portIx port)
  if bit w0 6 then ethHeader mac smac tag 0x86DD ++ ip6Header src dst 17 ttl (bits w2 0 6 * 4) udp.length ++ udp
  else ethHeader mac smac tag 0x0800 ++ ip4Header src dst 17 ttl (bits w2 0 6 * 4) ident udp.length true [] ++ udp

/-- An egress entry ceases to be valid: the flow stops at the end of the packet in transmission (R186, R335). -/
def egressStop (e : Nat) (io : Io) (sc : Scanout) : Io × Scanout :=
  let io := (io.makeLive (sc.egrRt e).pending).wr (egrAddr e 0) (setBit (io.rd (egrAddr e 0)) 0 false)
  (io.setEgrState e 0, { sc with egr := FMap.erase sc.egr e })

/-- Captured header words become live at the first packet of the next frame, or at the next packet for FEED 0 and 3 (R335). -/
def egressPending (e : Nat) (io : Io) (sc : Scanout) : Io × Scanout :=
  let r := sc.egrRt e
  if r.pending.isEmpty then (io, sc)
  else
    let io := io.makeLive r.pending
    if io.live.egrValid e then (io, sc.setEgr e { r with pending := [] }) else egressStop e io (sc.setEgr e { r with pending := [] })

/-- An RTP packet of an egress flow leaves on its legs, counted once; `ends` says that it ends its frame (R334, R340). -/
def egressSend (key : Nat → Option (List Byte)) (e seq : Nat) (ends : Bool) (packet : List Byte) (io : Io) (sc : Scanout) : Io × Scanout :=
  let v := io.live
  let r := sc.egrRt e
  let frame := egressFrame v io e false r.ident packet
  let io' := macSend key (portIx (bits (v.egr e 1) 0 7)) frame io
  let io' := if bit (v.egr e 0) 7 then macSend key (portIx (bits (v.egr e 1) 8 7)) (egressFrame v io e true r.ident packet) io' else io'
  let io' := (io'.egrCount48 e 33 1).egrCount48 e 35 (frame.length + 4)
  let io' := ((io'.setEs e 38 (Word.of seq)).setEs e 39 (Word.of (rtpTs packet))).setEgrState e 1
  let io' := if ends then io'.setEs e 37 (Word.of (sat 32 ((io'.es e 37).toNat + 1))) else io'
  (io', sc.setEgr e { r with ident := (r.ident + 1) % 2 ^ 16 })

/-- A forwarded packet ends a frame: its marker is set, and it belongs to the second field where the format has two (R338). -/
def endsFrame (v : View) (e : Nat) (packet : List Byte) : Bool :=
  let scan := bits (v.fast e 18) 6 2
  let body := packet.drop (rtpHeaderLen packet)
  rtpMarker packet &&
    (if v.egrType e = 0 ∧ scan ≠ 0 then (beAt body 4 1).testBit 7
     else if v.egrType e = 4 ∧ scan = 1 then decide (beAt body 5 1 / 64 = 3) else true)

/-- A packet of an ingress flow leaves on an egress flow with FEED 0 (R178, R335). -/
def egressForward (key : Nat → Option (List Byte)) (e : Nat) (packet : List Byte) (io : Io) (sc : Scanout) : Io × Scanout :=
  let (io, sc) := egressPending e io sc
  let v := io.live
  if v.egrValid e then egressSend key e (rawSeq (v.egrType e) packet) (endsFrame v e packet) packet io sc else (io, sc)

/-! Fast-path entries (R229 to R235). -/

/-- A status word of a fast-path entry. -/
def Io.fpw (io : Io) (e w : Nat) : Word := io.rd (fastAddr e w)

/-- Write a status word of a fast-path entry. -/
def Io.setFpw (io : Io) (e w : Nat) (v : Word) : Io := io.wr (fastAddr e w) v

/-- What a fast-path entry keeps while it is OFF. -/
def FpRt.fresh : FpRt :=
  { changes := [], carried := none, turning := none, held := [], heldAt := none, released := true, announced := true
    presentAt := none, silent := false, used := 0, usedAt := 0 }

/-- What a fast-path entry keeps. -/
def Routing.fp (rt : Routing) (e : Nat) : FpRt := (FMap.find rt.fast e).getD FpRt.fresh

/-- Change what a fast-path entry keeps. -/
def Routing.setFp (rt : Routing) (e : Nat) (r : FpRt) : Routing := { rt with fast := FMap.insert rt.fast e r }

/-- Write a route-log entry (R241): page 3 of the ROUT pages. -/
def Io.routLog (io : Io) (idx : Nat) (fp : Bool) (slot event : Nat) : Io :=
  io.logTo .rout Reg.ROUT_LOG_HEAD 0x3000 64 2
    [Word.of (idx % 2 ^ 12 + b2n fp * 2 ^ 12 + slot * 2 ^ 13 + event * 2 ^ 20), io.ns32]

/-- The reference flow's format in an entry: REF, words 17 to 20 standing for words 24 to 27 (R230). -/
def View.ref (v : View) (e w : Nat) : Word := v.fast e (w - 7)

/-- TYPE of the reference format, which the part keeps beside REF: words 24 to 27 do not hold it (R230). -/
def View.refType (v : View) (e : Nat) : Nat := bits (v.fast e 23) 0 3

/-- The reference rate of a format of a TYPE: the frame rate, or for audio the packet rate. -/
def View.refRate (v : View) (e typ : Nat) : Rate :=
  if typ = 2 ∨ typ = 3 then ptimeRate (bits (v.ref e 27) 26 3) else rateOf (v.ref e 26)

/-- A flow shares timing with the reference of an entry (R230). -/
def View.shares (v : View) (e f : Nat) : Bool :=
  decide (v.flowType f = v.refType e) && sharesTiming (v.flowType f) (v.flow f) (v.ref e)

/-- The reference rate of an entry. -/
def View.fpRate (v : View) (e : Nat) : Rate := v.refRate e (v.refType e)

/-- The switch frame for an activation instant (R231). -/
def View.switchFrame (v : View) (e a : Nat) : Nat := (v.fpRate e).frameFrom 0 a

/-- RTP timestamp of a frame of the reference grid (R173). -/
def View.frameTs (v : View) (e frame : Nat) : Nat :=
  let r := v.fpRate e
  let clock := if v.refType e = 5 then 27000000 else if v.refType e = 2 ∨ v.refType e = 3 then
      (if bit (v.ref e 27) 24 then 96000 else 48000) else 90000
  frame * r.den * clock / r.num % 2 ^ 32

/-- SWITCH_PENDING follows the accepted changes (R229). -/
def Io.showPending (io : Io) (e : Nat) (r : FpRt) : Io :=
  io.setFpw e 16 (setBit (io.fpw e 16) 3 (!r.changes.isEmpty))

/-- Put an accepted change in its place: by switch frame, then in order of acceptance (R232). -/
def queueChange (c : FpChange) : List FpChange → List FpChange
  | [] => [c]
  | x :: xs => if c.frame < x.frame then c :: x :: xs else x :: queueChange c xs

/-- Accept a change of the carried flow. -/
def fpAccept (e : Nat) (c : FpChange) (io : Io) (rt : Routing) : Io × Routing :=
  let r := rt.fp e
  let r := { r with changes := queueChange c r.changes }
  (io.showPending e r, rt.setFp e r)

/-- A flow is lost: ABSENT, or its entry not valid in the live view (R225). -/
def Io.flowLost (io : Io) (f : Nat) : Bool := decide (io.flowState f = 3) || !io.live.flowValid f

/-- A flow is present (R225). -/
def Io.flowPresent (io : Io) (f : Nat) : Bool := decide (io.flowState f = 2) && io.live.flowValid f

/-- Whether a live fast-path route reads a flow, as word 32 shows it (R169). -/
def showFast (f : Nat) (io : Io) (rt : Routing) : Io :=
  let read := rt.fast.any (fun x => decide (x.2.carried = some f))
  if bit (io.fs f 32) 5 = read then io else io.setFs f 32 (setBit (io.fs f 32) 5 read)

/-- A loss switch of an entry to a flow (R235). -/
def fpLossTo (e : Nat) (f : Option Nat) (a : Nat) (backup : Bool) (io : Io) (rt : Routing) : Io × Routing :=
  fpAccept e { seq := none, frame := io.live.switchFrame e a, flow := f, backup := backup, vals := [] } io rt

/-- The flow that an entry is to carry once its accepted changes are made. -/
def FpRt.final (r : FpRt) : Option Nat :=
  match r.changes.getLast? with
  | some c => c.flow
  | none => r.carried

/-- A flow has become absent or has lost its VALID: every FAST entry that carries it switches or falls silent (R235). -/
def fpFlowLost (f a : Nat) (io : Io) (rt : Routing) : Io × Routing :=
  io.live.fasts.foldl (fun x e =>
    let (io, rt) := x
    let v := io.live
    let r := rt.fp e
    let r' := { r with presentAt := if v.fastSrc e = f then none else r.presentAt }
    let rt := rt.setFp e r'
    if v.fastState e = 1 ∧ r.carried = some f then
      let other := if v.fastSrc e = f then v.fastBkp e else some (v.fastSrc e)
      match other with
      | some g =>
        if io.flowPresent g then fpLossTo e (some g) a (decide (g ≠ v.fastSrc e)) (io.count48 .rout Reg.ROUT_LOSS_SW_LO 1) rt
        else (((io.count48 .rout Reg.ROUT_LOSS_SW_LO 1).routLog e true 0 8).raise .rout 5, rt.setFp e { r' with silent := true })
      | none => (((io.count48 .rout Reg.ROUT_LOSS_SW_LO 1).routLog e true 0 8).raise .rout 5, rt.setFp e { r' with silent := true })
    else (io, rt)) (io, rt)

/-- A flow is present again: a silent entry resumes at its first frame, and an entry on backup begins its count (R235). -/
def fpFlowBack (f a : Nat) (io : Io) (rt : Routing) : Io × Routing :=
  io.live.fasts.foldl (fun x e =>
    let (io, rt) := x
    let v := io.live
    let r := rt.fp e
    let named := decide (v.fastSrc e = f) || decide (v.fastBkp e = some f)
    if v.fastState e ≠ 1 || !named then (io, rt)
    else if r.silent then
      let rt := rt.setFp e { r with silent := false }
      let io := io.routLog e true 0 (if v.fastSrc e = f then 10 else 5)
      fpLossTo e (some f) a (decide (v.fastSrc e ≠ f)) io rt
    else if v.fastSrc e = f then (io, rt.setFp e { r with presentAt := some a })
    else (io, rt)) (io, rt)

/-- REVERT_FRAMES frames of presence are complete (R235). -/
def fpRevertDue (e : Nat) (io : Io) (rt : Routing) : Option Nat :=
  let v := io.live
  match (rt.fp e).presentAt with
  | some t =>
    let a := t + ((v.fpRate e).period.scale (io.fld .rout Reg.ROUT_CFG 0 8) 1).ceil
    let on := bit (io.fpw e 16) 2 && decide (v.fastState e = 1) && bit (v.fast e 0) 3 && io.flowPresent (v.fastSrc e)
    if on && decide (a ≤ io.now) && decide ((rt.fp e).final ≠ some (v.fastSrc e)) then some a else none
  | none => none

/-- FP_REVERT: the entry returns to SOURCE (R235). -/
def fpRevert (e : Nat) (io : Io) (rt : Routing) : Io × Routing :=
  match fpRevertDue e io rt with
  | some a =>
    let rt := rt.setFp e { rt.fp e with presentAt := none }
    fpLossTo e (some (io.live.fastSrc e)) a false (io.routLog e true 0 10) rt
  | none => (io, rt)

/-- Bytes in an entry's share of the packet buffer now: it drains at the data rate of the egress port. -/
def fpUsed (e : Nat) (io : Io) (r : FpRt) : Nat :=
  r.used - (io.up - r.usedAt) * io.live.portRate (bits (io.live.egr e 1) 0 7) / 8000000000

/-- A copy finds its share of the buffer full: dropped alone and counted; the first after 1 s is logged (R178). -/
def fastDrop (f : Nat) (io : Io) (sv : Sieve) : Io × Sieve :=
  let io := (io.flowCount f 47).count48 (io.flowPage f) Reg.SIEV_FAST_DROP_LO 1
  let quiet := match (sv.rt f).bind (·.fastDropAt) with
    | some t => decide (t + 1000000000 ≤ io.up)
    | none => true
  (if quiet then io.flowEvent f 7 0 13 else io, sv.upd f (fun r => { r with fastDropAt := some io.up }))

/-- Send the packets held for a switch, in order; the first of them announces the switch (R231). -/
def fpSendHeld (key : Nat → Option (List Byte)) (e : Nat) : List Pkt → Io → Scanout → Io × Scanout
  | [], io, sc => (io, sc)
  | p :: ps, io, sc =>
    let (io, sc) := egressForward key e p.payload io sc
    fpSendHeld key e ps io sc

/-- FP_SWITCHED on the first packet of F (R231). -/
def fpAnnounce (e : Nat) (io : Io) (r : FpRt) : Io × FpRt :=
  if r.announced then (io, r) else ((io.routLog e true 0 5).raise .rout 2, { r with announced := true })

/-- The held packets are released (R231, step 3). -/
def fpRelease (key : Nat → Option (List Byte)) (e : Nat) (io : Io) (sc : Scanout) (rt : Routing) : Io × Scanout × Routing :=
  let r := rt.fp e
  if r.released then (io, sc, rt)
  else
    let (io, r) := if r.held.isEmpty then (io, r) else fpAnnounce e io r
    let (io, sc) := fpSendHeld key e r.held io sc
    (io, sc, rt.setFp e { r with held := [], heldAt := none, released := true })

/-- One packet time or frame of the reference in ticks of its clock, rounded up. -/
def View.frameTicks (v : View) (e : Nat) : Nat :=
  let r := v.fpRate e
  let clock := if v.refType e = 5 then 27000000 else if v.refType e = 2 ∨ v.refType e = 3 then
      (if bit (v.ref e 27) 24 then 96000 else 48000) else 90000
  ceilDiv (r.den * clock) r.num

/-- A packet released by the merge meets an entry that carries its flow, or carried it before a switch (R178, R231). -/
def fpPacket (key : Nat → Option (List Byte)) (e f : Nat) (pkt : Pkt) (io : Io) (sc : Scanout) (rt : Routing) (sv : Sieve) :
    Io × Scanout × Routing × Sieve :=
  let v := io.live
  let r := rt.fp e
  let bs := pkt.payload
  let ts := rtpTs bs
  let size := bs.length + v.wireOverhead e (v.refType e)
  let forward := fun (io : Io) (sc : Scanout) (rt : Routing) (sv : Sieve) =>
    let r := rt.fp e
    let used := fpUsed e io r + size
    if (Q.nat used).le (v.fastBuffer e) then
      let (io, sc) := egressForward key e bs io sc
      (io, sc, rt.setFp e { r with used := used, usedAt := io.up }, sv)
    else
      let (io, sv) := fastDrop f io sv
      (io, sc, rt, sv)
  if !v.egrValid e || r.silent then (io, sc, rt, sv)
  else
    match r.turning with
    | none => if r.carried = some f then forward io sc rt sv else (io, sc, rt, sv)
    | some (old, tsF) =>
      let before := decide (tsDiff ts tsF < 0)
      if r.carried = some f then
        if before then (io, sc, rt, sv)
        else if r.released then
          let (io, r) := fpAnnounce e io r
          forward io sc (rt.setFp e r) sv
        else
          let used := fpUsed e io r + size
          if (Q.nat used).le (v.fastBuffer e) then
            (io, sc, rt.setFp e { r with held := r.held ++ [pkt], heldAt := some (r.heldAt.getD io.up), used := used, usedAt := io.up }, sv)
          else
            let (io, sv) := fastDrop f io sv
            (io, sc, rt, sv)
      else if old = some f then
        if !before then
          let (io, sc, rt) := fpRelease key e io sc rt
          (io, sc, rt, sv)
        else if r.released then
          let n := sat 32 ((io.fpw e 22).toNat + 1)
          let io := (((io.setFpw e 22 (Word.of n)).count48 .rout Reg.ROUT_FP_LATE_LO 1).routLog e true 0 9).raise .rout 6
          (io, sc, rt, sv)
        else
          let last := rtpMarker bs && decide (tsDiff tsF ts ≤ Int.ofNat (v.frameTicks e))
          let (io, sc, rt, sv) := forward io sc rt sv
          if last then
            let (io, sc, rt) := fpRelease key e io sc rt
            (io, sc, rt, sv)
          else (io, sc, rt, sv)
      else (io, sc, rt, sv)

/-- The FAST entries to which a packet of a flow goes: those that carry it or are turning from it (R178). -/
def fpReaders (f : Nat) (rt : Routing) : List Nat :=
  (rt.fast.filter (fun x => decide (x.2.carried = some f) ||
    (match x.2.turning with
     | some (old, _) => decide (old = some f)
     | none => false))).map (·.1)

/-- The number of FAST and PROMOTED entries as ROUT_FP_COUNT shows it (R240). -/
def Io.showFpCount (io : Io) : Io :=
  let es := io.live.entries 0x5000000 0x100 16 4096
  let n := fun s => (es.filter (fun e => decide (io.live.fastState e = s))).length
  io.put .rout Reg.ROUT_FP_COUNT (Word.of (n 1 + n 2 * 2 ^ 16))

/-- The first accepted change of an entry whose switch frame has begun (R231). -/
def fpDue (e : Nat) (io : Io) (rt : Routing) : Option FpChange :=
  match (rt.fp e).changes.head? with
  | some c => if (io.live.fpRate e).boundary 0 c.frame ≤ io.now then some c else none
  | none => none

/-- FP_SWITCH: at its switch frame an accepted change takes effect (R231, R232). The change made, if any, is answered for the commit it belongs to. -/
def fpSwitch (e : Nat) (io : Io) (rt : Routing) : Option FpChange × Io × Routing :=
  match fpDue e io rt with
  | none => (none, io, rt)
  | some c =>
    let r := rt.fp e
    let tsF := io.live.frameTs e c.frame
    let old := r.carried
    let io := io.makeLive c.vals
    let moved := decide (c.flow ≠ old)
    let r := { r with changes := r.changes.drop 1 }
    let r := if moved then
        { r with carried := c.flow, turning := some (old, tsF), held := [], heldAt := none, released := decide (old = none)
                 announced := decide (c.flow = none) }
      else r
    let w := setBit (setBit (io.fpw e 16) 2 c.backup) 3 (!r.changes.isEmpty)
    let w := setBits w 16 12 (c.flow.getD (io.live.fastSrc e))
    let w := setBits w 0 2 (if c.flow.isSome then 1 else 0)
    let io := io.setFpw e 16 w
    let io := if moved then io.setFpw e 21 (Word.of (sat 32 ((io.fpw e 21).toNat + 1))) else io
    let rt := rt.setFp e r
    let io := match old with
      | some f => showFast f io rt
      | none => io
    let io := match c.flow with
      | some f => showFast f io rt
      | none => io
    (some c, io.showFpCount, rt)

/-- FP_HOLD_TIMEOUT: 1 ms after the first packet was held, the held packets go (R231, step 3). -/
def fpHoldTimeout (key : Nat → Option (List Byte)) (e : Nat) (io : Io) (sc : Scanout) (rt : Routing) : Io × Scanout × Routing :=
  match (rt.fp e).heldAt with
  | some t => if t + 1000000 ≤ io.up then fpRelease key e io sc rt else (io, sc, rt)
  | none => (io, sc, rt)

end Sys2Proof.Machine
end

