-- ==== Sys2Proof/Machine/HostQueues.lean ====
section
/-! DEFINITION. Command queues (ch. 3): pairs and their rings, completions and their messages, notices, doorbells, fetching. -/
namespace Sys2Proof.Machine

/-- The function that owns a queue pair (R58). -/
def qFn (q : Nat) : Nat := if q < 64 then 0 else (q - 64) / 4 + 1
/-- The local index of a queue pair (R58). -/
def qLocal (q : Nat) : Nat := if q < 64 then q else (q - 64) % 4
/-- The global number of a function's local pair (R58). -/
def qOf (fn k : Nat) : Nat := if fn = 0 then k else 64 + 4 * (fn - 1) + k

/-- Offset of a register of a pair's context in the HQ pages (R59); pair numbers lie below 316. -/
def qpReg (q off : Nat) : Nat := 0x4000 + q % 512 * 0x40 + off
/-- A register of a pair's context. -/
def Io.qp (io : Io) (q off : Nat) : Word := io.reg .hq (qpReg q off)
/-- A register of a pair's context as a number. -/
def Io.qpn (io : Io) (q off : Nat) : Nat := (io.qp q off).toNat
/-- Write a register of a pair's context. -/
def Io.setQp (io : Io) (q off v : Nat) : Io := io.put .hq (qpReg q off) (Word.of v)
/-- EN. -/
def Io.qpOn (io : Io) (q : Nat) : Bool := bit (io.qp q Reg.HQ_QP_CFG) 0
/-- Entries of the submission ring. -/
def Io.sqSize (io : Io) (q : Nat) : Nat := 2 ^ bits (io.qp q Reg.HQ_QP_CFG) 1 4
/-- Entries of the completion ring. -/
def Io.cqSize (io : Io) (q : Nat) : Nat := 2 ^ bits (io.qp q Reg.HQ_QP_CFG) 5 4

/-- A pair that has never run. -/
def PairRt.fresh : PairRt :=
  { phase := true, used := 0, stopped := false, unreported := 0, since := none, armed := false, draining := false }
/-- What is kept of a pair. -/
def Queues.pair (hq : Queues) (q : Nat) : PairRt := (FMap.find hq.pairs q).getD PairRt.fresh
/-- Change what is kept of a pair. -/
def Queues.setPair (hq : Queues) (q : Nat) (p : PairRt) : Queues := { hq with pairs := FMap.insert hq.pairs q p }

/-- FW_STAT.STATE (R107). -/
def Io.fwState (io : Io) : Nat := io.fld .fw Reg.FW_STAT 0 4
/-- READY. -/
def Io.ready (io : Io) : Bool := io.flag .fw Reg.FW_STAT 7
/-- No further completion entry is written, and nothing is fetched (R105, R412). -/
def Io.halted (io : Io) : Bool := decide (io.fwState = 7 ∨ io.fwState = 8)

/-- The commands in flight that hold a slot: those that will leave a completion entry (R60, R68). -/
def Queues.live (hq : Queues) : List Cmd := hq.cmds.filter (fun c => !c.silent)
/-- Commands of a pair in flight. -/
def Queues.ofPair (hq : Queues) (q : Nat) : List Cmd := hq.live.filter (fun c => c.q = q)
/-- Commands of a function in flight. -/
def Queues.ofFn (hq : Queues) (fn : Nat) : List Cmd := hq.live.filter (fun c => c.fn = fn)

/-- The in-flight counts of a pair and its function (R59, R84). -/
def Io.showFlight (io : Io) (hq : Queues) (q : Nat) : Io :=
  (io.setQp q Reg.HQ_QP_INFLIGHT (hq.ofPair q).length).setFn (qFn q) Reg.HQ_FN_U_INFLIGHT (hq.ofFn (qFn q)).length

/-- A command in flight. -/
def Queues.cmd (hq : Queues) (q tag : Nat) : Option Cmd := hq.cmds.find? (fun c => decide (c.q = q ∧ c.tag = tag))
/-- Change the command in flight. -/
def Queues.upd (hq : Queues) (q tag : Nat) (f : Cmd → Cmd) : Queues :=
  { hq with cmds := hq.cmds.map (fun c => if c.q = q ∧ c.tag = tag then f c else c) }

/-! Messages (R70). -/

/-- Send a message when the pair's coalescing allows one now: COUNT entries unreported, or TIME past since the first, or both 0. -/
def pairMessage (q : Nat) (io : Io) (hq : Queues) : Io × Queues :=
  let p := hq.pair q
  let coal := io.qp q Reg.HQ_QP_COAL
  let count := bits coal 0 16
  let time := bits coal 16 16
  let late := match p.since with
    | some t => decide (time ≠ 0) && decide (t + 1000 * time ≤ io.up)
    | none => false
  let due := decide (p.unreported > 0) &&
    (decide (count = 0 ∧ time = 0) || (decide (count ≠ 0) && decide (p.unreported ≥ count)) || late)
  if due ∧ !p.armed ∧ bit (io.qp q Reg.HQ_QP_CFG) 22 then
    (io.message (qFn q) (bits (io.qp q Reg.HQ_QP_CFG) 11 11), hq.setPair q { p with unreported := 0, since := none, armed := true })
  else (io, hq)

/-- Write an entry into the completion ring of a pair, and then its message (R63, R70). -/
def writeEntry (q tag status code hi lo : Nat) (io : Io) (hq : Queues) : Io × Queues :=
  let p := hq.pair q
  let t := io.qpn q Reg.HQ_QP_CQ_TAIL
  let w0 := tag % 2 ^ 16 + status * 2 ^ 16 + io.qpn q Reg.HQ_QP_SQ_HEAD % 2 ^ 11 * 2 ^ 20 + b2n p.phase * 2 ^ 31
  let io := io.emit (.completion q (Word.of w0) (Word.of (code % 2 ^ 16 + hi % 2 ^ 16 * 2 ^ 16)) (Word.of lo) io.ns32)
  let n := (t + 1) % io.cqSize q
  let io := io.setQp q Reg.HQ_QP_CQ_TAIL n
  let hq := hq.setPair q { p with
    phase := if n = 0 then !p.phase else p.phase, used := p.used + 1, unreported := p.unreported + 1
    since := match p.since with
      | some s => some s
      | none => some io.up }
  pairMessage q io hq

/-- A command leaves flight with its one completion (R64); none is written for a silent one, or once the part has halted. -/
def complete (q tag : Nat) (r : Reply) (io : Io) (hq : Queues) : Io × Queues :=
  match hq.cmd q tag with
  | none => (io, hq)
  | some c =>
    let hq := { hq with cmds := hq.cmds.filter (fun x => !(decide (x.q = q ∧ x.tag = tag)))
                        waiting := hq.waiting.filter (fun w => !(decide (w.q = q ∧ w.tag = tag))) }
    let io := io.showFlight hq q
    if c.silent ∨ io.halted then (io, hq) else writeEntry q tag r.status r.code r.hi r.lo io hq

/-- Free slots of a completion ring. -/
def freeSlots (q : Nat) (io : Io) (hq : Queues) : Nat := io.cqSize q - (hq.pair q).used

/-- A notice to a function, on its local pair 0 (R67, R86): lost where its slot is taken or the pair does not run. -/
def notice (fn code lo : Nat) (io : Io) (hq : Queues) : Io × Queues :=
  let q := qOf fn 0
  if io.qpOn q ∧ !(hq.pair q).stopped ∧ !io.halted ∧ freeSlots q io hq > (hq.ofPair q).length then
    writeEntry q 0xFFFF 0 code 0 lo io hq
  else
    let io := if fn = 0 then io else io.setFn fn Reg.HQ_FN_NOTICE_LOST (sat 32 (io.fn fn Reg.HQ_FN_NOTICE_LOST + 1))
    (io.raise .hq 4, hq)

/-! Doorbells (R65, R66). -/

/-- A doorbell is ignored: DB_ERR, the code and source 2001 (R66). -/
def Io.doorbellError (io : Io) (q : Nat) (cq : Bool) : Io :=
  let io := io.setFlag .hq (qpReg q Reg.HQ_QP_STAT) 1 true
  (io.recordErr .hq 0x0210 (q + b2n cq * 2 ^ 9)).raise .hq 2

/-- A submission doorbell (R65, R66). -/
def sqDoorbell (q : Nat) (v : Word) (io : Io) : Io :=
  let size := io.sqSize q
  let head := io.qpn q Reg.HQ_QP_SQ_HEAD
  let tail := io.qpn q Reg.HQ_QP_SQ_TAIL
  let room := size - 1 - (tail + size - head) % size
  if !io.qpOn q ∨ v.toNat ≥ size ∨ (v.toNat + size - tail) % size > room then io.doorbellError q false
  else io.setQp q Reg.HQ_QP_SQ_TAIL v.toNat

/-- Fetching is held for want of completion slots: more free slots than commands in flight are needed, and one further on local pair 0 (R67). -/
def cqHeld (q : Nat) (io : Io) (hq : Queues) : Bool :=
  decide (freeSlots q io hq ≤ (hq.ofPair q).length + (if qLocal q = 0 then 1 else 0))

/-- Entries that wait in the submission ring. -/
def Io.sqWaiting (io : Io) (q : Nat) : Nat :=
  (io.qpn q Reg.HQ_QP_SQ_TAIL + io.sqSize q - io.qpn q Reg.HQ_QP_SQ_HEAD) % io.sqSize q

/-- CQ_STALL follows (R59, R67). -/
def showStall (q : Nat) (io : Io) (hq : Queues) : Io :=
  io.setFlag .hq (qpReg q Reg.HQ_QP_STAT) 3 (io.qpOn q && decide (io.sqWaiting q ≠ 0) && cqHeld q io hq)

/-- A completion doorbell frees slots and re-arms the messages (R65, R66, R70). -/
def cqDoorbell (q : Nat) (v : Word) (io : Io) (hq : Queues) : Io × Queues :=
  let size := io.cqSize q
  let head := io.qpn q Reg.HQ_QP_CQ_HEAD
  let p := hq.pair q
  let d := (v.toNat + size - head) % size
  if !io.qpOn q ∨ v.toNat ≥ size ∨ d > p.used then (io.doorbellError q true, hq)
  else
    let io := io.setQp q Reg.HQ_QP_CQ_HEAD v.toNat
    let hq := hq.setPair q { p with used := p.used - d, armed := false }
    let r := pairMessage q io hq
    (showStall q r.1 r.2, r.2)

/-- COALESCE_TIMEOUT (R70). -/
def coalesce (q : Nat) (io : Io) (hq : Queues) : Io × Queues := pairMessage q io hq

/-! Fetching (R67, R68, R93). -/

/-- The state of the part lets the pair fetch: PF0 pair 0 once configuration is answered, other PF0 pairs once Woride runs, VF pairs from READY (R93). -/
def fetchOpen (q : Nat) (io : Io) (woride : Bool) : Bool :=
  !io.halted && (decide (q = 0) || (decide (q < 64) && woride) || io.ready)

/-- The part may fetch the next entry of a pair now: a queue block that is not RUNNING accepts no new work (R53). -/
def mayFetch (q : Nat) (io : Io) (hq : Queues) (woride : Bool) : Bool :=
  let p := hq.pair q
  let fn := qFn q
  io.running .hq && io.qpOn q && !p.stopped && !p.draining && fetchOpen q io woride && decide (io.sqWaiting q ≠ 0) && !cqHeld q io hq
    && decide (hq.live.length < 1024)
    && (decide (fn = 0) || (decide ((hq.ofFn fn).length < io.fn fn Reg.HQ_FN_Q_INFLIGHT)
        && decide ((hq.live.filter (fun c => c.fn ≠ 0)).length < 960)))

/-- The opcodes of R71. -/
def opcodes : List Nat :=
  [0x00, 0x01, 0x02, 0x03, 0x04, 0x08, 0x09, 0x0A, 0x10, 0x11, 0x12, 0x13, 0x20, 0x21, 0x30, 0x31, 0x40, 0x41, 0x50, 0x51, 0x60]

/-- The opcodes permitted to PF0 alone (R71). -/
def pf0Opcodes : List Nat := [0x08, 0x40, 0x41, 0x50, 0x51, 0x60]

/-- The opcodes whose commit point is their fetch (R71). -/
def fetchCommits : List Nat := [0x00, 0x04, 0x40]

/-- A word of a submission entry. -/
def Cmd.w (c : Cmd) (i : Nat) : Word := (c.words[i]?).getD 0
/-- A parameter of a command. -/
def Cmd.p (c : Cmd) (i : Nat) : Word := c.w (2 + i)
/-- A bit is set that the parameter words, given by the bits their table lists, leave reserved (R6, R62). -/
def Cmd.strays (c : Cmd) (masks : List Nat) : Bool :=
  masks.zipIdx.any (fun m => decide (c.p m.2 &&& ~~~(Word.of m.1) ≠ 0))
/-- The opcode. -/
def Cmd.op (c : Cmd) : Nat := bits (c.w 0) 0 8

/-- A ring access failed on PCI Express: the pair stops, and its commands finish without a completion entry (R66). -/
def ringFailed (q : Nat) (cq : Bool) (io : Io) (hq : Queues) : Io × Queues :=
  let io := (io.setFlag .hq (qpReg q Reg.HQ_QP_STAT) 2 true).setFlag .hq (qpReg q Reg.HQ_QP_STAT) 0 false
  let io := (io.recordErr .hq 0x021B (q + b2n cq * 2 ^ 9)).raise .hq 2
  let hq := { hq with cmds := hq.cmds.map (fun c => if c.q = q then { c with silent := true } else c) }
  (io.showFlight hq q, hq.setPair q { hq.pair q with stopped := true })

/-- COMMAND_FETCH: the part reads the next entry of a ring; a tag in use, a reserved bit or an unknown opcode completes at once (R62, R66, R68). -/
def fetch (q : Nat) (entry : Option (List Word)) (woride : Bool) (io : Io) (hq : Queues) : Io × Queues :=
  if !mayFetch q io hq woride then (showStall q io hq, hq)
  else
    match entry with
    | none => ringFailed q false io hq
    | some ws =>
      let w0 := (ws[0]?).getD 0
      let w1 := (ws[1]?).getD 0
      let tag := bits w0 16 16
      let io := io.setQp q Reg.HQ_QP_SQ_HEAD ((io.qpn q Reg.HQ_QP_SQ_HEAD + 1) % io.sqSize q)
      if (hq.cmd q tag).isSome then writeEntry q tag 5 0x0214 0 0 io hq
      else
        let c : Cmd := { q := q, tag := tag, fn := qFn q, words := ws, since := io.up, past := fetchCommits.contains (bits w0 0 8), begun := false, silent := false }
        let hq := { hq with cmds := hq.cmds ++ [c] }
        let io := io.showFlight hq q
        let r := if !opcodes.contains c.op then complete q tag (Reply.rejected 0x0212) io hq
          else if bits w0 9 7 ≠ 0 ∨ bits w1 24 8 ≠ 0 ∨ tag = 0xFFFF then complete q tag (Reply.rejected 0x0213) io hq
          else (io, hq)
        (showStall q r.1 r.2, r.2)

/-- The opcode may run in the part's present mode; else the code it is rejected with (R93, R99). `kind` is P0 [3:0] of an enable or disable. -/
def modeRefusal (c : Cmd) (io : Io) (woride : Bool) : Option Nat :=
  if io.ready then none
  else if !woride then
    if c.op = 0x00 ∨ c.op = 0x60 then none else some 0x0319
  else if c.op = 0x01 ∨ c.op = 0x51 then some 0x0319
  else if c.op = 0x60 then some 0x031B
  else if c.op = 0x09 ∨ c.op = 0x0A then
    let kind := bits (c.p 0) 0 4
    let index := bits (c.p 0) 16 16
    if kind = 0 ∨ kind = 2 ∨ kind = 3 then some 0x0319
    else if kind = 1 ∧ index < 128 ∧ !io.flag .fw Reg.FW_STAT (16 + index / 8) then some 0x0319
    else none
  else none

/-- A command of a ring starts in ring order, and an ORDERED one only after every earlier command of its ring has completed (R69). -/
def Queues.mayStart (hq : Queues) (c : Cmd) : Bool :=
  let before := (hq.cmds.takeWhile (fun x => !(decide (x.q = c.q ∧ x.tag = c.tag)))).filter (fun x => x.q = c.q)
  !c.begun && before.all (fun x => x.begun) && (!bit (c.w 0) 8 || before.isEmpty)

/-- TIMEOUT of a command in nanoseconds: 0 selects 10 s (R61). -/
def Cmd.timeout (c : Cmd) : Nat :=
  let t := bits (c.w 1) 0 24
  if t = 0 then 10000000000 else 1000 * t

/-! Context writes (R59, R60). -/

/-- A value of HQ_QP_CFG within the ranges of R59. -/
def qpCfgOk (q : Nat) (v : Word) : Bool :=
  let s := bits v 1 4
  let c := bits v 5 4
  decide (4 ≤ s ∧ s ≤ 11 ∧ 4 ≤ c ∧ c ≤ 12 ∧ s ≤ c) && (decide (q < 64) || decide (bits v 11 11 < 64))

/-- Why a context write is refused: while EN is 1 only IRQ_EN, VECTOR and EN itself may change (reason 2), and fields have ranges (reason 0). -/
def Io.qpReason (io : Io) (q off : Nat) (v : Word) : Option Nat :=
  if io.flag .hq Reg.PAGE_LOCK 1 then some 1
  else if off = Reg.HQ_QP_CFG then
    if io.qpOn q ∧ bits v 1 10 ≠ bits (io.qp q off) 1 10 then some 2
    else if !qpCfgOk q v then some 0 else none
  else if off = Reg.HQ_QP_SQ_BASE_LO ∨ off = Reg.HQ_QP_CQ_BASE_LO then
    if io.qpOn q then some 2 else if bits v 0 12 ≠ 0 then some 0 else none
  else if (off = Reg.HQ_QP_SQ_BASE_HI ∨ off = Reg.HQ_QP_CQ_BASE_HI) ∧ io.qpOn q then some 2
  else none

/-- A VF write is ignored and counted (R60, R82). -/
def Io.badWrite (io : Io) (fn : Nat) : Io :=
  (io.setFn fn Reg.HQ_FN_BAD_WRITES (sat 32 (io.fn fn Reg.HQ_FN_BAD_WRITES + 1))).raise .hq 3

/-- A refused context write: recorded for PF0, counted for a VF (R60). -/
def Io.qpRefused (io : Io) (fn q off reason : Nat) : Io :=
  if fn = 0 then io.ignored .hq (qpReg q off) reason else io.badWrite fn

/-- Setting EN resets heads, tails and phase (R60). -/
def qpStart (q : Nat) (io : Io) (hq : Queues) : Io × Queues :=
  let io := [Reg.HQ_QP_SQ_HEAD, Reg.HQ_QP_SQ_TAIL, Reg.HQ_QP_CQ_TAIL, Reg.HQ_QP_CQ_HEAD].foldl (fun io off => io.setQp q off 0) io
  let io := io.setFlag .hq (qpReg q Reg.HQ_QP_STAT) 0 true
  (io, hq.setPair q PairRt.fresh)

/-- A write of HQ_QP_CFG by function `fn`: EN 0 to 1 starts the pair, EN 1 to 0 begins its drain (R60). While a drain runs EN is not set again (R54). -/
def qpCfgWrite (fn q : Nat) (v : Word) (io : Io) (hq : Queues) : Io × Queues :=
  let p := hq.pair q
  match (if bit v 0 ∧ p.draining then (if (io.qpReason q Reg.HQ_QP_CFG v).isSome then io.qpReason q Reg.HQ_QP_CFG v else some 5)
    else io.qpReason q Reg.HQ_QP_CFG v) with
  | some r => (io.qpRefused fn q Reg.HQ_QP_CFG r, hq)
  | none =>
    let on := io.qpOn q
    let io := io.setQp q Reg.HQ_QP_CFG (v.toNat % 2 ^ 23)
    if bit v 0 ∧ !on then qpStart q io hq
    else if !bit v 0 ∧ on then
      ((io.setFlag .hq (qpReg q Reg.HQ_QP_STAT) 0 false).drainFrom (2 ^ 32 + q), hq.setPair q { p with draining := true })
    else (io, hq)

/-- A write of a context register (R59). -/
def qpWrite (fn q off : Nat) (v : Word) (io : Io) (hq : Queues) : Io × Queues :=
  if off = Reg.HQ_QP_CFG then qpCfgWrite fn q v io hq
  else if off = Reg.HQ_QP_STAT then
    (io.setQp q off ((io.qpn q off) - ((io.qpn q off) &&& (v.toNat &&& 6))), hq)
  else if off < Reg.HQ_QP_CFG ∨ off = Reg.HQ_QP_COAL then
    match io.qpReason q off v with
    | some r => (io.qpRefused fn q off r, hq)
    | none => (io.setQp q off v.toNat, hq)
  else if fn = 0 then (io, hq) else (io.badWrite fn, hq)

/-- The drain of a pair has ended: commands past their commit point leave flight silently, those before it and those that wait in the ring complete CANCELLED (R60). `before` lists the tags of the former that are still to be cancelled. -/
def pairDrained (q : Nat) (tags : List Nat) (io : Io) (hq : Queues) : Io × Queues :=
  let r := ((hq.ofPair q).filter (fun c => !c.past)).foldl (fun (r : Io × Queues) c =>
    complete q c.tag { status := 3, code := 0, hi := 0, lo := 0 } r.1 r.2) (io, hq)
  let r := (tags.take (io.sqWaiting q)).foldl (fun (r : Io × Queues) t =>
    if freeSlots q r.1 r.2 = 0 then r else writeEntry q t 3 0 0 0 r.1 r.2) r
  let hq := { r.2 with cmds := r.2.cmds.map (fun c => if c.q = q then { c with silent := true } else c) }
  let io := r.1.setQp q Reg.HQ_QP_SQ_HEAD (r.1.qpn q Reg.HQ_QP_SQ_TAIL)
  ((io.showFlight hq q).drained (2 ^ 32 + q), hq.setPair q { hq.pair q with draining := false })

end Sys2Proof.Machine
end

