-- ==== Sys2Proof/Machine/Audio.lean ====
section
/-! DEFINITION. The audio matrix and sample rate conversion (R353 to R382): bindings, the making of output samples, zero-crossing changes, alignment groups and ASRC channels. -/
namespace Sys2Proof.Machine

/-- Address of word `w` of output channel entry `c` (R361). -/
def audAddr (c w : Nat) : Nat := 0x2A00000 + c * 0x20 + 4 * w
/-- Address of word `w` of output channel status `c`. -/
def audStat (c w : Nat) : Nat := 0x2A80000 + c * 0x10 + 4 * w
/-- Address of the status of input channel `i`. -/
def inStat (i : Nat) : Nat := 0x2AC0000 + i * 4
/-- Address of the follow word of ingress flow `f`. -/
def followAddr (f : Nat) : Nat := 0x2AD0000 + f * 4
/-- Address of word `w` of alignment group `g`. -/
def groupAddr (g w : Nat) : Nat := 0x2AD4000 + g * 0x40 + 4 * w
/-- Address of word `w` of ASRC status entry `a`. -/
def asrcAddr (a w : Nat) : Nat := 0x2AE0000 + a * 0x20 + 4 * w

/-- A word of an output channel entry. -/
def View.aud (v : View) (c w : Nat) : Word := v.get (audAddr c w)
/-- EN of an output channel. -/
def View.audOn (v : View) (c : Nat) : Bool := bit (v.aud c 0) 0
/-- RATE_96K of an output channel. -/
def View.audFast (v : View) (c : Nat) : Bool := bit (v.aud c 0) 6
/-- CLOCK of an output channel. -/
def View.audClock (v : View) (c : Nat) : Nat := bits (v.aud c 0) 16 5
/-- GROUP of an output channel. -/
def View.audGroup (v : View) (c : Nat) : Nat := bits (v.aud c 0) 8 8
/-- DELAY_US of a group. -/
def View.groupDelay (v : View) (g : Nat) : Nat := bits (v.get (groupAddr g 1)) 0 18
/-- EN of a group. -/
def View.groupOn (v : View) (g : Nat) : Bool := bit (v.get (groupAddr g 0)) 0
/-- The enabled output channels, rising. -/
def View.audChannels (v : View) : List Nat := (v.entries 0x2A00000 0x20 0 16384).filter v.audOn

/-- What binds an input channel: the kind of BINDER, its flow or port, its clock (0 PTP, p + 1 port p), and its format. -/
structure Binding where
  kind : Nat
  source : Nat
  clock : Nat
  fast : Bool
  l24 : Bool
  deriving DecidableEq, Repr

/-- The binding that a flow gives to an input channel, if any (R353). -/
def View.flowBinds (v : View) (f i : Nat) : Option Binding :=
  let t := v.flowType f
  let w := v.flow f 27
  let lo := v.flowFirstCh f
  if v.flowValid f ∧ lo ≤ i ∧ i < lo + v.flowChannels f ∧ (t = 2 ∨ t = 3 ∨ t = 5) then
    some { kind := if t = 2 then 1 else if t = 3 then 2 else 3, source := f, clock := 0, fast := bit w 24, l24 := decide (t ≠ 2) || bit w 25 }
  else none

/-- A TDMP register of a view. -/
def View.tdmp (v : View) (p off : Nat) : Word := v.get (regAddr (.tdmp (Fin.ofNat 16 p)) off)

/-- The clock on which a TDM port runs: PTP as master, its own as slave (R354). -/
def View.tdmClock (v : View) (p : Nat) : Nat := if bit (v.tdmp p Reg.TDMP_CFG) 2 then 0 else p + 1

/-- Slots of a mask. -/
def maskBits (w : Word) : List Nat := (List.range 32).filter (bit w)

/-- The binding of a TDM port. -/
def View.tdmBinding (v : View) (p : Nat) : Binding :=
  let c := v.tdmp p Reg.TDMP_CFG
  { kind := 4, source := p, clock := v.tdmClock p, fast := bit c 3, l24 := bit c 11 }

/-- The binding that a TDM port's masks give to an input channel (R391). -/
def View.tdmBinds (v : View) (p i : Nat) : Option Binding :=
  let base := bits (v.tdmp p Reg.TDMP_RX_BASE) 0 14
  if base ≤ i ∧ i < base + 32 ∧ bit (v.tdmp p Reg.TDMP_RX_MASK) (i - base) then some (v.tdmBinding p) else none

/-- The binding of an input channel in a view (R353). -/
def View.binding (v : View) (i : Nat) : Option Binding :=
  (v.flows.findSome? (fun f => v.flowBinds f i)).orElse fun _ => (List.range 16).findSome? (fun p => v.tdmBinds p i)

/-- The binding of an input channel now: a slot being removed still carries its channel (R393). -/
def boundNow (i : Nat) (io : Io) (tdm : Tdm) : Option Binding :=
  (io.live.flows.findSome? (fun f => io.live.flowBinds f i)).orElse fun _ =>
    tdm.ports.findSome? fun x =>
      if x.2.rx.any (fun s => decide (s.2.ch = some i)) then some (io.live.tdmBinding x.1) else none

/-- Samples per second. -/
def fsOf (fast : Bool) : Nat := if fast then 96000 else 48000

/-- Number of the sample at or before an instant of the PTP clock. -/
def sampleAt (fast : Bool) (t : Nat) : Nat := t * fsOf fast / 1000000000

/-- Instant of a sample of the PTP clock, rounded up. -/
def sampleTime (fast : Bool) (n : Nat) : Nat := ceilDiv (n * 1000000000) (fsOf fast)

/-- Whole sample periods in a delay in microseconds: the sample at or before t − DELAY_US. -/
def delaySamples (fast : Bool) (us : Nat) : Nat := ceilDiv (us * fsOf fast) 1000000

/-- Key of a sample of a channel. -/
def sampleKey (c n : Nat) : Nat := c * 2 ^ 48 + n

/-- Put a sample into a history of `depth` samples per channel: the one that falls out goes (R356). -/
def putSample (depth c n v : Nat) (m : FMap Nat) : FMap Nat :=
  let m := FMap.insert m (sampleKey c n) v
  if depth ≤ n then FMap.erase m (sampleKey c (n - depth)) else m

/-- The sample of a 24-bit value with its flags. -/
def sample24 (v : Nat) : Int := signed 24 v

/-- Rate-limited events of the AUDM page: the first after 1 s without one (R383). -/
def audRaise (b : Nat) (io : Io) (a : Audio) : Io × Audio :=
  let quiet := match FMap.find a.raisedAt b with
    | some t => decide (t + 1000000000 ≤ io.up)
    | none => true
  (if quiet then io.raise .audm b else io, { a with raisedAt := FMap.insert a.raisedAt b io.up })

/-- Write an AUDM log entry (R381). -/
def Io.audLog (io : Io) (idx kind event : Nat) : Io :=
  io.logTo .audm Reg.AUDM_LOG_HEAD 0x200 64 2 [Word.of (idx % 2 ^ 14 + kind * 2 ^ 14 + event * 2 ^ 16), io.ns32]

/-! Input channels (R353 to R358, R377). -/

/-- An input channel with nothing received. -/
def InCh.fresh : InCh := { newest := 0, mark := none, burst := none, status := [] }

/-- What is kept of an input channel. -/
def Audio.inp (a : Audio) (i : Nat) : InCh := (FMap.find a.ins i).getD InCh.fresh

/-- The ST 337 sync words Pa and Pb in 16-, 20- and 24-bit mode, as 24-bit samples. -/
def st337 : List (Nat × Nat × Nat) := [(0xF87200, 0x4E1F00, 16), (0x6F8720, 0x54E1F0, 20), (0x96F872, 0xA54E1F, 24)]

/-- Sample `n` of input `i`, without its flags. -/
def Audio.raw24 (a : Audio) (i n : Nat) : Option Nat := (FMap.find a.hist (sampleKey i n)).map (· % 2 ^ 24)

/-- The word size of a Pa, Pb pair that ends with sample `n` of channel `i` or across its pair (R377). -/
def Audio.syncAt (a : Audio) (i n : Nat) : Option Nat :=
  let e := i / 2 * 2
  st337.findSome? fun s =>
    let same := fun c => decide (a.raw24 c (n - 1) = some s.1) && decide (a.raw24 c n = some s.2.1)
    let across := decide (a.raw24 e n = some s.1) && decide (a.raw24 (e + 1) n = some s.2.1)
    if same e || same (e + 1) || across then some s.2.2 else none

/-- Show NONPCM of an input channel. -/
def Io.showNonpcm (io : Io) (i : Nat) (on : Bool) : Io := io.wr (inStat i) (setBit (io.rd (inStat i)) 4 on)

/-- A sign of non-PCM marks both channels of the pair; the burst ends after the length its Pd word gives (R377, R379). -/
def markPair (i n : Nat) (io : Io) (a : Audio) : Io × Audio :=
  let e := i / 2 * 2
  let one := fun (x : Io × Audio) c =>
    (x.1.showNonpcm c true, { x.2 with ins := FMap.insert x.2.ins c { x.2.inp c with mark := some n } })
  one (one (io, a) e) (e + 1)

/-- Note the length word of a burst whose sync ended at the sample before (R379). -/
def burstLength (i n : Nat) (a : Audio) : Audio :=
  let e := i / 2 * 2
  match a.syncAt i (n - 1) with
  | some w =>
    let pd := (a.raw24 (e + 1) n).getD 0 / 2 ^ (24 - w)
    let stop := some (n + ceilDiv pd (2 * w))
    { a with ins := FMap.insert (FMap.insert a.ins e { a.inp e with burst := stop }) (e + 1) { a.inp (e + 1) with burst := stop } }
  | none => a

/-- Channel status byte 0 bit 1 of an AES3 block (R377): the bits of a block are collected from its start, which bit 27 of the sample marks. -/
def aesStatus (v : Nat) (c : InCh) : InCh × Bool :=
  let st := if v.testBit 27 then [v.testBit 26] else if c.status.length < 192 ∧ !c.status.isEmpty then c.status ++ [v.testBit 26] else c.status
  ({ c with status := st }, decide (st.length = 2) && st.getD 1 false)

/-- A sample arrives for an input channel: kept, and examined for non-PCM (R356, R373, R377). Samples already due play no more, which `hear` sees by their absence at their time. -/
def inputSample (i n v : Nat) (aes : Bool) (io : Io) (a : Audio) : Io × Audio :=
  let c := a.inp i
  let (c, sign) := if aes then aesStatus v c else (c, false)
  let a := { a with hist := putSample 16384 i n (v % 2 ^ 27) a.hist, ins := FMap.insert a.ins i { c with newest := max c.newest n } }
  let a := burstLength i n a
  if sign || (a.syncAt i n).isSome then markPair i n io a else (io, a)

/-- NONPCM_MARK_CLEAR: 8,192 samples without a sign (R377). -/
def nonpcmClear (i : Nat) (io : Io) (a : Audio) : Io × Audio :=
  let c := a.inp i
  match c.mark with
  | some m =>
    if m + 8192 ≤ c.newest then (io.showNonpcm i false, { a with ins := FMap.insert a.ins i { c with mark := none, burst := none } })
    else (io, a)
  | none => (io, a)

/-- The samples of an ST 2110-30 or -31 packet: channel offset, number of the sample in the packet, value with flags (R357). -/
def packetSamples (typ : Nat) (w : Word) (bs : List Byte) : List (Nat × Nat × Nat) :=
  let ch := bits w 16 7
  let size := sampleBytes typ w
  let n := samplesPerPtime w
  (List.range (n * ch)).map fun k =>
    let x := (bs.drop (k * size)).take size
    let v := if typ = 3 then
        let r := beNat x
        r % 2 ^ 27 + b2n (r.testBit 29) * 2 ^ 27
      else if size = 2 then beNat x * 256 else beNat x
    (k % ch, k / ch, v)

/-- An audio packet of a flow passes to its input channels (R177, R354, R357). -/
def audioPacket (f : Nat) (pkt : Pkt) (io : Io) (a : Audio) : Io × Audio :=
  let v := io.live
  let w := v.flow f 27
  let bs := pkt.payload
  let n0 := mediaTicks (v.flowClock f) pkt.arrival (rtpTs bs)
  (packetSamples (v.flowType f) w (bs.drop (rtpHeaderLen bs))).foldl (fun x s =>
    inputSample (v.flowFirstCh f + s.1) (n0 + s.2.1) s.2.2 (decide (v.flowType f = 3)) x.1 x.2) (io, a)

/-! Output channels (R355, R361 to R363, R370). -/

/-- An output channel that has made no sample. -/
def OutCh.fresh : OutCh :=
  { idx := none, last := 0, lastSig := none, phase := 0, since := 0, ramp := none, old := [], oldDelay := 0, oldFollow := none
    delay := 0, follow := none, queue := [], doing := none }

/-- What is kept of an output channel. -/
def Audio.out (a : Audio) (c : Nat) : OutCh := (FMap.find a.outs c).getD OutCh.fresh

/-- Change what is kept of an output channel. -/
def Audio.setOut (a : Audio) (c : Nat) (r : OutCh) : Audio := { a with outs := FMap.insert a.outs c r }

/-- The flow that a route slot shows by its state: primary or backup (R226, R370). -/
def shownFlow (v : View) (o k : Nat) : Option Nat :=
  let s := bits (v.get (routeAddr o (192 + k))) 0 3
  if s = 1 ∧ v.slotKind o k false = 1 then some (v.slotSrc o k false % 4096)
  else if s = 2 ∧ v.slotKind o k true = 1 then some (v.slotSrc o k true % 4096)
  else none

/-- The input channel that source 0 of a following channel reads (R370). -/
def followInput (v : View) (w5 : Word) : Option Nat :=
  match shownFlow v (bits w5 0 9) (bits w5 12 4) with
  | some f =>
    let t := v.get (followAddr f)
    if bit t 15 then some (bits t 0 14 + bits w5 16 6) else none
  | none => none

/-- A source of an output channel: its input channel, polarity and gain. -/
structure Tap where
  input : Option Nat
  invert : Bool
  gain : Nat
  deriving DecidableEq, Repr

/-- The sources that an entry's words name (R362). -/
def tapsOf (ws : List Word) (follow : Option Nat) : List Tap :=
  let w0 := ws.getD 0 0
  (List.range (bits w0 1 2 + 1)).map fun k =>
    let w := ws.getD (k + 1) 0
    { input := if k = 0 ∧ bit w0 3 then follow else some (bits w 0 14), invert := bit w 15, gain := bits w 16 16 }

/-- The ASRC channel of an input towards a clock and rate (R374). -/
def Audio.asrc (a : Audio) (i clock : Nat) (fast : Bool) : Option AsrcRt :=
  a.asrcs.find? (fun x => decide (x.input = i ∧ x.clock = clock ∧ x.fast = fast))

/-- STATE of an ASRC channel: 1 ACQUIRING, 2 LOCKED, 3 OUT_OF_RANGE. -/
def Io.asrcState (io : Io) (e : Nat) : Nat := bits (io.rd (asrcAddr e 0)) 24 2

/-- What an output channel hears at an instant: the accumulator, the inputs whose due sample is missing, the inputs muted as non-PCM, and the raw sample of a sole source. -/
structure Heard where
  acc : Int
  missing : List Nat
  muted : Nat
  raw : Option Nat
  deriving DecidableEq, Repr

/-- One source sample for sample `n` of the output channel, `m` of an input on the same clock (R355, R373, R376, R378). -/
def hearOne (tr : Bool) (clock : Nat) (fast : Bool) (m : Nat) (t : Tap) (io : Io) (a : Audio) (tdm : Tdm) (h : Heard) : Heard × Io :=
  match t.input with
  | none => (h, io)
  | some i =>
    match boundNow i io tdm with
    | none => (h, io)
    | some b =>
      let got : Option Nat × Io :=
        if b.clock = clock ∧ b.fast = fast then (FMap.find a.hist (sampleKey i m), io)
        else
          match a.asrc i clock fast with
          | some x => if io.asrcState x.entry = 2 then (some (io.freeNat 24), io.took) else (none, io)
          | none => (none, io)
      match got with
      | (none, io) => ({ h with missing := i :: h.missing }, io)
      | (some v, io) =>
        if !tr && (a.inp i).mark.isSome then ({ h with muted := h.muted + 1 }, io)
        else
          let x := sample24 v * Int.ofNat t.gain
          ({ h with acc := h.acc + (if t.invert then -x else x), raw := some v }, io)

/-- What an entry's words and a delay let a channel hear for its sample `n`. -/
def hear (ws : List Word) (delay : Nat) (follow : Option Nat) (n : Nat) (io : Io) (a : Audio) (tdm : Tdm) : Heard × Io :=
  let w0 := ws.getD 0 0
  let fast := bit w0 6
  let clock := bits w0 16 5
  let m := n - delaySamples fast delay
  if !bit w0 0 || bit w0 5 then ({ acc := 0, missing := [], muted := 0, raw := some 0 }, io)
  else
    (tapsOf ws follow).foldl (fun x t => hearOne (bit w0 4) clock fast m t x.2 a tdm x.1)
      ({ acc := 0, missing := [], muted := 0, raw := none }, io)

/-- The accumulator rounded to 24 bits, to nearest with halves upward, and whether it saturates (R363). -/
def round24 (acc : Int) : Int × Bool :=
  let r := (acc + 8192) / 16384
  (clampInt (-8388608) 8388607 r, decide (r < -8388608 ∨ r > 8388607))

/-- A sample is a zero crossing: 0, or a sign that differs from that of the sample before it (R367). -/
def crosses (before : Option Int) (x : Int) : Bool :=
  decide (x = 0) ||
  (match before with
   | some y => decide ((y < 0) ≠ (x < 0))
   | none => false)

/-- Missing input samples of a group: counted once per input and instant, with the loss of alignment (R373). -/
def groupMissing (g m : Nat) (inputs : List Nat) (io : Io) (a : Audio) : Io × Audio :=
  let fresh := inputs.eraseDups.filter (fun i => decide (FMap.find a.missed (g * 2 ^ 14 + i) ≠ some m))
  let a := { a with missed := fresh.foldl (fun t i => FMap.insert t (g * 2 ^ 14 + i) m) a.missed }
  let n := fresh.length
  let rt := (FMap.find a.groups g).getD { good := none, delay := 0 }
  if inputs.isEmpty then (io, { a with groups := FMap.insert a.groups g { rt with good := some (rt.good.getD io.up) } })
  else
    let io := io.count48 .audm Reg.AUDM_UNDERRUN_SAMPLES_LO n
    let io := io.wr (groupAddr g 9) (Word.of (sat 32 ((io.rd (groupAddr g 9)).toNat + n)))
    let a := { a with groups := FMap.insert a.groups g { rt with good := none } }
    let w := io.rd (groupAddr g 8)
    if bit w 0 then
      let w := setBits (setBit w 0 false) 16 16 (sat 16 (bits w 16 16 + 1))
      let io := ((io.wr (groupAddr g 8) w).wr (groupAddr g 10) (Word.of io.ns64)).wr (groupAddr g 11) (Word.of (io.ns64 / 2 ^ 32))
      ((io.audLog g 1 2).raise .audm 2, a)
    else (io, a)

/-- REGAIN_MS of a group, 0 selecting 10 (R371). -/
def Io.regainMs (io : Io) (g : Nat) : Nat :=
  let n := bits (io.rd (groupAddr g 2)) 0 16
  if n = 0 then 10 else n

/-- ALIGN_REGAINED: every member has delivered for REGAIN_MS (R373). -/
def alignRegained (g : Nat) (io : Io) (a : Audio) : Io :=
  match FMap.find a.groups g with
  | some rt =>
    match rt.good with
    | some t =>
      let w := io.rd (groupAddr g 8)
      if io.live.groupOn g && !bit w 0 && decide (t + io.regainMs g * 1000000 ≤ io.up) then
        ((io.wr (groupAddr g 8) (setBit w 0 true)).audLog g 1 3).raise .audm 3
      else io
    | none => io
  | none => io

/-- The eight words of an output channel entry. -/
def View.audWords (v : View) (c : Nat) : List Word := (List.range 8).map (v.aud c)

/-- The next sample of a channel: its number and instant, when that instant has come (R354, R355). -/
def nextSample (c : Nat) (io : Io) (a : Audio) (tdm : Tdm) : Option (Nat × Nat) :=
  let v := io.live
  let r := a.out c
  let clock := v.audClock c
  if clock = 0 then
    let n := match r.idx with
      | some k => k + 1
      | none => sampleAt (v.audFast c) io.now
    if sampleTime (v.audFast c) n ≤ io.now then some (n, sampleTime (v.audFast c) n) else none
  else
    match FMap.find tdm.ports (clock - 1) with
    | some p =>
      let ok := match r.idx with
        | some k => decide (k < p.frame)
        | none => decide (0 < p.frame)
      if ok && decide (io.fld (.tdmp (Fin.ofNat 16 (clock - 1))) Reg.TDMP_STAT 0 3 = 2) then
        some (p.frame, io.wide (.tdmp (Fin.ofNat 16 (clock - 1))) Reg.TDMP_LAST_SYNC_LO) else none
    | none => none

/-- One millisecond in nanoseconds. -/
def oneMs : Nat := 1000000

/-- A value on a ramp of 1 ms: up from 0 or down to 0. -/
def rampAt (x : Int) (elapsed : Nat) (up : Bool) : Int :=
  let e := min elapsed oneMs
  x * Int.ofNat (if up then e else oneMs - e) / Int.ofNat oneMs

/-- Show the end of a change (R380). -/
def changeEnds (c : Nat) (io : Io) (a : Audio) : Io × Audio :=
  let w := io.rd (audStat c 0)
  let io := io.wr (audStat c 0) (setBits w 16 16 (sat 16 (bits w 16 16 + 1)))
  (io.wr (audStat c 1) io.ns32, a.setOut c { a.out c with phase := 0, ramp := none, doing := none })

/-- STATE of an output channel in its status word: 0 OFF, 1 PLAYING, 2 CHANGING, 3 SILENT (R380). -/
def showChannel (c : Nat) (io : Io) (a : Audio) : Io :=
  let v := io.live
  let r := a.out c
  let s := if r.phase ≠ 0 then 2 else if !v.audOn c then 0 else if bit (v.aud c 0) 5 then 3 else 1
  let src := if bit (v.aud c 0) 3 then r.follow.getD 0 else bits (v.aud c 1) 0 14
  (io.wr (audStat c 0) (setBits (io.rd (audStat c 0)) 0 3 s)).wr (audStat c 3) (Word.of src)

/-- The new signal ends in silence: the change disables or mutes the channel (R367). -/
def View.audSilent (v : View) (c : Nat) : Bool := !v.audOn c || bit (v.aud c 0) 5

/-- The phase of a change that follows the out phase. -/
def afterOut (c : Nat) (io : Io) (a : Audio) : Io × Audio :=
  if io.live.audSilent c then changeEnds c io a
  else (io, a.setOut c { a.out c with phase := 2, since := io.now, ramp := none, lastSig := none })

/-- The samples of a channel in the out phase (R367): the old signal until its first zero crossing, then 0. -/
def outPhase (c n : Nat) (io : Io) (a : Audio) (tdm : Tdm) : Int × Option Nat × Io × Audio :=
  let r := a.out c
  let (h, io) := hear r.old r.oldDelay r.oldFollow n io a tdm
  let x := (round24 h.acc).1
  match r.ramp with
  | some t =>
    if t + oneMs ≤ io.now then
      let (io, a) := afterOut c io a
      (0, none, io, a)
    else (rampAt x (io.now - t) false, none, io, a)
  | none =>
    let tr := bit (r.old.getD 0 0) 4
    let burst := (tapsOf r.old r.oldFollow).findSome? (fun t => t.input.bind (fun i => (a.inp i).burst))
    let stop := match tr, burst with
      | true, some e => decide (e + delaySamples (bit (r.old.getD 0 0) 6) r.oldDelay ≤ n)
      | _, _ => crosses r.lastSig x
    if stop then
      let (io, a) := afterOut c io a
      (0, none, io, a)
    else (x, if tr then h.raw else none, io, a.setOut c { r with lastSig := some x })

/-- The samples of a channel in the in phase (R367): 0 until the new signal's first zero crossing, then the new signal. -/
def inPhase (c : Nat) (x : Int) (io : Io) (a : Audio) : Int × Io × Audio :=
  let r := a.out c
  match r.ramp with
  | some t =>
    if t + oneMs ≤ io.now then
      let (io, a) := changeEnds c io a
      (x, io, a)
    else (rampAt x (io.now - t) true, io, a)
  | none =>
    if crosses r.lastSig x then
      let (io, a) := changeEnds c io a
      (x, io, a)
    else (0, io, a.setOut c { r with lastSig := some x })

/-- Words with gains and polarity between those of the old entry and the new, for a ramp of R368. -/
def blendGain (old new_ : Int) (elapsed : Nat) : Int :=
  let e := Int.ofNat (min elapsed oneMs)
  (old * (Int.ofNat oneMs - e) + new_ * e) / Int.ofNat oneMs

/-- Count what a sample brings to light: clips, non-PCM mutes, missing samples (R363, R373, R378). -/
def account (c m : Nat) (clip : Bool) (h : Heard) (io : Io) (a : Audio) : Io × Audio :=
  let (io, a) := if clip then
      let io := io.count48 .audm Reg.AUDM_CLIPS_LO 1
      audRaise 6 (io.wr (audStat c 2) (Word.of (sat 32 ((io.rd (audStat c 2)).toNat + 1)))) a
    else (io, a)
  let was := bit (io.rd (audStat c 0)) 4
  let io := io.wr (audStat c 0) (setBit (io.rd (audStat c 0)) 4 (decide (h.muted > 0)))
  let (io, a) := if h.muted > 0 then audRaise 4 (io.count48 .audm Reg.AUDM_NONPCM_MUTES_LO h.muted) a
    else if was && decide ((a.out c).phase = 0) then
      (io, a.setOut c { a.out c with phase := 2, since := io.now, ramp := none, lastSig := none })
    else (io, a)
  groupMissing (io.live.audGroup c) m h.missing io a

/-- Keep the sample a channel has made, with V, U and C where it is transparent. -/
def emitSample (c n : Nat) (x : Int) (raw : Option Nat) (a : Audio) : Audio :=
  let v := raw.getD (unsigned 24 x)
  let a := { a with made := putSample 4096 c n v a.made }
  a.setOut c { a.out c with idx := some n, last := x }

/-- AUDIO_SAMPLE: an enabled or changing output channel makes its next sample (R355, R363, R367, R368). -/
def audioSample (c : Nat) (io : Io) (a : Audio) (tdm : Tdm) : Io × Audio :=
  let v := io.live
  let r := a.out c
  match nextSample c io a tdm with
  | none => (io, a)
  | some (n, _) =>
    if !io.running .audm then
      match a.fading with
      | some t => (io, emitSample c n (rampAt r.last (io.now - t) false) none a)
      | none => (io, a)
    else if !v.audOn c && decide (r.phase = 0) then (io, a)
    else if r.phase = 1 then
      let (x, raw, io, a) := outPhase c n io a tdm
      (showChannel c io a, emitSample c n x raw a)
    else
      let ws := v.audWords c
      let (h, io) := hear ws r.delay r.follow n io a tdm
      let (x, clip) := round24 h.acc
      let tr := bit (v.aud c 0) 4
      let m := n - delaySamples (v.audFast c) r.delay
      if r.phase = 2 then
        let (y, io, a) := inPhase c x io a
        let (io, a) := account c m clip h io a
        let raw := if tr && decide ((a.out c).phase = 0) then h.raw else none
        (showChannel c io a, emitSample c n y raw a)
      else if r.phase = 3 then
        let (ho, io) := hear r.old r.oldDelay r.oldFollow n io a tdm
        let xo := (round24 ho.acc).1
        let (y, io, a) := match r.ramp with
          | some t =>
            if t + oneMs ≤ io.now then
              let (io, a) := changeEnds c io a
              (x, io, a)
            else ((round24 (blendGain ho.acc h.acc (io.now - t))).1, io, a)
          | none =>
            if crosses r.lastSig xo then
              let (io, a) := changeEnds c io a
              (x, io, a)
            else (xo, io, a.setOut c { a.out c with lastSig := some xo })
        let (io, a) := account c m clip h io a
        (showChannel c io a, emitSample c n y none a)
      else
        let (io, a) := account c m clip h io a
        let pass := tr && h.raw.isSome && (tapsOf ws r.follow).any (fun t =>
          match t.input with
          | some i => (a.inp i).mark.isSome
          | none => false)
        let io := io.wr (audStat c 0) (setBit (io.rd (audStat c 0)) 3 pass)
        (showChannel c io a, emitSample c n (if (a.out c).phase = 2 then 0 else x) (if tr then h.raw else none) a)

/-! Changes (R366 to R369). -/

/-- Two entries differ in gain and polarity alone (R368). -/
def gainOnly (a b : List Word) : Bool :=
  (List.range 8).all fun w =>
    let x := a.getD w 0
    let y := b.getD w 0
    if 1 ≤ w ∧ w ≤ 4 then decide (bits x 0 15 = bits y 0 15)
    else if w = 0 then decide (setBit x 7 false = setBit y 7 false) else decide (x = y)

/-- AUDIO_CHANGE_POINT: the first change of a channel begins at its instant, when none is in progress (R366, R367, R369). -/
def changePoint (c : Nat) (io : Io) (a : Audio) : Io × Audio :=
  let r := a.out c
  match r.queue with
  | [] => (io, a)
  | ch :: rest =>
    if r.phase ≠ 0 ∨ io.now < ch.at_ then (io, a)
    else
      let v := io.live
      let old := v.audWords c
      let wasOn := v.audOn c && !bit (old.getD 0 0) 5
      let io := io.makeLive (ch.words.map (fun w => (audAddr c w.1, w.2)))
      let v := io.live
      let new_ := v.audWords c
      let delay := v.groupDelay (v.audGroup c)
      let follow := match ch.follow with
        | some f => f
        | none => if bit (new_.getD 0 0) 3 then followInput v (new_.getD 5 0) else none
      let r' := { r with
        queue := rest, old := old, oldDelay := r.delay, oldFollow := r.follow, delay := delay, follow := follow, since := io.now
        ramp := none, lastSig := some r.last, doing := ch.seq
        idx := if bits (old.getD 0 0) 16 5 = bits (new_.getD 0 0) 16 5 ∧ bit (old.getD 0 0) 6 = bit (new_.getD 0 0) 6 then r.idx else none }
      let same := decide (r.delay = delay) && decide (r.follow = follow)
      let a' := a.setOut c r'
      let nowOn := !v.audSilent c
      let (io, a) :=
        if !wasOn && !nowOn then changeEnds c io a'
        else if same && gainOnly old new_ then
          if old = new_ then changeEnds c io a' else (io, a'.setOut c { r' with phase := 3 })
        else if !wasOn then (io, a'.setOut c { r' with phase := 2, lastSig := none })
        else (io, a'.setOut c { r' with phase := 1 })
      (showChannel c io a, a)

/-- A timeout of a change is counted and raised (R367, R368). -/
def zcCount (c : Nat) (io : Io) (a : Audio) : Io × Audio :=
  let io := io.count48 .audm Reg.AUDM_ZC_TIMEOUTS_LO 1
  audRaise 5 (io.wr (audStat c 0) (setBit (io.rd (audStat c 0)) 5 true)) a

/-- ZC_TIMEOUT: no crossing within ZC_TMO_MS, so the signal ramps over 1 ms; a ramp that has run its millisecond ends its phase (R367, R368, R379). -/
def zcTimeout (c : Nat) (io : Io) (a : Audio) : Io × Audio :=
  let r := a.out c
  let tmo := io.fld .audm Reg.AUDM_CFG 0 7 * oneMs
  if r.phase = 0 then (io, a)
  else
    match r.ramp with
    | some t =>
      if t + oneMs ≤ io.now then
        if r.phase = 1 then afterOut c io a else changeEnds c io a
      else (io, a)
    | none =>
      if io.now < r.since + tmo then (io, a)
      else
        let (io, a) := zcCount c io a
        let nonpcm := bit (r.old.getD 0 0) 4 && (tapsOf r.old r.oldFollow).any (fun t =>
          match t.input with
          | some i => (a.inp i).mark.isSome
          | none => false)
        if nonpcm then (if r.phase = 1 then afterOut c io a else changeEnds c io a)
        else (io, a.setOut c { r with ramp := some io.now })

/-- Put a change in a channel's queue: by instant, then in order of acceptance (R369). -/
def queueAud (ch : AudChange) : List AudChange → List AudChange
  | [] => [ch]
  | x :: xs => if ch.at_ < x.at_ then ch :: x :: xs else x :: queueAud ch xs

/-- A change of an output channel is accepted (R366). -/
def audAccept (c : Nat) (ch : AudChange) (a : Audio) : Audio :=
  let r := a.out c
  a.setOut c { r with queue := queueAud ch r.queue }

/-- At a frame boundary the followed sources of an output's channels are looked up again; each that has moved is a change (R366, R370). -/
def followUpdate (o : Nat) (io : Io) (a : Audio) : Io × Audio :=
  io.live.audChannels.foldl (fun x c =>
    let (io, a) := x
    let w0 := io.live.aud c 0
    let w5 := io.live.aud c 5
    if bit w0 3 && decide (bits w5 0 9 = o) then
      let f := followInput io.live w5
      let r := a.out c
      let due := (r.queue.findSome? (fun q => q.follow)).getD r.follow
      if f = due then (io, a)
      else (io.audLog c 0 0, audAccept c { at_ := io.now, seq := none, words := [], follow := some f } a)
    else (io, a)) (io, a)

/-! ASRC channels (R374, R375). -/

/-- The pairs of input and target that enabled channels need, in ascending order of channel (R374). -/
def View.asrcPairs (v : View) (bind : Nat → Option Binding) (follow : Nat → Option Nat) : List (Nat × Nat × Bool) :=
  (v.audChannels.flatMap fun c =>
    (tapsOf (v.audWords c) (follow c)).filterMap fun t =>
      t.input.bind fun i =>
        (bind i).bind fun b =>
          if b.clock = v.audClock c ∧ b.fast = v.audFast c then none else some (i, v.audClock c, v.audFast c)).eraseDups

/-- The lowest ASRC entry that no channel uses. -/
def freeAsrc (used : List Nat) : Nat → Nat → Nat
  | 0, n => n
  | k + 1, n => if used.contains n then freeAsrc used k (n + 1) else n

/-- Output channels that an ASRC channel serves. -/
def View.asrcUsers (v : View) (follow : Nat → Option Nat) (x : AsrcRt) : Nat :=
  (v.audChannels.filter fun c =>
    decide (v.audClock c = x.clock ∧ v.audFast c = x.fast) &&
    (tapsOf (v.audWords c) (follow c)).any (fun t => decide (t.input = some x.input))).length

/-- Show a field of an ASRC status entry. -/
def Io.setAsrc (io : Io) (e lo len v : Nat) : Io := io.wr (asrcAddr e 0) (setBits (io.rd (asrcAddr e 0)) lo len v)

/-- ASRC_STAT: channels allocated and locked (R382). -/
def showAsrc (io : Io) (a : Audio) : Io :=
  io.put .asrc Reg.ASRC_STAT (Word.of (a.asrcs.length + (a.asrcs.filter (fun x => decide (io.asrcState x.entry = 2))).length * 2 ^ 16))

/-- Allocation follows the live state: pairs no longer needed are freed, new ones enter ACQUIRING (R374, R375); an ASRC block that is not RUNNING converts nothing (R53). -/
def asrcUpdate (io : Io) (a : Audio) (tdm : Tdm) : Io × Audio :=
  let follow := fun c => (a.out c).follow
  let need := if io.running .asrc then io.live.asrcPairs (fun i => boundNow i io tdm) follow else []
  let keep := a.asrcs.filter (fun x => need.contains (x.input, x.clock, x.fast))
  let gone := a.asrcs.filter (fun x => !need.contains (x.input, x.clock, x.fast))
  let io := gone.foldl (fun io x => (List.range 8).foldl (fun io w => io.wr (asrcAddr x.entry w) 0) io) io
  let (io, rts) := need.foldl (fun (s : Io × List AsrcRt) p =>
    if s.2.any (fun x => decide (x.input = p.1 ∧ x.clock = p.2.1 ∧ x.fast = p.2.2)) then s
    else
      let e := freeAsrc (s.2.map (·.entry)) 2048 0
      (s.1.wr (asrcAddr e 0) (Word.of (p.1 + p.2.1 * 2 ^ 16 + b2n p.2.2 * 2 ^ 21 + 2 ^ 22 + 2 ^ 24)),
        s.2 ++ [{ entry := e, input := p.1, clock := p.2.1, fast := p.2.2, since := s.1.up }])) (io, keep)
  let io := rts.foldl (fun io x =>
    io.wr (asrcAddr x.entry 2) (setBits (io.rd (asrcAddr x.entry 2)) 0 16 (sat 16 (io.live.asrcUsers follow x)))) io
  let a := { a with asrcs := rts }
  (showAsrc io a, a)

/-- An ASRC channel leaves LOCKED: counted, and raised (R375). -/
def Io.asrcUnlock (io : Io) (e : Nat) : Io :=
  let w := io.rd (asrcAddr e 2)
  let io := io.wr (asrcAddr e 2) (setBits w 16 16 (sat 16 (bits w 16 16 + 1)))
  (io.count48 .asrc Reg.ASRC_UNLOCKS_LO 1).raise .asrc 3

/-- ASRC_LOCKED: the channel has settled within range for LOCK_MS (R375). -/
def asrcLock (e : Nat) (io : Io) (a : Audio) : Io × Audio :=
  match a.asrcs.find? (fun x => decide (x.entry = e)) with
  | some x =>
    if io.asrcState e = 1 ∧ x.since + io.fld .asrc Reg.ASRC_CFG 0 8 * oneMs ≤ io.up then
      let io := io.setAsrc e 24 2 2
      let io := (io.wr (asrcAddr e 3) (Word.of io.ns64)).wr (asrcAddr e 4) (Word.of (io.ns64 / 2 ^ 32))
      ((showAsrc io a).raise .asrc 2, a)
    else (io, a)
  | none => (io, a)

/-- The deviation lies within RANGE_PPM; it is signed, in units of 2^-16 ppm (R382). -/
def Io.asrcWithin (io : Io) (dev : Word) : Bool :=
  decide ((signed 32 dev.toNat).natAbs ≤ io.fld .asrc Reg.ASRC_CFG 16 11 * 65536)

/-- ASRC_RANGE: the measured deviation exceeds RANGE_PPM (R375). -/
def asrcRange (e : Nat) (dev : Word) (io : Io) (a : Audio) : Io × Audio :=
  match a.asrcs.find? (fun x => decide (x.entry = e)) with
  | some _ =>
    if io.asrcWithin dev || decide (io.asrcState e = 3) then (io, a)
    else
      let was := io.asrcState e
      let io := (io.wr (asrcAddr e 1) dev).setAsrc e 24 2 3
      let io := if was = 2 then io.asrcUnlock e else io
      ((showAsrc io a).raise .asrc 4, a)
  | none => (io, a)

/-- ASRC_WITHIN_RANGE: the deviation is back within range, and the channel acquires (R375). -/
def asrcBack (e : Nat) (dev : Word) (io : Io) (a : Audio) : Io × Audio :=
  if io.asrcWithin dev && decide (io.asrcState e = 3) then
    ((io.wr (asrcAddr e 1) dev).setAsrc e 24 2 1,
      { a with asrcs := a.asrcs.map (fun x => if x.entry = e then { x with since := io.up } else x) })
  else (io, a)

/-- A port loses its clock: the ASRC channels whose input is the port lose lock (R390). -/
def asrcPortLost (p : Nat) (io : Io) (a : Audio) (tdm : Tdm) : Io × Audio :=
  a.asrcs.foldl (fun s x =>
    let (io, a) := s
    match boundNow x.input io tdm with
    | some b =>
      if b.kind = 4 ∧ b.source = p then
        let io := if io.asrcState x.entry = 2 then io.asrcUnlock x.entry else io
        (io.setAsrc x.entry 24 2 1,
          { a with asrcs := a.asrcs.map (fun y => if y.entry = x.entry then { y with since := io.up } else y) })
      else (io, a)
    | none => (io, a)) (io, a)

/-! Limits that validation checks (R364, R372, R374, R378). -/

/-- Source latency of a binding in microseconds (R372). -/
def View.sourceLatency (v : View) (b : Binding) : Nat :=
  if b.kind = 4 then 125
  else if b.kind = 3 then 250
  else
    let p := bits (v.flow b.source 27) 26 3
    100 + (if p = 0 then 125 else if p = 1 then 250 else if p = 2 then 333 else if p = 3 then 1000 else 4000)

/-- The least DELAY_US of a group: the greatest over its members, with 500 for ASRC, plus 250 (R372). -/
def View.minDelay (v : View) (g : Nat) : Nat :=
  let each := (v.audChannels.filter (fun c => decide (v.audGroup c = g))).flatMap fun c =>
    (tapsOf (v.audWords c) none).filterMap fun t =>
      t.input.bind fun i => (v.binding i).map fun b =>
        v.sourceLatency b + (if b.clock = v.audClock c ∧ b.fast = v.audFast c then 0 else 500)
  each.foldl max 0 + 250

/-- Distinct sources that feed a group (R371). -/
def View.groupMembers (v : View) (g : Nat) : List (Nat × Nat) :=
  ((v.audChannels.filter (fun c => decide (v.audGroup c = g))).flatMap fun c =>
    (tapsOf (v.audWords c) none).filterMap fun t =>
      t.input.bind fun i => (v.binding i).map fun b => (if b.kind = 4 then 1 else 0, b.source)).eraseDups

/-- History charge in bytes per second of the inputs that a flow binds: 8 bytes per sample (R356). -/
def View.flowHistory (v : View) (f : Nat) : Nat :=
  let t := v.flowType f
  if v.flowValid f ∧ (t = 2 ∨ t = 3 ∨ t = 5) then v.flowChannels f * 8 * fsOf (bit (v.flow f 27) 24) else 0

/-- History charge of the inputs that a TDM port binds (R356). -/
def View.portHistory (v : View) (p : Nat) : Nat :=
  (maskBits (v.tdmp p Reg.TDMP_RX_MASK)).length * 8 * fsOf (bit (v.tdmp p Reg.TDMP_CFG) 3)

/-- History charge of every bound input (R356). -/
def View.historyCharge (v : View) : Nat := (v.flows.map v.flowHistory).sum + ((List.range 16).map v.portHistory).sum

/-- A 24-bit sample rounded to 16 bits as R363 rounds; with DITHER a free TPDF dither of ±1 LSB is added first. -/
def round16 (x : Int) (dither : Int) : Int := clampInt (-32768) 32767 ((x + dither + 128) / 256)

/-- TPDF dither of ±1 LSB at 16 bits in 24-bit units: a free value within its bounds (R363). -/
def Io.tpdf (io : Io) : Int := Int.ofNat (io.freeNat 8) + Int.ofNat (io.freeNat 16 / 256) - 255

end Sys2Proof.Machine
end

