-- ==== Sys2Proof/Machine/Admission.lean ====
section
/-! DEFINITION. Admission (R21 to R23, R238, R239) and the work distributor (R263 to R265): the budgets over every state that is live or pending, and the placement of jobs on logical engines. -/
namespace Sys2Proof.Machine

/-- What admission judges: the states that are live or pending with the commit, the enabled outputs, the hidden layers, and the runs whose plane stays live. -/
structure Adm where
  views : List View
  final : View
  st : Stores
  outs : List Nat
  hidden : Nat → Bool
  flat : Nat → List Nat → Bool

/-- The greatest of a charge over the states (R238). -/
def Adm.over (a : Adm) (f : View → Q) : Q := a.views.foldl (fun m v => m.max (f v)) Q.zero

/-- A layer in slot `k` of `o` is charged: its slot works and it is not hidden. -/
def Adm.counts (a : Adm) (v : View) (o k : Nat) : Bool := v.slotWorks o k && !a.hidden (v.slotLayer o k)

/-- The guaranteed charge of a slot: a static layer charges the reserve instead (R23, R239). -/
def Adm.guaranteed (a : Adm) (v : View) (o k : Nat) : Charge :=
  if a.counts v o k && !v.layerStatic (v.slotLayer o k) then v.slotCharge a.st o k (v.layerMode (v.slotLayer o k))
  else Charge.zero

/-- The slot's layer belongs to a run of the output that is not flattened. -/
def Adm.uncached (a : Adm) (v : View) (o l : Nat) : Bool :=
  !(v.runsOf a.hidden o).any (fun ms => ms.contains l && a.flat o ms)

/-- The reserve charge of a slot: a static layer of an unflattened run (R23). -/
def Adm.reserve (a : Adm) (v : View) (o k : Nat) : Charge :=
  let l := v.slotLayer o k
  if a.counts v o k && v.layerStatic l && a.uncached v o l then v.slotCharge a.st o k (v.layerMode l) else Charge.zero

/-- Sum over the slots of the enabled outputs, each at its greatest over the states. -/
def Adm.slots (a : Adm) (f : View → Nat → Nat → Charge) : Charge :=
  a.outs.foldl (fun s o =>
    (List.range 16).foldl (fun s k =>
      s.add (a.views.foldl (fun m v => m.max (f v o k)) Charge.zero)) s) Charge.zero

/-- Ingress flows valid in some state. -/
def Adm.flows (a : Adm) : List Nat := (a.views.flatMap (·.flows)).eraseDups

/-- Egress flows valid in some state. -/
def Adm.egrs (a : Adm) : List Nat := (a.views.flatMap (·.egrs)).eraseDups

/-- HBM traffic besides jobs. -/
def Adm.traffic (a : Adm) : Q :=
  ((Q.sum (a.flows.map (fun f => a.over (fun v => (v.flowWrite f).add (Q.nat (v.flowHistory f)))))).add
    (Q.sum (a.outs.map (fun o => a.over (fun v => v.outTraffic a.st o))))).add
    (Q.sum ((List.range 16).map (fun p => a.over (fun v => Q.nat (v.portHistory p)))))

/-- Load of a port (budget 4). -/
def Adm.portLoad (a : Adm) (p : Nat) : Q :=
  Q.sum (a.egrs.map fun e =>
    a.over (fun v => if v.egrValid e && (v.egrPorts e).contains p then v.egrOnPort e p else Q.zero))

/-- Fast-path entries that are FAST in some state (R239). -/
def Adm.fastLoad (a : Adm) : Q :=
  let es := (a.views.flatMap (·.fasts)).eraseDups
  Q.sum (es.map fun e => a.over (fun v => if v.fastEn e ∧ v.fastState e ≠ 2 then v.fastBuffer e else Q.zero))

/-- Compositor load of a tile (budget 6). -/
def Adm.tileLoad (a : Adm) (t : Nat) : Q :=
  Q.sum ((a.outs.filter (fun o => o / 32 = t)).map (fun o => a.over (fun v => v.outPixels o)))

/-- A failed budget: code, index responsible and excess in the budget's unit, rounded up (R21). -/
def overBudget (code who : Nat) (load limit : Q) (unit : Nat) : Option (Nat × Nat) :=
  if load.le limit then none
  else some (code, who + sat 20 (((load.sub limit).scale 1 unit).ceil) * 2 ^ 12)

/-- A register of the TOP page in a view. -/
def View.top (v : View) (off : Nat) : Nat := (v.get off).toNat

/-- The first failing budget in the order of R21, with its ERR_INFO. -/
def Adm.judge (a : Adm) : Option (Nat × Nat) :=
  let v := a.final
  let mega := 1000000
  let g := a.slots a.guaranteed
  let r := a.slots a.reserve
  let engLimit := Q.nat ((v.top Reg.TOP_ADM_ENG_LIMIT - v.top Reg.TOP_ADM_ENG_RSV) * mega)
  let hbmLimit := Q.nat ((v.top Reg.TOP_ADM_HBM_FLOOR - v.top Reg.TOP_ADM_HOST_RSV - v.top Reg.TOP_ADM_HBM_RSV) * mega)
  (overBudget 0x0140 0xFFF g.eng engLimit mega).orElse fun _ =>
  (overBudget 0x0141 0xFFF (g.hbm.add a.traffic) hbmLimit mega).orElse fun _ =>
  (overBudget 0x0142 0xFFF r.eng (Q.nat (v.top Reg.TOP_ADM_ENG_RSV * mega)) mega).orElse fun _ =>
  (overBudget 0x0142 0xFFF r.hbm (Q.nat (v.top Reg.TOP_ADM_HBM_RSV * mega)) mega).orElse fun _ =>
  ((sortBy (fun x y => decide (x ≤ y)) (a.egrs.flatMap (fun e => a.views.flatMap (fun v => v.egrPorts e))).eraseDups).findSome?
    fun p => overBudget 0x0143 p (a.portLoad p) (Q.of (v.portRate p * 98) 100) 1).orElse fun _ =>
  (overBudget 0x0144 0xFFF a.fastLoad (Q.nat (v.top Reg.TOP_ADM_PKTBUF_LIMIT * 1024)) 1024).orElse fun _ =>
  (List.range 16).findSome? fun t =>
    overBudget 0x0145 (((a.outs.filter (fun o => o / 32 = t)).getLast?).getD 0) (a.tileLoad t) (Q.nat (40000 * mega)) mega

/-! The work distributor. -/

/-- A logical engine: its ID and its physical slot. -/
abbrev Engine : Type := Nat × Nat

/-- Logical engines that the PRSM pages show as mapped (R267). -/
def Io.engines (io : Io) : List Engine :=
  (allWhere 144 (fun e => io.flag (.prsm (Fin.ofNat 144 e)) Reg.PRSM_STAT 7)).map
    fun e => (io.fld (.prsm (Fin.ofNat 144 e)) Reg.PRSM_STAT 0 7, e)

/-- Charge of a job. -/
def Job.charge (j : Job) : Q := { num := j.num, den := j.den }

/-- Layer lines of a job in bytes per second (R263). -/
def Job.lines (j : Job) : Q := { num := j.linesNum, den := j.linesDen }

/-- The engine a job will be on: where it moves, else where it is. -/
def Job.target (j : Job) : Option Nat := j.moveTo.orElse (fun _ => j.engine)

/-- The jobs of the state after a commit, unplaced (R263). -/
def Adm.jobs (a : Adm) : List Job :=
  a.outs.flatMap fun o => (a.final.enabledSlots o).flatMap fun k =>
    let v := a.final
    let l := v.slotLayer o k
    let static_ := v.layerStatic l
    if !a.counts v o k || (static_ && !a.uncached v o l) then []
    else
      let c := (v.slotCharge a.st o k (v.layerMode l)).eng
      let n := (v.strips a.st o k).getD 1
      let d := v.layerDst l
      (List.range n).map fun s =>
        let w := stripWidth d.w n s
        let q := c.scale w d.w
        let b := pixelRate (9 * w * d.h) (v.timing o).rate
        { out := o, layer := l, strip := s, strips := n, reserve := static_, num := q.num, den := q.den
          linesNum := b.num, linesDen := b.den, engine := none, moveTo := none }

/-- The same job: layer, output and strip. -/
def Job.same (a b : Job) : Bool :=
  decide (a.out = b.out ∧ a.layer = b.layer ∧ a.strip = b.strip ∧ a.strips = b.strips)

/-- Tile of a logical engine. -/
def engineTile (es : List Engine) (l : Nat) : Option Nat := (es.find? (fun e => e.1 = l)).map (fun e => e.2 / 9)

/-- Jobs placed in a tile. -/
def jobsIn (es : List Engine) (js : List Job) (t : Nat) : List Job :=
  js.filter fun j =>
    match j.target with
    | some l => decide (engineTile es l = some t)
    | none => false

/-- Placed charge of a tile. -/
def tileCharge (es : List Engine) (js : List Job) (t : Nat) : Q := Q.sum ((jobsIn es js t).map Job.charge)

/-- Jobs on a logical engine. -/
def jobsOn (js : List Job) (l : Nat) : List Job := js.filter (fun j => j.target = some l)

/-- An engine has room for a job: 5,000 Mpix/s and 64 entries (R263). -/
def engineRoom (js : List Job) (l : Nat) (c : Q) : Bool :=
  decide ((jobsOn js l).length < 64) && ((Q.sum ((jobsOn js l).map Job.charge)).add c).le (Q.nat 5000000000)

/-- Mean placed charge per tile (R264). -/
def meanCharge (js : List Job) : Q := (Q.sum (js.map Job.charge)).scale 1 16

/-- The figure of R264 that does not depend on the tile: the greater of 112 % of the mean and the mean plus the largest job. -/
def boundFigure (js : List Job) : Q :=
  let m := meanCharge js
  (m.scale 112 100).max (m.add (js.foldl (fun x j => x.max j.charge) Q.zero))

/-- The bound of a tile (R264). -/
def tileBound (es : List Engine) (fig : Q) (t : Nat) : Q :=
  let full := Q.nat ((es.filter (fun e => e.2 / 9 = t)).length * 5000000000)
  if fig.le full then fig else full

/-- Lines that cross from one die to the other, towards die `d` (R13, R263). -/
def crossing (es : List Engine) (js : List Job) (d : Nat) : Q :=
  Q.sum (js.filterMap fun j =>
    match j.target with
    | some l =>
      match engineTile es l with
      | some t => if j.out / 256 = d ∧ t / 8 ≠ d then some j.lines else none
      | none => none
    | none => none)

/-- The engine of a tile with the least placed charge that has room (R263, step 4). -/
def leastEngine (es : List Engine) (js : List Job) (t : Nat) (c : Q) : Option Nat :=
  ((es.filter (fun e => decide (e.2 / 9 = t) && engineRoom js e.1 c)).foldl (fun best e =>
    let q := Q.sum ((jobsOn js e.1).map Job.charge)
    match best with
    | some (b, _) => if q.lt b then some (q, e.1) else best
    | none => some (q, e.1)) (none : Option (Q × Nat))).map (·.2)

/-- The tile takes the job within its bound, on an engine. -/
def tryTile (es : List Engine) (fig : Q) (js : List Job) (c : Q) (t : Nat) : Option Nat :=
  if ((tileCharge es js t).add c).le (tileBound es fig t) then leastEngine es js t c else none

/-- Tiles of a die in ascending order of placed charge, ties to the lowest index. -/
def tilesByLoad (es : List Engine) (js : List Job) (d : Nat) : List Nat :=
  (sortBy (fun (a b : Q × Nat) => a.1.le b.1) (((List.range 8).map (8 * d + ·)).map (fun t => (tileCharge es js t, t)))).map (·.2)

/-- The engine for a job, by steps 1 to 4 of R263. -/
def choose (es : List Engine) (fig : Q) (js : List Job) (j : Job) : Option Nat :=
  let home := j.out / 32
  let d := j.out / 256
  (tryTile es fig js j.charge home).orElse fun _ =>
  (((tilesByLoad es js d).filter (fun t => t ≠ home)).findSome? (tryTile es fig js j.charge)).orElse fun _ =>
  if ((crossing es js d).add j.lines).le (Q.nat 1600000000000) then
    (tilesByLoad es js (1 - d)).findSome? (tryTile es fig js j.charge)
  else none

/-- Place jobs one after the other; a job that finds no engine stays unplaced (R263). -/
def placeAll (es : List Engine) (fig : Q) : List Job → List Job → List Job
  | [], done => done
  | j :: js, done => placeAll es fig js (done ++ [{ j with engine := choose es fig done j }])

/-- Descending order of charge. -/
def byCharge (js : List Job) : List Job := sortBy (fun a b => b.charge.le a.charge) js

/-- Jobs moved until every tile is within the bound: the largest movable job of an overloaded tile first (R265). -/
def rebalance (es : List Engine) (fig : Q) : Nat → List Job → List Job
  | 0, js => js
  | n + 1, js =>
    match (List.range 16).find? (fun t => !(tileCharge es js t).le (tileBound es fig t)) with
    | none => js
    | some t =>
      let cand := (byCharge (jobsIn es js t)).findSome? fun j =>
        let rest := js.filter (fun x => !x.same j)
        match choose es fig rest j with
        | some l => if engineTile es l = some t then none else some (j, l)
        | none => none
      match cand with
      | none => js
      | some (j, l) => rebalance es fig n (js.map (fun x => if x.same j then { x with moveTo := some l } else x))

/-- The jobs of the state after a commit with their engines: a placed job keeps its engine, the others are placed in descending order of charge, and then the bound is restored (R263 to R265). -/
def distribute (es : List Engine) (old new_ : List Job) : List Job :=
  let fig := boundFigure new_
  let keep := new_.filterMap fun j =>
    match old.find? j.same with
    | some x =>
      match x.target with
      | some l => if (engineTile es l).isSome then some { j with engine := x.engine, moveTo := x.moveTo } else none
      | none => none
    | none => none
  let fits := keep.foldl (fun done j =>
    match j.target with
    | some l => if engineRoom done l j.charge then done ++ [j] else done
    | none => done) []
  let rest := new_.filter (fun j => !fits.any j.same)
  rebalance es fig new_.length (placeAll es fig (byCharge rest) fits)

/-- The first job, in the order of placement, without an engine (R263). -/
def unplaced (js : List Job) : Option Job := js.find? (fun j => j.target.isNone)

/-- Show the distributor's figures and the job lists of the engines (R267, R268). -/
def Io.showJobs (io : Io) (es : List Engine) (js : List Job) : Io :=
  let mega := fun (q : Q) => (q.scale 1 1000000).floor
  let loads := (List.range 16).map (fun t => (tileCharge es js t, t))
  let best := loads.foldl (fun (b : Q × Nat) x => if b.1.lt x.1 then x else b) (Q.zero, 0)
  let fig := boundFigure js
  let full := Q.nat (8 * 5000000000)
  let io := io.put .top Reg.TOP_DIST_MEAN (Word.of (mega (meanCharge js) % 2 ^ 16))
  let io := io.put .top Reg.TOP_DIST_BOUND (Word.of (mega (if fig.le full then fig else full) % 2 ^ 16))
  let io := io.put .top Reg.TOP_DIST_MAX (Word.of (mega best.1 % 2 ^ 16 + best.2 * 2 ^ 16))
  let io := io.put .top Reg.TOP_DIST_XDIE01 (Word.of (mega (crossing es js 1)))
  let io := io.put .top Reg.TOP_DIST_XDIE10 (Word.of (mega (crossing es js 0)))
  es.foldl (fun io e =>
    let pg : PageRef := .prsm (Fin.ofNat 144 e.2)
    let mine := js.filter (fun j => j.engine = some e.1)
    let io := io.setFld pg Reg.PRSM_STAT 8 8 mine.length
    let io := io.put pg Reg.PRSM_LOAD (Word.of (mega (Q.sum (mine.map Job.charge))))
    (List.range 64).foldl (fun io i =>
      let w := match mine[i]? with
        | some j => j.layer + j.out * 2 ^ 12 + j.strip * 2 ^ 21 + (if j.strips = 4 then 2 else j.strips - 1) * 2 ^ 23
            + b2n j.reserve * 2 ^ 25 + 2 ^ 31
        | none => 0
      if io.reg pg (0x100 + 4 * i) = Word.of w then io else io.put pg (0x100 + 4 * i) (Word.of w)) io) io

end Sys2Proof.Machine
end

