-- ==== Sys2Proof/Machine/Heat.lean ====
section
/-! DEFINITION. The thermal block (ch. 16): sensing channels and their faults (R404 to R406), the level (R407 to R409), what leads to shutdown (R412, R413), and the corrections of R414. -/
namespace Sys2Proof.Machine

/-- Classes of channels: 0 die, 1 HBM, 2 + k external channel k (R404). -/
def chClass (c : Nat) : Nat :=
  if c < 32 then 0 else if c < 40 then 2 + (c - 32) else if c < 44 then 1 else 0

/-- The tile of an on-die channel (R404). -/
def chTile (c : Nat) : Option Nat :=
  if c < 32 then some (c / 2) else if 44 ≤ c ∧ c < 60 then some (c - 44) else none

/-- KIND of an external channel, as the register holds it. -/
def Io.extKind (io : Io) (k : Nat) : Nat := bits (io.reg .thrm Reg.THRM_EXT_CFG) (4 * k) 2

/-- SHED of an external channel. -/
def Io.extShed (io : Io) (k : Nat) : Bool := bit (io.reg .thrm Reg.THRM_EXT_CFG) (4 * k + 2)

/-- A channel is sensed: external channels only where their KIND says so. -/
def Io.chSensed (io : Io) (c : Nat) : Bool :=
  decide (c < 60) && (decide (chClass c < 2) || decide (io.extKind (chClass c - 2) ≠ 0))

/-- A channel counts towards the level: an external channel whose SHED bit is 0 counts towards nothing (R406). -/
def Io.chCounts (io : Io) (c : Nat) : Bool :=
  io.chSensed c && (decide (chClass c < 2) || io.extShed (chClass c - 2))

/-- The threshold of level `l`, 1 WARN to 4 CRIT, of a channel in °C (R409). -/
def Io.chLimit (io : Io) (c l : Nat) : Nat :=
  let off := if chClass c = 0 then Reg.THRM_LIM_DIE else if chClass c = 1 then Reg.THRM_LIM_HBM
    else Reg.THRM_LIM_EXT + 4 * (chClass c - 2)
  bits (io.reg .thrm off) (8 * (l - 1)) 8

/-- The value that a channel shows, in 0.1 °C (R417). -/
def Io.chValue (io : Io) (c : Nat) : Int := signed 16 (io.fld .thrm (Reg.THRM_CH + 4 * c) 0 16)

/-- The channel's FAULT bit. -/
def Io.chFault (io : Io) (c : Nat) : Bool := io.flag .thrm (Reg.THRM_CH + 4 * c) 16

/-- THRM_STAT.LEVEL (R407). -/
def Io.level (io : Io) : Nat := io.fld .thrm Reg.THRM_STAT 0 3

/-- HYST in 0.1 °C. -/
def Io.hyst (io : Io) : Int := Int.ofNat (10 * io.fld .thrm Reg.THRM_HYST 0 4)

/-- One second in nanoseconds. -/
def second : Nat := 1000000000

/-- The values of the evaluation WINDOW_S ago, the youngest that old. -/
def Thermal.past (t : Thermal) (now window : Nat) : Option (List Int) :=
  (t.samples.find? (fun s => decide (s.1 + window * second ≤ now))).map (·.2)

/-- The rise of a channel over WINDOW_S in 0.1 °C; 0 while no value is that old. -/
def Thermal.rise (t : Thermal) (now window c : Nat) (v : Int) : Int :=
  match t.past now window with
  | some xs =>
    match xs[c]? with
    | some w => v - w
    | none => 0
  | none => 0

/-- The range of a channel in °C (R404). -/
def chRange (c : Nat) : Int × Int := if chClass c = 1 then (0, 125) else (-40, 150)

/-- The fault that a reading shows (R405): what the sensor circuit sees, 1 open or 2 short, else 3 stuck, else 4 implausible; 0 none. -/
def faultOf (io : Io) (t : Thermal) (xs : List Int) (c electrical : Nat) : Nat :=
  let v := (xs[c]?).getD 0
  let ring := fun tile => (xs[44 + tile]?).getD 0
  let stuck :=
    match FMap.find t.still c with
    | some (since, lo, hi) =>
      if (chTile c).isSome then decide (since + 30 * second ≤ io.up) && decide (hi - lo ≥ 20)
      else decide (since + 300 * second ≤ io.up)
    | none => false
  let r := chRange c
  let jump :=
    match t.samples.head? with
    | some s =>
      match s.2[c]? with
      | some w => decide ((v - w).natAbs > 100) && decide (io.up ≤ s.1 + 10000000)
      | none => false
    | none => false
  let apart :=
    match chTile c with
    | some tile => decide ((v - ring tile).natAbs > (if t.calibrated.contains tile then 150 else 250))
    | none => false
  if electrical = 1 ∨ electrical = 2 then electrical
  else if stuck then 3
  else if v < 10 * r.1 ∨ v > 10 * r.2 ∨ jump ∨ apart then 4
  else 0

/-- Keep how long a value has not changed, with the span of the tile's ring oscillator over that time (R405). -/
def Thermal.keepStill (t : Thermal) (now : Nat) (xs : List Int) (c : Nat) : Thermal :=
  let v := (xs[c]?).getD 0
  let ring := match chTile c with
    | some tile => (xs[44 + tile]?).getD 0
    | none => 0
  let same := match t.samples.head? with
    | some s => decide (s.2[c]? = some v)
    | none => false
  match (if same then FMap.find t.still c else none) with
  | some (since, lo, hi) => { t with still := FMap.insert t.still c (since, min lo ring, max hi ring) }
  | none => { t with still := FMap.insert t.still c (now, ring, ring) }

/-- A faulted HBM channel makes its controller refresh at twice the rate (R406). -/
def Io.hbmFaultRefresh (io : Io) (c : Nat) : Io :=
  if 40 ≤ c ∧ c < 44 then
    let pg : PageRef := .hbmc (Fin.ofNat 4 (c - 40))
    if io.flag pg Reg.HBMC_STAT 1 then io else (io.setFlag pg Reg.HBMC_STAT 1 true).raise pg 7
  else io

/-- FAULT_ANY and the fault bits of THRM_FAULT. -/
def Io.showFaults (io : Io) (t : Thermal) : Io :=
  let io := io.put .thrm Reg.THRM_FAULT_LO (Word.of (t.faults.foldl (fun n e => if e.1 < 32 then n + 2 ^ e.1 else n) 0))
  let io := io.put .thrm Reg.THRM_FAULT_HI (Word.of (t.faults.foldl (fun n e => if e.1 ≥ 32 then n + 2 ^ (e.1 - 32) else n) 0))
  io.setFlag .thrm Reg.THRM_STAT 14 (!t.faults.isEmpty)

/-- A channel is found faulted (R405). -/
def sensorFault (c fault : Nat) (io : Io) (t : Thermal) : Io × Thermal :=
  let t := { t with faults := FMap.insert t.faults c io.up, clean := FMap.erase t.clean c }
  let io := (io.setFlag .thrm (Reg.THRM_CH + 4 * c) 16 true).setFld .thrm (Reg.THRM_CH + 4 * c) 17 3 fault
  let io := (io.recordErr .thrm 0x0F10 (c + fault * 2 ^ 6)).raise .thrm 4
  ((io.hbmFaultRefresh c).showFaults t, t)

/-- One channel takes its reading: value, rate and fault (R404, R405). -/
def readChannel (xs : List Int) (c electrical : Nat) (io : Io) (t : Thermal) : Io × Thermal :=
  if !io.chSensed c then (io, t)
  else
    let v := (xs[c]?).getD 0
    let w := io.fld .thrm Reg.THRM_ROR_CFG 0 6
    let a := Reg.THRM_CH + 4 * c
    let t := t.keepStill io.up xs c
    let rate := clampInt (-128) 127 (t.rise io.up w c v / Int.ofNat (max w 1))
    let io := (io.setFld .thrm a 0 16 (unsigned 16 v)).setFld .thrm a 24 8 (unsigned 8 rate)
    let f := faultOf io t xs c electrical
    if io.chFault c then
      if f ≠ 0 then (io, { t with clean := FMap.erase t.clean c })
      else if (FMap.find t.clean c).isSome then (io, t) else (io, { t with clean := FMap.insert t.clean c io.up })
    else if f ≠ 0 then sensorFault c f io t
    else (io, t)

/-- A tile whose diode sites and ring oscillator have all been faulted for 1 s counts as reading CRIT (R406). -/
def Thermal.tileDead (t : Thermal) (now tile : Nat) : Bool :=
  [2 * tile, 2 * tile + 1, 44 + tile].all fun c =>
    match FMap.find t.faults c with
    | some s => decide (s + second ≤ now)
    | none => false

/-- A channel's rate meets a rate threshold, ROR1 for level 2 and ROR2 for level 3, at or above FLOOR (R407). -/
def Io.rateMeets (io : Io) (t : Thermal) (c l : Nat) : Bool :=
  let cfg := io.reg .thrm Reg.THRM_ROR_CFG
  let w := bits cfg 0 6
  let limit := if l = 2 then bits cfg 8 8 else bits cfg 16 8
  (decide (l = 2) || decide (l = 3)) && decide (io.chValue c ≥ 10 * Int.ofNat (bits cfg 24 8))
    && decide (t.rise io.up w c (io.chValue c) ≥ Int.ofNat (limit * w))

/-- A counting channel meets an entry condition of level `l`, with `hyst` taken off its value threshold (R406, R407, R408). -/
def Io.chMeets (io : Io) (t : Thermal) (hyst : Int) (l c : Nat) : Bool :=
  if io.chFault c then
    decide (l ≤ 3) || (decide (l = 4) && (match chTile c with
      | some tile => t.tileDead io.up tile
      | none => false))
  else decide (io.chValue c ≥ 10 * Int.ofNat (io.chLimit c l) - hyst) || io.rateMeets t c l

/-- The first counting channel that meets a condition of level `l`. -/
def Io.meets (io : Io) (t : Thermal) (hyst : Int) (l : Nat) : Option Nat :=
  (List.range 60).find? (fun c => io.chCounts c && io.chMeets t hyst l c)

/-- The highest level that a counting channel calls for, with that channel (R407). -/
def Io.called (io : Io) (t : Thermal) : Nat × Nat :=
  match io.meets t 0 4, io.meets t 0 3, io.meets t 0 2, io.meets t 0 1 with
  | some c, _, _, _ => (4, c)
  | none, some c, _, _ => (3, c)
  | none, none, some c, _ => (2, c)
  | none, none, none, some c => (1, c)
  | none, none, none, none => (0, 0)

/-- The reading a channel counts with: a faulted one counts as the SHED2 threshold of its class (R406). -/
def Io.chCounted (io : Io) (c : Nat) : Int := if io.chFault c then 10 * Int.ofNat (io.chLimit c 3) else io.chValue c

/-- The hottest counting channel, the lowest of equals. -/
def Io.hottest (io : Io) : Nat :=
  (((List.range 60).filter io.chCounts).foldl (fun (best : Option Nat) c =>
    match best with
    | some b => if io.chCounted b < io.chCounted c then some c else best
    | none => some c) none).getD 0

/-- Remember when the conditions of each level last held (R408). -/
def Thermal.keepHeld (t : Thermal) (io : Io) : Thermal :=
  [1, 2, 3, 4].foldl (fun t l =>
    if (io.meets t io.hyst l).isSome then { t with held := FMap.insert t.held l io.up } else t) t

/-- Every counting channel reads below CRIT less HYST (R413). -/
def Io.cooled (io : Io) : Bool :=
  ((List.range 60).filter io.chCounts).all fun c =>
    decide (io.chCounted c < 10 * Int.ofNat (io.chLimit c 4) - io.hyst)

/-- Number of the pin `THERM_ALERT_N`, then of `THERM_TRIP_N`. -/
def pinAlert : Nat := 0
/-- Number of the pin `THERM_TRIP_N`. -/
def pinTrip : Nat := 1

/-- The level takes a value, with the pin that shows WARN and above (R407, R488). -/
def Io.setLevel (io : Io) (l : Nat) : Io :=
  let was := io.level
  let io := io.setFld .thrm Reg.THRM_STAT 0 3 l
  if decide (was = 0) = decide (l = 0) then io else io.emit (.pin pinAlert (l = 0))

/-- The level rises at once (R407); entries into SHED1 and SHED2 are counted. -/
def Io.levelUp (io : Io) (l : Nat) : Io :=
  let was := io.level
  let io := io.setLevel l
  let io := if was < 2 ∧ l ≥ 2 then io.addSat .thrm Reg.THRM_LEVEL_CNT 0 16 1 else io
  let io := if was < 3 ∧ l ≥ 3 then io.addSat .thrm Reg.THRM_LEVEL_CNT 16 16 1 else io
  io.raise .thrm 2

/-- Corrections of the time base, the lanes and the sensor references keep their meaning in hardware that no register shows (R414): only FREEZE is state. -/
def Io.frozen (io : Io) : Bool := io.flag .thrm Reg.THRM_COMP_CTL 0

/-- What the entry into CRIT records: the trip log, the code and the pin (R412). -/
def Io.critRecord (io : Io) (c : Nat) : Io :=
  let v := (io.chCounted c / 10).toNat % 256
  let io := io.put .thrm Reg.THRM_TRIP_LOG (Word.of (c + v * 2 ^ 8 + 2 ^ 16))
  let io := (io.recordErr .thrm 0x0F11 c).raise .thrm 6
  (io.setFlag .thrm Reg.THRM_STAT 15 true).emit (.pin pinTrip false)

/-- A reading of the 60 channels: value in 0.1 °C and what the sensor circuit sees. The value of an HBM channel is the stack's own sensor, in steps of 1 °C (R404). -/
def readings (io : Io) (xs : List (Int × Fin 3)) : List Int :=
  (List.range 60).map fun c =>
    let v := ((xs[c]?).map (·.1)).getD 0
    if !io.chSensed c then 0 else if 40 ≤ c ∧ c < 44 then v / 10 * 10 else v

/-- `HBMC_TEMP` follows the stack's sensor, and with it the refresh rate (R216, R404). -/
def Io.followHbm (io : Io) (xs : List Int) : Io :=
  (List.range 4).foldl (fun io k =>
    if io.chFault (40 + k) then io.setFld (.hbmc (Fin.ofNat 4 k)) Reg.HBMC_TEMP 0 8 (((xs[40 + k]?).getD 0) / 10).toNat
    else io.hbmTemp (Fin.ofNat 4 k) (((xs[40 + k]?).getD 0) / 10).toNat) io

/-- An evaluation is due: every 10 ms (R404). -/
def Thermal.due (t : Thermal) (now : Nat) : Bool :=
  match t.samples.head? with
  | some s => decide (s.1 + 10000000 ≤ now)
  | none => true

/-- THERMAL_EVALUATE: readings, faults and level (R404 to R407). The last component names the channel that called for CRIT when this evaluation enters it. -/
def evaluate (xs : List (Int × Fin 3)) (io : Io) (t : Thermal) : Io × Thermal × Option Nat :=
  let vs := readings io xs
  let r := (List.range 60).foldl (fun (r : Io × Thermal) c => readChannel vs c (((xs[c]?).map (·.2.val)).getD 0) r.1 r.2) (io, t)
  let io := r.1.followHbm vs
  let t := r.2
  let t := { t with samples := (io.up, vs) :: t.samples.filter (fun s => decide (io.up ≤ s.1 + 61 * second)) }
  let t := t.keepHeld io
  let t := { t with cool := if io.cooled then (match t.cool with
    | some s => some s
    | none => some io.up) else none }
  let h := io.hottest
  let io := (io.setFld .thrm Reg.THRM_STAT 8 6 h).setFld .thrm Reg.THRM_HOTTEST 0 16 (unsigned 16 (io.chCounted h))
  let call := io.called t
  if call.1 > io.level then
    let io := io.levelUp call.1
    if call.1 = 4 then (io.critRecord call.2, { t with critAt := some io.up, trip := true }, some call.2)
    else (io, t, none)
  else (io, t, none)

/-- LEVEL_DOWN: the level falls by one step once its conditions have not held for HOLD_S; CRIT never falls (R408). -/
def levelDown (io : Io) (t : Thermal) : Io :=
  let l := io.level
  let hold := io.fld .thrm Reg.THRM_HYST 8 8
  let since := (FMap.find t.held l).getD 0
  if 1 ≤ l ∧ l ≤ 3 ∧ since + hold * second ≤ io.up then (io.setLevel (l - 1)).raise .thrm 3 else io

/-- SENSOR_RECOVERED: 10 s of readings that meet no criterion clear a fault (R405). -/
def sensorRecovered (c : Nat) (io : Io) (t : Thermal) : Io × Thermal :=
  match FMap.find t.clean c with
  | some s =>
    if io.chFault c ∧ s + 10 * second ≤ io.up then
      let t := { t with faults := FMap.erase t.faults c, clean := FMap.erase t.clean c }
      let io := (io.setFlag .thrm (Reg.THRM_CH + 4 * c) 16 false).setFld .thrm (Reg.THRM_CH + 4 * c) 17 3 0
      let io := if 40 ≤ c ∧ c < 44 ∧ io.fld (.hbmc (Fin.ofNat 4 (c - 40))) Reg.HBMC_TEMP 0 8 ≤ 85 then
          io.setFlag (.hbmc (Fin.ofNat 4 (c - 40))) Reg.HBMC_STAT 1 false
        else io
      ((io.showFaults t).raise .thrm 5, t)
    else (io, t)
  | none => (io, t)

/-- A hard trip is called for: a die channel reads CRIT + 10 °C, or the sequence has not ended by 20 ms (R412). -/
def hardTripDue (late : Bool) (io : Io) (t : Thermal) : Bool :=
  let hot := (List.range 60).any fun c =>
    decide (chClass c = 0) && !io.chFault c && decide (io.chValue c ≥ 10 * Int.ofNat (io.chLimit c 4) + 100)
  match t.critAt with
  | some s => hot || (late && decide (s + 20000000 ≤ io.up))
  | none => false

/-- What a hard trip records (R412). -/
def Io.hardRecord (io : Io) : Io :=
  (io.setFlag .thrm Reg.THRM_TRIP_LOG 6 true).recordOpen .thrm 0x0F12

/-- Four limits in strictly ascending order, CRIT not above the fused ceiling (R409). -/
def limitsOk (v : Word) (ceiling : Nat) : Bool :=
  decide (bits v 0 8 < bits v 8 8 ∧ bits v 8 8 < bits v 16 8 ∧ bits v 16 8 < bits v 24 8 ∧ bits v 24 8 ≤ ceiling)

/-- The checks of a THRM write that relate its fields (R409, R417): limits, ROR1 below ROR2, and external kinds with the limits of the channels they enable. -/
def Io.thrmOk (io : Io) (off : Nat) (v : Word) : Bool :=
  if off = Reg.THRM_LIM_DIE then limitsOk v 120
  else if off = Reg.THRM_LIM_HBM then limitsOk v 110
  else if Reg.THRM_LIM_EXT ≤ off ∧ off < Reg.THRM_LIM_EXT + 32 then
    let k := (off - Reg.THRM_LIM_EXT) / 4
    decide (io.extKind k = 0) || limitsOk v 150
  else if off = Reg.THRM_ROR_CFG then decide (bits v 8 8 < bits v 16 8)
  else if off = Reg.THRM_EXT_CFG then
    (List.range 8).all fun k =>
      decide (bits v (4 * k) 2 = 0) ||
        (decide (bits v (4 * k) 2 ≠ 3) && limitsOk (io.reg .thrm (Reg.THRM_LIM_EXT + 4 * k)) 150)
  else true

/-- A write to the THRM page (R409, R417). -/
def Io.thrmWrite (io : Io) (off : Nat) (v : Word) : Io :=
  if io.accepts .thrm off v && !io.thrmOk off v then io.ignored .thrm off 0 else io.regWrite 0 .thrm off v

/-! Power domains (R415, R416). -/

/-- A domain that is always on (R415). -/
def fixedDomain (d : Nat) : Bool :=
  decide (80 ≤ d ∧ d ≤ 85) || [88, 89, 92, 93, 94, 95].contains d

/-- The state of a page as PAGE_STAT shows it: POWERED_DOWN while its unit is off (R17, R35). -/
def Io.shownState (io : Io) (p : PageRef) : Nat := if io.powered p then io.stateOf p else 5

/-- The page is disabled as PAGE_STAT shows it. -/
def Io.shownOff (io : Io) (p : PageRef) : Bool := [0, 5, 7].contains (io.shownState p)

/-- The blocks that must be OFF before domain `d` can be switched off are OFF (R415). -/
def Io.domainIdle (io : Io) (d : Nat) : Bool :=
  let t := d / 5
  let lanes := (List.range 8).map (fun i => 8 * t + i)
  if d < 80 then
    match d % 5 with
    | 0 => (List.range 9).all fun s => io.shownOff (.prsm (Fin.ofNat 144 (9 * t + s))) && io.shownOff (.frc (Fin.ofNat 144 (9 * t + s)))
    | 1 => lanes.all fun l => io.shownOff (.lane (Fin.ofNat 128 l)) || io.flag (.lane (Fin.ofNat 128 l)) Reg.LANE_SLEEP 0
    | 2 => lanes.all fun l => io.shownOff (.lane (Fin.ofNat 128 l)) && io.shownOff (.pcs (Fin.ofNat 128 l))
        && io.shownOff (.mac (Fin.ofNat 128 l)) && io.shownOff (.msec (Fin.ofNat 128 l))
    | 3 => io.shownOff (.siev (Fin.ofNat 16 t)) && io.shownOff (.scan (Fin.ofNat 16 t))
    | _ => io.shownOff (.comp (Fin.ofNat 16 t)) && (List.range 32).all fun j => io.isOff (outPage (32 * t + j))
  else if d = 86 then io.shownOff .audm && io.shownOff .asrc
  else if d = 87 then (List.range 16).all fun p => io.shownOff (.tdmp (Fin.ofNat 16 p))
  else if d = 90 ∨ d = 91 then
    (List.range 8).all fun i => decide (io.fld (.comp (Fin.ofNat 16 (8 * (d - 90) + i))) Reg.COMP_STOCK_PLANES 0 16 = 0)
  else false

/-- The domains of a tile in the order in which they go off: composition, flow, Prism cluster, lane RX, lane TX (R415). -/
def tileDomains (t : Nat) : List Nat := [5 * t + 4, 5 * t + 3, 5 * t, 5 * t + 2, 5 * t + 1]

/-- Domain `d` is to be off by the registers: its own bit, or its tile's. -/
def Io.wantsOff (io : Io) (d : Nat) : Bool :=
  io.flag .pwr (Reg.PWR_OFF + 4 * (d / 32)) (d % 32) || (decide (d < 80) && io.flag .pwr Reg.PWR_TILE_OFF (d / 5))

/-- Where a domain will be once the transitions in `moves` have run. -/
def Power.willBe (w : Power) (io : Io) (d : Nat) : Bool :=
  match (w.moves.filter (fun m => m.1 = d)).getLast? with
  | some m => m.2
  | none => io.domainOn d

/-- PWR_STAT: BUSY while a transition runs, and the number of domains off (R418). -/
def Io.showPower (io : Io) (w : Power) : Io :=
  let off := (List.range 96).filter (fun d => !io.domainOn d)
  (io.setFlag .pwr Reg.PWR_STAT 0 (!w.moves.isEmpty)).setFld .pwr Reg.PWR_STAT 8 7 off.length

/-- Queue the transitions that the registers now ask of some domains, in the order given. -/
def queueMoves (ds : List Nat) (io : Io) (w : Power) : Io × Power :=
  let w := ds.foldl (fun (w : Power) d =>
    let on := !io.wantsOff d
    if w.willBe io d = on then w else { w with moves := w.moves ++ [(d, on)] }) w
  (io.showPower w, w)

/-- A write that switches domains is ignored whole where a named domain is fixed or has blocks that are not OFF (R416): the first reason in the order of R38. -/
def Io.offReason (io : Io) (named : List Nat) : Option Nat :=
  let ds := named.filter (fun d => io.domainOn d)
  if ds.any (fun d => !fixedDomain d && !io.domainIdle d) then some 2
  else if named.any fixedDomain then some 0
  else none

/-- A write of PWR_OFF word `w` (R416). -/
def pwrOffWrite (k : Nat) (v : Word) (io : Io) (w : Power) : Io × Power :=
  let off := Reg.PWR_OFF + 4 * k
  let mine := (List.range 32).map (fun b => 32 * k + b)
  match (if io.accepts .pwr off v then io.offReason (mine.filter (fun d => bit v (d % 32))) else none) with
  | some r => (io.ignored .pwr off r, w)
  | none => let io := io.regWrite 0 .pwr off v; queueMoves mine io w

/-- A write of PWR_TILE_OFF: a tile goes off in the order of R415 and wakes in the reverse order. -/
def pwrTileOffWrite (v : Word) (io : Io) (w : Power) : Io × Power :=
  let off := Reg.PWR_TILE_OFF
  match (if io.accepts .pwr off v then io.offReason (((List.range 16).filter (bit v)).flatMap tileDomains) else none) with
  | some r => (io.ignored .pwr off r, w)
  | none =>
    let io := io.regWrite 0 .pwr off v
    queueMoves ((List.range 16).flatMap (fun t => if bit v t then tileDomains t else (tileDomains t).reverse)) io w

/-- The pages of a domain. -/
def domainPages (d : Nat) : List PageRef :=
  let t := d / 5
  let lanes := (List.range 8).map (fun i => Fin.ofNat 128 (8 * t + i))
  if d < 80 then
    match d % 5 with
    | 0 => (List.range 9).flatMap fun s => [.prsm (Fin.ofNat 144 (9 * t + s)), .frc (Fin.ofNat 144 (9 * t + s))]
    | 1 => []
    | 2 => lanes.flatMap fun l => [.lane l, .pcs l, .mac l, .msec l]
    | 3 => [.siev (Fin.ofNat 16 t), .scan (Fin.ofNat 16 t)]
    | _ => [.comp (Fin.ofNat 16 t)]
  else if d = 86 then [.audm, .asrc]
  else if d = 87 then (List.range 16).map (fun p => .tdmp (Fin.ofNat 16 p))
  else []

/-- A page comes up in state OFF with every block-specific register at its reset value (R416). -/
def Io.pageFresh (io : Io) (p : PageRef) : Io :=
  ((io.resetBlock p).put p Reg.PAGE_CTL 0).put p Reg.PAGE_STAT 0

/-- The running transition is the one named. -/
def Power.head (w : Power) (d : Nat) (on : Bool) : Bool := decide (w.moves.head? = some (d, on))

/-- DOMAIN_OFF: the running transition ends with its domain off (R415). -/
def domainOff (d : Nat) (io : Io) (w : Power) : Io × Power :=
  if w.head d false then
    let w := { w with moves := w.moves.tail }
    let io := io.setFlag .pwr (Reg.PWR_ON + 4 * (d / 32)) (d % 32) false
    ((io.showPower w).raise .pwr 3, w)
  else (io, w)

/-- DOMAIN_ON: the running transition ends with its domain powered again (R416). -/
def domainOn (d : Nat) (io : Io) (w : Power) : Io × Power :=
  if w.head d true then
    let w := { w with moves := w.moves.tail }
    let io := io.setFlag .pwr (Reg.PWR_ON + 4 * (d / 32)) (d % 32) true
    let io := (domainPages d).foldl Io.pageFresh io
    ((io.showPower w).raise .pwr 2, w)
  else (io, w)

/-- A domain off removes it from PWR_ON. -/
def Io.cut (io : Io) (ds : List Nat) : Io :=
  ds.foldl (fun io d => io.setFlag .pwr (Reg.PWR_ON + 4 * (d / 32)) (d % 32) false) io

/-- The domains that a critical shutdown leaves on: PCIe, NV and keys, always-on, and fabric half 0 (R412). -/
def critCut : List Nat := (List.range 96).filter (fun d => !(([84, 88, 89, 92] : List Nat).contains d))

/-- The domains that a hard trip removes: all but the always-on domain (R412). -/
def hardCut : List Nat := (List.range 96).filter (fun d => d ≠ 89)

end Sys2Proof.Machine
end

