-- ==== Sys2Proof/Machine/Spares.lean ====
section
/-! DEFINITION. The Larder (ch. 17): the engine map, spares, swaps, in-service test, repairs, the repair map and wear. -/
namespace Sys2Proof.Machine

/-- A job for the store waits in the one order of R447. -/
def Nvs.want (n : Nvs) (src : Option (Nat × Nat)) (k : NvKind) : Nvs :=
  { n with jobs := n.jobs ++ [{ src := src, kind := k, begun := false, writes := [], written := 0, stage := 0 }] }

/-- What the Larder works on. -/
structure Lar where
  io : Io
  ld : Larder
  nv : Nvs

/-- Offset of LARD_PSTAT of a physical engine. -/
def pstatReg (e : Nat) : Nat := Reg.LARD_PSTAT + 4 * e
/-- Offset of LARD_LMAP of a logical engine. -/
def lmapReg (l : Nat) : Nat := Reg.LARD_LMAP + 4 * l

/-- State of a physical engine (R422). -/
def Io.pstate_ (io : Io) (e : Nat) : Nat := io.fld .lard (pstatReg e) 0 3
/-- The logical ID that a physical engine is mapped to. -/
def Io.logicalOf (io : Io) (e : Nat) : Option Nat :=
  if io.flag .lard (pstatReg e) 15 then some (io.fld .lard (pstatReg e) 8 7) else none
/-- The physical engine of a logical ID (R422). -/
def Io.physicalOf (io : Io) (l : Nat) : Option Nat :=
  if io.flag .lard (lmapReg l) 8 then some (io.fld .lard (lmapReg l) 0 8) else none
/-- The PRSM page of an engine. -/
def prsmPage (e : Nat) : PageRef := .prsm (Fin.ofNat 144 e)
/-- The FRC page of an engine. -/
def frcPage (e : Nat) : PageRef := .frc (Fin.ofNat 144 e)

/-- Put a physical engine into a state: its pages read SPARE in states 1, 2, 5, 6 and 7, else RUNNING (R422). -/
def Io.setEngine (io : Io) (e st : Nat) : Io :=
  let s := if st = 0 ∨ st = 3 ∨ st = 4 then 2 else 7
  ((io.setFld .lard (pstatReg e) 0 3 st).setState (prsmPage e) s).setState (frcPage e) s

/-- Map a logical ID to a physical engine, shown in both maps and on the PRSM page (R267, R422). -/
def Io.mapEngine (io : Io) (l e : Nat) : Io :=
  let io := io.put .lard (lmapReg l) (Word.of (e + 2 ^ 8))
  let io := (io.setFld .lard (pstatReg e) 8 7 l).setFlag .lard (pstatReg e) 15 true
  (io.setFld (prsmPage e) Reg.PRSM_STAT 0 7 l).setFlag (prsmPage e) Reg.PRSM_STAT 7 true

/-- A physical engine is no longer mapped. -/
def Io.unmapEngine (io : Io) (e : Nat) : Io :=
  let io := (io.setFld .lard (pstatReg e) 8 7 0).setFlag .lard (pstatReg e) 15 false
  (io.setFld (prsmPage e) Reg.PRSM_STAT 0 8 0).setFld (prsmPage e) Reg.PRSM_STAT 8 8 0

/-- A logical ID has no physical engine; the engine limit is the active engines × 5,000 Mpix/s (R25, R104, R265). -/
def Io.unmapLogical (io : Io) (l : Nat) : Io :=
  let io := io.put .lard (lmapReg l) 0
  io.put .top Reg.TOP_ADM_ENG_LIMIT (Word.of ((io.reg .top Reg.TOP_ADM_ENG_LIMIT).toNat - 5000))

/-- An engine is a good spare: SPARE, UNTESTED or under in-service test, or about to be one when its swap ends (R424). -/
def Lar.goodSpare (x : Lar) (e : Nat) : Bool :=
  let s := x.io.pstate_ e
  x.io.powered (prsmPage e) &&
  (decide (s = 1 ∨ s = 7) || (decide (s = 2) && x.ld.testing.contains e)
    || (decide (s = 4) && x.ld.swaps.any (fun w => decide (w.from_ = e ∧ w.why ≤ 1))))

/-- Show the counts of LARD_STAT, and raise SPARES_LOW and SPARES_EXHAUSTED as the good spares fall to them (R424, R436). -/
def Lar.show (x : Lar) : Lar :=
  let was := x.io.fld .lard Reg.LARD_STAT 0 5
  let n := ((List.range 144).filter x.goodSpare).length
  let io := x.io.setFld .lard Reg.LARD_STAT 0 5 n
  let io := io.setFld .lard Reg.LARD_STAT 8 8 ((List.range 144).filter (fun e => io.pstate_ e = 5)).length
  let io := io.setFlag .lard Reg.LARD_STAT 6 (!x.ld.testing.isEmpty || x.ld.swaps.any (fun w => w.why = 0))
  let io := io.setFlag .lard Reg.LARD_STAT 7 (io.flag .lard Reg.LARD_CTL 0 && decide (io.level ≥ 2))
  let low := io.fld .lard Reg.LARD_LOW_WATER 0 5
  let io := if n ≤ low ∧ low < was then io.raise .lard 9 else io
  let io := if n = 0 ∧ 0 < was then io.raise .lard 10 else io
  { x with io := io }

/-- Show the cores: spare and active (R421, R436). -/
def Io.showCores (io : Io) : Io :=
  let st := fun k => io.fld .lard (Reg.LARD_CORE + 4 * k) 0 2
  let io := io.setFlag .lard Reg.LARD_STAT 5 ((List.range 9).any (fun k => st k = 1))
  io.setFld .lard Reg.LARD_STAT 16 4 ((List.range 9).filter (fun k => st k = 0)).length

/-- LARD_MAP_COUNT (R436). -/
def Lar.showMap (x : Lar) : Lar :=
  { x with io := x.io.put .lard Reg.LARD_MAP_COUNT (Word.of (x.ld.map.length + x.ld.unwritten * 2 ^ 16)) }

/-- The bytes of a repair-map entry, as the three words of LARD_MAP_DATA show it (R434, R436). -/
def Repair.bytes (r : Repair) : List Byte :=
  leBytes 4 (r.kind + r.state * 2 ^ 4 + 2 ^ 6) ++ leBytes 4 r.location ++ leBytes 4 r.time

/-- A repair enters the map, up to 4,096 entries, and is to be written to the store (R434). -/
def Lar.repair (x : Lar) (kind state location : Nat) : Lar :=
  if x.ld.map.length ≥ 4096 then x
  else
    let r : Repair := { kind := kind, state := state, location := location, time := x.io.now / second % 2 ^ 32 }
    let i := x.ld.map.length
    { x with ld := { x.ld with map := x.ld.map ++ [r], unwritten := x.ld.unwritten + 1 }
             nv := x.nv.want none (.journal true i (some r.bytes)) }.showMap

/-- A wear counter advances by one: i = 0 hours, 1 failures, 2 tests passed (R435, R451). -/
def Lar.wear (x : Lar) (unit i : Nat) : Lar := { x with nv := x.nv.want none (.counter (3 * unit + i)) }

/-- An engine becomes FAILED: in the repair map, and its failure is counted (R428). -/
def Lar.fail (x : Lar) (e : Nat) : Lar :=
  ({ x with io := (x.io.setEngine e 5).unmapEngine e
            ld := { x.ld with testing := x.ld.testing.filter (fun t => t ≠ e), enabling := x.ld.enabling.filter (fun t => t ≠ e) } }.repair
      0 2 e).wear e 1

/-- The spare that R424 chooses for a logical ID whose tile is `t`: the engine, and whether its test is abandoned. -/
def Lar.choose (x : Lar) (t : Nat) : Option (Nat × Bool) :=
  let free := fun e => x.io.powered (prsmPage e) && (decide (x.io.pstate_ e = 1 ∨ x.io.pstate_ e = 7))
  let mine := (List.range 9).map (fun s => 9 * t + s)
  let die := (List.range 72).map (fun i => 72 * (t / 8) + i)
  let other := (List.range 72).map (fun i => 72 * (1 - t / 8) + i)
  ((mine.find? free).map (·, false)).orElse fun _ =>
  ((mine.find? x.ld.testing.contains).map (·, true)).orElse fun _ =>
  ((die.find? free).map (·, false)).orElse fun _ => (other.find? free).map (·, false)

/-- The tile of a logical ID: that of its engine. -/
def Io.tileOfLogical (io : Io) (l : Nat) : Nat :=
  match io.physicalOf l with
  | some e => e / 9
  | none => l / 8

/-- Outputs that a logical engine's jobs serve. -/
def outsOf (js : List Job) (l : Nat) : List Nat :=
  ((js.filter (fun j => decide (j.engine = some l))).map (·.out)).eraseDups

/-- A swap is complete: the spare is ACTIVE, and the old engine takes the state that the swap's cause gives it (R426 step 3). -/
def Lar.swapEnds (x : Lar) (w : Swap) : Lar :=
  let after := if w.why = 0 then 2 else if w.why = 1 then 1 else if w.why = 2 then 6 else 5
  let io := (x.io.unmapEngine w.from_).setEngine w.from_ after
  let io := (io.mapEngine w.logical w.dest).setEngine w.dest 0
  let io := (io.addSat .lard Reg.LARD_SWAPS 0 32 1).raise .lard 2
  let ld := { x.ld with swaps := x.ld.swaps.filter (fun s => s.logical ≠ w.logical)
                        testing := if w.why = 0 then x.ld.testing ++ [w.from_] else x.ld.testing }
  { x with io := io, ld := ld }

/-- The logical ID is taking over or waits to. -/
def Larder.swapping (ld : Larder) (l : Nat) : Bool :=
  ld.swaps.any (fun w => w.logical = l) || ld.waiting.any (fun w => w.1 = l)

/-- Begin the swap of a logical ID towards a spare (R426 steps 1 and 2); it ends at once when no job has to move. -/
def Lar.begin (x : Lar) (js : List Job) (l p s : Nat) (abandoned : Bool) (why : Nat) : Lar :=
  let ld := if abandoned then { x.ld with testing := x.ld.testing.filter (fun t => t ≠ s) } else x.ld
  let io := (x.io.setFld .lard (pstatReg s) 0 3 3).setState (prsmPage s) 2 |>.setState (frcPage s) 2
  let io := io.setFld .lard (pstatReg p) 0 3 4
  let io := io.setFlag .lard (lmapReg l) 9 true
  let w : Swap := { logical := l, from_ := p, dest := s, why := why, outs := outsOf js l }
  let x := { x with io := io, ld := { ld with swaps := ld.swaps ++ [w] } }
  if w.outs.isEmpty then x.swapEnds w else x

/-- No spare is found (R424 step 4). -/
def Lar.noSpare (x : Lar) (l : Nat) : Lar := { x with io := x.io.recordErr .lard 0x1010 l }

/-- A swap of a mapped logical ID is asked for: it starts, or waits for the swap of its tile to end (R426), or finds no spare. -/
def Lar.ask (x : Lar) (js : List Job) (l why : Nat) : Lar :=
  match x.io.physicalOf l with
  | none => x
  | some p =>
    if x.ld.swaps.any (fun w => decide (w.from_ / 9 = p / 9)) then { x with ld := { x.ld with waiting := x.ld.waiting ++ [(l, why)] } }
    else
      match x.choose (p / 9) with
      | some (s, ab) => x.begin js l p s ab why
      | none => x.noSpare l

/-- A swap may have ended: the first that waits for its tile starts. -/
def Lar.next (js : List Job) : Nat → Lar → Lar
  | 0, x => x
  | n + 1, x =>
    match x.ld.waiting.find? (fun w => !x.ld.swaps.any (fun s => decide (s.from_ / 9 = x.io.tileOfLogical w.1))) with
    | none => x
    | some w =>
      let x := { x with ld := { x.ld with waiting := x.ld.waiting.filter (fun v => v ≠ w) } }
      Lar.next js n (x.ask js w.1 w.2)

/-- The jobs of an output move at its latch line, or leave when the output is disabled; a swap whose last job has moved ends (R426, R429). -/
def Lar.outMoves (x : Lar) (js : List Job) (o : Nat) : Lar :=
  let x := { x with ld := { x.ld with swaps := x.ld.swaps.map (fun (w : Swap) => { w with outs := w.outs.filter (fun k => k ≠ o) }) } }
  let x := (x.ld.swaps.filter (fun w => w.outs.isEmpty)).foldl Lar.swapEnds x
  (Lar.next js x.ld.waiting.length x).show

/-- A write of LARD_SWAP: with GO a spare is swapped into the logical ID, unless it is not mapped or already swapping (R436). -/
def Lar.swapWrite (x : Lar) (js : List Job) (v : Word) : Lar :=
  let l := bits v 0 7
  if !x.io.accepts .lard Reg.LARD_SWAP v ∨ !bit v 31 then { x with io := x.io.regWrite 0 .lard Reg.LARD_SWAP v }
  else if (x.io.physicalOf l).isNone ∨ x.ld.swapping l then
    { x with io := (x.io.ignored .lard Reg.LARD_SWAP 0).recordErr .lard 0x1016 l }
  else (x.ask js l 1).show

/-- An engine reports an error (R428, R429). The second component tells the logical ID whose jobs on this engine lose the rest of their frame, with their outputs; the third the logical ID that is left without an engine. -/
def Lar.engineFailed (x : Lar) (js : List Job) (e : Nat) : Lar × Option (Nat × List Nat) × Option Nat :=
  let note := fun (x : Lar) => { x with io := (x.io.recordErr .lard 0x1011 e).raise .lard 3 }
  let st := x.io.pstate_ e
  if st = 0 then
    match x.io.logicalOf e with
    | none => (x, none, none)
    | some l =>
      let x := note x
      let x := { x with ld := { x.ld with waiting := x.ld.waiting.filter (fun w => w.1 ≠ l) } }
      match x.choose (e / 9) with
      | some (s, ab) =>
        let x := (x.repair 0 2 e).wear e 1
        let x := x.begin js l e s ab 3
        (x.show, some (l, outsOf js l), none)
      | none =>
        let x := (x.noSpare l).fail e
        ({ x with io := x.io.unmapLogical l }.show, some (l, outsOf js l), some l)
  else if st = 3 then
    match x.ld.swaps.find? (fun w => w.dest = e) with
    | none => (x, none, none)
    | some w =>
      let moved := (outsOf js w.logical).filter (fun o => !w.outs.contains o)
      let x := (note x).fail e
      match x.choose (w.from_ / 9) with
      | some (s, ab) =>
        let x := { x with ld := { x.ld with swaps := x.ld.swaps.filter (fun v => v.logical ≠ w.logical) } }
        (((x.begin js w.logical w.from_ s ab w.why).show), some (w.logical, moved), none)
      | none =>
        let x := x.noSpare w.logical
        let x := { x with ld := { x.ld with swaps := x.ld.swaps.filter (fun v => v.logical ≠ w.logical) } }
        if w.why = 3 then
          ({ x with io := ((x.io.unmapEngine w.from_).setEngine w.from_ 5).unmapLogical w.logical }.show,
            some (w.logical, moved), some w.logical)
        else
          let io := (x.io.setEngine w.from_ 0).setFlag .lard (lmapReg w.logical) 9 false
          ({ x with io := io }.show, some (w.logical, moved), none)
  else if st = 4 then
    match x.ld.swaps.find? (fun w => w.from_ = e) with
    | none => (x, none, none)
    | some w =>
      let x := ((note x).repair 0 2 e).wear e 1
      let x := { x with ld := { x.ld with swaps := x.ld.swaps.map (fun (v : Swap) => if v.logical = w.logical then { v with why := 3 } else v) } }
      (x.show, some (w.logical, w.outs), none)
  else if st = 2 then
    let x := { x with io := (x.io.recordOpen .lard 0x1013).raise .lard 6 }
    ((x.fail e).show, none, none)
  else if st = 5 then (x, none, none)
  else (((note x).fail e).show, none, none)

/-! In-service test (R430). -/

/-- No step starts while the level is SHED1 or above, or without IST_EN. -/
def Io.istMay (io : Io) : Bool := io.flag .lard Reg.LARD_CTL 0 && decide (io.level < 2) && io.flag .fw Reg.FW_STAT 7

/-- The next slot that the test takes. -/
def Io.istSlot (io : Io) : Nat := io.fld .lard Reg.LARD_IST_STAT 0 4

/-- A step is in progress. -/
def Larder.istRuns (ld : Larder) : Bool := !ld.testing.isEmpty || ld.swaps.any (fun w => w.why = 0) || ld.waiting.any (fun w => w.2 = 0)

/-- A pass ends with the tests of its last slot (R430, R436). -/
def Lar.passEnds (x : Lar) : Lar :=
  if x.io.istSlot = 0 ∧ !x.ld.istRuns then
    let io := x.io.addSat .lard Reg.LARD_IST_STAT 16 16 1
    { x with io := (io.putWide .lard Reg.LARD_IST_LAST_LO io.ns64).raise .lard 5 }
  else x

/-- One step in one tile: the slot's engine goes to TESTING, by way of a swap when it carries a logical ID; FAILED and RETIRED engines are skipped. -/
def Lar.istTile (js : List Job) (s : Nat) (x : Lar) (t : Nat) : Lar :=
  let e := 9 * t + s
  let st := x.io.pstate_ e
  if !x.io.powered (prsmPage e) then x
  else if st = 1 ∨ st = 7 then
    { x with io := x.io.setEngine e 2, ld := { x.ld with testing := x.ld.testing ++ [e] } }
  else if st = 0 then
    match x.io.logicalOf e with
    | some l => if x.ld.swapping l then x else x.ask js l 0
    | none => x
  else x

/-- A step starts in every tile (R430). -/
def Lar.istStart (x : Lar) (js : List Job) : Lar :=
  let s := x.io.istSlot
  let x := { x with ld := { x.ld with stepAt := some x.io.up } }
  let x := (List.range 16).foldl (Lar.istTile js s) x
  let x := { x with io := x.io.setFld .lard Reg.LARD_IST_STAT 0 4 ((s + 1) % 9) }
  x.passEnds.show

/-- IST_STEP: every PERIOD_S / 9 seconds (R430). -/
def Lar.istStep (x : Lar) (js : List Job) : Lar :=
  let period := x.io.fld .lard Reg.LARD_IST_CFG 0 17 * second
  let due := match x.ld.stepAt with
    | some t => decide (9 * t + period ≤ 9 * x.io.up)
    | none => true
  if x.io.istMay && due && !x.ld.istRuns then x.istStart js else x

/-- IST_NOW: the next step starts at once (R430). -/
def Lar.istNow (x : Lar) (js : List Job) : Lar :=
  if x.io.istMay && !x.ld.istRuns then x.istStart js else x

/-- An engine's test ends: it becomes SPARE and its pass is counted, or FAILED (R430). -/
def Lar.testDone (x : Lar) (e : Nat) (pass : Bool) : Lar :=
  if !x.ld.testing.contains e then x
  else
    let x := { x with ld := { x.ld with testing := x.ld.testing.filter (fun t => t ≠ e) } }
    let x := if pass then { x with io := x.io.setEngine e 1 }.wear e 2
      else
        let x := { x with io := (x.io.recordOpen .lard 0x1013).raise .lard 6 }
        x.fail e
    x.passEnds.show

/-- The level has reached SHED1: engines in TESTING are released as UNTESTED, and the pass resumes at that slot (R430). -/
def Lar.suspend (x : Lar) : Lar :=
  match x.ld.testing.head? with
  | none => x.show
  | some e =>
    let io := x.ld.testing.foldl (fun io e => io.setEngine e 7) x.io
    { x with io := io.setFld .lard Reg.LARD_IST_STAT 0 4 (e % 9), ld := { x.ld with testing := [] } }.show

/-- The test that enabling a retired engine starts has ended (R425). -/
def Lar.retiredDone (x : Lar) (e : Nat) (pass : Bool) : Lar :=
  if !x.ld.enabling.contains e then x
  else
    let x := { x with ld := { x.ld with enabling := x.ld.enabling.filter (fun t => t ≠ e) } }
    if pass then { x with io := x.io.setEngine e 1 }.show
    else ({ x with io := (x.io.recordOpen .lard 0x1013).raise .lard 6 }.fail e).show

/-! Cores and SRAM (R431 to R433). -/

/-- A core fails: the spare takes over, or the others share its work (R431). -/
def Lar.coreFails (x : Lar) (k : Nat) : Lar :=
  let reg := fun c => Reg.LARD_CORE + 4 * c
  if x.io.fld .lard (reg k) 0 2 ≠ 0 then x
  else
    let io := (x.io.setFld .lard (reg k) 0 2 2)
    let io := (io.recordErr .lard 0x1012 k).raise .lard 4
    let io := match (List.range 9).find? (fun c => io.fld .lard (reg c) 0 2 = 1) with
      | some c => io.setFld .lard (reg c) 0 2 0
      | none => io.setFlag .fw Reg.FW_STAT 8 true
    (({ x with io := io.showCores }.repair 1 2 k).wear (144 + k) 1)

/-- A bank is repaired with a spare bank of its kind; none left raises SPARES_EXHAUSTED (R433). -/
def Lar.sramRepaired (x : Lar) (location : Nat) : Lar :=
  if x.ld.sram = 0 then { x with io := x.io.raise .lard 10 }
  else
    let x := { x with ld := { x.ld with sram := x.ld.sram - 1 }, io := x.io.raise .lard 7 }
    x.repair 3 0 location

/-- A packet-buffer bank of a die is repaired (R421, R433). -/
def Lar.pktRepaired (x : Lar) (die1 : Bool) (location : Nat) : Lar :=
  let left := if die1 then x.ld.pkt1 else x.ld.pkt0
  if left = 0 then { x with io := x.io.raise .lard 10 }
  else
    let ld := if die1 then { x.ld with pkt1 := left - 1 } else { x.ld with pkt0 := left - 1 }
    { x with ld := ld, io := x.io.raise .lard 8 }.repair 5 0 location

/-- A write of the repair map fails: the repair stays in force, and the write is retried (R434). -/
def Lar.mapWriteFails (x : Lar) : Lar :=
  if x.ld.unwritten = 0 then x
  else
    let x := { x with io := (x.io.recordOpen .lard 0x1015).raise .lard 11 }
    let i := x.ld.map.length - x.ld.unwritten
    match x.ld.map[i]? with
    | some r => { x with nv := x.nv.want none (.journal true i (some r.bytes)) }
    | none => x

/-- Once per hour of service the hours of every active engine and core advance (R435). -/
def Lar.wearHour (x : Lar) : Lar :=
  if x.io.up < x.ld.hourAt + 3600 * second then x
  else
    let x := { x with ld := { x.ld with hourAt := x.io.up } }
    let x := ((List.range 144).filter (fun e => x.io.pstate_ e = 0 ∧ (x.io.logicalOf e).isSome)).foldl (fun x e => x.wear e 0) x
    ((List.range 9).filter (fun k => x.io.fld .lard (Reg.LARD_CORE + 4 * k) 0 2 = 0 ∧ x.io.flag .fw Reg.FW_STAT 7)).foldl
      (fun x k => x.wear (144 + k) 0) x

/-- LARD_MAP_QUERY snapshots an entry (R436). -/
def Lar.mapQuery (x : Lar) (v : Word) : Lar :=
  let io := x.io.regWrite 0 .lard Reg.LARD_MAP_QUERY v
  if !(x.io.accepts .lard Reg.LARD_MAP_QUERY v) then { x with io := io }
  else
    let ws := match x.ld.map[bits v 0 12]? with
      | some r => [r.kind + r.state * 2 ^ 4 + 2 ^ 6, r.location, r.time]
      | none => [0, 0, 0]
    { x with io := ((List.range 3).foldl (fun io i => io.put .lard (Reg.LARD_MAP_DATA0 + 4 * i) (Word.of ((ws[i]?).getD 0))) io) }

/-- The map of R423: the good engines of each tile in slot order, then spares of other tiles, those of the same die first. -/
def startMap (good : Nat → Bool) : List (Nat × Nat) :=
  let own := fun t => ((List.range 9).map (fun s => 9 * t + s)).filter good
  let spare := fun t => ((own t).drop 8)
  let home := (List.range 16).flatMap fun t => (((own t).take 8).zipIdx).map fun p => (8 * t + p.2, p.1)
  let short := (List.range 16).flatMap fun t => ((List.range 8).drop (own t).length).map fun k => 8 * t + k
  (short.foldl (fun (r : List (Nat × Nat) × List Nat) l =>
    let d := l / 64
    let same := (r.2.find? (fun e => e / 72 = d)).orElse (fun _ => r.2.head?)
    match same with
    | some e => (r.1 ++ [(l, e)], r.2.filter (fun x => x ≠ e))
    | none => r) (home, (List.range 16).flatMap spare)).1

/-- Step 13 of R101: the engine map and the engine limit are set; other good engines are spares, the failed ones FAILED (R104, R423). -/
def Lar.startUp (x : Lar) (failed : List Nat) : Lar :=
  let m := startMap (fun e => !failed.contains e)
  let io := (List.range 144).foldl (fun io e =>
    let io := io.setEngine e (if failed.contains e then 5 else 1)
    (io.put (prsmPage e) Reg.PAGE_CTL 1).put (frcPage e) Reg.PAGE_CTL 1) x.io
  let io := m.foldl (fun io p => (io.mapEngine p.1 p.2).setEngine p.2 0) io
  let io := io.put .top Reg.TOP_ADM_ENG_LIMIT (Word.of (5000 * m.length))
  { x with io := io }.show

/-- The physical engine that runs a job: the spare once the job's output has passed its latch line in a swap (R426). -/
def Larder.engineOf (ld : Larder) (io : Io) (j : Job) : Option Nat :=
  j.engine.bind fun l =>
    match ld.swaps.find? (fun w => w.logical = l) with
    | some w => if w.outs.contains j.out then some w.from_ else some w.dest
    | none => io.physicalOf l

end Sys2Proof.Machine
end

