-- ==== Sys2Proof/Machine/NvStore.lean ====
section
/-! DEFINITION. The non-volatile store (ch. 18): pages, records, journals, counters, the direct window, scrubbing and replacement. -/
namespace Sys2Proof.Machine

/-- A byte of the store that nothing has written: no rule states it, and the model takes 0 (DESIGN CHOICE). -/
def nvUnlisted (_ : Nat) : Byte := 0

/-- Where an offset of the store lies once its page has been replaced by a spare page (R452). -/
def Nvs.place (n : Nvs) (a : Nat) : Nat :=
  match FMap.find n.remap (a / 256) with
  | some s => 0xF8000 + 256 * s + a % 256
  | none => a

/-- A byte of the store. -/
def Nvs.byte (n : Nvs) (a : Nat) : Byte := FMap.get nvUnlisted n.cells (n.place a)

/-- Bytes of the store. -/
def Nvs.bytes (n : Nvs) (a len : Nat) : List Byte := (List.range len).map (fun i => n.byte (a + i))

/-- Some byte of a range lies in an uncorrectable group. -/
def Nvs.bad (n : Nvs) (a len : Nat) : Bool :=
  n.lost.any (fun g => decide (n.place a / 8 ≤ g ∧ g ≤ n.place (a + (len - 1)) / 8))

/-- Program bytes into a page: all of it becomes new at once (R441). -/
def Nvs.program (n : Nvs) (w : PageWrite) : Nvs :=
  let base := n.place (256 * w.page)
  let put := fun (c : FMap Byte) (e : Byte × Nat) => FMap.set nvUnlisted c (base + w.off + e.2) e.1
  { n with cells := (w.bytes.take (256 - w.off)).zipIdx.foldl put n.cells
           ever := if n.ever.contains w.page then n.ever else w.page :: n.ever
           lost := n.lost.filter (fun g => g * 8 / 256 ≠ base / 256) }

/-- A run of bytes as page writes in ascending order (R441). -/
def pageWrites (off : Nat) (bs : List Byte) : List PageWrite :=
  let first := 256 - off % 256
  let head : PageWrite := { page := off / 256, off := off % 256, bytes := bs.take first }
  let rest := (chunks 256 (bs.length / 256 + 1) (bs.drop first)).zipIdx.map fun e =>
    ({ page := off / 256 + 1 + e.2, off := 0, bytes := e.1 } : PageWrite)
  if bs.isEmpty then [] else head :: rest

/-- A range lies in the user area (R439). -/
def inUser (a len : Nat) : Bool := decide (0xA8000 ≤ a ∧ a + len ≤ 0xF8000)

/-- A range touches the key region (R439). -/
def touchesKeys (a len : Nat) : Bool := decide (a < 0x18000 ∧ 0x8000 < a + len)

/-- Bytes padded with 0 to a length. -/
def padTo (len : Nat) (bs : List Byte) : List Byte := (bs ++ List.replicate (len - bs.length) (0 : Byte)).take len

/-- `n` free bytes: data that nothing fixes. -/
def Io.freeBytes (io : Io) (n : Nat) : List Byte :=
  (List.range n).map (fun i => BitVec.ofNat 8 (Config.freeValue (io.freeCtr + i)).toNat)

/-- `n` free values have been taken. -/
def Io.tookMany (io : Io) (n : Nat) : Io := { io with freeCtr := io.freeCtr + n }

/-! Records (R448, R449). -/

/-- Page of copy A (0) or B (1) of a record slot (R439). -/
def recPage (slot copy : Nat) : Nat := 2 * slot + copy

/-- A copy is valid: its CRC holds and it has no uncorrectable group (R448). -/
def Nvs.recValid (n : Nvs) (slot copy : Nat) : Bool :=
  let bs := n.bytes (256 * recPage slot copy) 256
  decide (crc32 (bs.take 252) = leAt bs 252 4) && !n.bad (256 * recPage slot copy) 256 && decide (leAt bs 0 2 ≤ 236)

/-- SEQ of a copy. -/
def Nvs.recSeq (n : Nvs) (slot copy : Nat) : Nat := leAt (n.bytes (256 * recPage slot copy) 256) 4 4

/-- Serial-number order: `a` is newer than `b` (R448). -/
def newer (a b : Nat) : Bool :=
  let d := (a + 2 ^ 32 - b % 2 ^ 32) % 2 ^ 32
  decide (1 ≤ d ∧ d < 2 ^ 31)

/-- The winning copy, and whether the slot is at a tie of different contents (R448). -/
def Nvs.recWinner (n : Nvs) (slot : Nat) : Option Nat × Bool :=
  match n.recValid slot 0, n.recValid slot 1 with
  | false, false => (none, false)
  | true, false => (some 0, false)
  | false, true => (some 1, false)
  | true, true =>
    if newer (n.recSeq slot 0) (n.recSeq slot 1) then (some 0, false)
    else if newer (n.recSeq slot 1) (n.recSeq slot 0) then (some 1, false)
    else (some 0, decide (n.bytes (256 * recPage slot 0) 256 ≠ n.bytes (256 * recPage slot 1) 256))

/-- A copy of a record as a page (R448). -/
def recBytes (typ seq : Nat) (payload : List Byte) : List Byte :=
  let body := padTo 252 (leBytes 2 payload.length ++ leBytes 2 typ ++ leBytes 4 seq ++ leBytes 8 0 ++ payload)
  body ++ leBytes 4 (crc32 body)

/-- TYPE of the winning copy. -/
def Nvs.recType (n : Nvs) (slot : Nat) : Option Nat :=
  (n.recWinner slot).1.map (fun c => leAt (n.bytes (256 * recPage slot c) 256) 2 2)

/-- Payload of the winning copy. -/
def Nvs.recPayload (n : Nvs) (slot : Nat) : Option (List Byte) :=
  (n.recWinner slot).1.map fun c =>
    let bs := n.bytes (256 * recPage slot c) 256
    (bs.drop 16).take (leAt bs 0 2)

/-- The page writes of a record: into the losing copy; after a tie B is rewritten from A first (R449). -/
def Nvs.recWrites (n : Nvs) (slot typ : Nat) (payload : List Byte) : List PageWrite :=
  let page := fun c bs => ({ page := recPage slot c, off := 0, bytes := bs } : PageWrite)
  match n.recWinner slot with
  | (none, _) => [page 0 (recBytes typ 1 payload)]
  | (some c, tie) =>
    let seq := (n.recSeq slot c + 1) % 2 ^ 32
    if tie then [page 1 (n.bytes (256 * recPage slot 0) 256), page 0 (recBytes typ seq payload)]
    else [page (1 - c) (recBytes typ seq payload)]

/-! Journals (R450). -/

/-- Base and half size in bytes of a journal: system or configuration (R439). -/
def jrnBase (system : Bool) : Nat := if system then 0x18000 else 0x88000
/-- Bytes of a half. -/
def jrnHalf (system : Bool) : Nat := if system then 0x30000 else 0x10000

/-- Header of a half with a generation. -/
def jrnHeader (gen : Nat) : List Byte :=
  let ws := leBytes 4 0x4A524E4C ++ leBytes 4 gen
  ws ++ leBytes 4 (crc32 ws)

/-- GEN of a half whose header is valid. -/
def Nvs.jrnGen (n : Nvs) (system : Bool) (h : Nat) : Option Nat :=
  let bs := n.bytes (jrnBase system + h * jrnHalf system) 12
  if leAt bs 0 4 = 0x4A524E4C ∧ crc32 (bs.take 8) = leAt bs 8 4 then some (leAt bs 4 4) else none

/-- The active half (R450): none before anything has been appended. -/
def Nvs.jrnActive (n : Nvs) (system : Bool) : Option Nat :=
  match n.jrnGen system 0, n.jrnGen system 1 with
  | some a, some b => if newer b a then some 1 else some 0
  | some _, none => some 0
  | none, some _ => some 1
  | none, none => none

/-- An entry of a journal. -/
structure JrnEntry where
  key : Nat
  op : Nat
  seq : Nat
  payload : List Byte
  ok : Bool
  deriving DecidableEq, Repr

/-- Bytes that an entry takes: header, payload padded to a group, CRC. -/
def jrnSize (len : Nat) : Nat := 8 + ceilDiv len 8 * 8 + 4

/-- An entry as bytes. -/
def jrnBytes (key op seq : Nat) (payload : List Byte) : List Byte :=
  let body := leBytes 4 (key + payload.length * 2 ^ 16 + op * 2 ^ 24) ++ leBytes 4 seq ++ padTo (ceilDiv payload.length 8 * 8) payload
  body ++ leBytes 4 (crc32 body)

/-- The entries of a page from an offset on, with the offset after the last. -/
def Nvs.jrnPage (n : Nvs) (page : Nat) : Nat → Nat → List JrnEntry × Nat
  | 0, off => ([], off)
  | k + 1, off =>
    let bs := n.bytes (256 * page + off) (256 - off)
    let len := leAt bs 2 1
    let size := jrnSize len
    let op := leAt bs 3 1
    if 256 < off + 12 ∨ ¬(1 ≤ op ∧ op ≤ 3) ∨ 256 < off + size then ([], off)
    else
      let e : JrnEntry :=
        { key := leAt bs 0 2, op := op, seq := leAt bs 4 4, payload := (bs.drop 8).take len
          ok := decide (crc32 (bs.take (size - 4)) = leAt bs (size - 4) 4) && !n.bad (256 * page + off) size }
      let r := n.jrnPage page k (off + size)
      (e :: r.1, r.2)

/-- First page of the entries of a half, and the pages they may take. -/
def jrnFirst (system : Bool) (h : Nat) : Nat := (jrnBase system + h * jrnHalf system) / 256 + 1
/-- Pages of a half for entries. -/
def jrnPages (system : Bool) : Nat := jrnHalf system / 256 - 1

/-- The entries of a half in order, with the page and offset at which the next is appended. SEQ rises along a half, so a page whose first entry is not newer than the last is left from an earlier generation. -/
def Nvs.jrnScan (n : Nvs) (first : Nat) : Nat → Nat → Option Nat → List JrnEntry × Nat × Nat
  | 0, i, _ => ([], i, 0)
  | k + 1, i, last =>
    let r := n.jrnPage (first + i) 22 0
    let stale := match r.1.head?, last with
      | none, _ => true
      | some e, some s => !newer e.seq s
      | some _, none => false
    if stale then ([], i, 0)
    else
      let t := n.jrnScan first k (i + 1) ((r.1.getLast?).map (·.seq))
      if t.1.isEmpty then (r.1, i, r.2) else (r.1 ++ t.1, t.2)

/-- The entries of the active half, with where the next goes. -/
def Nvs.jrnEntries (n : Nvs) (system : Bool) : List JrnEntry × Nat × Nat :=
  match n.jrnActive system with
  | some h => n.jrnScan (jrnFirst system h) (jrnPages system) 0 none
  | none => ([], 0, 0)

/-- The newest valid entry of a key (R450). -/
def newestOf (es : List JrnEntry) (key : Nat) : Option JrnEntry :=
  (es.filter (fun e => e.ok && decide (e.key = key ∧ e.op ≤ 2))).foldl (fun (best : Option JrnEntry) e =>
    match best with
    | some b => if newer e.seq b.seq then some e else best
    | none => some e) none

/-- The value of a key: none when it is absent or deleted (R450). -/
def Nvs.jrnValue (n : Nvs) (system : Bool) (key : Nat) : Option (List Byte) :=
  (newestOf (n.jrnEntries system).1 key).bind (fun e => if e.op = 1 then some e.payload else none)

/-- The newest entries of all present keys, in the order in which they stand. -/
def liveEntries (es : List JrnEntry) : List JrnEntry :=
  es.filter fun e => e.ok && decide (e.op = 1) && decide (newestOf es e.key = some e)

/-- Bytes of entries. -/
def jrnTotal (es : List JrnEntry) : Nat := es.foldl (fun s e => s + jrnSize e.payload.length) 0

/-- The next SEQ of a journal. -/
def nextSeq (es : List JrnEntry) : Nat :=
  match es.filter (fun e => e.ok) with
  | [] => 1
  | e :: rest => ((rest.foldl (fun m x => if newer x.seq m then x.seq else m) e.seq) + 1) % 2 ^ 32

/-- A PAD entry over the rest of a page, when one fits. -/
def jrnPad (page off seq : Nat) : List PageWrite :=
  let r := 256 - off
  if r < 12 then [] else [{ page := page, off := off, bytes := jrnBytes 0 3 seq (List.replicate ((r - 12) / 8 * 8) (0 : Byte)) }]

/-- The page writes that append an entry: a new header where the journal has none, a PAD where it does not fit its page, then the entry (R450). -/
def Nvs.jrnAppend (n : Nvs) (system : Bool) (key op : Nat) (payload : List Byte) : List PageWrite :=
  let h := (n.jrnActive system).getD 0
  let head : List PageWrite := if (n.jrnActive system).isSome then [] else [{ page := jrnFirst system 0 - 1, off := 0, bytes := jrnHeader 1 }]
  let r := n.jrnEntries system
  let page := jrnFirst system h + r.2.1
  let seq := nextSeq r.1
  let size := jrnSize payload.length
  if r.2.2 = 0 then head ++ [{ page := page, off := 0, bytes := padTo 256 (jrnBytes key op seq payload) }]
  else if r.2.2 + size ≤ 256 then head ++ [{ page := page, off := r.2.2, bytes := jrnBytes key op seq payload }]
  else head ++ jrnPad page r.2.2 seq ++ [{ page := page + 1, off := 0, bytes := padTo 256 (jrnBytes key op ((seq + 1) % 2 ^ 32) payload) }]

/-- An append would put the newest entries of the present keys above half of a half (R450). -/
def Nvs.jrnFull (n : Nvs) (system : Bool) (key len : Nat) : Bool :=
  let live := (liveEntries (n.jrnEntries system).1).filter (fun e => e.key ≠ key)
  decide (2 * (jrnTotal live + jrnSize len) > jrnHalf system)

/-- Fill of the active half in bytes. -/
def Nvs.jrnFill (n : Nvs) (system : Bool) : Nat :=
  let r := n.jrnEntries system
  if (n.jrnActive system).isSome then 256 * (1 + r.2.1) + r.2.2 else 0

/-- Live entries packed into pages: page number from `first` on and the bytes of each page. -/
def packEntries : List JrnEntry → Nat → List Byte → List (Nat × List Byte)
  | [], i, cur => if cur.isEmpty then [] else [(i, cur)]
  | e :: es, i, cur =>
    let b := jrnBytes e.key 1 e.seq e.payload
    if cur.length + b.length ≤ 256 then packEntries es i (cur ++ b) else (i, cur) :: packEntries es (i + 1) b

/-- The page writes of a compaction: the live entries, then the header with GEN + 1; pages are written whole (R450). -/
def Nvs.jrnCompact (n : Nvs) (system : Bool) : List PageWrite :=
  let h := (n.jrnActive system).getD 0
  let gen := ((n.jrnGen system h).getD 0 + 1) % 2 ^ 32
  let first := jrnFirst system (1 - h)
  let packed := packEntries (liveEntries (n.jrnEntries system).1) 0 []
  let full := packed.map fun p => ({ page := first + p.1, off := 0, bytes := padTo 256 p.2 } : PageWrite)
  let stop : List PageWrite :=
    if packed.isEmpty then [{ page := first, off := 0, bytes := List.replicate 256 (0 : Byte) }] else []
  full ++ stop ++ [{ page := first - 1, off := 0, bytes := jrnHeader gen }]

/-! Counters (R451). -/

/-- Key of a counter's base copy in the system journal. -/
def baseKey (k c : Nat) : Nat := 0x8000 + 2 * k + c

/-- BASE and EPOCH of a counter: the copy with the higher EPOCH; 0 and 0 before any was written. -/
def Nvs.ctrBase (n : Nvs) (k : Nat) : Nat × Nat :=
  let one := fun c => (n.jrnValue true (baseKey k c)).map (fun bs => (leAt bs 0 8, leAt bs 8 4))
  match one 0, one 1 with
  | some a, some b => if a.2 < b.2 then b else a
  | some a, none => a
  | none, some b => b
  | none, none => (0, 0)

/-- Stamp of an epoch. -/
def ctrStamp (epoch : Nat) : Nat := epoch % 255 + 1

/-- First byte of a counter's cells in bank A (0) or B (1). -/
def ctrCell (bank k : Nat) : Nat := (if bank = 0 then 0x78000 else 0x80000) + 64 * k

/-- Count of a bank: the run of cells from cell 0 that hold the stamp. -/
def Nvs.ctrCount (n : Nvs) (bank k s : Nat) : Nat :=
  ((n.bytes (ctrCell bank k) 64).takeWhile (fun b => b.toNat = s)).length

/-- Value of a counter. -/
def Nvs.ctrValue (n : Nvs) (k : Nat) : Nat :=
  let b := n.ctrBase k
  let s := ctrStamp b.2
  b.1 + max (n.ctrCount 0 k s) (n.ctrCount 1 k s)

/-- Cells `a` up to `b` of a bank take the stamp. -/
def ctrFill (bank k s a b : Nat) : List PageWrite :=
  pageWrites (ctrCell bank k + a) (List.replicate (b - a) (BitVec.ofNat 8 s))

/-- The page writes of an increment (R451), and whether the banks differ by more than one. A fold takes two appends, which `nvStart` makes one after the other. -/
def Nvs.ctrWrites (n : Nvs) (k : Nat) : List PageWrite × Bool :=
  let b := n.ctrBase k
  let s := ctrStamp b.2
  let x := n.ctrCount 0 k s
  let y := n.ctrCount 1 k s
  let m := max x y
  let level := ctrFill 0 k s x m ++ ctrFill 1 k s y m
  let far := decide (x + 1 < y ∨ y + 1 < x)
  if m < 64 then (level ++ ctrFill 0 k s m (m + 1) ++ ctrFill 1 k s m (m + 1), far) else (level, far)

/-- An increment of a counter folds it (R451). -/
def Nvs.ctrFolds (n : Nvs) (k : Nat) : Bool :=
  let s := ctrStamp (n.ctrBase k).2
  decide (max (n.ctrCount 0 k s) (n.ctrCount 1 k s) = 64)

/-- The new base of a fold as bytes: BASE + 65 and EPOCH + 1. -/
def Nvs.ctrFold (n : Nvs) (k : Nat) : List Byte :=
  leBytes 8 ((n.ctrBase k).1 + 65) ++ leBytes 4 ((n.ctrBase k).2 + 1)

/-! Key region (R456 to R459). The shares stand in the model's cells in the clear: no path reads the region, and the cipher over it is not observable. -/

/-- Offset of share A of a slot; share B is 16 KiB above. -/
def shareAt (s : Nat) : Nat := 0x8000 + 32 * s
/-- Offset of the descriptor of a slot. -/
def descAt (s : Nat) : Nat := 0x10000 + 16 * s

/-- CHECK of a slot with a key (R458). -/
def keyCheck (s : Nat) (key : List Byte) : Nat :=
  ((Config.hmacSha256 Config.deviceKey (leBytes 2 s ++ key)).toNat / 2 ^ 224) % 2 ^ 32

/-- A descriptor in use. -/
def descBytes (s use writes : Nat) (key : List Byte) : List Byte :=
  leBytes 2 0x4B53 ++ leBytes 1 use ++ leBytes 1 0 ++ leBytes 4 writes ++ leBytes 4 (keyCheck s key) ++ leBytes 4 0

/-- Bytewise exclusive or. -/
def xorBytes (a b : List Byte) : List Byte := List.zipWith (fun x y => x ^^^ y) a b

/-- The descriptor's MAGIC marks the slot in use (R458). -/
def Nvs.slotMagic (n : Nvs) (s : Nat) : Bool := decide (leNat (n.bytes (descAt s) 2) = 0x4B53)

/-- The key that the shares of a slot give. -/
def Nvs.slotKey (n : Nvs) (s : Nat) : List Byte := xorBytes (n.bytes (shareAt s) 32) (n.bytes (shareAt s + 0x4000) 32)

/-- CHECK of the descriptor matches its key (R458). -/
def Nvs.slotSound (n : Nvs) (s : Nat) : Bool := decide (leNat (n.bytes (descAt s + 8) 4) = keyCheck s (n.slotKey s))

/-- A descriptor written as EMPTY. -/
def emptyDesc (s : Nat) : List PageWrite := pageWrites (descAt s) (List.replicate 16 (0 : Byte))

/-! The NVS page (R453). -/

/-- The supply and hold-up checks of R442, as NVS_STAT shows them: bit 0 for the supply, bit 1 for the hold-up, 0 when both hold. -/
def Io.supplyFault (io : Io) : Nat :=
  b2n (decide (io.fld .nvs Reg.NVS_VDD 0 12 < io.fld .nvs Reg.NVS_VDD_MIN 0 12)) + 2 * b2n (!io.flag .nvs Reg.NVS_STAT 4)

/-- A page write is not started for want of supply (R442). -/
def Io.lowSupply (io : Io) : Io := (io.recordErr .nvs 0x1110 io.supplyFault).raise .nvs 6

/-- Spare pages free. -/
def Nvs.spares (n : Nvs) : Nat := 128 - n.remap.length

/-- NVS_STAT and NVS_JRN_STAT follow the store (R453). -/
def Io.showNv (io : Io) (n : Nvs) : Io :=
  let io := io.setFlag .nvs Reg.NVS_STAT 1 n.running.isSome
  let io := io.setFlag .nvs Reg.NVS_STAT 2 (match n.jobs.head? with
    | some j => (match j.kind with
      | .compact _ => j.begun
      | _ => false)
    | none => false)
  let io := io.setFld .nvs Reg.NVS_STAT 8 8 n.spares
  let pct := fun s => n.jrnFill s * 100 / jrnHalf s % 128
  io.put .nvs Reg.NVS_JRN_STAT
    (Word.of (pct true + pct false * 2 ^ 8 + (n.jrnActive true).getD 0 * 2 ^ 16 + (n.jrnActive false).getD 0 * 2 ^ 17))

/-- What the store works on: registers, store, keys, and the completions it makes. -/
structure Nv where
  io : Io
  nv : Nvs
  ks : Keys
  done : List ((Nat × Nat) × Reply)

/-- A command of the store completes. -/
def Nv.reply (x : Nv) (src : Option (Nat × Nat)) (r : Reply) : Nv :=
  match src with
  | some s => { x with done := x.done ++ [(s, r)] }
  | none => x

/-- Reading meets an uncorrectable group (R452). -/
def Nv.uncorr (x : Nv) (a : Nat) : Nv :=
  { x with io := ((x.io.count48 .nvs Reg.NVS_UNCORR_LO 1).recordErr .nvs 0x1112 (a % 2 ^ 20)).raise .nvs 4 }

/-- The remap table, one word of 16 bits per spare page, as record slots 1 and 2 hold it. -/
def Nvs.remapBytes (n : Nvs) (half : Nat) : List Byte :=
  (List.range 64).flatMap fun i =>
    leBytes 2 (match n.remap.find? (fun e => e.2 = 64 * half + i) with
      | some e => e.1 + 2 ^ 15
      | none => 0)

/-- A page is replaced by the lowest free spare page, keeping its bytes; the remap table and the repair map take it (R452). The last component asks for the repair-map entry. -/
def Nv.replace (x : Nv) (page : Nat) : Nv × Bool :=
  match (List.range 128).find? (fun s => !x.nv.remap.any (fun e => e.2 = s)) with
  | none => ({ x with io := x.io.recordOpen .nvs 0x1115 }, false)
  | some s =>
    let old := x.nv.bytes (256 * page) 256
    let was := x.nv.place (256 * page)
    let nv := { x.nv with remap := FMap.insert x.nv.remap page s, lost := x.nv.lost.filter (fun g => g * 8 / 256 ≠ was / 256) }
    let nv := nv.program { page := page, off := 0, bytes := old }
    let nv := (nv.want none (.record 1 0 (nv.remapBytes 0))).want none (.record 2 0 (nv.remapBytes 1))
    ({ x with io := x.io.raise .nvs 5, nv := nv }, true)

/-- Show what a record read found: RESULT_LO the SEQ, RESULT_HI copy B won, tie, empty; losses and ties are recorded (R446, R448). -/
def Nv.readRecord (x : Nv) (src : Option (Nat × Nat)) (slot addr : Nat) : Nv :=
  let n := x.nv
  match n.recWinner slot with
  | (none, _) =>
    let ever := n.ever.contains (recPage slot 0) || n.ever.contains (recPage slot 1)
    let io := if ever then (x.io.recordOpen .nvs 0x1113).raise .nvs 3 else x.io
    { x with io := io }.reply src (Reply.done 4 0)
  | (some c, tie) =>
    let io := if tie then (x.io.recordOpen .nvs 0x1118).raise .nvs 2 else x.io
    { x with io := io.emit (.hostWrite addr ((n.recPayload slot).getD [])) }.reply src
      (Reply.done (c + 2 * b2n tie) (n.recSeq slot c))

/-- A read of the store, when its turn has come (R446). -/
def Nv.read (x : Nv) (src : Option (Nat × Nat)) (mode target len addr : Nat) : Nv :=
  let n := x.nv
  if mode = 0 then
    let x := if n.bad target len then x.uncorr target else x
    { x with io := x.io.emit (.hostWrite addr (n.bytes target len)) }.reply src (Reply.done 0 0)
  else if mode = 1 then x.readRecord src target addr
  else if mode = 2 then
    let v := n.ctrValue target
    x.reply src (Reply.done (v / 2 ^ 32 % 2 ^ 16) (v % 2 ^ 32))
  else
    let es := (n.jrnEntries false).1
    let io := if es.any (fun e => !e.ok) then (x.io.recordOpen .nvs 0x1117).raise .nvs 8 else x.io
    match n.jrnValue false target with
    | some bs => { x with io := io.emit (.hostWrite addr bs) }.reply src (Reply.done 0 bs.length)
    | none => { x with io := io }.reply src (Reply.done 0 (2 ^ 32 - 1))

/-! Lifecycle record (R467). -/

/-- State, flags and counters of the lifecycle as KEYS_LC_STAT shows them. -/
def Io.lcState (io : Io) : Nat := io.fld .keys Reg.KEYS_LC_STAT 0 3

/-- Payload of the lifecycle record. -/
def lcBytes (state : Nat) (destroying : Bool) (target transitions time : Nat) : List Byte :=
  leBytes 1 state ++ leBytes 1 (b2n destroying + target * 2 ^ 4) ++ leBytes 2 0 ++ leBytes 4 transitions ++ leBytes 8 time

/-- TRANSITIONS of the record. -/
def Nvs.lcTransitions (n : Nvs) : Nat := leAt ((n.recPayload 0).getD []) 4 4

/-- The fuse that a transition blows (R465): 1 BLANK_FUSED, 2 RETIRED_FUSED, 0 none. -/
def lcFuse (from_ target : Nat) : Nat :=
  if target = 4 then 2 else if from_ = 0 ∧ target = 1 then 1 else 0

/-- Show the lifecycle (R472). -/
def Io.showLc (io : Io) (state : Nat) (destroying : Bool) (target : Nat) (ks : Keys) (transitions time : Nat) : Io :=
  let io := io.put .keys Reg.KEYS_LC_STAT (Word.of (state + b2n destroying * 8 + target * 2 ^ 4 + b2n ks.blank * 2 ^ 7
    + b2n ks.retired * 2 ^ 8 + sat 16 transitions * 2 ^ 16))
  io.put .keys Reg.KEYS_LC_TIME (Word.of time)

/-- The co-signing slot (R458, R472). -/
def Keys.cosign (ks : Keys) : Option Nat := (ks.slots.find? (fun e => e.2.use = 2)).map (·.1)

/-- KEYS_STAT: slots in use, volatile slots, entropy, co-signing binding (R472). -/
def Io.showKeys (io : Io) (ks : Keys) : Io :=
  let v := ks.slots.length + (ks.slots.filter (fun e => e.2.volatile)).length * 2 ^ 10 + b2n (!ks.failed) * 2 ^ 20
    + (match ks.cosign with
      | some s => 2 ^ 21 + s * 2 ^ 22
      | none => 0)
  io.put .keys Reg.KEYS_STAT (Word.of v)

/-- Step 1 of a transition: every slot unusable, volatile slots empty, associations disabled (R466). -/
def Nv.destroy (x : Nv) (target : Nat) : Nv :=
  let ks := { x.ks with slots := [], destroying := true }
  let io := x.io.dropAssociations.showKeys ks
  let io := (io.setFlag .keys Reg.KEYS_LC_STAT 3 true).setFld .keys Reg.KEYS_LC_STAT 4 3 target
  { x with io := io, ks := ks }

/-- The page writes of steps 2 and 3: 128 share pages and 32 descriptor pages of random data, then the descriptors as EMPTY (R466). -/
def Nv.destroyWrites (x : Nv) : Nv × List PageWrite :=
  let noise := (List.range 160).map fun i =>
    ({ page := 0x80 + i, off := 0, bytes := ({ x.io with freeCtr := x.io.freeCtr + 256 * i } : Io).freeBytes 256 } : PageWrite)
  let clean := (List.range 32).map fun i => ({ page := 0x100 + i, off := 0, bytes := List.replicate 256 (0 : Byte) } : PageWrite)
  ({ x with io := x.io.tookMany (256 * 160) }, noise ++ clean)

/-- Set the first job. -/
def Nv.setHead (x : Nv) (j : NvJob) : Nv :=
  { x with nv := { x.nv with jobs := match x.nv.jobs with
    | _ :: js => j :: js
    | [] => [] } }

/-- The first job leaves. -/
def Nv.popHead (x : Nv) : Nv := { x with nv := { x.nv with jobs := x.nv.jobs.tail } }

/-- A key slot takes a new key in the protected SRAM; without one it is empty (R457, R460). -/
def Nv.setSlot (x : Nv) (s : Nat) (k : Option KeySlot) : Nv :=
  let slots := match k with
    | some v => FMap.insert x.ks.slots s v
    | none => FMap.erase x.ks.slots s
  let ks := { x.ks with slots := slots, writes := FMap.insert x.ks.writes s (sat 32 ((FMap.find x.ks.writes s).getD 0 + 1)) }
  { x with ks := ks, io := x.io.showKeys ks }

/-- An enabled MACsec association of some port names the key slot (R159, R461). -/
def Io.slotInUse (io : Io) (s : Nat) : Bool :=
  (List.range 128).any fun p => (List.range 20).any fun a =>
    io.saOn (Fin.ofNat 128 p) a && decide (bits (io.sa (Fin.ofNat 128 p) a 0) 0 9 = s)

/-- The lifecycle state permits a write of a USE (R464). -/
def lcPermits (state use : Nat) : Bool :=
  if state = 2 then decide (use ≤ 2) else if state = 0 ∨ state = 3 then decide (use ≤ 1) else false

/-- The first test of R461 that a key write or erase fails, but for the supply. -/
def Nv.keyRefusal (x : Nv) (s use : Nat) (vol erase : Bool) : Option Nat :=
  if x.ks.destroying then some 0x1215
  else if x.ks.failed then some 0x1216
  else if !erase && !lcPermits x.io.lcState use then some 0x1210
  else if x.io.slotInUse s then some 0x1211
  else
    let bound := decide (x.ks.cosign = some s) && decide (x.io.lcState = 3)
    let second := match x.ks.cosign with
      | some c => decide (c ≠ s)
      | none => false
    if bound || (!erase && decide (use = 2) && (vol || second)) then some 0x1212 else none

/-- A transition is permitted (R465). -/
def lcAllowed (from_ target : Nat) : Bool :=
  [(0, 1), (1, 2), (2, 3), (3, 2), (0, 4), (1, 4), (2, 4), (3, 4)].contains (from_, target)

/-- The first test of R466 that a transition fails, the supply among them. -/
def Nv.lcRefusal (x : Nv) (target confirm : Nat) : Option Nat :=
  if confirm ≠ 0x4C430000 + 16 * x.io.lcState + target then some 0x1214
  else if x.ks.destroying then some 0x1215
  else if x.ks.failed then some 0x1216
  else if x.io.supplyFault ≠ 0 then some 0x1110
  else if !lcAllowed x.io.lcState target then some 0x1213
  else none

/-- What a job that has just begun has to write; none means that it is refused with a reply, an empty list that nothing has to be written. -/
def Nv.plan (x : Nv) (j : NvJob) : Nv × Except Reply (List PageWrite) :=
  match j.kind with
  | .read mode target len addr => (x.read j.src mode target len addr, .ok [])
  | .raw off bs => (x, .ok (pageWrites off bs))
  | .record slot typ bs => (x, .ok (x.nv.recWrites slot typ bs))
  | .counter k =>
    let w := x.nv.ctrWrites k
    let x := if w.2 then x.uncorr (ctrCell 0 k) else x
    if x.nv.ctrFolds k then (x, .ok (w.1 ++ x.nv.jrnAppend true (baseKey k 0) 1 (x.nv.ctrFold k))) else (x, .ok w.1)
  | .journal sys key bs =>
    if bs.isSome ∧ x.nv.jrnFull sys key ((bs.map List.length).getD 0) then
      (x, .error (Reply.rejected 0x1114))
    else (x, .ok (x.nv.jrnAppend sys key (if bs.isSome then 1 else 2) (bs.getD [])))
  | .key s use vol erase key =>
    match x.keyRefusal s use vol erase with
    | some code => (x, .error (Reply.rejected code))
    | none =>
    if erase then
      let noise := x.io.freeBytes 64
      ({ x with io := x.io.tookMany 64 },
        .ok (emptyDesc s ++ pageWrites (shareAt s) (noise.take 32) ++ pageWrites (shareAt s + 0x4000) (noise.drop 32)))
    else if vol then (x, .ok (if x.nv.slotMagic s then emptyDesc s else []))
    else
      let m := x.io.freeBytes 32
      ({ x with io := x.io.tookMany 32 },
        .ok (pageWrites (shareAt s) m ++ pageWrites (shareAt s + 0x4000) (xorBytes m key)
          ++ pageWrites (descAt s) (descBytes s use (sat 32 ((FMap.find x.ks.writes s).getD 0 + 1)) key)))
  | .lifecycle target confirm =>
    match confirm.bind (x.lcRefusal target) with
    | some 0x1110 => ({ x with io := x.io.lowSupply }, .error (Reply.rejected 0x1110))
    | some code => (x, .error (Reply.rejected code))
    | none =>
    let x := x.destroy target
    let r := x.destroyWrites
    let first := if confirm.isNone then [] else
      x.nv.recWrites 0 0x4C43 (lcBytes x.io.lcState true target x.nv.lcTransitions (leAt ((x.nv.recPayload 0).getD []) 8 8))
    (r.1, .ok (first ++ r.2))
  | .refresh page => (x, .ok [{ page := page, off := 0, bytes := x.nv.bytes (256 * page) 256 }])
  | .empty s => (x, .ok (emptyDesc s))
  | .compact sys => (x, .ok (x.nv.jrnCompact sys))

/-- An append that brings the active half to 75 % starts a compaction, before any later job (R450). -/
def Nv.compactIf (x : Nv) (sys : Bool) : Nv :=
  if 4 * x.nv.jrnFill sys ≥ 3 * jrnHalf sys then
    let c : NvJob := { src := none, kind := .compact sys, begun := false, writes := [], written := 0, stage := 0 }
    { x with nv := { x.nv with jobs := match x.nv.jobs with
      | h :: js => h :: c :: js
      | [] => [c] } }
  else x

/-- What follows when the last page of a job has been verified; `false` when the job goes on (R446 to R451, R460, R466). -/
def Nv.finish (x : Nv) (j : NvJob) : Nv × Bool :=
  match j.kind with
  | .read .. => (x, true)
  | .raw .. | .record .. => (x.reply j.src (Reply.done 0 0), true)
  | .counter k =>
    if j.stage = 0 ∧ ((x.nv.jrnValue true (baseKey k 0)).map (fun b => leAt b 8 4)) ≠
        ((x.nv.jrnValue true (baseKey k 1)).map (fun b => leAt b 8 4)) then
      let bs := (x.nv.jrnValue true (baseKey k 0)).getD []
      (x.setHead { j with stage := 1, writes := x.nv.jrnAppend true (baseKey k 1) 1 bs }, false)
    else ((x.reply j.src (Reply.done 0 0)).compactIf true, true)
  | .journal sys _ _ => ((x.reply j.src (Reply.done 0 0)).compactIf sys, true)
  | .key s use vol erase key =>
    let x := x.setSlot s (if erase then none else some { use := use, volatile := vol, key := key })
    (x.reply j.src (Reply.done 0 0), true)
  | .lifecycle target _ =>
    if j.stage = 0 ∧ lcFuse x.io.lcState target ≠ 0 ∧ ¬(if target = 4 then x.ks.retired else x.ks.blank) then
      (({ x with ks := { x.ks with fusing := true } }).setHead { j with stage := 1 }, false)
    else if j.stage ≤ 1 then
      let t := x.nv.lcTransitions + 1
      let w := x.nv.recWrites 0 0x4C43 (lcBytes target false target t (x.io.now / second))
      (x.setHead { j with stage := 2, writes := w }, false)
    else
      let ks := { x.ks with destroying := false, restore := false }
      let io := x.io.showLc target false target ks x.nv.lcTransitions (leAt ((x.nv.recPayload 0).getD []) 8 8)
      let io := (io.raise .keys 2).showKeys ks
      ({ x with io := io, ks := ks }.reply j.src (Reply.done 0 0), true)
  | .refresh _ => ({ x with io := x.io.count48 .nvs Reg.NVS_REFRESH_LO 1 }, true)
  | .empty _ => (x, true)
  | .compact _ => ({ x with io := x.io.raise .nvs 7 }, true)

/-- Queued writes that have not started any page complete REJECTED for want of supply, a started one with the bytes it has written (R442). -/
def Nv.starve (x : Nv) (j : NvJob) : Nv :=
  let x := { x with io := x.io.lowSupply }
  let r : Reply := { status := 5, code := 0x1110, hi := 0, lo := j.written }
  (x.reply j.src r).popHead

/-- The page writes go on: a begun job's next page, else the window's gathered page, else the next job begins; at most `n` jobs begin here, since jobs that write nothing end at once (R441, R442, R447). -/
def Nv.pump : Nat → Nv → Nv
  | 0, x => x
  | n + 1, x =>
    if x.nv.running.isSome then x
    else
      match x.nv.jobs with
      | j :: _ =>
        if j.begun then
          if j.stage = 1 ∧ x.ks.fusing then x
          else
            match j.writes with
            | [] =>
              let r := x.finish j
              if r.2 then Nv.pump n r.1.popHead else Nv.pump n r.1
            | _ :: _ =>
              if x.io.supplyFault ≠ 0 then Nv.pump n (x.starve j)
              else { x with nv := { x.nv with running := some (false, x.io.up) } }
        else if !x.nv.flushing.isEmpty then
          if x.io.supplyFault ≠ 0 then Nv.pump n { x with io := x.io.lowSupply, nv := { x.nv with flushing := [] } }
          else { x with nv := { x.nv with running := some (true, x.io.up) } }
        else
          match x.nv.buffer with
          | some (p, ps, _) =>
            Nv.pump n { x with nv := { x.nv with buffer := none, flushing := ps.map (fun e => ({ page := p, off := e.1, bytes := e.2 } : PageWrite)) } }
          | none =>
            let r := x.plan j
            match r.2 with
            | .error e => Nv.pump n ((r.1.reply j.src e).popHead)
            | .ok ws =>
              let x := r.1.setHead { j with begun := true, writes := ws }
              if ws ≠ [] ∧ x.io.supplyFault ≠ 0 then Nv.pump n (x.starve j) else Nv.pump n x
      | [] =>
        if x.nv.flushing.isEmpty then x
        else if x.io.supplyFault ≠ 0 then { x with io := x.io.lowSupply, nv := { x.nv with flushing := [] } }
        else { x with nv := { x.nv with running := some (true, x.io.up) } }

/-- Enough turns of the pump for every job that waits. -/
def Nv.run (x : Nv) : Nv :=
  let x := Nv.pump (4 * x.nv.jobs.length + 8) x
  { x with io := x.io.showNv x.nv }

/-- The page write in progress takes effect: the window's gathered page, or the next page of the first job. -/
def Nv.land (x : Nv) : Nv :=
  match x.nv.running with
  | none => x
  | some (true, _) =>
    let nv := x.nv.flushing.foldl Nvs.program x.nv
    { x with nv := { nv with running := none, flushing := [] }, io := x.io.count48 .nvs Reg.NVS_PAGE_WRITES_LO 1 }
  | some (false, _) =>
    match x.nv.jobs with
    | j :: _ =>
      match j.writes with
      | w :: ws =>
        let nv := x.nv.program w
        let x := { x with nv := { nv with running := none }, io := x.io.count48 .nvs Reg.NVS_PAGE_WRITES_LO 1 }
        x.setHead { j with writes := ws, written := j.written + w.bytes.length }
      | [] => { x with nv := { x.nv with running := none } }
    | [] => { x with nv := { x.nv with running := none } }

/-- The page being written. -/
def Nvs.pageRunning (n : Nvs) : Option Nat :=
  match n.running with
  | some (true, _) => (n.flushing.head?).map (·.page)
  | some (false, _) => (n.jobs.head?).bind (fun j => (j.writes.head?).map (·.page))
  | none => none

/-! The direct window (R443 to R445). -/

/-- Offset of the store that a window offset shows. -/
def Io.winAddr (io : Io) (off : Nat) : Nat := io.fld .nvs Reg.NVS_WIN_BASE 0 4 * 65536 + off

/-- Gather bytes for one page: another page in the buffer is written first (R444). -/
def Nv.gatherPage (x : Nv) (a : Nat) (bs : List Byte) : Nv :=
  let p := a / 256
  match x.nv.buffer with
  | some (q, ps, _) =>
    if q = p then { x with nv := { x.nv with buffer := some (p, ps ++ [(a % 256, bs)], x.io.up) } }
    else
      let fl := x.nv.flushing ++ ps.map (fun e => ({ page := q, off := e.1, bytes := e.2 } : PageWrite))
      { x with nv := { x.nv with buffer := some (p, [(a % 256, bs)], x.io.up), flushing := fl } }
  | none => { x with nv := { x.nv with buffer := some (p, [(a % 256, bs)], x.io.up) } }

/-- A window write gathers, its bytes beyond a page boundary for the next page (R444). -/
def Nv.gather (x : Nv) (a : Nat) (bs : List Byte) : Nv :=
  (pageWrites a bs).foldl (fun x w => x.gatherPage (256 * w.page + w.off) w.bytes) x

/-- The bytes that a window read returns: zeros for the key region, bytes gathered and not yet written included (R15, R443). -/
def Nvs.winBytes (n : Nvs) (a len : Nat) : List Byte :=
  (List.range len).map fun i =>
    let b := a + i
    if touchesKeys b 1 then 0
    else
      match n.buffer with
      | some (p, ps, _) =>
        match (ps.filter (fun e => decide (p = b / 256 ∧ e.1 ≤ b % 256 ∧ b % 256 < e.1 + e.2.length))).getLast? with
        | some e => (e.2[b % 256 - e.1]?).getD 0
        | none => n.byte b
      | none => n.byte b

/-- An access through the window when no page write runs. -/
def Nv.access (x : Nv) (h : HeldAccess) : Nv :=
  let a := x.io.winAddr h.off
  match h.data with
  | some bs => x.gather a bs
  | none => { x with io := x.io.emit (.readBytes (x.nv.winBytes a h.len) (x.nv.bad a h.len && !touchesKeys a h.len)) }

/-- A window access: held while a page write runs (R445). A write outside the user area is ignored (R443). -/
def Nv.window (x : Nv) (off : Nat) (data : Option (List Byte)) (len : Nat) : Nv :=
  let refused := match data with
    | some bs => !inUser (x.io.winAddr off) bs.length
    | none => false
  if refused then { x with io := x.io.ignored .nvs off 0 }
  else
    let h : HeldAccess := { off := off, data := data, len := len, since := x.io.up }
    if x.nv.running.isSome then { x with nv := { x.nv with held := x.nv.held ++ [h] } } else (x.access h).run

/-- FLUSH: the gathered page is written (R444). -/
def Nv.flush (x : Nv) : Nv :=
  match x.nv.buffer with
  | some (p, ps, _) =>
    { x with nv := { x.nv with buffer := none, flushing := x.nv.flushing ++ ps.map (fun (e : Nat × List Byte) => ({ page := p, off := e.1, bytes := e.2 } : PageWrite)) } }.run
  | none => x

/-- NV_WINDOW_IDLE: IDLE_US without a window write (R444). -/
def Nv.idle (x : Nv) : Nv :=
  match x.nv.buffer with
  | some (_, _, t) => if t + 1000 * x.io.fld .nvs Reg.NVS_WIN_CTL 8 8 ≤ x.io.up then x.flush else x
  | none => x

/-- NVS_WIN_TIMEOUT: every access held for 6 ms completes, a read with zeros, a write dropped (R445). -/
def Nv.winTimeout (x : Nv) : Nv :=
  let old := x.nv.held.filter (fun h => decide (h.since + 6000000 ≤ x.io.up))
  let io := old.foldl (fun io h =>
    let io := match h.data with
      | some _ => io
      | none => io.emit (.readBytes (List.replicate h.len 0) false)
    (io.recordOpen .nvs 0x1116).raise .nvs 9) x.io
  { x with io := io, nv := { x.nv with held := x.nv.held.filter (fun h => decide (x.io.up < h.since + 6000000)) } }

/-- NV_PAGE_WRITE_DONE: the page is programmed and verified; a page that failed its verify twice has been replaced (R441, R452). The last component is the page that the repair map takes. -/
def Nv.pageDone (x : Nv) (replaced : Bool) : Nv × Option Nat :=
  match x.nv.pageRunning with
  | none => ({ x with nv := { x.nv with running := none } }, none)
  | some p =>
    let life := match x.nv.jobs.head? with
      | some j => (match j.kind with
        | .lifecycle .. => decide (0x80 ≤ p ∧ p < 0x120)
        | _ => false)
      | none => false
    let r := if replaced then
        let x := if life then { x with io := x.io.recordOpen .keys 0x1218 } else x
        x.replace p
      else (x, false)
    let x := r.1.land
    let held := x.nv.held
    let x := { x with nv := { x.nv with held := [] } }
    let x := held.foldl Nv.access x
    (x.run, if r.2 then some p else none)

/-! Scrubbing (R452). -/

/-- The privileged regions: record slots 0 to 7, the key region and the system journal (R439, R452). -/
def nvPrivileged (a : Nat) : Bool := decide (a < 0x1000 ∨ (0x8000 ≤ a ∧ a < 0x78000))

/-- What a scrub pass finds in a group: corrected, a margin difference, or uncorrectable (R452). The last component is the page that the repair map takes. -/
def Nv.finding (x : Nv) (g kind : Nat) : Nv × Option Nat :=
  let a := 8 * g
  let page := a / 256
  if kind = 2 then
    let x := { x with nv := { x.nv with lost := if x.nv.lost.contains g then x.nv.lost else g :: x.nv.lost } }
    let r := (x.uncorr a).replace page
    (r.1, if r.2 then some page else none)
  else if kind = 1 then
    if nvPrivileged a then ({ x with nv := x.nv.want none (.refresh page) }, none) else (x, none)
  else
    let x := { x with io := x.io.count48 .nvs Reg.NVS_CORR_LO 1 }
    if nvPrivileged a then ({ x with nv := x.nv.want none (.refresh page) }, none)
    else
      let ts : List Nat := ((FMap.find x.nv.corrected page).getD []).filter (fun t => decide (x.io.up ≤ t + 86400 * second)) ++ [x.io.up]
      if ts.length ≥ 4 then
        ({ x with nv := ({ x.nv with corrected := FMap.erase x.nv.corrected page }).want none (.refresh page) }, none)
      else ({ x with nv := { x.nv with corrected := FMap.insert x.nv.corrected page ts } }, none)

/-- NVS_SCRUB: a pass every SCRUB_H hours (R452). The last component lists the pages that the repair map takes. -/
def Nv.scrub (x : Nv) (fs : List (Nat × Nat)) : Nv × List Nat :=
  if x.io.up < x.nv.scrubAt + x.io.fld .nvs Reg.NVS_SCRUB_CFG 0 8 * 3600 * second then (x, [])
  else
    let r := fs.foldl (fun (r : Nv × List Nat) f =>
      let s := r.1.finding f.1 f.2
      (s.1, r.2 ++ s.2.toList)) (x, [])
    let x := { r.1 with nv := { r.1.nv with scrubAt := x.io.up } }
    let io := (x.io.setFld .nvs Reg.NVS_SCRUB_STAT 0 10 1000).addSat .nvs Reg.NVS_SCRUB_STAT 16 16 1
    ({ x with io := io }.run, r.2)

/-- The NV supply and the hold-up as the part sees them (R442, R453). -/
def Io.supply (io : Io) (mv : Nat) (holdup : Bool) : Io :=
  let io := io.setFld .nvs Reg.NVS_VDD 0 12 mv
  let io := io.setFlag .nvs Reg.NVS_STAT 4 holdup
  io.setFlag .nvs Reg.NVS_STAT 5 (decide (io.fld .nvs Reg.NVS_VDD_MIN 0 12 ≤ mv))

/-- POWER_LOSS: the page write that has started completes on the hold-up; those after it meet the low supply (R442). -/
def Nv.powerLoss (x : Nv) (mv : Nat) (holdup : Bool) : Nv :=
  let x := { x with io := x.io.supply mv holdup }
  x.land.run

/-- What a device-level reset leaves: the page write that has started is complete, everything queued is dropped (R90). -/
def Nvs.afterReset (n : Nvs) : Nvs :=
  let n := match n.running with
    | some (true, _) => n.flushing.foldl Nvs.program n
    | some (false, _) =>
      match n.jobs with
      | j :: _ =>
        match j.writes with
        | w :: _ => n.program w
        | [] => n
      | [] => n
    | none => n
  { n with jobs := [], running := none, buffer := none, flushing := [], held := [] }

/-! Checks of the queued commands (R446). -/

/-- `CMD_NV_READ` parameters lie inside the table. -/
def nvReadOk (mode target len : Nat) : Bool :=
  if mode = 0 then decide (1 ≤ len ∧ len ≤ 65536 ∧ target + len ≤ 0x100000) && !touchesKeys target len
  else if mode = 1 then decide (target < 64 ∧ len ≤ 236)
  else if mode = 2 then decide (target < 512)
  else if mode = 3 then decide (target < 65536 ∧ len ≤ 240)
  else false

/-- `CMD_NV_WRITE` parameters lie inside the table. -/
def nvWriteOk (mode target len : Nat) : Bool :=
  if mode = 0 then decide (1 ≤ len ∧ len ≤ 65536) && inUser target len
  else if mode = 1 then decide (8 ≤ target ∧ target < 64 ∧ len ≤ 236)
  else if mode = 2 then decide (480 ≤ target ∧ target < 512)
  else if mode = 3 then decide (target < 65536 ∧ len ≤ 240)
  else if mode = 4 then decide (target < 65536)
  else false

/-- What a `CMD_NV_WRITE` asks of the store; TYPE of a record is not among its parameters, so it is a free value. -/
def nvWriteKind (io : Io) (mode target : Nat) (data : List Byte) : NvKind :=
  if mode = 0 then .raw target data
  else if mode = 1 then .record target (io.freeNat 16) data
  else if mode = 2 then .counter target
  else if mode = 3 then .journal false target (some data)
  else .journal false target none

end Sys2Proof.Machine
end

