-- ==== Sys2Proof/Machine/KeyStore.lean ====
section
/-! DEFINITION. Key slots, lifecycle and entropy (ch. 19), beyond the page writes that the store runs for them. -/
namespace Sys2Proof.Machine

/-- The key in a slot, for its own use only (R462). -/
def Keys.key (ks : Keys) (use s : Nat) : Option (List Byte) :=
  (FMap.find ks.slots s).bind (fun k => if k.use = use then some k.key else none)

/-- The lifecycle state at start-up: the winning copy, overridden by the fuses (R467), and whether the record is to be restored. -/
def Nv.lcBoot (x : Nv) : Nat × Bool :=
  let fused := if x.ks.retired then 4 else if x.ks.blank then 1 else 0
  match (if x.nv.recType 0 = some 0x4C43 then x.nv.recPayload 0 else none) with
  | none => (fused, decide (x.nv.ever.contains 0 ∨ x.nv.ever.contains 1 ∨ fused ≠ 0))
  | some bs =>
    let st := leAt bs 0 1 % 8
    let flags := leAt bs 1 1
    let st := if flags.testBit 0 then flags / 16 % 8 else st
    if x.ks.retired then (4, decide (st ≠ 4)) else if x.ks.blank ∧ st = 0 then (1, true) else (st, false)

/-- The record reads DESTROYING (R468). -/
def Nvs.lcInterrupted (n : Nvs) : Bool :=
  match n.recPayload 0 with
  | some bs => (leAt bs 1 1).testBit 0
  | none => false

/-- The slots that the boot ROM loads, and those whose CHECK does not match (R458). -/
def Nvs.loadSlots (n : Nvs) : FMap KeySlot × List Nat :=
  let used := (List.range 512).filter n.slotMagic
  let good := used.filter n.slotSound
  (good.map (fun s => (s, { use := leNat (n.bytes (descAt s + 2) 1), volatile := false, key := n.slotKey s })),
    used.filter (fun s => !n.slotSound s))

/-- Step 2 of R101 for the key store: lifecycle, slots, entropy (R458, R467, R468, R470). -/
def Nv.bootKeys (x : Nv) (entropy : Bool) : Nv :=
  let lc := x.lcBoot
  let broken := x.nv.lcInterrupted
  let loaded := if broken ∨ lc.2 then ([], []) else x.nv.loadSlots
  let ks := { x.ks with
    slots := loaded.1, torn := loaded.2, restore := lc.2, destroying := broken || lc.2, fusing := false
    writes := (List.range 512).filterMap (fun s => if x.nv.slotMagic s then some (s, leNat (x.nv.bytes (descAt s + 4) 4)) else none)
    failed := !entropy, passes := 0, testAt := x.io.up }
  let bs := (x.nv.recPayload 0).getD []
  let target := if broken then leAt bs 1 1 / 16 % 8 else if lc.2 then lc.1 else 0
  let io := x.io.showLc lc.1 (broken || lc.2) target ks (leAt bs 4 4) (leAt bs 8 8)
  let io := io.showKeys ks
  let io := io.setFlag .keys Reg.KEYS_ENT_STAT 16 entropy
  let io := loaded.2.foldl (fun io s => io.recordErr .keys 0x1217 s) io
  let io := if lc.2 then io.recordOpen .keys 0x1219 else io
  let io := (List.range 12).foldl (fun io i =>
    io.put .keys (Reg.KEYS_ROOT + 4 * i) (Word.of (leNat (((beBytes 48 Config.rootHash.toNat).drop (4 * i)).take 4)))) io
  { x with io := io, ks := ks }

/-- Step 9 of R101 for the key store: torn descriptors are rewritten, interrupted transitions run on (R458, R467, R468). -/
def Nv.startKeys (x : Nv) : Nv :=
  let io := if x.ks.torn.isEmpty then x.io else x.io.raise .keys 3
  let io := if x.ks.restore then io.raise .keys 5 else io
  let nv := x.ks.torn.foldl (fun nv s => nv.want none (.empty s)) x.nv
  let nv := if x.ks.destroying then nv.want none (.lifecycle (io.fld .keys Reg.KEYS_LC_STAT 4 3) none) else nv
  { x with io := io, nv := nv, ks := { x.ks with torn := [] } }.run

/-- A fuse of a lifecycle transition has blown (R466 step 4). -/
def Nv.fuseBlown (x : Nv) : Nv :=
  if !x.ks.fusing then x
  else
    match x.nv.jobs.head? with
    | some j =>
      match j.kind with
      | .lifecycle target _ =>
        let ks := if target = 4 then { x.ks with retired := true, fusing := false } else { x.ks with blank := true, fusing := false }
        { x with ks := ks }.run
      | _ => x
    | none => x

/-- KEYS_SLOT_QUERY snapshots a slot (R472). `auth` tells whether a live AUTH handle names it. -/
def keysQuery (v : Word) (auth : Nat → Bool) (io : Io) (ks : Keys) : Io :=
  let ok := io.accepts .keys Reg.KEYS_SLOT_QUERY v
  let io := io.regWrite 0 .keys Reg.KEYS_SLOT_QUERY v
  if !ok then io
  else
    let s := bits v 0 9
    let w := match FMap.find ks.slots s with
      | some k => 1 + k.use * 2 + b2n k.volatile * 8
      | none => 0
    io.put .keys Reg.KEYS_SLOT_DATA
      (Word.of (w + b2n (io.slotInUse s || auth s) * 16 + sat 16 ((FMap.find ks.writes s).getD 0) * 2 ^ 16))

/-- A read of KEYS_RNG: 32 random bits, or 0 with the failure recorded while the source has failed (R471). -/
def rngRead (io : Io) (ks : Keys) : Io :=
  if ks.failed then (io.emit (.readData 0)).recordOpen .keys 0x1216
  else (io.emit (.readData (Word.of (io.freeNat 32)))).took

/-- ENTROPY_FAIL: the DRBG stops (R471). -/
def entropyFail (io : Io) (ks : Keys) : Io × Keys :=
  let ks := { ks with failed := true, passes := 0, testAt := io.up }
  let io := (io.addSat .keys Reg.KEYS_ENT_STAT 0 16 1).setFlag .keys Reg.KEYS_ENT_STAT 16 false
  (((io.recordOpen .keys 0x1216).raise .keys 4).showKeys ks, ks)

/-- ENTROPY_RETEST: every 1 s; three passes in a row clear the failure (R471). -/
def entropyRetest (pass : Bool) (io : Io) (ks : Keys) : Io × Keys :=
  if !ks.failed ∨ io.up < ks.testAt + second then (io, ks)
  else
    let ks := { ks with testAt := io.up, passes := if pass then ks.passes + 1 else 0 }
    if !pass then (io.addSat .keys Reg.KEYS_ENT_STAT 0 16 1, ks)
    else if ks.passes ≥ 3 then
      let ks := { ks with failed := false, passes := 0 }
      ((io.setFlag .keys Reg.KEYS_ENT_STAT 16 true).showKeys ks, ks)
    else (io, ks)

end Sys2Proof.Machine
end

