-- ==== Sys2Proof/WellFormed.lean ====
section
/-! DEFINITION. Which terms of Instr are commands at all: the lists among the operands have the shape that the spec gives them. -/
namespace Sys2Proof

/-- The operands of the command have the shape that the spec gives them: 60 channels in an evaluation (R404), 16 words in a submission entry (R61), a frame of at least one byte, an access of at least one byte that stays within the window (R444), at most 32 slots in a TDM frame (R385), 2,048 bytes in a transmit slot (R342). -/
def Instr.wellFormed : Instr → Bool
  | .regWrite _ _ _ => true
  | .pageEnable _ => true
  | .pageDisable _ => true
  | .pageDrain _ => true
  | .pageReset _ => true
  | .drainEnd _ _ => true
  | .drainForced _ _ => true
  | .errCodeClr _ => true
  | .evtForce _ _ => true
  | .evtPendClear _ _ => true
  | .pageLockSticky _ _ => true
  | .evtMapWrite _ _ => true
  | .msixUnmask _ _ => true
  | .commitGo => true
  | .commitSalvo => true
  | .commitDryRun _ => true
  | .commitValidationEnd _ => true
  | .latchLine _ _ => true
  | .frameBoundary _ _ => true
  | .rasterLine _ _ bad _ => bad.all (fun b => b.2.uncorrectable || decide (0 < b.2.corrected))
  | .packetTx _ _ => true
  | .loupeResult _ _ _ => true
  | .outcLpeRelearn _ _ => true
  | .legUpdate _ _ => true
  | .sqDoorbell _ _ => true
  | .cqDoorbell _ _ => true
  | .qpEnable _ _ _ => true
  | .qpDisable _ _ _ => true
  | .commandFetch _ entry _ => (entry.map (fun e => decide (e.length = 16))).getD true
  | .commandTimeout _ _ _ => true
  | .coalesceTimeout _ _ => true
  | .cmdNop _ _ => true
  | .cmdCommit _ _ => true
  | .cmdAbort _ _ => true
  | .cmdShadowWrite _ _ => true
  | .cmdShadowRead _ _ => true
  | .cmdSetOwner _ _ => true
  | .cmdEnable _ _ => true
  | .cmdDisable _ _ => true
  | .cmdFsAlloc _ _ => true
  | .cmdFree _ _ => true
  | .cmdFsMap _ _ => true
  | .cmdFence _ _ => true
  | .cmdLayerAlloc _ _ => true
  | .cmdLayerFree _ _ => true
  | .cmdFlowClaim _ _ => true
  | .cmdFlowRelease _ _ => true
  | .cmdNvRead _ _ => true
  | .cmdNvWrite _ _ data => decide (data.length ≤ 65536)
  | .cmdKeyWrite _ _ => true
  | .cmdLifecycle _ _ => true
  | .cmdFwLoad _ _ => true
  | .fwLoad => true
  | .fwImageFetched _ _ => true
  | .fwVerifyDone _ => true
  | .fwSecCommit _ => true
  | .powerOnReset => true
  | .perstAssert => true
  | .hotReset => true
  | .pf0Flr => true
  | .vfFlr _ => true
  | .bootRomStart _ _ _ => true
  | .hbmTrainingDone _ _ => true
  | .worideStart _ => true
  | .spareSelfTestDone _ _ => true
  | .fwTileUp _ _ => true
  | .activeSelfTestDone _ _ _ => true
  | .fwReady _ => true
  | .fwHeartbeatTick _ => true
  | .fwHeartbeatLost _ => true
  | .partnerArrived _ _ => true
  | .partnerDeparted _ _ => true
  | .pcsStagePass _ _ _ => true
  | .stageTimeout _ _ _ => true
  | .cdrLockLost _ _ => true
  | .blockLockLoss _ _ => true
  | .amLockLoss _ _ => true
  | .fecLoss _ _ => true
  | .pllLockLost _ _ => true
  | .sparePllResume _ _ => true
  | .laneRefLost _ _ => true
  | .adaptLimit _ _ => true
  | .laneEqRestart _ => true
  | .eqAdaptFreeze _ _ => true
  | .txSleep _ _ => true
  | .rxSleep _ _ => true
  | .wakeDone _ _ _ => true
  | .prbsInject _ => true
  | .prbsClear _ => true
  | .prbsCheckerLock _ _ _ => true
  | .prbsLockLost _ _ _ => true
  | .eyeScanStart _ => true
  | .eyeScanAbort _ => true
  | .eyeScanDone _ _ => true
  | .pcsCntClr _ => true
  | .pcsAnRestart _ => true
  | .anFail _ _ _ _ => true
  | .macRxFrame _ bytes _ _ _ => decide (0 < bytes.length)
  | .frameDiscard _ _ => true
  | .mirrorSeqLost _ _ => true
  | .mirrorSkew _ _ => true
  | .legLost _ _ _ => true
  | .seenReport _ _ _ => true
  | .membershipReport _ _ _ => true
  | .sievCntClr _ => true
  | .fpSwitch _ _ => true
  | .fpHoldTimeout _ _ => true
  | .fpRevert _ _ => true
  | .routCntClr => true
  | .apWrite _ _ bytes => decide (0 < bytes.length)
  | .fstrQuery _ => true
  | .fstrMapQuery _ => true
  | .fstrCntClr => true
  | .hbmScrub _ _ _ => true
  | .pchLost _ _ _ => true
  | .refresh2x _ celsius _ => decide (celsius ≤ 255)
  | .hbmcCntClr _ => true
  | .prsmCntClr _ => true
  | .estimationDone _ _ _ => true
  | .frcJobSel _ _ => true
  | .frcCntClr _ => true
  | .stockBuildDone _ _ _ _ => true
  | .compCntClr _ => true
  | .htxSend _ slot _ => decide (slot.length = 2048)
  | .scanCntClr _ => true
  | .loupCntClr => true
  | .macCntClr _ => true
  | .msecCntClr _ => true
  | .msecTxAnWrite _ _ => true
  | .ptpMessage _ _ _ => true
  | .ptpLocked _ => true
  | .announceTimeout _ _ => true
  | .ppsPulse _ => true
  | .ref10mPresent _ => true
  | .refLost _ _ => true
  | .ptpSet => true
  | .ppsArm => true
  | .ptpSourceWrite _ => true
  | .audioSample _ _ => true
  | .alignRegained _ _ => true
  | .audioChangePoint _ _ => true
  | .zcTimeout _ _ => true
  | .nonpcmMarkClear _ _ => true
  | .asrcLocked _ _ => true
  | .asrcRange _ _ _ => true
  | .audmCntClr => true
  | .asrcCntClr => true
  | .tdmFrameSync _ _ din _ => decide (din.length ≤ 32)
  | .tdmpRestart _ => true
  | .clockLost _ _ _ => true
  | .clockRestored _ _ => true
  | .tdmRateMeasure _ _ _ _ => true
  | .slotZcTimeout _ _ _ _ => true
  | .tdmpCntClr _ => true
  | .thermalEvaluate xs _ => decide (xs.length = 60)
  | .levelDown _ => true
  | .sensorRecovered _ _ => true
  | .thrmHardTrip _ _ => true
  | .pwrOffWrite _ _ => true
  | .pwrTileOffWrite _ => true
  | .domainOn _ _ => true
  | .domainOff _ _ => true
  | .lardSwap _ => true
  | .engineFailed _ _ => true
  | .istStep _ => true
  | .istNow => true
  | .istTestDone _ _ _ => true
  | .retiredEngineTestDone _ _ _ => true
  | .coreTakeover _ _ => true
  | .sramUncorr _ _ => true
  | .sramRepaired _ _ => true
  | .pktbufRepaired _ _ => true
  | .mapWriteFail _ => true
  | .wearHourTick _ => true
  | .lardMapQuery _ => true
  | .lardWearSel _ => true
  | .nvPageWriteDone _ _ => true
  | .nvWindowWrite off bytes => decide (0 < bytes.length) && decide (off.val + bytes.length ≤ 65536)
  | .nvWindowRead off len => decide (0 < len) && decide (off.val + len ≤ 65536)
  | .nvsFlush => true
  | .nvWindowIdle _ => true
  | .nvsWinTimeout _ => true
  | .nvsScrub _ _ => true
  | .nvsCntClr => true
  | .powerLoss _ _ _ => true
  | .keysRngRead => true
  | .keysSlotQuery _ => true
  | .entropyFail _ => true
  | .entropyRetest _ _ => true
  | .salvoActivation _ => true
  | .pcieLinkUp _ => true
  | .delayRequestTx _ => true
  | .asrcWithinRange _ _ _ => true
  | .laneRefRestored _ _ => true
  | .fuseBlowDone _ => true
  | .apRead _ _ len _ => decide (0 < len)
  | .coherentSnapshotRead _ _ => true

end Sys2Proof
end

