-- ==== Sys2Proof/Machine/Device.lean ====
section
/-! DEFINITION. The part as a whole: how the operations on one block act on it, how completions leave, and how the store's work goes on. -/
namespace Sys2Proof.Machine

/-- Act on the lanes. -/
def Dev.onSer (d : Dev) (f : Io → Ser → Io × Ser) : Dev := let r := f d.io d.ser; { d with io := r.1, ser := r.2 }
/-- Act on the servo. -/
def Dev.onPtp (d : Dev) (f : Io → Ptp → Io × Ptp) : Dev := let r := f d.io d.ptp; { d with io := r.1, ptp := r.2 }
/-- Act on the frame stores. -/
def Dev.onSt (d : Dev) (f : Io → Stores → Io × Stores) : Dev := let r := f d.io d.st; { d with io := r.1, st := r.2 }
/-- Act on the queues. -/
def Dev.onHq (d : Dev) (f : Io → Queues → Io × Queues) : Dev := let r := f d.io d.hq; { d with io := r.1, hq := r.2 }
/-- Act on the Sieves. -/
def Dev.onSv (d : Dev) (f : Io → Sieve → Io × Sieve) : Dev := let r := f d.io d.sv; { d with io := r.1, sv := r.2 }
/-- Act on the thermal block. -/
def Dev.onTherm (d : Dev) (f : Io → Thermal → Io × Thermal) : Dev := let r := f d.io d.therm; { d with io := r.1, therm := r.2 }
/-- Act on the power domains. -/
def Dev.onPower (d : Dev) (f : Io → Power → Io × Power) : Dev := let r := f d.io d.power; { d with io := r.1, power := r.2 }
/-- Act on the audio matrix. -/
def Dev.onAud (d : Dev) (f : Io → Audio → Io × Audio) : Dev := let r := f d.io d.aud; { d with io := r.1, aud := r.2 }
/-- Act on the TDM ports. -/
def Dev.onTdm (d : Dev) (f : Io → Tdm → Io × Tdm) : Dev := let r := f d.io d.tdm; { d with io := r.1, tdm := r.2 }
/-- Act on the keys. -/
def Dev.onKeys (d : Dev) (f : Io → Keys → Io × Keys) : Dev := let r := f d.io d.keys; { d with io := r.1, keys := r.2 }

/-- A command in flight completes (R63). -/
def Dev.complete (d : Dev) (q tag : Nat) (r : Reply) : Dev := d.onHq (Sys2Proof.Machine.complete q tag r)

/-- Work that may have come from a command completes it. -/
def Dev.reply (d : Dev) (src : Option (Nat × Nat)) (r : Reply) : Dev :=
  match src with
  | some s => d.complete s.1 s.2 r
  | none => d

/-- A notice to a function (R86). -/
def Dev.notice (d : Dev) (fn code lo : Nat) : Dev := d.onHq (Sys2Proof.Machine.notice fn code lo)

/-- A command has passed its commit point (R60, R76). -/
def Dev.past (d : Dev) (src : Option (Nat × Nat)) : Dev :=
  match src with
  | some s => { d with hq := d.hq.upd s.1 s.2 (fun c => { c with past := true }) }
  | none => d

/-- The command whose page writes run has passed its commit point, which is the start of its first page write (R446). -/
def Dev.markNv (d : Dev) : Dev :=
  match d.nvs.jobs.head?, d.nvs.running with
  | some j, some (false, _) => d.past j.src
  | _, _ => d

/-- Repair-map entries that the store does not hold yet (R434). -/
def Dev.countMap (d : Dev) : Dev :=
  if d.lard.unwritten = 0 then d
  else
    let left := d.lard.map.zipIdx.filter (fun e => decide (d.nvs.jrnValue true e.2 ≠ some e.1.bytes))
    let ld := { d.lard with unwritten := left.length }
    { d with lard := ld, io := d.io.put .lard Reg.LARD_MAP_COUNT (Word.of (ld.map.length + ld.unwritten * 2 ^ 16)) }

/-- Act on the store and the keys; what completes there is delivered. -/
def Dev.onNv (d : Dev) (f : Nv → Nv) : Dev :=
  let x := f { io := d.io, nv := d.nvs, ks := d.keys, done := [] }
  let d := { d with io := x.io, nvs := x.nv, keys := x.ks }
  (x.done.foldl (fun (d : Dev) r => d.complete r.1.1 r.1.2 r.2) d).markNv.countMap

/-- Act on the Larder; what it asks of the store starts there. -/
def Dev.onLar (d : Dev) (f : Lar → Lar) : Dev :=
  let x := f { io := d.io, ld := d.lard, nv := d.nvs }
  let d := { d with io := x.io, lard := x.ld, nvs := x.nv }
  if d.nvs.jobs.isEmpty then d else d.onNv Nv.run

/-- A page of the store that a spare page replaced enters the repair map as KIND 7 (R434, R452). -/
def Dev.repairPages (d : Dev) (pages : List Nat) : Dev :=
  pages.foldl (fun d p => d.onLar (fun x => x.repair 7 0 p)) d

/-- The key that a MACsec association names (R159, R462). -/
def Dev.macKey (d : Dev) : Nat → Option (List Byte) := d.keys.key 0

/-- The boot ROM has started and no reset is in force. -/
def Dev.booted (d : Dev) : Bool := !d.boot.inReset && d.boot.rom

end Sys2Proof.Machine
end

