-- ==== Sys2Proof/Machine/Boot.lean ====
section
/-! DEFINITION. Resets, the boot ROM, the firmware download and the start-up sequence (ch. 4). -/
namespace Sys2Proof.Machine

/-! Device-level resets (R89, R90). -/

/-- A device-level reset: everything but the always-on domain, the fuses and the non-volatile contents returns to its reset value; a power-on reset takes the always-on domain too (R89, R90). Cause 0 power-on, 1 PERST#, 2 hot reset, 3 PF0 FLR. -/
def Dev.resetAs (d : Dev) (cause : Nat) : Dev :=
  let on := decide (cause = 0)
  let io := { Io.reset with up := if on then 0 else d.io.up, freeCtr := d.io.freeCtr, out := d.io.out }
  let io := if on then io else io.put .thrm Reg.THRM_TRIP_LOG (d.io.reg .thrm Reg.THRM_TRIP_LOG)
  let io := io.put .fw Reg.FW_RESET_CAUSE (Word.of cause)
  let io := if d.io.level ≥ 1 then io.emit (.pin pinAlert true) else io
  let io := if on ∧ d.therm.trip then io.emit (.pin pinTrip true) else io
  let nvs := d.nvs.afterReset
  { Dev.reset with
    io := io
    nvs := if on then { nvs with corrected := [], scrubAt := 0 } else nvs
    keys := { Keys.reset with blank := d.keys.blank, retired := d.keys.retired }
    therm := if on then Thermal.reset else d.therm
    boot := { Boot.reset with secMin := d.boot.secMin, inReset := decide (cause ≠ 3), start := io.up } }

/-! The firmware image (R94, R97). -/

/-- An entry of the section table: offset, length, load offset, type. -/
structure Section where
  off : Nat
  len : Nat
  load : Nat
  typ : Nat

/-- The section table of an image. -/
def imageSections (img : List Byte) : List Section :=
  (List.range (leAt img 0x14 2)).map fun i =>
    let a := 0x140 + 12 * i
    { off := leAt img a 4, len := leAt img (a + 4) 4, load := leAt img (a + 8) 4 % 2 ^ 23, typ := leAt img (a + 8) 4 / 2 ^ 28 }

/-- A section lies within the image and its load range within the window. -/
def Section.ok (s : Section) (total : Nat) : Bool :=
  decide (s.typ ≤ 2) && decide (s.load + s.len ≤ 2 ^ 23) &&
  (decide (s.typ = 2) || (decide (0x200 ≤ s.off) && decide (s.off % 4 = 0) && decide (s.off + s.len ≤ total)))

/-- Two load ranges overlap. -/
def Section.overlaps (a b : Section) : Bool :=
  decide (a.load < b.load + b.len) && decide (b.load < a.load + a.len)

/-- No two sections of a table overlap in the window. -/
def sectionsApart : List Section → Bool
  | [] => true
  | s :: ss => ss.all (fun t => !s.overlaps t) && sectionsApart ss

/-- The first of checks 2 to 6 that an image of the given length fails (R97). -/
def headerCode (img : List Byte) (len secMin : Nat) : Option Nat :=
  let total := leAt img 0x10 4
  let n := leAt img 0x14 2
  if leAt img 0 4 ≠ 0x574F5249 ∨ leAt img 4 2 ≠ 1 then some 0x0310
  else if leAt img 6 2 ≠ 0x8128 then some 0x0311
  else if total ≠ len ∨ total > 8388608 then some 0x0312
  else if n < 1 ∨ n > 16 ∨ !(imageSections img).all (fun s => s.ok total) ∨ !sectionsApart (imageSections img) then some 0x0313
  else if leAt img 0xC 4 < secMin then some 0x0317
  else none

/-- The first of checks 7 to 10 that an image fails; `cosign` is the co-signing key, if one is provisioned (R97). -/
def verifyCode (img : List Byte) (cosign : Option (List Byte)) : Option Nat :=
  let key := (img.drop 0x50).take 97
  let badCosign := match cosign with
    | some k => decide (leAt img 0x16 2 % 2 = 0)
        || decide ((Config.hmacSha256 k (img.take 0x120)).toNat ≠ beNat ((img.drop 0x120).take 32))
    | none => false
  if Config.sha384 key ≠ Config.rootHash then some 0x0314
  else if !Config.ecdsaVerify key (Config.sha384 (img.take 0xC0)) ((img.drop 0xC0).take 96) then some 0x0315
  else if badCosign then some 0x0318
  else if (Config.sha384 (img.drop 0x200)).toNat ≠ beNat ((img.drop 0x20).take 48) then some 0x0316
  else none

/-- What the firmware window holds of an image: code and data sections, and zero-fill. -/
def imageWindow (img : List Byte) : List (Nat × List Byte) :=
  (imageSections img).map fun s =>
    (s.load, if s.typ = 2 then List.replicate s.len (0 : Byte) else (img.drop s.off).take s.len)

/-! Loading (R95 to R99). -/

/-- FW_STAT.STATE takes a value. -/
def Io.setFw (io : Io) (s : Nat) : Io := io.setFld .fw Reg.FW_STAT 0 4 s

/-- Milliseconds since the instant of R89, saturating at 0xFFFF (R106). -/
def Dev.bootMs (d : Dev) : Nat := sat 16 ((d.io.up - d.boot.start) / 1000000)

/-- Why a load is refused in the present state (R99). -/
def Io.loadRefusal (io : Io) : Option Nat :=
  if io.fwState = 1 ∨ io.fwState = 2 then some 0x031A else if io.fwState = 0 then none else some 0x031B

/-- A load starts (R95 step 3). -/
def Dev.startLoad (d : Dev) (addr len : Nat) (src : Option (Nat × Nat)) : Dev :=
  let io := (d.io.setFw 1).setFld .fw Reg.FW_BOOT_MS 0 16 d.bootMs
  { d with io := io, boot := { d.boot with load := some (addr, len, src), image := [], window := [] } }

/-- An image fails a check: the window is zeroed, the code is recorded, event bit 3, WAIT_IMAGE (R98). -/
def Dev.imageRejected (d : Dev) (code : Nat) : Dev :=
  let io := ((d.io.recordOpen .fw code).raise .fw 3).setFw 0
  { d with io := io, boot := { d.boot with load := none, image := [], window := [] } }

/-- The image has been read into the window, or a read of it failed (R97 checks 1 to 6). -/
def Dev.imageFetched (d : Dev) (image : Option (List Byte)) : Dev :=
  match d.boot.load with
  | none => d
  | some (_, len, src) =>
    if d.io.fwState ≠ 1 then d
    else
      let img := (image.map (padTo len)).getD []
      let code := match image with
        | none => some 0x031C
        | some _ => headerCode img len d.boot.secMin
      match code with
      | some c => (d.imageRejected c).reply src (Reply.rejected c)
      | none =>
        let d := { d with io := d.io.setFw 2, boot := { d.boot with image := img } }
        d.past src

/-- Verification ends: the image is accepted or zeroed, and the command completes either way (R96, R98). -/
def Dev.verified (d : Dev) : Dev :=
  match d.boot.load with
  | none => d
  | some (_, _, src) =>
    if d.io.fwState ≠ 2 then d
    else
      let img := d.boot.image
      let ver := leAt img 8 4
      let sec := leAt img 0xC 4 % 64
      let cosign := d.keys.cosign.bind (d.keys.key 2)
      match verifyCode img cosign with
      | some c => (d.imageRejected c).reply src { status := 0, code := c, hi := sec, lo := ver }
      | none =>
        let io := ((d.io.put .fw Reg.FW_IMG_VER (Word.of ver)).put .fw Reg.FW_SEC_VER (Word.of sec)).setFw 3
        let boot := { d.boot with load := none, window := imageWindow img, accepted := true }
        ({ d with io := io.raise .fw 2, boot := boot }).reply src { status := 0, code := 0, hi := sec, lo := ver }

/-- FW_CTL.LOAD: a refused load is ignored and recorded (R99). -/
def Dev.loadWrite (d : Dev) : Dev :=
  match d.io.loadRefusal with
  | some c => d.onIo (fun io => io.recordOpen .fw c)
  | none => d.startLoad (d.io.wide .fw Reg.FW_IMG_ADDR_LO) (d.io.reg .fw Reg.FW_IMG_LEN).toNat none

/-- FW_SEC_COMMIT: only at READY, with the value of FW_SEC_VER, above FW_SEC_MIN (R100). -/
def Dev.secCommit (d : Dev) (v : Word) : Dev :=
  let n := bits v 0 6
  if d.io.fwState = 6 ∧ n = (d.io.reg .fw Reg.FW_SEC_VER).toNat ∧ (d.io.reg .fw Reg.FW_SEC_MIN).toNat < n then
    { d with boot := { d.boot with blowing := some n } }
  else d.onIo (fun io => io.ignored .fw Reg.FW_SEC_COMMIT 0)

/-! The boot ROM (R92, R413, R434). -/

/-- The repair map as the store holds it, entry after entry. -/
def Nvs.storedMap (n : Nvs) : Nat → Nat → List Repair
  | _, 0 => []
  | i, k + 1 =>
    match n.jrnValue true i with
    | none => []
    | some bs =>
      { kind := leAt bs 0 4 % 16, state := leAt bs 0 4 / 16 % 4, location := leAt bs 4 4, time := leAt bs 8 4 } :: n.storedMap (i + 1) k

/-- The boot ROM turns every soft entry hard (R434). -/
def Repair.harden (r : Repair) : Repair := if r.state = 0 then { r with state := 1 } else r

/-- The locations of a kind recorded as failed. -/
def failedOf (m : List Repair) (kind : Nat) : List Nat :=
  (m.filter (fun r => decide (r.kind = kind ∧ r.state = 2))).map (·.location)

/-- Spare banks that entries of a kind have used up. -/
def banksOf (m : List Repair) (kind : Nat) : List Nat := (m.filter (fun r => r.kind = kind)).map (·.location)

/-- The die of a packet-buffer bank: bit 15 of its location (a layout of this model's own). -/
def pktDie (location : Nat) : Bool := location.testBit 15

/-- HBM rows that entries of KIND 6 name: stack, pseudo-channel, bank, row (R434). -/
def rowsOfMap (m : List Repair) : List (Nat × Nat × Nat × Nat) :=
  (m.filter (fun r => r.kind = 6)).map fun r =>
    (r.location % 4, r.location / 4 % 32, r.location / 128 % 64, r.location / 8192 % 262144)

/-- The boot ROM may move on from step 2: there was no critical shutdown, or every counting channel has read below CRIT less HYST for 1 s (R413). -/
def Dev.mayBoot (d : Dev) : Bool :=
  !d.therm.trip ||
  (match d.therm.cool with
  | some s => decide (s + second ≤ d.io.up)
  | none => false)

/-- Pages that work from the boot ROM's steps on. -/
def earlyPages : List PageRef := [.top, .hq, .evt, .fw, .pcie, .thrm, .pwr, .nvs, .keys]
/-- Pages that Woride enables before READY. -/
def readyPages : List PageRef := [.hbmc 0, .hbmc 1, .hbmc 2, .hbmc 3, .fstr, .loup, .rout, .lard]

/-- A page that the part itself enables reads as enabled and running. -/
def Io.opened (io : Io) (p : PageRef) : Io := (io.put p Reg.PAGE_CTL 1).setState p 2

/-- BOOT_ROM_START: fuses, lifecycle record, repair map, SRAM repairs, hash key (R92). A start-up failure of the entropy source ends in FAULT (R470). `mv` is the supply of the store, `entropy` whether the start-up tests of the entropy source pass (R470). -/
def Dev.bootRom (d : Dev) (mv : Nat) (entropy : Bool) : Dev :=
  if d.boot.rom ∨ !d.mayBoot then d
  else
    let start := if d.boot.inReset then d.io.up else d.boot.start
    let d := if d.therm.trip then
        { d with therm := { d.therm with trip := false, critAt := none }, io := (d.io.put .thrm Reg.THRM_STAT 0).emit (.pin pinTrip true) }
      else d
    let io := earlyPages.foldl Io.opened d.io
    let io := io.put .fw Reg.FW_SEC_MIN (Word.of d.boot.secMin)
    let io := io.supply mv true
    let key := io.freeNat 64
    let io := io.took
    let m := (d.nvs.storedMap 0 4096).map Repair.harden
    let cores := failedOf m 1
    let rom := ((List.range 9).find? (fun c => !cores.contains c)).getD 0
    let io := io.setFlag .fw Reg.FW_ST_SUMMARY 17 (decide (rom ≠ 0))
    let io := (List.range 9).foldl (fun io c => io.setFld .lard (Reg.LARD_CORE + 4 * c) 0 2 (if cores.contains c then 2 else 0)) io
    let io := io.put .lard Reg.LARD_MAP_COUNT (Word.of m.length)
    let pkt := banksOf m 5
    let lard := { d.lard with
      map := m, sram := 16 - (banksOf m 3).length
      pkt0 := 4 - (pkt.filter (fun l => !pktDie l)).length, pkt1 := 4 - (pkt.filter pktDie).length }
    let boot := { d.boot with
      rom := true, inReset := false, start := start, hashKey := key, bad := failedOf m 0, badPll := failedOf m 2 }
    let d := { d with io := io, lard := lard, boot := boot, st := { d.st with repaired := rowsOfMap m } }
    let d := d.onNv (fun x => x.bootKeys entropy)
    if entropy then d else d.onIo (fun io => ((io.setFw 8).recordOpen .keys 0x1216).raise .keys 4)

/-- PCIE_LINK_UP: configuration requests are answered; a hot-reset or link-down condition ends (R89, R101). Before PERST# deasserts no link can train. -/
def Dev.linkUp (d : Dev) : Dev :=
  if d.io.reg .fw Reg.FW_RESET_CAUSE = 2 ∧ d.boot.inReset then
    { d with boot := { d.boot with inReset := false, link := true, start := d.io.up } }
  else if d.boot.inReset then d
  else { d with boot := { d.boot with link := true } }

/-- TRAINED of every stack but one that cannot be trained (R217). -/
def Io.showTrained (io : Io) (failed : Option (Fin 4)) : Io :=
  ((List.finRange 4).filter (fun k => decide (failed ≠ some k))).foldl (fun io k => io.setFlag (.hbmc k) Reg.HBMC_STAT 0 true) io

/-- HBM training ends, or some stack cannot be trained or repaired (R101 step 5, R104). -/
def Dev.hbmTrained (d : Dev) (failed : Option (Fin 4)) : Dev :=
  if !d.boot.rom ∨ d.io.flag .fw Reg.FW_STAT 4 ∨ d.io.halted then d
  else
    let d := d.onIo (fun io => io.showTrained failed)
    match failed with
    | none => d.onIo (fun io => io.setFlag .fw Reg.FW_STAT 4 true)
    | some _ => { d with io := ((d.io.recordOpen .fw 0x031D).setFw 8).raise .fw 7, boot := { d.boot with load := none } }

/-- The eight lowest-numbered good cores become active, the ninth the spare (R92). -/
def Io.startCores (io : Io) : Io :=
  let reg := fun c => Reg.LARD_CORE + 4 * c
  let good := (List.range 9).filter (fun c => io.fld .lard (reg c) 0 2 ≠ 2)
  let io := (good.take 8).foldl (fun io c => io.setFld .lard (reg c) 0 2 0) io
  ((good.drop 8).foldl (fun io c => io.setFld .lard (reg c) 0 2 1) io).showCores

/-- WORIDE_START: step 9, after the later of training and verification (R101). Hardened map entries are written back, torn key slots and an interrupted transition are taken up. -/
def Dev.worideStart (d : Dev) : Dev :=
  if !d.boot.accepted ∨ d.boot.woride ∨ !d.io.flag .fw Reg.FW_STAT 4 ∨ d.io.fwState ≠ 3 then d
  else
    let io := ((d.io.setFw 4).raise .fw 4).startCores
    let d := { d with io := io, boot := { d.boot with woride := true, beatAt := io.up } }
    let stale := d.lard.map.zipIdx.filter (fun e => decide (d.nvs.jrnValue true e.2 ≠ some e.1.bytes))
    let nvs := stale.foldl (fun (n : Nvs) e => n.want none (.journal true e.2 (some e.1.bytes))) d.nvs
    { d with nvs := nvs, lard := { d.lard with unwritten := stale.length } }.onNv Nv.startKeys

/-! Self-tests and bring-up (R101 steps 10 to 13, R104). -/

/-- The good engines of a tile in slot order: the first eight are active, the ninth is the spare. -/
def Boot.goodOf (b : Boot) (t : Nat) : List Nat := ((List.range 9).map (fun s => 9 * t + s)).filter (fun e => !b.bad.contains e)

/-- A failure of the self-test enters the repair map as failed and, for an engine or a core, is counted (R104, R435). -/
def Dev.testFailed (d : Dev) (kind location : Nat) (unit : Option Nat) : Dev :=
  d.onLar (fun x =>
    let x := x.repair kind 2 location
    match unit with
    | some u => x.wear u 1
    | none => x)

/-- Advance a field of FW_ST_SUMMARY. -/
def Io.summary (io : Io) (lo len n : Nat) : Io := io.addSat .fw Reg.FW_ST_SUMMARY lo len n

/-- The self-test of the spares ends (R101 step 10). -/
def Dev.sparesTested (d : Dev) (f : SpareFailures) : Dev :=
  if d.io.fwState ≠ 4 then d
  else
    let spares := (List.range 16).flatMap (fun t => (d.boot.goodOf t).drop 8)
    let bad := (f.engines.map (·.val)).eraseDups.filter spares.contains
    let plls := (f.plls.map (·.val)).eraseDups.filter (fun q => !d.boot.badPll.contains q)
    let core := (List.range 9).find? (fun c => f.core && decide (d.io.fld .lard (Reg.LARD_CORE + 4 * c) 0 2 = 1))
    let banks := min f.sram.val d.lard.sram + min f.pkt0.val d.lard.pkt0 + min f.pkt1.val d.lard.pkt1
    let degraded := !bad.isEmpty || !plls.isEmpty || core.isSome || decide (banks > 0)
    let io := (d.io.setFlag .fw Reg.FW_STAT 5 true).setFw 5
    let io := if degraded then io.setFlag .fw Reg.FW_STAT 8 true else io
    let io := (io.summary 8 8 bad.length).summary 18 7 (plls.length + banks)
    let io := match core with
      | some c => ((io.setFld .lard (Reg.LARD_CORE + 4 * c) 0 2 2).setFlag .fw Reg.FW_ST_SUMMARY 16 true).showCores
      | none => io
    let lard := { d.lard with sram := d.lard.sram - f.sram.val, pkt0 := d.lard.pkt0 - f.pkt0.val, pkt1 := d.lard.pkt1 - f.pkt1.val }
    let d := { d with io := io, lard := lard, boot := { d.boot with bad := d.boot.bad ++ bad, badPll := d.boot.badPll ++ plls } }
    let d := bad.foldl (fun d e => d.testFailed 0 e (some e)) d
    let d := plls.foldl (fun d q => d.testFailed 2 q none) d
    match core with
    | some c => d.testFailed 1 c (some (144 + c))
    | none => d

/-- A tile's bring-up ends: its bit of TILE_UP, its PLLs lock, its ring oscillator is calibrated (R101 step 11, R404). Tiles of a die come up in ascending order. -/
def Dev.tileUp (d : Dev) (t : Fin 16) : Dev :=
  let up := fun (k : Nat) => d.io.flag .fw Reg.FW_STAT (16 + k)
  if d.io.fwState ≠ 5 ∨ up t.val ∨ (t.val % 8 ≠ 0 ∧ !up (t.val - 1)) then d
  else
    let io := (d.io.setFlag .fw Reg.FW_STAT (16 + t.val) true).raise .fw 4
    let io := if d.ser.refLost.contains (t.val / 4) then io else [2 * t.val, 2 * t.val + 1].foldl (fun io q => io.pllBack q false) io
    let c := d.therm.calibrated
    { d with io := io, therm := { d.therm with calibrated := if c.contains t.val then c else t.val :: c } }

/-- The self-test of a tile's active engines ends; bit s of `failed` names slot s (R101 step 12, R104). -/
def Dev.activeTested (d : Dev) (t : Fin 16) (failed : BitVec 9) : Dev :=
  if d.io.fwState ≠ 5 ∨ !d.io.flag .fw Reg.FW_STAT (16 + t.val) ∨ d.boot.tested.contains t.val then d
  else
    let bad := ((d.boot.goodOf t.val).take 8).filter (fun e => failed.toNat.testBit (e % 9))
    let tested := t.val :: d.boot.tested
    let io := (d.io.summary 0 8 bad.length).setFlag .fw Reg.FW_STAT 6 (decide (tested.length = 16))
    let d := { d with io := io, boot := { d.boot with tested := tested, bad := d.boot.bad ++ bad } }
    bad.foldl (fun d e => d.testFailed 0 e (some e)) d

/-- FW_READY: the engine map and the admission limits are set, VF fetching opens (R101 step 13, R104). -/
def Dev.fwReady (d : Dev) : Dev :=
  if d.io.fwState ≠ 5 ∨ !d.io.flag .fw Reg.FW_STAT 6 then d
  else
    let io := readyPages.foldl Io.opened d.io
    let io := (io.setFw 6).setFlag .fw Reg.FW_STAT 7 true
    let io := if (startMap (fun e => !d.boot.bad.contains e)).length < 128 then io.setFlag .fw Reg.FW_STAT 8 true else io
    let io := io.setFld .fw Reg.FW_BOOT_MS 16 16 d.bootMs
    let d := { d with io := io.raise .fw 5, lard := { d.lard with hourAt := io.up, stepAt := some io.up } }
    d.onLar (fun x => x.startUp d.boot.bad)

/-! The heartbeat (R105). -/

/-- Woride advances the heartbeat every 10 ms. -/
def Dev.heartbeat (d : Dev) : Dev :=
  if !d.boot.woride ∨ d.io.halted ∨ d.io.up < d.boot.beatAt + 10000000 then d
  else
    { d with io := d.io.put .fw Reg.FW_HEARTBEAT (d.io.reg .fw Reg.FW_HEARTBEAT + 1), boot := { d.boot with beatAt := d.io.up } }

/-- Nothing further completes and no commit waits: the commands in flight are lost (R105). -/
def Dev.loseCommands (d : Dev) : Dev := { d with hq := { d.hq with cmds := [], waiting := [] }, com := { d.com with queue := [] } }

/-- The heartbeat has not advanced for 100 ms: FAILED (R105). -/
def Dev.heartbeatLost (d : Dev) : Dev :=
  if !d.boot.woride ∨ d.io.halted ∨ d.io.up < d.boot.beatAt + 100000000 then d
  else { d with io := ((d.io.setFw 7).recordOpen .fw 0x031E).raise .fw 6 }.loseCommands

/-- A one-time fuse has blown: the security minimum rises, or a lifecycle transition moves on (R100, R466). -/
def Dev.fuseBlown (d : Dev) : Dev :=
  match d.boot.blowing with
  | some n => { d with io := d.io.put .fw Reg.FW_SEC_MIN (Word.of n), boot := { d.boot with secMin := n, blowing := none } }
  | none => d.onNv Nv.fuseBlown

end Sys2Proof.Machine
end

