-- ==== Sys2Proof/Machine/Ptp.lean ====
section
/-! DEFINITION. The PTP servo and the time base (R150 to R157). -/
namespace Sys2Proof.Machine

/-- One second of the system counter, in nanoseconds. -/
def nsPerSec : Nat := 1000000000

/-- PTP_STAT.STATE (R154). -/
def Io.ptpState (io : Io) : Nat := io.fld .ptp Reg.PTP_STAT 0 3

/-- Enter a servo state (R154). -/
def Io.setPtpState (io : Io) (s : Nat) : Io := io.setFld .ptp Reg.PTP_STAT 0 3 s

/-- PTP_CTL.SOURCE. -/
def Io.ptpSource (io : Io) : Nat := io.fld .ptp Reg.PTP_CTL 0 2

/-- The port the servo listens to at present (R154). -/
def Io.ptpPort (io : Io) : Nat :=
  if io.flag .ptp Reg.PTP_STAT 3 then io.fld .ptp Reg.PTP_PORT_SEL 8 7 else io.fld .ptp Reg.PTP_PORT_SEL 0 7

/-- A step of the time base by a signed number of nanoseconds (R155). -/
def Io.stepTime (io : Io) (by_ : Int) : Io :=
  let io := { io with now := (Int.ofNat io.now + by_).toNat }
  let v := clampInt (-(2 ^ 31)) (2 ^ 31 - 1) by_
  (io.put .ptp Reg.PTP_STEP_LAST (Word.of (unsigned 32 v))).raise .ptp 5

/-- Enter ACQUIRING: the servo may step once more (R154). -/
def acquire (io : Io) (ptp : Ptp) : Io × Ptp :=
  (io.setPtpState 2, { ptp with stepped := false, outliers := 0, jumps := 0 })

/-- The master that the port in use follows. -/
def Ptp.followed (ptp : Ptp) (onBackup : Bool) : Option PtpMaster := if onBackup then ptp.backup else ptp.primary

/-- The default best-master comparison: `a` is better than `b` (R152). -/
def betterMaster (a b : PtpMaster) : Bool :=
  let ka := [a.priority1, a.clockClass, a.accuracy, a.variance, a.priority2, a.identity.toNat]
  let kb := [b.priority1, b.clockClass, b.accuracy, b.variance, b.priority2, b.identity.toNat]
  decide (ka < kb)

/-- The master to follow once `m` has been heard: the same clock's new data, or the better of the two. -/
def pickMaster (old : Option PtpMaster) (m : PtpMaster) : PtpMaster :=
  match old with
  | none => m
  | some o => if o.identity = m.identity then m else if betterMaster m o then m else o

/-- Show the grandmaster, and raise GM_CHANGED when it differs from the one before (R154). -/
def Io.showMaster (io : Io) (old : Option PtpMaster) (m : PtpMaster) : Io :=
  let io := io.putWide .ptp Reg.PTP_GM_ID_LO m.identity.toNat
  match old with
  | some o => if o.identity = m.identity then io else io.raise .ptp 4
  | none => io

/-- The UTC offset that an Announce carries (R163). -/
def Io.showUtc (io : Io) (m : PtpMsg) : Io :=
  let v := Word.of (unsigned 16 m.utcOffset + b2n m.utcValid * 2 ^ 16)
  let changed := decide (io.fld .ptp Reg.PTP_UTC_OFFSET 0 16 ≠ bits v 0 16) && io.flag .ptp Reg.PTP_UTC_OFFSET 16
  let io := io.put .ptp Reg.PTP_UTC_OFFSET v
  if changed then io.raise .ptp 8 else io

/-- An Announce is accepted on the primary or the backup port (R154). -/
def announce (onBackupPort : Bool) (m : PtpMsg) (io : Io) (ptp : Ptp) : Io × Ptp :=
  let usingBackup := io.flag .ptp Reg.PTP_STAT 3
  let old := ptp.followed onBackupPort
  let best := pickMaster old m.master
  let ptp := if onBackupPort then { ptp with backup := some best } else { ptp with primary := some best }
  if usingBackup = onBackupPort then
    let io := (io.showMaster old best).showUtc m
    if io.ptpState = 5 ∨ io.ptpState = 4 then acquire io ptp else (io, ptp)
  else if io.ptpState = 5 ∨ io.ptpState = 4 then
    let io := (io.setFlag .ptp Reg.PTP_STAT 3 onBackupPort).showMaster none best
    acquire io ptp
  else (io, ptp)

/-- The servo follows its filter, whose output the manual leaves open: filtered offset and frequency correction take free values. -/
def Io.slew (io : Io) : Io := (io.setFree .ptp Reg.PTP_OFFSET 0 32).setFree .ptp Reg.PTP_FREQ_ADJ 0 32

/-- An offset sample reaches the servo (R153, R154). -/
def offsetSample (off : Int) (io : Io) (ptp : Ptp) : Io × Ptp :=
  if io.ptpState = 2 then
    if off.natAbs > 1000000 ∧ ptp.stepped = false then (io.stepTime (-off), { ptp with stepped := true })
    else (io.slew, ptp)
  else if io.ptpState = 3 then
    let est := signed 32 (io.reg .ptp Reg.PTP_OFFSET).toNat
    if (off - est).natAbs > 1000 then
      if ptp.outliers + 1 ≥ 16 then
        let (io, ptp) := acquire io ptp
        (io.raise .ptp 3, ptp)
      else (io, { ptp with outliers := ptp.outliers + 1 })
    else (io.slew, { ptp with outliers := 0 })
  else (io, ptp)

/-- A Sync, or a Sync with its Follow_Up, gives receive time less origin time (R152). -/
def syncTimes (rx : Nat) (m : PtpMsg) (corr : Int) (io : Io) (ptp : Ptp) : Io × Ptp :=
  let d := Int.ofNat rx - Int.ofNat (m.seconds * nsPerSec + m.nanos) - corr
  offsetSample (d - Int.ofNat (io.reg .ptp Reg.PTP_MEAN_PATH).toNat) io { ptp with skew := d, sync := none }

/-- Grounds on which a message is dropped and counted (R153), the Follow_Up and response grounds included. -/
def ptpDropped (m : PtpMsg) (io : Io) (ptp : Ptp) : Bool :=
  decide (m.version ≠ 2) || decide (m.domain ≠ io.fld .ptp Reg.PTP_PROFILE 0 8) || !m.lengthOk ||
  decide (m.kind = .unknown) || decide (m.nanos ≥ nsPerSec) || decide (m.correction < 0 ∨ m.correction > 1000000) ||
  (decide (m.kind = .followUp) &&
    (match ptp.sync with
     | some (q, t, _) => decide (q = m.seq) && decide (io.now > t + 100000000)
     | none => false)) ||
  (decide (m.kind = .delayResp ∨ m.kind = .pdelayResp) &&
    !ptp.requests.any (fun r => decide (r.1 = m.seq) && decide (io.now ≤ r.2 + nsPerSec)))

/-- A port delivers PTP messages: its link is up and its tile's Sieve runs (R157). -/
def Io.deliversPtp (io : Io) (p : Fin 128) : Bool :=
  decide (io.stage p = 9) && io.running (.siev (Fin.ofNat 16 (p / 8)))

/-- A response to a request of the slave gives the mean path delay (R152). -/
def pathResponse (m : PtpMsg) (io : Io) (ptp : Ptp) : Io × Ptp :=
  match ptp.requests.find? (fun r => decide (r.1 = m.seq)) with
  | none => (io, ptp)
  | some r =>
    let d : Int :=
      if m.kind = .delayResp then
        (ptp.skew + (Int.ofNat (m.seconds * nsPerSec + m.nanos) - Int.ofNat r.2 - m.correction)) / 2
      else (Int.ofNat io.now - Int.ofNat r.2 - m.correction) / 2
    (io.put .ptp Reg.PTP_MEAN_PATH (Word.of d.toNat), { ptp with requests := ptp.requests.erase r })

/-- A PTP message arrives on a port (R153, R154). -/
def ptpMessage (p : Fin 128) (m : PtpMsg) (io : Io) (ptp : Ptp) : Io × Ptp :=
  let prim := decide (io.fld .ptp Reg.PTP_PORT_SEL 0 7 = p.val)
  let back := io.flag .ptp Reg.PTP_PORT_SEL 15 && decide (io.fld .ptp Reg.PTP_PORT_SEL 8 7 = p.val)
  if io.ptpState = 0 || io.ptpSource ≠ 0 || !(prim || back) || !io.deliversPtp p then (io, ptp)
  else if ptpDropped m io ptp then (io.addSat .ptp Reg.PTP_MSG_DROP 0 32 1, ptp)
  else
    match m.kind with
    | .announce => announce (!prim) m io ptp
    | .sync => if io.ptpPort = p.val then syncTimes io.now m m.correction io ptp else (io, ptp)
    | .syncTwoStep =>
      if io.ptpPort = p.val then (io, { ptp with sync := some (m.seq, io.now, m.correction) }) else (io, ptp)
    | .followUp =>
      match ptp.sync with
      | some (q, t, c) =>
        if q = m.seq ∧ io.ptpPort = p.val then syncTimes t m (c + m.correction) io ptp else (io, ptp)
      | none => (io, ptp)
    | .delayResp => pathResponse m io ptp
    | .pdelayResp => pathResponse m io ptp
    | .other => (io, ptp)
    | .unknown => (io, ptp)

/-- The filtered offset has stayed within ±100 ns for 10 s (R154); with SOURCE 1 only after a labelled pulse (R156). -/
def ptpLocked (io : Io) (ptp : Ptp) : Io :=
  if io.ptpState = 2 ∧ (io.ptpSource = 0 ∨ (io.ptpSource = 1 ∧ ptp.labelled)) then (io.setPtpState 3).raise .ptp 2
  else io

/-- Announce receipt times out on the primary or the backup port (R154). -/
def announceTimeout (onBackupPort : Bool) (io : Io) (ptp : Ptp) : Io × Ptp :=
  let old := ptp.followed onBackupPort
  let ptp := if onBackupPort then { ptp with backup := none } else { ptp with primary := none }
  if io.ptpSource = 0 ∧ (io.ptpState = 2 ∨ io.ptpState = 3) ∧ io.flag .ptp Reg.PTP_STAT 3 = onBackupPort then
    let other := ptp.followed (!onBackupPort)
    match other with
    | some m =>
      if onBackupPort ∨ io.flag .ptp Reg.PTP_PORT_SEL 15 then
        let io := io.setFlag .ptp Reg.PTP_STAT 3 (!onBackupPort)
        let same := match old with
          | some o => decide (o.identity = m.identity)
          | none => false
        let io := io.putWide .ptp Reg.PTP_GM_ID_LO m.identity.toNat
        (if same then io.raise .ptp 7 else io.raise .ptp 4, ptp)
      else (io.setPtpState 4, ptp)
    | none => (io.setPtpState 4, ptp)
  else (io, ptp)

/-- The 10 MHz input appears (R154). -/
def ref10mPresent (io : Io) (ptp : Ptp) : Io × Ptp :=
  let ptp := { ptp with ref10 := true }
  let io := io.setFlag .ptp Reg.PTP_STAT 4 true
  if io.ptpSource = 1 ∧ (io.ptpState = 5 ∨ io.ptpState = 4) then acquire io ptp else (io, ptp)

/-- The 10 MHz input is absent for 10 µs, or no pulse arrives for 1.1 s (R156). -/
def refLost (tenMhz : Bool) (io : Io) (ptp : Ptp) : Io × Ptp :=
  let ptp := if tenMhz then { ptp with ref10 := false } else ptp
  let io := io.setFlag .ptp Reg.PTP_STAT 4 false
  if io.ptpSource = 1 ∧ (io.ptpState = 2 ∨ io.ptpState = 3) then
    (((io.setPtpState 4).recordOpen .ptp 0x0510).raise .ptp 6, ptp)
  else (io, ptp)

/-- Distance of the counter from the nearest whole second. -/
def offSecond (now : Nat) : Nat := min (now % nsPerSec) (nsPerSec - now % nsPerSec)

/-- A 1PPS edge: it takes an armed label, or aligns the phase, or jumps (R156). -/
def ppsPulse (io : Io) (ptp : Ptp) : Io × Ptp :=
  if io.ptpSource ≠ 1 ∨ io.ptpState = 0 ∨ io.ptpState = 5 then (io, ptp)
  else
    let (io, ptp) := if io.ptpState = 4 ∧ ptp.ref10 then acquire io ptp else (io, ptp)
    let io := io.setFlag .ptp Reg.PTP_STAT 4 ptp.ref10
    match ptp.armed with
    | some s =>
      let by_ := Int.ofNat (s * nsPerSec) - Int.ofNat io.now
      (if by_ = 0 then io else io.stepTime by_, { ptp with armed := none, labelled := true, jumps := 0 })
    | none =>
      if ptp.labelled = false then (io, ptp)
      else if offSecond io.now > 1000 then
        if ptp.jumps + 1 ≥ 3 then acquire (io.recordOpen .ptp 0x0511) ptp
        else (io, { ptp with jumps := ptp.jumps + 1 })
      else (io.slew, { ptp with jumps := 0 })

/-- The seconds held in PTP_SET_SEC. -/
def Io.setSeconds (io : Io) : Nat :=
  (io.reg .ptp Reg.PTP_SET_SEC_LO).toNat + 2 ^ 32 * io.fld .ptp Reg.PTP_SET_SEC_HI 0 16

/-- SET loads the time at once in free run, and is ignored with any other SOURCE (R156). -/
def Io.ptpSet (io : Io) : Io :=
  if io.flag .ptp Reg.PAGE_LOCK 1 then io.ignored .ptp Reg.PTP_SET_CTL 1
  else if io.ptpSource = 2 then
    io.stepTime (Int.ofNat (io.setSeconds * nsPerSec + (io.reg .ptp Reg.PTP_SET_NS).toNat) - Int.ofNat io.now)
  else io.ignored .ptp Reg.PTP_SET_CTL 0

/-- PPS_ARM labels the next pulse with the set seconds (R156). -/
def ppsArm (io : Io) (ptp : Ptp) : Io × Ptp :=
  if io.flag .ptp Reg.PAGE_LOCK 1 then (io.ignored .ptp Reg.PTP_SET_CTL 1, ptp)
  else (io, { ptp with armed := some io.setSeconds })

/-- The state that a source gives an enabled page (R154, R157). -/
def sourceState (io : Io) (ptp : Ptp) : Io × Ptp :=
  if io.ptpSource = 2 then (io.setPtpState 1, ptp)
  else
    let present := if io.ptpSource = 1 then ptp.ref10 else (ptp.followed (io.flag .ptp Reg.PTP_STAT 3)).isSome
    if present then acquire io ptp else (io.setPtpState 5, { ptp with stepped := false, outliers := 0, jumps := 0 })

/-- A write of PTP_CTL: a change of SOURCE enters FREE_RUN, ACQUIRING or WAITING (R157). -/
def ptpSourceWrite (v : Word) (io : Io) (ptp : Ptp) : Io × Ptp :=
  let old := io.ptpSource
  let io := io.regWrite 0 .ptp Reg.PTP_CTL v
  if io.ptpSource ≠ old ∧ io.ptpState ≠ 0 then sourceState io { ptp with labelled := false } else (io, ptp)

/-- Enabling the PTP page: no Announce or 10 MHz counts from before the enable (R154). -/
def ptpEnabled (io : Io) (ptp : Ptp) : Io × Ptp :=
  sourceState (io.setFlag .ptp Reg.PTP_STAT 3 false) { ptp with primary := none, backup := none, labelled := false }

/-- The slave sends a delay request on its PTP port, and keeps the requests of the last second (R153, R157). -/
def delayRequest (io : Io) (ptp : Ptp) : Io × Ptp :=
  if io.ptpSource = 0 ∧ (io.ptpState = 2 ∨ io.ptpState = 3) ∧ io.stage io.ptpPort = 9 then
    let kind := if io.flag .ptp Reg.PTP_PROFILE 21 then 2 else 1
    (io.emit (.ptp io.ptpPort kind),
      { ptp with
        requests := (ptp.nextSeq, io.now) :: ptp.requests.filter (fun r => decide (io.now ≤ r.2 + nsPerSec))
        nextSeq := (ptp.nextSeq + 1) % 2 ^ 16 })
  else (io, ptp)

end Sys2Proof.Machine
end

