-- ==== Sys2Proof/Machine/Sieving.lean ====
section
/-! DEFINITION. The Sieve beside its flows: classification (R165, R166), discovery (R183, R184), group membership (R187) and host packets (R188). -/
namespace Sys2Proof.Machine

/-- What the Sieve does with a frame (R165). -/
inductive SieveClass where
  | l3Error
  | ptp (p : Ip)
  | query (p : Ip)
  | flow (f : Nat) (legB : Bool) (pkt : Pkt)
  /-- a punted class: its enable bit in SIEV_PUNT_CFG -/
  | punt (enable : Nat)
  | listen (k : Nat) (pkt : Pkt)
  | other
  deriving DecidableEq, Repr

/-- An address field of a flow entry from word `w`, in network byte order (R167). -/
def View.flowAddrBytes (v : View) (f w : Nat) : List Byte :=
  if bit (v.flow f 0) 6 then (List.range 4).flatMap (fun i => wordBytes (v.flow f (w + i))) else wordBytes (v.flow f w)

/-- A datagram matches a leg of a flow entry (R166). -/
def View.matchesLeg (v : View) (f : Nat) (legB : Bool) (p : Pkt) : Bool :=
  let w0 := v.flow f 0
  decide (p.port = v.flowPort f legB) && (p.ipv6 == bit w0 6) &&
  decide (p.dst = v.flowAddrBytes f (if legB then 12 else 4)) &&
  decide (p.udpDst = bits (v.flow f 20) (if legB then 16 else 0) 16) &&
  (!bit w0 7 || decide (p.src = v.flowAddrBytes f (if legB then 16 else 8))) &&
  (!bit w0 8 || decide (p.vlan = some (bits (v.flow f 1) 16 12)))

/-- The valid flow, and its leg, that a datagram matches (R166). -/
def View.flowMatch (v : View) (p : Pkt) : Option (Nat × Bool) :=
  v.flows.findSome? fun f =>
    if v.matchesLeg f false p then some (f, false)
    else if v.flowMirror f && v.matchesLeg f true p then some (f, true) else none

/-- A word of listen entry `k` of a tile (R183). -/
def Io.listen (io : Io) (t : Fin 16) (k w : Nat) : Word := io.reg (.siev t) (0x1000 + 64 * k + 4 * w)

/-- The first `n` bits of two addresses are equal. -/
def prefixOk (n : Nat) (a b : List Byte) : Bool := decide ((byteBits a).take n = (byteBits b).take n)

/-- A datagram falls within a listen entry (R183). -/
def Io.listens (io : Io) (t : Fin 16) (k : Nat) (p : Pkt) : Bool :=
  let w0 := io.listen t k 0
  let w1 := io.listen t k 1
  let pre := (List.range (if bit w0 1 then 4 else 1)).flatMap (fun i => wordBytes (io.listen t k (2 + i)))
  bit w0 0 && (bit w0 1 == p.ipv6) && (bit w0 2 || decide (bits w0 8 3 = p.port % 8)) &&
  prefixOk (bits w0 16 8) pre p.dst && decide (bits w1 0 16 ≤ p.udpDst) && decide (p.udpDst ≤ bits w1 16 16)

/-- The IP packet is a membership query (R165, R187). -/
def Ip.isQuery (p : Ip) : Bool :=
  (!p.v6 && decide (p.proto = 2) && decide (beAt p.payload 0 1 = 0x11)) || decide (p.icmp6 = some 130)

/-- Classify a frame that the MAC has passed, in the order of R165. -/
def classify (io : Io) (port : Fin 128) (bs : List Byte) : SieveClass :=
  let e := parseEth bs
  let t : Fin 16 := Fin.ofNat 16 (port / 8)
  let station := if e.dst = io.station port then SieveClass.punt 11 else .other
  match parseL3 e bs.length with
  | .bad => .l3Error
  | .notIp => if e.etype = 0x0806 then .punt 8 else if e.etype = 0x888E then .punt 10 else station
  | .ip p =>
    let udp := decide (p.proto = 17)
    let d := datagram port e p (io.stamp port Reg.MAC_TS_RX_ADJ)
    if udp && (d.udpDst = 319 || d.udpDst = 320) then .ptp p
    else if p.isQuery then .query p
    else
      match (if udp then io.live.flowMatch d else none) with
      | some (f, b) => .flow f b d
      | none =>
        match p.icmp6 with
        | some n => if 133 ≤ n ∧ n ≤ 137 then .punt 9 else station
        | none =>
          match (if udp then (List.range 16).find? (fun k => io.listens t k d) else none) with
          | some k => .listen k d
          | none => station

/-! Host packets (R188). -/

/-- A frame is punted to the ring of its tile, or dropped and counted (R188). -/
def punt (port : Fin 128) (bs : List Byte) (io : Io) (sv : Sieve) : Io × Sieve :=
  let t : Fin 16 := Fin.ofNat 16 (port / 8)
  let pg : PageRef := .siev t
  let size := 2 ^ io.fld pg Reg.SIEV_PUNT_CFG 1 4
  let head := io.fld pg Reg.SIEV_PUNT_HEAD 0 12
  let tail := io.fld pg Reg.SIEV_PUNT_TAIL 0 12
  let next := (tail + 1) % size
  let (since, n) := (FMap.find sv.puntRate t.val).getD (io.up, 0)
  let (since, n) := if since + 1000000000 ≤ io.up then (io.up, 0) else (since, n)
  let sv := { sv with puntRate := FMap.insert sv.puntRate t.val (since, n + 1) }
  if next = head % size ∨ n ≥ 100000 then ((io.count48 pg Reg.SIEV_PUNT_DROP_LO 1).raise pg 11, sv)
  else
    let cut := decide (bs.length > 2032)
    let hdr := leBytes 4 port.val ++ leBytes 4 (bs.length % 2 ^ 14 + b2n cut * 2 ^ 31) ++ leBytes 8 (io.stamp port Reg.MAC_TS_RX_ADJ % 2 ^ 64)
    let io := io.emit (.hostWrite (io.wide pg Reg.SIEV_PUNT_BASE_LO + 2048 * tail) (hdr ++ bs.take 2032))
    let io := (io.put pg Reg.SIEV_PUNT_TAIL (Word.of next)).count48 pg Reg.SIEV_PUNTED_LO 1
    (if tail = head % size then io.raise pg 10 else io, sv)

/-- The class of a frame is enabled for punting (R165, R188). -/
def Io.punts (io : Io) (port : Fin 128) (enable : Nat) : Bool :=
  let w := io.reg (.siev (Fin.ofNat 16 (port / 8))) Reg.SIEV_PUNT_CFG
  bit w 0 && bit w enable

/-! Discovery (R183, R184). -/

/-- Two datagrams have one discovery key (R183). -/
def sameKey (a b : Pkt) : Bool :=
  decide (a.port = b.port ∧ a.vlan = b.vlan ∧ a.dst = b.dst ∧ a.src = b.src ∧ a.udpDst = b.udpDst ∧ a.udpSrc = b.udpSrc)

/-- A payload begins with an RTP version 2 header. -/
def rtpValid (bs : List Byte) : Bool := decide (12 ≤ bs.length) && decide (beAt bs 0 1 / 64 = 2)

/-- A discovery is watched, or left alone within the holdoff of its key; a tile tracks 256 keys (R183). -/
def discover (t : Fin 16) (k : Nat) (p : Pkt) (io : Io) (sv : Sieve) : Sieve :=
  let cfg := io.reg (.siev t) Reg.SIEV_SEEN_CFG
  if !bit cfg 16 then sv
  else
    let fresh : Watch := { tile := t, listen := k, first := p, marker := rtpValid p.payload && rtpMarker p.payload, count := 1, reported := none }
    let add := fun (ws : List Watch) =>
      let mine := ws.filter (fun w => decide (w.tile = t.val))
      let ws := if mine.length ≥ 256 then
          match mine.head? with
          | some w => ws.erase w
          | none => ws
        else ws
      ws ++ [fresh]
    match sv.watches.find? (fun w => decide (w.tile = t.val) && sameKey w.first p) with
    | none => { sv with watches := add sv.watches }
    | some w =>
      match w.reported with
      | none =>
        { sv with watches := sv.watches.map (fun x =>
            if x = w then { x with count := x.count + 1, marker := x.marker || (rtpValid p.payload && rtpMarker p.payload) } else x) }
      | some r =>
        if io.now < r + bits cfg 0 16 * 1000000 then sv
        else { sv with watches := add (sv.watches.erase w) }

/-- A word of 4 bytes from `off` of a list, first byte lowest (R167). -/
def wordAt (bs : List Byte) (off : Nat) : Word := Word.of (leAt bs off 4)

/-- The 16 words of a seen report (R184). -/
def seenWords (seq : Nat) (w : Watch) : List Word :=
  let p := w.first
  let v := rtpValid p.payload
  [ Word.of (seq % 2 ^ 16 + p.port * 2 ^ 16 + b2n p.ipv6 * 2 ^ 23 + w.listen * 2 ^ 24 + b2n p.vlan.isSome * 2 ^ 28),
    Word.of (p.vlan.getD 0 + p.udpDst * 2 ^ 16),
    Word.of (p.udpSrc + (if v then rtpPt p.payload * 2 ^ 16 else 0) + b2n v * 2 ^ 23 + b2n w.marker * 2 ^ 24),
    Word.of (if v then beAt p.payload 8 4 else 0),
    wordAt p.dst 0, wordAt p.dst 4, wordAt p.dst 8, wordAt p.dst 12,
    wordAt p.src 0, wordAt p.src 4, wordAt p.src 8, wordAt p.src 12,
    Word.of p.arrival, Word.of (p.arrival / 2 ^ 32),
    Word.of (p.payload.length % 2 ^ 16 + sat 16 w.count * 2 ^ 16),
    if v then wordAt p.payload (rtpHeaderLen p.payload) else 0 ]

/-- The watches of a tile, oldest first. -/
def Sieve.watchesOf (sv : Sieve) (t : Fin 16) : List Watch := sv.watches.filter (fun w => decide (w.tile = t.val))

/-- SEEN_REPORT: the 10 ms of a watched key have passed, and its report is written or dropped (R183, R184). -/
def seenReport (t : Fin 16) (k : Nat) (io : Io) (sv : Sieve) : Io × Sieve :=
  let pg : PageRef := .siev t
  match (sv.watchesOf t)[k]? with
  | none => (io, sv)
  | some w =>
    if w.reported.isSome ∨ io.now < w.first.arrival + 10000000 ∨ !io.running pg then (io, sv)
    else
      let sv := { sv with watches := sv.watches.map (fun x => if x = w then { x with reported := some io.now } else x) }
      let tail := io.fld pg Reg.SIEV_SEEN_TAIL 0 7
      let seq := io.fld pg Reg.SIEV_SEEN_TAIL 16 16
      if (tail + 1) % 128 = io.fld pg Reg.SIEV_SEEN_HEAD 0 7 then
        ((io.count48 pg Reg.SIEV_SEEN_SUPPRESSED_LO 1).raise pg 9, sv)
      else
        let io := (seenWords seq w).zipIdx.foldl (fun io e => io.put pg (0x2000 + 64 * tail + 4 * e.2) e.1) io
        let io := io.put pg Reg.SIEV_SEEN_TAIL (Word.of ((tail + 1) % 128 + (seq + 1) % 2 ^ 16 * 2 ^ 16))
        (io.raise pg 2, sv)

/-! Group membership (R187). -/

/-- A membership that a leg of a valid flow entry asks for. -/
structure Member where
  port : Nat
  ipv6 : Bool
  vlan : Option Nat
  group : List Byte
  source : Option (List Byte)
  deriving DecidableEq, Repr

/-- An address is a multicast group. -/
def isGroup (a : List Byte) : Bool := if a.length = 4 then decide (beAt a 0 1 / 16 = 14) else decide (beAt a 0 1 = 255)

/-- The memberships of a view, entry by entry. -/
def View.members (v : View) : List Member :=
  v.flows.flatMap fun f =>
    let w0 := v.flow f 0
    if !bit w0 11 then []
    else
      let leg := fun b => ({ port := v.flowPort f b, ipv6 := bit w0 6, vlan := if bit w0 8 then some (bits (v.flow f 1) 16 12) else none
                             group := v.flowAddrBytes f (if b then 12 else 4)
                             source := if bit w0 7 then some (v.flowAddrBytes f (if b then 16 else 8)) else none } : Member)
      ([leg false] ++ (if v.flowMirror f then [leg true] else [])).filter (fun m => isGroup m.group)

/-- The record of a group on a port: whether it excludes, and its sources; none without a member (R187). -/
def recordOf (ms : List Member) (port : Nat) (group : List Byte) : Option (Bool × List (List Byte)) :=
  let mine := ms.filter (fun m => decide (m.port = port ∧ m.group = group))
  if mine.isEmpty then none
  else if mine.any (fun m => m.source.isNone) then some (true, [])
  else some (false, (mine.filterMap (·.source)).eraseDups)

/-- Records that tell of a change: from the old record to the new one (RFC 3376, RFC 3810). -/
def changeRecords (group : List Byte) (old new_ : Option (Bool × List (List Byte))) : List GroupRecord :=
  match old, new_ with
  | none, none => []
  | none, some (true, _) => [{ kind := 4, group := group, sources := [] }]
  | none, some (false, s) => [{ kind := 5, group := group, sources := s }]
  | some (true, _), none => [{ kind := 3, group := group, sources := [] }]
  | some (false, s), none => [{ kind := 6, group := group, sources := s }]
  | some (true, _), some (true, _) => []
  | some (true, _), some (false, s) => [{ kind := 3, group := group, sources := s }]
  | some (false, _), some (true, _) => [{ kind := 4, group := group, sources := [] }]
  | some (false, a), some (false, b) =>
    let plus := b.filter (fun x => !a.contains x)
    let minus := a.filter (fun x => !b.contains x)
    (if plus.isEmpty then [] else [{ kind := 5, group := group, sources := plus }]) ++
    (if minus.isEmpty then [] else [{ kind := 6, group := group, sources := minus }])

/-- The groups named on a port, each once, with the tag their records carry. -/
def groupsOn (ms : List Member) (port : Nat) : List (List Byte × Bool × Option Nat) :=
  ((ms.filter (fun m => decide (m.port = port))).map (fun m => (m.group, m.ipv6, m.vlan))).foldl
    (fun gs g => if gs.any (fun x => decide (x.1 = g.1)) then gs else gs ++ [g]) []

/-- Bound of the random interval between state-change reports, and how often each is sent (R187). -/
def Io.unsolicited (io : Io) (port : Nat) : Nat × Nat :=
  let w := io.reg (.siev (Fin.ofNat 16 (port / 8))) Reg.SIEV_CFG
  (bits w 20 8 * 100000000, bits w 16 3)

/-- Schedule records on a port: one report per IP version and tag. -/
def schedule (port : Nat) (rs : List (GroupRecord × Bool × Option Nat)) (bound left : Nat) (io : Io) (sv : Sieve) : Sieve :=
  let keys := (rs.map (fun r => r.2)).eraseDups
  { sv with reports := sv.reports ++ keys.map fun k =>
      { port := port, ipv6 := k.1, vlan := k.2, records := (rs.filter (fun r => decide (r.2 = k))).map (·.1), left := left, bound := bound
        since := io.up } }

/-- Joins, leaves and changes of records between two views are scheduled as state-change reports (R187). -/
def membershipChange (old new_ : List Member) (io : Io) (sv : Sieve) : Sieve :=
  let ports := ((old ++ new_).map (·.port)).eraseDups
  ports.foldl (fun sv p =>
    let gs := groupsOn (new_ ++ old) p
    let rs := gs.flatMap fun g => (changeRecords g.1 (recordOf old p g.1) (recordOf new_ p g.1)).map (fun r => (r, g.2))
    let u := io.unsolicited p
    if rs.isEmpty then sv else schedule p rs u.1 u.2 io sv) sv

/-- LINK_UP of a port: a state-change report for every record of the port (R187). -/
def membershipLinkUp (p : Nat) (io : Io) (sv : Sieve) : Sieve :=
  let ms := io.live.members
  let rs := (groupsOn ms p).flatMap fun g => (changeRecords g.1 none (recordOf ms p g.1)).map (fun r => (r, g.2))
  let u := io.unsolicited p
  if rs.isEmpty then sv else schedule p rs u.1 u.2 io sv

/-- Current-state records of some groups of a port (R187). -/
def currentRecords (ms : List Member) (p : Nat) (ok : List Byte → Bool) : List (GroupRecord × Bool × Option Nat) :=
  ((groupsOn ms p).filter (fun g => ok g.1)).filterMap fun g =>
    (recordOf ms p g.1).map fun r => ({ kind := if r.1 then 2 else 1, group := g.1, sources := r.2 }, g.2)

/-- A maximum response code of IGMPv3 in nanoseconds. -/
def igmpDelay (c : Nat) : Nat := (if c < 128 then c else (c % 16 + 16) * 2 ^ (c / 16 % 8 + 3)) * 100000000

/-- A maximum response code of MLDv2 in nanoseconds. -/
def mldDelay (c : Nat) : Nat := (if c < 32768 then c else (c % 4096 + 4096) * 2 ^ (c / 4096 % 8 + 3)) * 1000000

/-- A membership query arrives: older versions are counted and ignored (R187). -/
def query (port : Fin 128) (p : Ip) (io : Io) (sv : Sieve) : Io × Sieve :=
  let pg : PageRef := .siev (Fin.ofNat 16 (port / 8))
  let old := if p.v6 then decide (p.payload.length < 28) else decide (p.payload.length < 12)
  if old then ((io.count48 pg Reg.SIEV_QUERY_OLD_LO 1).raise pg 12, sv)
  else
    let group := if p.v6 then (p.payload.drop 8).take 16 else (p.payload.drop 4).take 4
    let any := decide (beNat group = 0)
    let bound := if p.v6 then mldDelay (beAt p.payload 4 2) else igmpDelay (beAt p.payload 1 1)
    let rs := (currentRecords io.live.members port.val (fun g => any || decide (g = group))).filter (fun r => r.2.1 == p.v6)
    (io, if rs.isEmpty then sv else schedule port.val rs bound 1 io sv)

/-- The bytes of group records. -/
def recordBytes (rs : List GroupRecord) : List Byte :=
  rs.flatMap fun r => [BitVec.ofNat 8 r.kind, 0] ++ beBytes 2 r.sources.length ++ r.group ++ r.sources.flatMap id

/-- An IGMPv3 report, with TTL 1 and the Router Alert option (R187). -/
def igmpReport (src : List Byte) (rs : List GroupRecord) : List Byte :=
  let body := fun sum => [BitVec.ofNat 8 0x22, 0] ++ beBytes 2 sum ++ beBytes 2 0 ++ beBytes 2 rs.length ++ recordBytes rs
  let msg := body (inetSum (body 0))
  ip4Header src [224, 0, 0, 22] 2 1 0xC0 0 msg.length false [0x94, 0x04, 0, 0] ++ msg

/-- The all-MLDv2-routers address ff02::16. -/
def mldGroup : List Byte := [0xFF, 2] ++ List.replicate 13 0 ++ [0x16]

/-- An MLDv2 report, with hop limit 1 and the Router Alert option (R187). -/
def mldReport (src : List Byte) (rs : List GroupRecord) : List Byte :=
  let body := fun sum => [BitVec.ofNat 8 143, 0] ++ beBytes 2 sum ++ beBytes 2 0 ++ beBytes 2 rs.length ++ recordBytes rs
  let len := (body 0).length
  let sum := 0xFFFF - fold16 (onesSum src + onesSum mldGroup + 58 + len + onesSum (body 0))
  let hbh : List Byte := [58, 0, 5, 2, 0, 0, 1, 0]
  ip6Header src mldGroup 0 1 0 (len + 8) ++ hbh ++ body sum

/-- MEMBERSHIP_REPORT: the report scheduled as number `k` on a port is sent, unless it is an MLDv2 report without a source address (R187). -/
def membershipReport (key : Nat → Option (List Byte)) (port : Fin 128) (k : Nat) (io : Io) (sv : Sieve) : Io × Sieve :=
  let pg : PageRef := .siev (Fin.ofNat 16 (port / 8))
  match (sv.reports.filter (fun r => decide (r.port = port.val)))[k]? with
  | none => (io, sv)
  | some r =>
    if !io.running pg || decide (io.stage port ≠ 9) then (io, sv)
    else
      let sv := { sv with reports := sv.reports.flatMap (fun x =>
        if x = r then (if x.left ≤ 1 then [] else [{ x with left := x.left - 1, since := io.up }]) else [x]) }
      let i := port.val % 8
      let ll := (List.range 4).flatMap (fun w => wordBytes (io.reg pg (Reg.SIEV_PORT_LL0 + 32 * i + 4 * w)))
      if r.ipv6 ∧ beNat ll = 0 then (io.count48 pg Reg.SIEV_MLD_SUPPRESSED_LO 1, sv)
      else
        let dst := if r.ipv6 then mldGroup else [224, 0, 0, 22]
        let packet := if r.ipv6 then mldReport ll r.records
          else igmpReport (wordBytes (io.reg pg (Reg.SIEV_PORT_IP4 + 32 * i))) r.records
        let frame := ethHeader (groupMac dst) (io.station port) r.vlan (if r.ipv6 then 0x86DD else 0x0800) ++ packet
        ((macSend key port frame io).count48 pg Reg.SIEV_IGMP_TX_LO 1, sv)

/-- The counters that SIEV_CNT_CLR clears (R189). -/
def Io.sievClear (io : Io) (t : Fin 16) : Io := io.clearFrom (.siev t) Reg.SIEV_UNMATCHED_LO 18

/-! PTP messages as the Sieve reads them (R152, R153). -/

/-- The kind of a messageType; a two-step Sync says so in its flags. -/
def ptpKind (t : Nat) (twoStep : Bool) : PtpKind :=
  if t = 0 then (if twoStep then .syncTwoStep else .sync)
  else if t = 3 then .pdelayResp else if t = 8 then .followUp else if t = 9 then .delayResp else if t = 11 then .announce
  else if t = 1 ∨ t = 2 ∨ t = 10 ∨ t = 12 ∨ t = 13 then .other else .unknown

/-- Least length of a message of a type (IEEE 1588-2019). -/
def ptpMinLen (t : Nat) : Nat :=
  if t = 11 then 64 else if t = 9 ∨ t = 2 ∨ t = 3 ∨ t = 10 then 54 else if t = 13 then 48 else 44

/-- Read a PTP message from its UDP payload. -/
def readPtp (bs : List Byte) : PtpMsg :=
  let t := beAt bs 0 1 % 16
  let len := beAt bs 2 2
  { kind := ptpKind t ((beAt bs 6 1).testBit 1), version := beAt bs 1 1 % 16, domain := beAt bs 4 1
    lengthOk := decide (len ≤ bs.length) && decide (ptpMinLen t ≤ len), seconds := beAt bs 34 6, nanos := beAt bs 40 4
    correction := signed 64 (beAt bs 8 8) / 65536, seq := beAt bs 30 2
    master := { priority1 := beAt bs 47 1, clockClass := beAt bs 48 1, accuracy := beAt bs 49 1, variance := beAt bs 50 2
                priority2 := beAt bs 52 1, identity := BitVec.ofNat 64 (beAt bs 53 8) }
    utcOffset := signed 16 (beAt bs 44 2), utcValid := (beAt bs 7 1).testBit 2 }

end Sys2Proof.Machine
end

