-- ==== Sys2Proof/Machine/TdmPorts.lean ====
section
/-! DEFINITION. TDM audio ports (R385 to R402): frame syncs, slots and their phases, slips, restarts, clock loss and captured masks. -/
namespace Sys2Proof.Machine

/-- The page of a TDM port. -/
def tdmPage (p : Nat) : PageRef := .tdmp (Fin.ofNat 16 p)

/-- A TDM port that has not run. -/
def TdmRt.fresh : TdmRt :=
  { frame := 0, rx := [], tx := [], fifo := 0, waiting := [], okSince := none, startAt := 0, zcAt := none, window := (0, 0), doing := [] }

/-- What is kept of a TDM port. -/
def Tdm.port (t : Tdm) (p : Nat) : TdmRt := (FMap.find t.ports p).getD TdmRt.fresh

/-- Change what is kept of a TDM port. -/
def Tdm.setPort (t : Tdm) (p : Nat) (r : TdmRt) : Tdm := { t with ports := FMap.insert t.ports p r }

/-- PSTATE: 0 OFF, 1 WAIT_CLOCK, 2 RUNNING, 3 CLOCK_LOST, 4 RESTARTING (R401). -/
def Io.pstate (io : Io) (p : Nat) : Nat := io.fld (tdmPage p) Reg.TDMP_STAT 0 3

/-- Set PSTATE. -/
def Io.setPstate (io : Io) (p s : Nat) : Io := io.setFld (tdmPage p) Reg.TDMP_STAT 0 3 s

/-- The port is clock master. -/
def Io.tdmMaster (io : Io) (p : Nat) : Bool := io.flag (tdmPage p) Reg.TDMP_CFG 2

/-- The port runs at 96 kHz. -/
def Io.tdmFast (io : Io) (p : Nat) : Bool := io.flag (tdmPage p) Reg.TDMP_CFG 3

/-- Slots per frame. -/
def tdmSlots (cfg : Word) : Nat := bits cfg 4 5 + 1

/-- Slot width in bits. -/
def tdmWidth (cfg : Word) : Nat := if bits cfg 9 2 = 0 then 16 else if bits cfg 9 2 = 1 then 24 else 32

/-- The whole-format check of R387. -/
def tdmFormatOk (cfg : Word) : Bool :=
  let fmt := bits cfg 0 2
  let word := if bit cfg 11 then 24 else 16
  decide (fsOf (bit cfg 3) * tdmSlots cfg * tdmWidth cfg ≤ 49152000) && decide (word ≤ tdmWidth cfg) &&
  (decide (fmt < 2) || (decide (tdmSlots cfg = 2) && decide (bits cfg 12 2 = if fmt = 2 then 1 else 0)))

/-- A slot that carries nothing. -/
def TdmSlot.idle : TdmSlot := { ch := none, phase := 0, since := 0, ramp := none, lastSig := none, next := [] }

/-- A slot takes up the next channel of its list, when no phase is in progress (R393, R394). -/
def slotNext (now : Nat) (s : TdmSlot) : TdmSlot :=
  match s.next with
  | [] => s
  | t :: rest =>
    match s.ch, t with
    | none, none => { s with next := rest }
    | none, some c => { s with ch := some c, phase := 1, since := now, ramp := none, lastSig := none, next := rest }
    | some _, none => { s with phase := 2, since := now, ramp := none, lastSig := none, next := rest }
    | some d, some c =>
      if c = d then { s with next := rest }
      else { s with phase := 2, since := now, ramp := none, lastSig := none }

/-- The phase of a slot ends. -/
def slotEnds (now : Nat) (s : TdmSlot) : TdmSlot :=
  slotNext now { s with ch := if s.phase = 2 then none else s.ch, phase := 0, ramp := none }

/-- A slot carries a sample of its signal through its phase (R393): what it plays, and the slot after it. -/
def slotPlay (now : Nat) (x : Int) (s : TdmSlot) : Int × TdmSlot :=
  if s.phase = 0 then (x, s)
  else
    match s.ramp with
    | some t =>
      if t + oneMs ≤ now then (if s.phase = 1 then x else 0, slotEnds now s)
      else (rampAt x (now - t) (decide (s.phase = 1)), s)
    | none =>
      if crosses s.lastSig x then (if s.phase = 1 then x else 0, slotEnds now s)
      else (if s.phase = 1 then 0 else x, { s with lastSig := some x })

/-- The channel a slot will carry once its list is worked off. -/
def TdmSlot.final (s : TdmSlot) : Option Nat :=
  match s.next.getLast? with
  | some t => t
  | none => if s.phase = 2 then none else s.ch

/-- A slot is to carry a channel, or none, from now on (R392, R393). -/
def slotTarget (now : Nat) (t : Option Nat) (s : TdmSlot) : TdmSlot :=
  if s.final = t then s
  else
    let s := { s with next := s.next ++ [t] }
    if s.phase = 0 then slotNext now s else s

/-- A slot after a restart: muted, then the enabled phase on the channel it should carry (R397). -/
def slotRestart (now : Nat) (s : TdmSlot) : TdmSlot :=
  match s.final with
  | some c => { ch := some c, phase := 1, since := now, ramp := none, lastSig := none, next := [] }
  | none => TdmSlot.idle

/-- Apply `f` to every slot number below 32, keeping only slots that carry something or are to. -/
def mapSlots (f : Nat → TdmSlot → TdmSlot) (m : FMap TdmSlot) : FMap TdmSlot :=
  (List.range 32).foldl (fun m s =>
    let x := f s ((FMap.find m s).getD TdmSlot.idle)
    if x = TdmSlot.idle then FMap.erase m s else FMap.insert m s x) m

/-- Live masks and bases give every slot its channel (R391, R392). -/
def maskApply (p : Nat) (io : Io) (r : TdmRt) : TdmRt :=
  let v := io.live
  let one := fun mask base s =>
    if bit (v.tdmp p mask) s then some (bits (v.tdmp p base) 0 14 + s) else none
  { r with
    rx := mapSlots (fun s x => slotTarget io.now (one Reg.TDMP_RX_MASK Reg.TDMP_RX_BASE s) x) r.rx
    tx := mapSlots (fun s x => slotTarget io.now (one Reg.TDMP_TX_MASK Reg.TDMP_TX_BASE s) x) r.tx }

/-- TDMP_PHASE_BITS and MASK_PENDING (R400, R401). -/
def showSlots (p : Nat) (io : Io) (r : TdmRt) : Io :=
  let busy := fun (m : FMap TdmSlot) s =>
    match FMap.find m s with
    | some x => decide (x.phase ≠ 0)
    | none => false
  let w := (List.range 32).foldl (fun n s => if busy r.rx s || busy r.tx s then n + 2 ^ s else n) 0
  (io.put (tdmPage p) Reg.TDMP_PHASE_BITS (Word.of w)).setFlag (tdmPage p) Reg.TDMP_STAT 5 (!r.waiting.isEmpty)

/-- Captured masks whose instant has come become live at a frame sync, in sequence order (R392). -/
def masksLive (p : Nat) (io : Io) (r : TdmRt) : Io × TdmRt :=
  let due := r.waiting.filter (fun w => decide (w.1 ≤ io.now))
  if due.isEmpty then (io, r)
  else
    let io := due.foldl (fun io w => io.makeLive w.2.2) io
    let r := { r with waiting := r.waiting.filter (fun w => !decide (w.1 ≤ io.now))
                      doing := r.doing ++ due.filterMap (fun w => w.2.1) }
    (io.raise (tdmPage p) 7, maskApply p io r)

/-- SLIP_SUSPECT with its event (R395, R396). -/
def Io.slipSuspect (io : Io) (p : Nat) : Io := (io.setFlag (tdmPage p) Reg.TDMP_STAT 3 true).raise (tdmPage p) 4

/-- A restart begins: every slot is muted and the FIFOs are flushed (R397). -/
def restartPort (p : Nat) (io : Io) (r : TdmRt) : Io × TdmRt := (io.setPstate p 4, { r with fifo := 0 })

/-- After a slip or FIFO error the port restarts by itself with AUTO_RESTART (R397). -/
def autoRestart (p : Nat) (io : Io) (r : TdmRt) : Io × TdmRt :=
  if io.flag (tdmPage p) Reg.TDMP_CTL 0 ∧ io.pstate p = 2 then restartPort p io r else (io, r)

/-- A FIFO error (R396). -/
def fifoErr (p : Nat) (io : Io) (r : TdmRt) : Io × TdmRt :=
  let pg := tdmPage p
  let io := ((io.recordOpen pg 0x0E15).count48 pg Reg.TDMP_FIFO_ERRS_LO 1).raise pg 5
  autoRestart p (io.slipSuspect p) r

/-- A received word as a 24-bit sample (R386). -/
def rxSample (cfg : Word) (w : BitVec 32) : Nat := if bit cfg 11 then w.toNat % 2 ^ 24 else w.toNat % 2 ^ 16 * 256

/-- The frame that ends passes its receive slots to their input channels (R391, R393, R397). -/
def rxFrame (p n : Nat) (din : List (BitVec 32)) (io : Io) (a : Audio) (r : TdmRt) : Io × Audio × TdmRt :=
  let cfg := io.reg (tdmPage p) Reg.TDMP_CFG
  r.rx.foldl (fun x e =>
    let (io, a, r) := x
    match e.2.ch, din[e.1]? with
    | some c, some w =>
      let (y, s) := slotPlay io.now (sample24 (rxSample cfg w)) e.2
      let (io, a) := inputSample c n (unsigned 24 y) false io a
      (io, a, { r with rx := if s = TdmSlot.idle then FMap.erase r.rx e.1 else FMap.insert r.rx e.1 s })
    | _, _ => x) (io, a, r)

/-- The frame that opens carries the samples of its transmit slots; an idle slot carries none (R386, R391, R393). -/
def txFrame (p n : Nat) (io : Io) (a : Audio) (r : TdmRt) : Io × Audio × TdmRt × Bool :=
  let cfg := io.reg (tdmPage p) Reg.TDMP_CFG
  let missing := r.tx.any fun e =>
    match e.2.ch with
    | some c => (a.out c).idx.isSome && (FMap.find a.made (sampleKey c (n - 1))).isNone
    | none => false
  let (io, r, words) := r.tx.foldl (fun (x : Io × TdmRt × FMap Int) e =>
    let (io, r, ws) := x
    match e.2.ch with
    | some c =>
      let sig := if missing then 0 else sample24 ((FMap.find a.made (sampleKey c (n - 1))).getD 0)
      let (y, s) := slotPlay io.now sig e.2
      let dither := bit (io.live.aud c 0) 7 && !bit cfg 11
      let y' := if bit cfg 11 then y else round16 y (if dither then io.tpdf else 0)
      (if dither then io.took else io,
        { r with tx := if s = TdmSlot.idle then FMap.erase r.tx e.1 else FMap.insert r.tx e.1 s }, FMap.insert ws e.1 y')
    | none => x) (io, r, [])
  (io.emit (.tdm p ((List.range (tdmSlots cfg)).map (fun s => (FMap.find words s).getD 0))), a, r, missing)

/-- A sync opens the next frame: number, time and count (R388, R389, R400). -/
def openFrame (p n : Nat) (io : Io) (r : TdmRt) : Io × TdmRt :=
  let io := (io.putWide (tdmPage p) Reg.TDMP_LAST_SYNC_LO io.ns64).count48 (tdmPage p) Reg.TDMP_FRAMES_LO 1
  (io, { r with frame := n, doing := if (r.rx ++ r.tx).all (fun e => decide (e.2.phase = 0)) then [] else r.doing })

/-- The port enters RUNNING at this sync: masks, and the enabled phase for every live slot (R397, R398, R399). -/
def portRuns (p n : Nat) (io : Io) (r : TdmRt) : Io × TdmRt :=
  let io := (io.setPstate p 2).setFlag (tdmPage p) Reg.TDMP_STAT 3 false
  let io := io.setFlag (tdmPage p) Reg.TDMP_STAT 4 true
  let r := maskApply p io r
  let r := { r with rx := mapSlots (fun _ s => slotRestart io.now s) r.rx, tx := mapSlots (fun _ s => slotRestart io.now s) r.tx }
  let (io, r) := masksLive p io r
  openFrame p n io r

/-- The number that a sync's frame takes: the sample number on a master, one more on a slave. -/
def frameNumber (p : Nat) (io : Io) (r : TdmRt) : Nat :=
  if io.tdmMaster p then sampleAt (io.tdmFast p) io.now else r.frame + 1

/-- A sync of a master port falls on its next sample instant, from the first frame on (R388, R399). -/
def syncDue (p : Nat) (io : Io) (r : TdmRt) : Bool :=
  !io.tdmMaster p || (decide (r.startAt ≤ io.now) && decide (r.frame < sampleAt (io.tdmFast p) io.now))

/-- TDM_FRAME_SYNC: an active frame-sync edge, `off` bit clocks from the position the counters expect, after a frame that received `din` (R388 to R397). -/
def tdmSync (p off : Nat) (din : List (BitVec 32)) (io : Io) (a : Audio) (tdm : Tdm) : Io × Audio × Tdm :=
  let r := tdm.port p
  let pg := tdmPage p
  let st := io.pstate p
  let done := fun (x : Io × Audio × TdmRt) => (showSlots p x.1 x.2.2, x.2.1, tdm.setPort p x.2.2)
  if !syncDue p io r || decide (st = 0 ∨ st = 3) then (io, a, tdm)
  else
    let n := frameNumber p io r
    if st = 1 then
      let since := r.okSince.getD io.up
      if io.tdmMaster p || decide (since + io.fld pg Reg.TDMP_CLK_CFG 16 8 * oneMs ≤ io.up) then
        let (io, r) := portRuns p n io r
        done (io, a, r)
      else done (io, a, { r with okSince := some since })
    else if st = 4 then
      let io := (io.count48 pg Reg.TDMP_RESTARTS_LO 1).raise pg 6
      let (io, r) := portRuns p n io r
      done (io, a, r)
    else
      let slip := decide (off ≠ 0) && !io.tdmMaster p
      let (io, r) := if slip then
          autoRestart p (((io.recordOpen pg 0x0E14).count48 pg Reg.TDMP_SLIPS_LO 1).slipSuspect p) r
        else (io, r)
      if io.pstate p = 4 then done (io, a, r)
      else
        let (io, r) := if io.running .audm then (io, { r with fifo := 0 })
          else if r.fifo ≥ 4 then fifoErr p io r else (io, { r with fifo := r.fifo + 1 })
        if io.pstate p = 4 then done (io, a, r)
        else
          let (io, a, r) := rxFrame p r.frame din io a r
          let (io, r) := masksLive p io r
          let (io, r) := openFrame p n io r
          let (io, a, r, under) := txFrame p n io a r
          let (io, r) := if under then fifoErr p io r else (io, r)
          done (io, a, r)

/-- TDMP_RESTART: the driver restarts a running port (R397). -/
def tdmRestart (p : Nat) (io : Io) (tdm : Tdm) : Io × Tdm :=
  if io.pstate p = 2 then
    let (io, r) := restartPort p io (tdm.port p)
    (io, tdm.setPort p r)
  else (io, tdm)

/-- A step of the time base restarts every running master port on the stepped grid (R388). -/
def tdmTimeStep (io : Io) (tdm : Tdm) : Io × Tdm :=
  (List.range 16).foldl (fun x p =>
    if x.1.tdmMaster p then
      let (io, tdm) := tdmRestart p x.1 x.2
      (io, tdm.setPort p { tdm.port p with frame := 0 })
    else x) (io, tdm)

/-- CLOCK_LOST: a slave port loses its bit clock, frame sync or range (R390). -/
def clockLost (p cause : Nat) (io : Io) (a : Audio) (tdm : Tdm) : Io × Audio × Tdm :=
  let pg := tdmPage p
  if io.tdmMaster p ∨ !(io.pstate p = 2 ∨ io.pstate p = 4) then (io, a, tdm)
  else
    let io := (io.setPstate p 3).setFlag pg Reg.TDMP_STAT 4 false
    let io := ((io.recordErr pg 0x0E13 cause).count48 pg Reg.TDMP_CLOCK_LOSSES_LO 1).raise pg 2
    let (io, a) := asrcPortLost p io a tdm
    (io, a, tdm.setPort p { tdm.port p with okSince := some io.up })

/-- CLOCK_RESTORED: both clocks have been present and within range for RELOCK_MS (R390). -/
def clockRestored (p : Nat) (io : Io) (tdm : Tdm) : Io × Tdm :=
  let pg := tdmPage p
  let r := tdm.port p
  if io.pstate p = 3 ∧ r.okSince.getD 0 + io.fld pg Reg.TDMP_CLK_CFG 16 8 * oneMs ≤ io.up then
    let (io, r) := restartPort p ((io.setFlag pg Reg.TDMP_STAT 4 true).raise pg 3) r
    (io, tdm.setPort p r)
  else (io, tdm)

/-- TDM_RATE_MEASURE: every 10 ms a port shows its measured deviation and bit clock; a slave beyond its range loses its clock (R389, R390, R400). -/
def rateMeasure (p : Nat) (ppm hz : Word) (io : Io) (a : Audio) (tdm : Tdm) : Io × Audio × Tdm :=
  let pg := tdmPage p
  let r := tdm.port p
  let cfg := io.reg pg Reg.TDMP_CFG
  if io.pstate p = 0 ∨ io.up < r.window.1 + 10000000 then (io, a, tdm)
  else
    let tdm := tdm.setPort p { r with window := (io.up, 0) }
    if bit cfg 2 then
      ((io.put pg Reg.TDMP_RATE_PPM 0).put pg Reg.TDMP_BCLK_HZ (Word.of (fsOf (bit cfg 3) * tdmSlots cfg * tdmWidth cfg)), a, tdm)
    else
      let io := (io.put pg Reg.TDMP_RATE_PPM ppm).put pg Reg.TDMP_BCLK_HZ hz
      if (signed 32 ppm.toNat).natAbs > io.fld pg Reg.TDMP_CLK_CFG 0 11 * 65536 then clockLost p 2 io a tdm else (io, a, tdm)

/-- SLOT_ZC_TIMEOUT: a phase finds no crossing within the timeout and ramps; a ramp that has run ends it (R393). -/
def slotTimeout (p : Nat) (tx : Bool) (s : Nat) (io : Io) (tdm : Tdm) : Io × Tdm :=
  let pg := tdmPage p
  let r := tdm.port p
  let m := if tx then r.tx else r.rx
  let put := fun (x : TdmSlot) (r : TdmRt) =>
    let set := fun (m : FMap TdmSlot) => if x = TdmSlot.idle then FMap.erase m s else FMap.insert m s x
    if tx then { r with tx := set r.tx } else { r with rx := set r.rx }
  match FMap.find m s with
  | none => (io, tdm)
  | some x =>
    if x.phase = 0 then (io, tdm)
    else
      match x.ramp with
      | some t =>
        if t + oneMs ≤ io.now then
          let r := put (slotEnds io.now x) r
          (showSlots p io r, tdm.setPort p r)
        else (io, tdm)
      | none =>
        if io.now < x.since + io.fld pg Reg.TDMP_CTL 8 7 * oneMs then (io, tdm)
        else
          let io := io.count48 pg Reg.TDMP_ZC_TIMEOUTS_LO 1
          let quiet := match r.zcAt with
            | some t => decide (t + 1000000000 ≤ io.up)
            | none => true
          let io := if quiet then io.raise pg 8 else io
          (io, tdm.setPort p { put { x with ramp := some io.now } r with zcAt := some io.up })

/-- A port is enabled: a master starts 50 µs later, a slave waits for its clocks (R399). -/
def tdmEnabled (p : Nat) (io : Io) (tdm : Tdm) : Io × Tdm :=
  let r := tdm.port p
  let io := (io.setPstate p 1).setFlag (tdmPage p) Reg.TDMP_STAT 4 (io.tdmMaster p)
  (io, tdm.setPort p { r with startAt := io.now + 50000, okSince := none, frame := 0, fifo := 0 })

/-- The port has drained: it is OFF, its transmit slots idle, its bindings kept (R399). -/
def tdmStopped (p : Nat) (io : Io) (tdm : Tdm) : Io × Tdm :=
  let io := (io.setPstate p 0).setFld (tdmPage p) Reg.TDMP_STAT 3 2 0
  (io, tdm.setPort p { tdm.port p with fifo := 0, okSince := none })

/-- Masks and bases captured by a commit wait for their frame sync; on a port that is off they wait too (R392). -/
def masksCaptured (p at_ : Nat) (seq : Option Nat) (vals : List (Nat × Word)) (io : Io) (tdm : Tdm) : Io × Tdm :=
  let r := tdm.port p
  let r := { r with waiting := r.waiting ++ [(at_, seq, vals)] }
  (showSlots p io r, tdm.setPort p r)

end Sys2Proof.Machine
end

