-- ==== Sys2Proof/Machine/Links.lean ====
section
/-! DEFINITION. The commands of lanes, links, time and MACsec (ch. 5, 6): what a link that comes up or goes down does to the flows it carries, and the writes of the LANE and PCS pages. -/
namespace Sys2Proof.Machine

/-! What a change of presence or of a link sets in motion (R182, R187, R235). -/

/-- Flows that become absent or present through `f` switch the fast-path entries that carry them (R235). -/
def Dev.watching (d : Dev) (f : Dev → Dev) : Dev :=
  let d' := f d
  if d'.io.live.fasts.isEmpty then d'
  else
    let fs := (d.io.live.flows ++ d'.io.live.flows).eraseDups
    let now := d'.io.now
    fs.foldl (fun (x : Dev) g =>
      let was := d.io.flowPresent g
      let is := d'.io.flowPresent g
      if was = is then x
      else
        let r := if is then fpFlowBack g now x.io x.rt else fpFlowLost g now x.io x.rt
        { x with io := r.1, rt := r.2 }) d'

/-- The ports whose link is up. -/
def Io.upPorts (io : Io) : List Nat := (List.range 128).filter (fun p => io.stage p = 9)

/-- What `f` does to the lanes and links, with what a link that goes down or comes up means for legs and groups (R182, R187). -/
def Dev.links (d : Dev) (f : Io → Ser → Io × Ser) : Dev :=
  let was := d.io.upPorts
  let d := d.onSer f
  let up := d.io.upPorts
  let lost := was.filter (fun p => !up.contains p)
  let new_ := up.filter (fun p => !was.contains p)
  let d := if lost.isEmpty then d
    else d.watching (fun d => lost.foldl (fun (d : Dev) p => d.onSv (portLegsLost p)) d)
  { d with sv := new_.foldl (fun sv p => membershipLinkUp p d.io sv) d.sv }

/-- The page of a write passes it, and then `f` acts (R38). -/
def Io.pulseAt (io : Io) (p : PageRef) (off : Nat) (v : Word) (f : Io → Io) : Io :=
  if io.accepts p off v then f (io.regWrite 0 p off v) else io.regWrite 0 p off v

/-- A write of a counter-clear register of a page: bit 0 clears (R149 and the other chapters' tables). -/
def Io.clearWrite (io : Io) (p : PageRef) (off : Nat) (v : Word) (f : Io → Io) : Io :=
  io.pulseAt p off v (fun io => if bit v 0 then f io else io)

/-! Losses of a link (R122). -/

/-- The port of a page is past stage `st` of its bring-up. -/
def Io.pastStage (io : Io) (p : Fin 128) (st : Nat) : Bool := decide (st < io.stage p) && io.pcsOn p

/-- CDR lock is lost: the scans of its lanes end, and the port returns to warm CDR_LOCK (R122, R132). -/
def cdrLost (p : Fin 128) (io : Io) (ser : Ser) : Io × Ser :=
  if io.pastStage p 3 then
    let ls := io.portLanes p
    let (io, ser) := eyeAbortAll ls io ser
    let io := ls.foldl (fun io l => io.raise (.lane (laneIx l)) 4) io
    loseLink p 2 3 io ser
  else (io, ser)

/-- Block lock is lost (R122). -/
def blockLost (p : Fin 128) (io : Io) (ser : Ser) : Io × Ser :=
  if io.pastStage p 5 then loseLink p 3 5 io ser else (io, ser)

/-- Alignment markers are lost (R122). -/
def markersLost (p : Fin 128) (io : Io) (ser : Ser) : Io × Ser :=
  if io.pastStage p 6 && io.hasStage p 6 then loseLink p 4 6 io ser else (io, ser)

/-- Too many uncorrectable codewords (R122). -/
def fecLost (p : Fin 128) (io : Io) (ser : Ser) : Io × Ser :=
  if io.pastStage p 8 && decide (io.fecOf p ≠ 0) then loseLink p 5 5 io ser else (io, ser)

/-- The signal of a lane is gone: its partner departs and its port goes down with cause 1 (R122, R124). -/
def signalGone (l : Fin 128) (io : Io) (ser : Ser) : Io × Ser :=
  let had := io.watches l && ser.present.contains l.val
  let (io, ser) := partnerDeparted l io ser
  match io.portOfLane l with
  | some p => if had && decide (1 < io.stage p) then loseLink p 1 1 io ser else (io, ser)
  | none => (io, ser)

/-- Every port of a quad goes down with cause 2 (R135). -/
def quadDown (q code : Nat) (io : Io) (ser : Ser) : Io × Ser :=
  let io := io.pllDown q code
  (io.quadPorts q).foldl (fun (x : Io × Ser) p => if 3 < x.1.stage p then loseLink p 2 3 x.1 x.2 else x) (io, ser)

/-- A quad PLL loses lock (R135). -/
def pllLost (q : Fin 32) (io : Io) (ser : Ser) : Io × Ser :=
  if !io.flag (.lane (laneIx (4 * q))) Reg.LANE_STAT 6 then (io, ser)
  else
    let (io, ser) := quadDown q 0x0410 io ser
    (io, { ser with pllLost := q.val :: ser.pllLost })

/-- Quads that a lane reference serves (R112). -/
def refQuads (k : Fin 4) : List Nat := (List.range 8).map (8 * k.val + ·)

/-- A lane reference is lost: every quad it serves loses lock, and a spare PLL cannot recover them (R112). -/
def refGone (k : Fin 4) (io : Io) (ser : Ser) : Io × Ser :=
  if ser.refLost.contains k.val then (io, ser)
  else
    let ser := { ser with refLost := k.val :: ser.refLost }
    ((refQuads k).filter (fun q => io.flag (.lane (laneIx (4 * q))) Reg.LANE_STAT 6)).foldl
      (fun (x : Io × Ser) q => quadDown q 0x0415 x.1 x.2) (io, ser)

/-- A lane reference returns: the PLLs that it serves lock again, but for those that were lost by themselves (R112). -/
def refBack (k : Fin 4) (io : Io) (ser : Ser) : Io × Ser :=
  if !ser.refLost.contains k.val then (io, ser)
  else
    let ser := { ser with refLost := ser.refLost.erase k.val }
    (((refQuads k).filter (fun q => !ser.pllLost.contains q && io.flag .fw Reg.FW_STAT (16 + q / 2))).foldl
      (fun io q => io.pllBack q false) io, ser)

/-- The quad transmits on its spare PLL (R135). The Larder records the PLL that failed. -/
def Dev.spareResume (d : Dev) (q : Fin 32) : Dev :=
  let onSpare := d.io.flag (.lane (laneIx (4 * q))) Reg.LANE_STAT 7
  if !d.ser.pllLost.contains q.val ∨ onSpare ∨ d.boot.badPll.contains q.val ∨ d.ser.refLost.contains (q.val / 8) then d
  else
    let d := d.onSer (fun io ser => (io.pllBack q true, { ser with pllLost := ser.pllLost.erase q.val }))
    d.onLar (fun x => x.repair 2 2 q)

/-! Writes of the LANE page. -/

/-- RESTART reruns cold adaptation: the link goes down with cause 2, and bring-up resumes at CDR_LOCK, cold (R117). -/
def eqRestart (l : Fin 128) (io : Io) (ser : Ser) : Io × Ser :=
  let io := io.setFlag (.lane l) Reg.LANE_STAT 5 false
  match io.portOfLane l with
  | some p =>
    if io.stage p < 3 then (io, ser)
    else
      let (io, ser) := eyeAbortAll (io.portLanes p) io ser
      restartCdr p false (io.linkDown p 2) ser
  | none => (io, ser)

/-- A write of LANE_EQ_CTL: adapt bits cleared freeze their stages, RESTART reruns adaptation (R116, R117). -/
def eqWrite (l : Fin 128) (v : Word) (io : Io) (ser : Ser) : Io × Ser :=
  let go := io.accepts (.lane l) Reg.LANE_EQ_CTL v && bit v 8
  let io := io.eqCtlWrite l v
  if go then eqRestart l io ser else (io, ser)

/-- A write of LANE_SLEEP: a receiver that goes to sleep takes the port's link down with cause 6 (R125, R126). -/
def sleepReg (l : Fin 128) (v : Word) (io : Io) (ser : Ser) : Io × Ser :=
  let awake := io.flag (.lane l) Reg.LANE_STAT 4
  let (io, ser) := sleepEffect l (io.sleepWrite l v) ser
  if awake && !io.flag (.lane l) Reg.LANE_STAT 4 then
    match io.portOfLane l with
    | some p => if 1 < io.stage p then loseLink p 6 1 io ser else (io, ser)
    | none => (io, ser)
  else (io, ser)

/-- ABORT ends a running scan (R132). -/
def eyeAbort (l : Fin 128) (io : Io) (ser : Ser) : Io × Ser :=
  if io.accepts (.lane l) Reg.LANE_EYE_CTL (io.reg (.lane l) Reg.LANE_EYE_CTL) then eyeEnd l true io ser
  else (io.regWrite 0 (.lane l) Reg.LANE_EYE_CTL (io.reg (.lane l) Reg.LANE_EYE_CTL), ser)

/-- A write of LANE_EYE_CTL: the settings, then START or ABORT (R131, R132). -/
def eyeCtlWrite (l : Fin 128) (v : Word) (io : Io) (ser : Ser) : Io × Ser :=
  let ok := io.accepts (.lane l) Reg.LANE_EYE_CTL v
  let io := io.regWrite 0 (.lane l) Reg.LANE_EYE_CTL v
  if !ok then (io, ser)
  else
    let (io, ser) := if bit v 0 then eyeStart l io ser else (io, ser)
    if bit v 1 then eyeEnd l true io ser else (io, ser)

/-- A write of a register of a LANE page (R133). -/
def laneWrite (l : Fin 128) (off : Nat) (v : Word) (io : Io) (ser : Ser) : Io × Ser :=
  if off = Reg.LANE_CFG then (io.laneCfgWrite l v, ser)
  else if off = Reg.LANE_SLEEP then sleepReg l v io ser
  else if off = Reg.LANE_EQ_CTL then eqWrite l v io ser
  else if off = Reg.LANE_EQ_FLOAT then (io.eqFloatWrite l v, ser)
  else if off = Reg.LANE_TX_FIR then (io.txFirWrite l v, ser)
  else if off = Reg.LANE_PRBS_CTL then prbsCtlWrite l v io ser
  else if off = Reg.LANE_EYE_CTL then eyeCtlWrite l v io ser
  else (io.regWrite 0 (.lane l) off v, ser)

/-- A write of PCS_AN_CTL; RESTART restarts auto-negotiation, so that an up link goes down and enters that stage anew (R146). -/
def anWrite (p : Fin 128) (v : Word) (io : Io) (ser : Ser) : Io × Ser :=
  let go := io.accepts (.pcs p) Reg.PCS_AN_CTL v && !(bit v 1 && !bit v 0) && bit v 2 && bit v 0 && io.pcsOn p && decide (2 ≤ io.stage p)
  let io := io.anCtlWrite p v
  if go then
    let (io, ser) := loseLink p 2 1 io ser
    (io.setStage p 2, ser)
  else (io, ser)

/-- A write of a register of a PCS page (R136). -/
def pcsWrite (p : Fin 128) (off : Nat) (v : Word) (io : Io) (ser : Ser) : Io × Ser :=
  if off = Reg.PCS_CFG then (io.pcsCfgWrite p v, ser)
  else if off = Reg.PCS_AN_CTL then anWrite p v io ser
  else if off = Reg.PCS_CNT_CLR then (io.clearWrite (.pcs p) off v (fun io => io.pcsCntClr p), ser)
  else (io.regWrite 0 (.pcs p) off v, ser)

/-! The rows of lanes and links (ch. 5). -/

/-- PARTNER_ARRIVED (R124). -/
def execPartnerArrived (l : Fin 128) (dt : Nat) (s : State) : Host.Outcome State Fault Refusal :=
  s.run fun d => (d.tick dt).links (partnerArrived l)

/-- PARTNER_DEPARTED (R122, R124). -/
def execPartnerDeparted (l : Fin 128) (dt : Nat) (s : State) : Host.Outcome State Fault Refusal :=
  s.run fun d => (d.tick dt).links (signalGone l)

/-- PCS_STAGE_PASS (R119). -/
def execPcsStagePass (p : Fin 128) (ob : StageObs) (dt : Nat) (s : State) : Host.Outcome State Fault Refusal :=
  s.run fun d => (d.tick dt).links (passStage p ob)

/-- STAGE_TIMEOUT (R121). -/
def execStageTimeout (p : Fin 128) (ob : StageObs) (dt : Nat) (s : State) : Host.Outcome State Fault Refusal :=
  s.run fun d => (d.tick dt).links (stageTimeout p ob)

/-- CDR_LOCK_LOST (R122). -/
def execCdrLockLost (p : Fin 128) (dt : Nat) (s : State) : Host.Outcome State Fault Refusal :=
  s.run fun d => (d.tick dt).links (cdrLost p)

/-- BLOCK_LOCK_LOSS (R122). -/
def execBlockLockLoss (p : Fin 128) (dt : Nat) (s : State) : Host.Outcome State Fault Refusal :=
  s.run fun d => (d.tick dt).links (blockLost p)

/-- AM_LOCK_LOSS (R122). -/
def execAmLockLoss (p : Fin 128) (dt : Nat) (s : State) : Host.Outcome State Fault Refusal :=
  s.run fun d => (d.tick dt).links (markersLost p)

/-- FEC_LOSS (R122). -/
def execFecLoss (p : Fin 128) (dt : Nat) (s : State) : Host.Outcome State Fault Refusal :=
  s.run fun d => (d.tick dt).links (fecLost p)

/-- PLL_LOCK_LOST (R135). -/
def execPllLockLost (q : Fin 32) (dt : Nat) (s : State) : Host.Outcome State Fault Refusal :=
  s.run fun d => (d.tick dt).links (pllLost q)

/-- SPARE_PLL_RESUME (R135). -/
def execSparePllResume (q : Fin 32) (dt : Nat) (s : State) : Host.Outcome State Fault Refusal :=
  s.run fun d => (d.tick dt).spareResume q

/-- LANE_REF_LOST (R112). -/
def execLaneRefLost (k : Fin 4) (dt : Nat) (s : State) : Host.Outcome State Fault Refusal :=
  s.run fun d => (d.tick dt).links (refGone k)

/-- LANE_REF_RESTORED (R112). -/
def execLaneRefRestored (k : Fin 4) (dt : Nat) (s : State) : Host.Outcome State Fault Refusal :=
  s.run fun d => (d.tick dt).onSer (refBack k)

/-- ADAPT_LIMIT (R115). -/
def execAdaptLimit (l : Fin 128) (dt : Nat) (s : State) : Host.Outcome State Fault Refusal :=
  s.run fun d => (d.tick dt).onIo (fun io => io.adaptLimit l)

/-- LANE_EQ_RESTART (R117): the write that sets RESTART and leaves the adapt bits. -/
def execLaneEqRestart (l : Fin 128) (s : State) : Host.Outcome State Fault Refusal :=
  s.run fun d => d.links (eqWrite l (setBit (d.io.reg (.lane l) Reg.LANE_EQ_CTL) 8 true))

/-- EQ_ADAPT_FREEZE (R116): the write that clears the stage's adapt bit. -/
def execEqAdaptFreeze (l : Fin 128) (st : EqStage) (s : State) : Host.Outcome State Fault Refusal :=
  s.run fun d => d.onIo (fun io => io.eqCtlWrite l (setBit (io.reg (.lane l) Reg.LANE_EQ_CTL) (eqStageIx st) false))

/-- TX_SLEEP (R125): the write that sets or clears the bit. -/
def execTxSleep (l : Fin 128) (on : Bool) (s : State) : Host.Outcome State Fault Refusal :=
  s.run fun d => d.links (sleepReg l (setBit (d.io.reg (.lane l) Reg.LANE_SLEEP) 0 on))

/-- RX_SLEEP (R125): the write that sets or clears the bit. -/
def execRxSleep (l : Fin 128) (on : Bool) (s : State) : Host.Outcome State Fault Refusal :=
  s.run fun d => d.links (sleepReg l (setBit (d.io.reg (.lane l) Reg.LANE_SLEEP) 1 on))

/-- WAKE_DONE (R135). -/
def execWakeDone (l : Fin 128) (rx : Bool) (dt : Nat) (s : State) : Host.Outcome State Fault Refusal :=
  s.run fun d => (d.tick dt).links (wakeDone l rx)

/-- PRBS_INJECT (R129): the write that sets INJECT. -/
def execPrbsInject (l : Fin 128) (s : State) : Host.Outcome State Fault Refusal :=
  s.run fun d => d.onSer (prbsCtlWrite l (setBit (d.io.reg (.lane l) Reg.LANE_PRBS_CTL) 16 true))

/-- PRBS_CLEAR (R134): the write that sets CLEAR. -/
def execPrbsClear (l : Fin 128) (s : State) : Host.Outcome State Fault Refusal :=
  s.run fun d => d.onSer (prbsCtlWrite l (setBit (d.io.reg (.lane l) Reg.LANE_PRBS_CTL) 17 true))

/-- PRBS_CHECKER_LOCK (R129). -/
def execPrbsCheckerLock (l : Fin 128) (inverted : Bool) (dt : Nat) (s : State) : Host.Outcome State Fault Refusal :=
  s.run fun d => (d.tick dt).onSer (prbsLock l inverted)

/-- PRBS_LOCK_LOST (R129). -/
def execPrbsLockLost (l : Fin 128) (errs dt : Nat) (s : State) : Host.Outcome State Fault Refusal :=
  s.run fun d => (d.tick dt).onSer (prbsLost l errs)

/-- EYE_SCAN_START (R131, R132). -/
def execEyeScanStart (l : Fin 128) (s : State) : Host.Outcome State Fault Refusal :=
  s.run fun d => d.onSer (eyeStart l)

/-- EYE_SCAN_ABORT (R132). -/
def execEyeScanAbort (l : Fin 128) (s : State) : Host.Outcome State Fault Refusal :=
  s.run fun d => d.onSer (eyeAbort l)

/-- EYE_SCAN_DONE (R131): the last point is complete once every point has taken its symbols. -/
def execEyeScanDone (l : Fin 128) (dt : Nat) (s : State) : Host.Outcome State Fault Refusal :=
  s.run fun d => (d.tick dt).onSer (fun io ser =>
    match FMap.find ser.eyeSince l with
    | some t => if (io.eyeGrid l).length ≤ io.eyePoints l t then eyeEnd l false io ser else (io, ser)
    | none => (io, ser))

/-- PCS_CNT_CLR (R136). -/
def execPcsCntClr (p : Fin 128) (s : State) : Host.Outcome State Fault Refusal :=
  s.run fun d => d.onSer (pcsWrite p Reg.PCS_CNT_CLR 1)

/-- PCS_AN_RESTART (R146): the write that sets RESTART. -/
def execPcsAnRestart (p : Fin 128) (s : State) : Host.Outcome State Fault Refusal :=
  s.run fun d => d.links (anWrite p (setBit (d.io.reg (.pcs p) Reg.PCS_AN_CTL) 2 true))

/-- AN_FAIL (R145). -/
def execAnFail (p : Fin 128) (training : Bool) (failed : Fin 16) (dt : Nat) (s : State) : Host.Outcome State Fault Refusal :=
  s.run fun d => (d.tick dt).onIo (fun io => io.anFail p training failed)

/-! The rows of PTP (ch. 6). -/

/-- A step of the time base: outputs align again at the end of their frame, and TDM ports follow it (R154, R331, R399). -/
def Dev.stepped (d : Dev) (before : Nat) (dt : Nat) : Dev :=
  if d.io.now = before + dt then d
  else
    let by_ := Int.ofNat d.io.now - Int.ofNat (before + dt)
    let moved := fun (r : OutRt) =>
      if r.inFrame then { r with resync := true, shift := r.shift + by_ } else { r with notBefore := (Int.ofNat r.notBefore + by_).toNat }
    let d := { d with sc := { d.sc with outs := d.sc.outs.map (fun (e : Nat × OutRt) => (e.1, moved e.2)) } }
    d.onTdm tdmTimeStep

/-- PTP_MESSAGE (R152 to R157). -/
def execPtpMessage (p : Fin 128) (m : PtpMsg) (dt : Nat) (s : State) : Host.Outcome State Fault Refusal :=
  s.run fun d => ((d.tick dt).onPtp (ptpMessage p m)).stepped d.io.now dt

/-- PTP_LOCKED (R154). -/
def execPtpLocked (dt : Nat) (s : State) : Host.Outcome State Fault Refusal :=
  s.run fun d => (d.tick dt).onPtp (fun io p => (ptpLocked io p, p))

/-- ANNOUNCE_TIMEOUT (R154). -/
def execAnnounceTimeout (onBackup : Bool) (dt : Nat) (s : State) : Host.Outcome State Fault Refusal :=
  s.run fun d => (d.tick dt).onPtp (announceTimeout onBackup)

/-- PPS_PULSE (R156). -/
def execPpsPulse (dt : Nat) (s : State) : Host.Outcome State Fault Refusal :=
  s.run fun d => ((d.tick dt).onPtp ppsPulse).stepped d.io.now dt

/-- REF_10M_PRESENT (R154). -/
def execRef10mPresent (dt : Nat) (s : State) : Host.Outcome State Fault Refusal :=
  s.run fun d => (d.tick dt).onPtp ref10mPresent

/-- REF_LOST (R156). -/
def execRefLost (tenMhz : Bool) (dt : Nat) (s : State) : Host.Outcome State Fault Refusal :=
  s.run fun d => (d.tick dt).onPtp (refLost tenMhz)

/-- PTP_SET (R156): the write that sets SET. -/
def execPtpSet (s : State) : Host.Outcome State Fault Refusal :=
  s.run fun d => (d.onIo Io.ptpSet).stepped d.io.now 0

/-- PPS_ARM (R156): the write that sets PPS_ARM. -/
def execPpsArm (s : State) : Host.Outcome State Fault Refusal := s.run fun d => d.onPtp ppsArm

/-- PTP_SOURCE_WRITE (R157). -/
def execPtpSourceWrite (v : Word) (s : State) : Host.Outcome State Fault Refusal :=
  s.run fun d => (d.onPtp (ptpSourceWrite v)).stepped d.io.now 0

/-- DELAY_REQUEST_TX (R157). -/
def execDelayRequestTx (dt : Nat) (s : State) : Host.Outcome State Fault Refusal :=
  s.run fun d => (d.tick dt).onPtp delayRequest

/-! The counters of the MAC and of MACsec, and the transmitting association (ch. 6). -/

/-- MAC_CNT_CLR (R149). -/
def execMacCntClr (p : Fin 128) (s : State) : Host.Outcome State Fault Refusal :=
  s.run fun d => d.onIo (fun io => io.clearWrite (.mac p) Reg.MAC_CNT_CLR 1 (fun io => io.macClear p))

/-- MSEC_CNT_CLR (R162). -/
def execMsecCntClr (p : Fin 128) (s : State) : Host.Outcome State Fault Refusal :=
  s.run fun d => d.onIo (fun io => io.clearWrite (.msec p) Reg.MSEC_CNT_CLR 1 (fun io => io.msecClear p))

/-- MSEC_TX_AN_WRITE (R160). -/
def execMsecTxAnWrite (p : Fin 128) (v : Word) (s : State) : Host.Outcome State Fault Refusal :=
  s.run fun d => d.onIo (fun io => io.txAnWrite p v)

end Sys2Proof.Machine
end

