-- ==== Sys2Proof/Machine/Refs.lean ====
section
/-! DEFINITION. References to frame stores (R201, R207), what their retiring does (R200, R208), how commits complete (R50), and how work in flight is withdrawn (R61, R76). -/
namespace Sys2Proof.Machine

/-! The objects that name a handle (R207). Each has a number: route slots o·16 + k, then flows, write-back settings, slates and legacy sources. -/

/-- The handles that an enabled route slot names in a view. -/
def View.slotNames (v : View) (o k h : Nat) : Bool :=
  (decide (v.slotKind o k false = 2) && decide (v.slotSrc o k false = h))
    || (decide (v.slotKind o k true = 2) && decide (v.slotSrc o k true = h))

/-- A legacy source of an output names a handle: 0 the video layer, 1 to 3 the graphics layers (R322). -/
def View.legNames (v : View) (o s h : Nat) : Bool :=
  v.legacy o && bit (v.outc o Reg.LEG_CTL) s &&
    (if s = 0 then !bit (v.outc o Reg.LEG_VID_SRC) 31 && decide ((v.outc o Reg.LEG_VID_SRC).toNat = h)
     else decide ((v.outc o (Reg.LEG_GFX_SRC + 16 * (s - 1))).toNat = h))

/-- The objects that name handle `h` in a view. -/
def View.namers (v : View) (h : Nat) : List Nat :=
  (v.routedOuts.flatMap fun o => ((v.enabledSlots o).filter (fun k => v.slotNames o k h)).map (fun k => o * 16 + k))
  ++ ((v.flows.filter fun f => (v.flowStore f && decide ((v.flow f 28).toNat = h))
        || (decide (v.flowType f = 4 ∨ v.flowType f = 5) && decide ((v.flow f 29).toNat = h))).map (0x10000 + ·))
  ++ (((v.entries 0x2000000 0x1000 0x70 512).filter (fun o => v.wbOn o && decide (v.wbHandle o = h))).map (0x20000 + ·))
  ++ (((v.entries 0x2000000 0x1000 0x49 512).filter (fun o => decide ((v.outc o Reg.OUTC_SLATE).toNat = h))).map (0x30000 + ·))
  ++ ((v.entries 0x2000000 0x1000 0x100 512).flatMap fun o =>
        ((List.range 4).filter (fun s => v.legNames o s h)).map (fun s => 0x40000 + o * 4 + s))

/-- The address holds part of an object's state. -/
def partOf (x a : Nat) : Bool :=
  match placeOf a with
  | .route o w =>
    decide (x < 8192) && decide (x / 16 = o) && (decide (w = 0) || (decide (16 + 8 * (x % 16) ≤ w) && decide (w < 24 + 8 * (x % 16))))
  | .flow f _ => decide (x = 0x10000 + f)
  | .page (.outc o) off =>
    (decide (x = 0x20000 + o) && decide (off = Reg.OUTC_WB ∨ off = Reg.OUTC_WB_HANDLE))
      || (decide (x = 0x30000 + o) && decide (off = Reg.OUTC_SLATE))
      || (decide (0x40000 ≤ x) && decide ((x - 0x40000) / 4 = o) && decide (Reg.LEG_CTL ≤ off ∨ off = Reg.OUTC_COMP_CFG))
  | _ => false

/-- What the committed state of a layer that is held back will make live over a view: its values, and its slot enabled (R49). -/
def HeldLayer.over (h : HeldLayer) (v : View) : List (Nat × Word) :=
  h.vals ++ [(routeAddr h.out 0, setBit (v.route h.out 0) h.slot true)]

/-- Values captured and not yet live: layers held back, then commit by commit in order, and flows at their frame boundary last. -/
def Dev.pendingVals (d : Dev) : List (List (Nat × Word)) :=
  d.com.held.map (fun h => h.over d.io.live) ++ d.com.pend.map (·.vals) ++ d.com.queue.map (·.vals) ++ d.sv.flows.map (fun e => e.2.fmt)

/-- The objects whose pending state names a handle: each is touched by captured values and names it once they are laid over the live state. -/
def pendingNamers (h : Nat) : View → List (List (Nat × Word)) → List Nat
  | _, [] => []
  | v, xs :: rest =>
    let w := v.over xs
    (if xs.isEmpty then [] else (w.namers h).filter (fun x => xs.any (fun e => partOf x e.1))) ++ pendingNamers h w rest

/-- References held on a handle, one by one as R207 gives them. -/
def Dev.refs (d : Dev) (i : Nat) (s : Store) : Nat :=
  (d.io.live.namers (s.handle i)).length + (pendingNamers (s.handle i) d.io.live d.pendingVals).eraseDups.length
    + (d.st.jobs.filter (fun j => j.index = i)).length + s.pins.length

/-- References held on one slot of a store: jobs and pins (R201, R206). -/
def Dev.slotRefs (d : Dev) (i k : Nat) (s : Store) : Nat :=
  (d.st.jobs.filter (fun j => decide (j.index = i ∧ j.slot = k))).length + (s.pins.filter (fun p => p.2 = k)).length

/-- The handle from which a route slot would show its source or backup. -/
def View.slotHandle (v : View) (o k : Nat) (backup : Bool) : Nat :=
  let kind := v.slotKind o k backup
  let src := v.slotSrc o k backup
  if kind = 2 then src else if kind = 1 ∧ v.flowValid (src % 4096) ∧ v.flowStore (src % 4096) then (v.flow (src % 4096) 28).toNat else 0

/-- A READY slot that a frame-rate stage of mode 1 to 3 has yet to show is kept for it, within the newest SLOTS − 1 publications (R203, R275). -/
def Dev.awaited (d : Dev) (i k : Nat) (s : Store) : Bool :=
  match s.slots[k]? with
  | none => false
  | some x =>
    decide (s.published < x.count + (s.slots.length - 1)) &&
    d.sc.frcs.any fun f =>
      decide (1 ≤ f.mode) &&
      (match f.lastA with
       | some t => decide (t ≤ x.media)
       | none => true) &&
      (match d.io.live.slotOf f.out f.layer with
       | some n => decide (d.io.live.slotHandle f.out n false = s.handle i) || decide (d.io.live.slotHandle f.out n true = s.handle i)
       | none => false)

/-- A FROZEN route slot holds the slot (R226). -/
def Dev.frozen (d : Dev) (i k : Nat) : Bool := d.rt.slots.any (fun e => decide (e.2.hold = some (i, k)))

/-- READY slots without a reference return to FREE, the oldest first (R200). -/
def Dev.freeSlots (d : Dev) : Dev :=
  let gone := d.st.table.flatMap fun e =>
    ((e.2.inState 2).filter (fun k => decide (d.slotRefs e.1 k e.2 = 0) && !d.awaited e.1 k e.2 && !d.frozen e.1 k)).map fun k =>
      (((e.2.slots[k]?).map (·.count)).getD 0, e.1, k)
  { d with st := (sortBy (fun a b => decide (a.1 ≤ b.1)) gone).foldl (fun st g => st.toFree g.2.1 g.2.2) d.st }

/-- A free completes: granules return but for retired ones, the generation advances, and the command completes (R208, R215). -/
def Dev.retire (d : Dev) (i : Nat) (s : Store) (deferred : Bool) : Dev :=
  let st := { d.st with
    table := FMap.erase d.st.table i, gens := FMap.insert d.st.gens i (nextGen s.gen)
    maps := d.st.maps.filter (fun e => e.2.1 ≠ s.handle i)
    hbm := d.st.hbm.filter (fun e => e.1 / 2 ^ 33 ≠ i)
    poisoned := d.st.poisoned.filter (fun b => b / 2 ^ 25 ≠ i), dead := d.st.dead.filter (fun b => b / 2 ^ 25 ≠ i) }
  let bad := (s.bad.filter (fun g => g < s.granules)).length
  let io := d.io.put .fstr Reg.FSTR_GRAN_TOTAL (Word.of ((d.io.reg .fstr Reg.FSTR_GRAN_TOTAL).toNat - bad))
  let io := io.setFree_ ((io.reg .fstr Reg.FSTR_GRAN_FREE).toNat + s.granules - bad)
  let io := (io.showHandles st).showHeld st s.owner
  let io := if deferred then io.raise .fstr 4 else io
  { d with io := io, st := st }.reply s.waiter { status := if deferred then 1 else 0, code := 0, hi := 0, lo := 0 }

/-! Commits that complete (R45, R48, R50, R232, R369, R394). -/

/-- A change that a commit made in an audio channel or a TDM slot has not ended (R369, R394). -/
def Dev.soundOpen (d : Dev) (seq : Nat) : Bool :=
  d.aud.outs.any (fun e => e.2.queue.any (fun q => q.seq = some seq) || decide (e.2.doing = some seq))
    || d.tdm.ports.any (fun e => e.2.waiting.any (fun w => w.2.1 = some seq) || e.2.doing.contains seq)

/-- An accepted commit is not yet complete (R50, R232, R369, R394). -/
def Dev.commitOpen (d : Dev) (p : Pend) : Bool := !p.outs.isEmpty || p.waitT || !p.fasts.isEmpty || d.soundOpen p.seq

/-- A captured value of an accepted commit has yet to become live. -/
def Dev.waits (d : Dev) (p : Pend) (a : Nat) : Bool :=
  match placeOf a with
  | .audio off =>
    if off < 0x80000 then ((FMap.find d.aud.outs (off / 0x20)).map (fun c => c.queue.any (fun q => q.seq = some p.seq))).getD false
    else p.waitT
  | .page (.tdmp q) _ => ((FMap.find d.tdm.ports q.val).map (fun r => r.waiting.any (fun w => w.2.1 = some p.seq))).getD false
  | .fast e _ => p.fasts.contains e || !p.outs.isEmpty
  | _ => !p.outs.isEmpty || p.waitT

/-- A sequence number is newer than another, in 32 bits (R43). -/
def newerSeq (a b : Nat) : Bool := decide (0 < (a + 2 ^ 32 - b) % 2 ^ 32 ∧ (a + 2 ^ 32 - b) % 2 ^ 32 < 2 ^ 31)

/-- TOP_COMMIT_PEND and APPLY_PENDING follow the accepted commits (R43). -/
def Dev.showPend (d : Dev) : Dev :=
  let n := d.com.pend.length + (d.com.pend.filter (fun p => p.salvo.isSome)).length * 2 ^ 16
  if d.io.reg .top Reg.TOP_COMMIT_PEND = Word.of n ∧ d.io.flag .top Reg.TOP_COMMIT_STAT 3 = !d.com.pend.isEmpty then d
  else d.onIo (fun io => (io.put .top Reg.TOP_COMMIT_PEND (Word.of n)).setFlag .top Reg.TOP_COMMIT_STAT 3 (!d.com.pend.isEmpty))

/-- Every output that a commit touches has applied it: events 2034 and, for a salvo, 2037, and TOP_COMMIT_APPLIED (R43, R48, R52). -/
def Dev.outputsDone (d : Dev) (p : Pend) : Dev :=
  d.onIo fun io =>
    let io := io.raise .top 4
    let io := if p.salvo.isSome then io.raise .top 7 else io
    if newerSeq p.seq (io.reg .top Reg.TOP_COMMIT_APPLIED).toNat then io.put .top Reg.TOP_COMMIT_APPLIED (Word.of p.seq) else io

/-- The completion of a commit: its sequence number and the frame count of the last output, 0 where it names none (R50, R64). -/
def Pend.reply (p : Pend) : Reply :=
  { status := if p.deferred then 1 else 0, code := 0, hi := if p.named then p.seq % 2 ^ 16 else 0, lo := if p.named then p.lastFrame % 2 ^ 32 else 0 }

/-- Commits that nothing keeps open complete. -/
def Dev.finishCommits (d : Dev) : Dev :=
  if d.com.pend.isEmpty then d
  else
    let closed := d.com.pend.filter (fun p => !d.commitOpen p)
    let left := (d.com.pend.filter d.commitOpen).map (fun p => { p with vals := p.vals.filter (fun x => d.waits p x.1) })
    let d : Dev := { d with com := { d.com with pend := left } }
    (closed.foldl (fun (d : Dev) p => d.reply p.src p.reply) d).showPend

/-- What the retiring of references brings: commits complete, slots return to FREE, and frees that waited complete (R50, R200, R208). -/
def Dev.settle (d : Dev) : Dev :=
  let d := d.finishCommits.freeSlots
  (d.st.table.filter (fun e => e.2.freeing && decide (d.refs e.1 e.2 = 0))).foldl (fun d e => d.retire e.1 e.2 true) d

/-- A command changes the part by `f`; references that retire in it have their effect. -/
def State.settled (s : State) (f : Dev → Dev) : Host.Outcome State Fault Refusal := s.run (fun d => (f d).settle)

/-! Withdrawing work in flight (R44, R61, R76). -/

/-- Shadows whose capture is undone are dirty again for their writer (R39, R76). -/
def Io.redirty (io : Io) (fn : Nat) (xs : List (Nat × Word)) : Io :=
  xs.foldl (fun (io : Io) x =>
    match FMap.find io.shadow x.1 with
    | some s => if s.dirty then io else { io with shadow := FMap.insert io.shadow x.1 { s with dirty := true } }
    | none => { io with shadow := FMap.insert io.shadow x.1 { val := x.2, writer := fn, dirty := true } }) io

/-- TOP_COMMIT_STAT.VALIDATING follows the queue of commits (R43). -/
def Dev.showValidating (d : Dev) : Dev :=
  d.onIo (fun io => io.setFlag .top Reg.TOP_COMMIT_STAT 0 (!d.com.queue.isEmpty))

/-- What a command before its commit point has set going is withdrawn, with nothing changed (R76). -/
def Dev.withdraw (d : Dev) (q tag : Nat) : Dev :=
  let mine := fun (src : Option (Nat × Nat)) => decide (src = some (q, tag))
  let io := (d.com.queue.filter (fun r => mine r.src)).foldl (fun (io : Io) r => io.redirty r.fn r.vals) d.io
  let jobs := d.nvs.jobs.filter (fun j => !(mine j.src && !j.begun))
  let fetching := match d.boot.load with
    | some (_, _, src) => mine src
    | none => false
  let d := { d with
    io := if fetching then io.setFld .fw Reg.FW_STAT 0 4 0 else io
    com := { d.com with queue := d.com.queue.filter (fun r => !mine r.src) }
    nvs := { d.nvs with jobs := jobs }
    boot := if fetching then { d.boot with load := none } else d.boot }
  d.showValidating

/-- A command before its commit point ends with a status of its own, withdrawn (R60, R61, R76). -/
def Dev.cancel (d : Dev) (q tag status : Nat) : Dev :=
  (d.withdraw q tag).complete q tag { status := status, code := 0, hi := 0, lo := 0 }

end Sys2Proof.Machine
end

