-- ==== Sys2Proof/Machine/System.lean ====
section
/-! DEFINITION. The commands of start-up, temperature, power, spares, the non-volatile store and the keys (ch. 4, 16 to 19). -/
namespace Sys2Proof.Machine

/-! Running a queued command (R69, R71, R93). -/

/-- The command in flight on `q` with `tag` begins: it has the opcode of its row, its turn has come, and the part still completes commands. PF0_ONLY comes first, then the mode of R93, then the command's own rules `f`. -/
def Dev.command (d : Dev) (op q tag : Nat) (f : Cmd → Dev → Dev) : Dev :=
  match d.hq.cmd q tag with
  | none => d
  | some c =>
    if c.op ≠ op ∨ !d.hq.mayStart c ∨ d.io.halted then d
    else
      let d := { d with hq := d.hq.upd q tag (fun c => { c with begun := true }) }
      if c.fn ≠ 0 ∧ pf0Opcodes.contains op then d.complete q tag (Reply.denied 0x0217)
      else
        match modeRefusal c d.io d.boot.woride with
        | some code => d.complete q tag (Reply.rejected code)
        | none => f c d

/-! The rows of start-up (ch. 4). -/

/-- POWER_ON_RESET (R89). -/
def execPowerOnReset (s : State) : Host.Outcome State Fault Refusal := s.run fun d => d.resetAs 0

/-- PERST_ASSERT (R89). -/
def execPerstAssert (s : State) : Host.Outcome State Fault Refusal := s.run fun d => d.resetAs 1

/-- HOT_RESET (R89): the link cannot reset a part that PERST# already holds. -/
def execHotReset (s : State) : Host.Outcome State Fault Refusal :=
  s.run fun d => if d.boot.inReset then d else d.resetAs 2

/-- PF0_FLR (R89): reached over the link. -/
def execPf0Flr (s : State) : Host.Outcome State Fault Refusal :=
  s.run fun d => if d.boot.link then d.resetAs 3 else d

/-- A function-level reset of a VF: its pairs stop, its commands before their commit point are dropped, the others finish silently, its dirty shadows are discarded and its pins retire (R83, R206). -/
def Dev.vfReset (d : Dev) (fn : Nat) : Dev :=
  if fn = 0 then d
  else
    let mine := d.hq.cmds.filter (fun c => c.fn = fn)
    let dropped := (mine.filter (fun c => !c.past)).map (fun c => (c.q, c.tag))
    let gone := fun (src : Option (Nat × Nat)) => (src.map dropped.contains).getD false
    let qs := (List.range 4).map (qOf fn)
    let io := qs.foldl (fun io q => (io.setFlag .hq (qpReg q Reg.HQ_QP_CFG) 0 false).setFlag .hq (qpReg q Reg.HQ_QP_STAT) 0 false) d.io
    let cmds := (d.hq.cmds.filter (fun c => !dropped.contains (c.q, c.tag))).map (fun c => if c.fn = fn then { c with silent := true } else c)
    let hq := { d.hq with
      cmds := cmds, pairs := d.hq.pairs.filter (fun e => !qs.contains e.1)
      waiting := d.hq.waiting.filter (fun w => !dropped.contains (w.q, w.tag)) }
    let io := (qs.foldl (fun io q => (io.showFlight hq q).drained (2 ^ 32 + q)) io).discardOf fn
    let com := { d.com with queue := d.com.queue.filter (fun r => !gone r.src) }
    let nvs := { d.nvs with jobs := d.nvs.jobs.filter (fun j => !gone j.src) }
    let st := { d.st with table := d.st.table.map (fun e => (e.1, { e.2 with pins := e.2.pins.filter (fun p => p.1 ≠ fn) })) }
    { d with io := io.raise .hq 7, st := st, hq := hq, com := com, nvs := nvs }.showValidating

/-- VF_FLR (R83). -/
def execVfFlr (fn : Fin 64) (s : State) : Host.Outcome State Fault Refusal := s.settled fun d => d.vfReset fn

/-- BOOT_ROM_START (R92). -/
def execBootRomStart (mv : Fin 4096) (entropy : Bool) (dt : Nat) (s : State) : Host.Outcome State Fault Refusal :=
  s.run fun d => (d.tick dt).bootRom mv entropy

/-- PCIE_LINK_UP (R101). -/
def execPcieLinkUp (dt : Nat) (s : State) : Host.Outcome State Fault Refusal := s.run fun d => (d.tick dt).linkUp

/-- HBM_TRAINING_DONE (R101, R104). -/
def execHbmTrainingDone (failed : Option (Fin 4)) (dt : Nat) (s : State) : Host.Outcome State Fault Refusal :=
  s.run fun d => (d.tick dt).hbmTrained failed

/-- FW_LOAD (R95, R99): the write that sets LOAD. -/
def execFwLoad (s : State) : Host.Outcome State Fault Refusal :=
  s.run fun d => if d.io.accepts .fw Reg.FW_CTL 1 then d.loadWrite else d.onIo (fun io => io.regWrite 0 .fw Reg.FW_CTL 1)

/-- `CMD_FW_LOAD`: address, length and state are checked, and the load starts (R96, R99). -/
def fwLoadCommand (c : Cmd) (d : Dev) : Dev :=
  let len := (c.p 3).toNat
  if bits (c.p 1) 0 12 ≠ 0 ∨ len < 512 ∨ 8388608 < len then d.complete c.q c.tag (Reply.rejected 0x0213)
  else
    match d.io.loadRefusal with
    | some code => d.complete c.q c.tag (Reply.rejected code)
    | none => d.startLoad ((c.p 1).toNat + 2 ^ 32 * (c.p 2).toNat) len (some (c.q, c.tag))

/-- CMD_FW_LOAD (R96). -/
def execCmdFwLoad (q : Fin 316) (tag : BitVec 16) (s : State) : Host.Outcome State Fault Refusal :=
  s.run fun d => d.command 0x60 q tag.toNat fwLoadCommand

/-- FW_IMAGE_FETCHED (R97). -/
def execFwImageFetched (image : Option (List Byte)) (dt : Nat) (s : State) : Host.Outcome State Fault Refusal :=
  s.run fun d => (d.tick dt).imageFetched image

/-- FW_VERIFY_DONE (R97). -/
def execFwVerifyDone (dt : Nat) (s : State) : Host.Outcome State Fault Refusal := s.run fun d => (d.tick dt).verified

/-- FW_SEC_COMMIT (R100). -/
def execFwSecCommit (v : Word) (s : State) : Host.Outcome State Fault Refusal :=
  s.run fun d => if d.io.accepts .fw Reg.FW_SEC_COMMIT v then d.secCommit v else d.onIo (fun io => io.regWrite 0 .fw Reg.FW_SEC_COMMIT v)

/-- WORIDE_START (R101). -/
def execWorideStart (dt : Nat) (s : State) : Host.Outcome State Fault Refusal := s.run fun d => (d.tick dt).worideStart

/-- SPARE_SELF_TEST_DONE (R101, R104). -/
def execSpareSelfTestDone (failed : SpareFailures) (dt : Nat) (s : State) : Host.Outcome State Fault Refusal :=
  s.run fun d => (d.tick dt).sparesTested failed

/-- FW_TILE_UP (R101). -/
def execFwTileUp (t : Fin 16) (dt : Nat) (s : State) : Host.Outcome State Fault Refusal := s.run fun d => (d.tick dt).tileUp t

/-- ACTIVE_SELF_TEST_DONE (R104). -/
def execActiveSelfTestDone (t : Fin 16) (failed : BitVec 9) (dt : Nat) (s : State) : Host.Outcome State Fault Refusal :=
  s.run fun d => (d.tick dt).activeTested t failed

/-- FW_READY (R101). -/
def execFwReady (dt : Nat) (s : State) : Host.Outcome State Fault Refusal := s.run fun d => (d.tick dt).fwReady

/-- FW_HEARTBEAT_TICK (R105). -/
def execFwHeartbeatTick (dt : Nat) (s : State) : Host.Outcome State Fault Refusal := s.run fun d => (d.tick dt).heartbeat

/-- FW_HEARTBEAT_LOST (R105). -/
def execFwHeartbeatLost (dt : Nat) (s : State) : Host.Outcome State Fault Refusal := s.run fun d => (d.tick dt).heartbeatLost

/-- FUSE_BLOW_DONE (R100, R466). -/
def execFuseBlowDone (dt : Nat) (s : State) : Host.Outcome State Fault Refusal := s.run fun d => (d.tick dt).fuseBlown

/-! The rows of temperature and power (ch. 16). -/

/-- A block whose domain is cut loses its registers: the tile windows, and the device pages outside the fabric half of die 0 (R412, R416). -/
def cutAddr (a : Nat) : Bool :=
  decide (0x1000000 ≤ a ∧ a < 0x2000000) || decide (0xB000 ≤ a ∧ a < 0x10000) || decide (0x11000 ≤ a ∧ a < 0x14000)
    || decide (0x20000 ≤ a ∧ a < 0x30000)

/-- Critical shutdown: outputs, fast path, host transmit, lanes, audio and TDM stop, the domains go off, commands are lost, FAULT (R412). -/
def Dev.shutdown (d : Dev) : Dev :=
  let io := { d.io with
    regs := d.io.regs.filter (fun e => !cutAddr e.1), shadow := d.io.shadow.filter (fun e => !cutAddr e.1)
    written := d.io.written.filter (fun a => !cutAddr a), snap := d.io.snap.filter (fun e => !cutAddr e.1) }
  let io := io.outsOn.foldl (fun io o => io.setState (outPage o) 0) io
  let io := (io.cut critCut).setFw 8
  { d with
    io := io, ser := { Ser.reset with refLost := d.ser.refLost, present := d.ser.present }, sv := Sieve.reset, rt := Routing.reset
    sc := Scanout.reset, aud := Audio.reset, tdm := Tdm.reset, ptp := Ptp.reset, power := Power.reset }.loseCommands

/-- The in-service test follows the level, and LARD_STAT shows it (R410, R430). -/
def Dev.levelMoved (d : Dev) (was : Nat) : Dev :=
  if d.io.level = was then d
  else if d.io.level ≥ 2 ∧ was < 2 then d.onLar Lar.suspend
  else d.onLar Lar.show

/-- An evaluation; entry into CRIT shuts the part down. Before the boot ROM starts there is nothing to shut down, and the entry only holds `THERM_TRIP_N` (R407, R412, R413). -/
def Dev.evaluate (d : Dev) (xs : List (Int × Fin 3)) : Dev :=
  let was := d.io.level
  let r := Sys2Proof.Machine.evaluate xs d.io d.therm
  let d := { d with io := r.1, therm := r.2.1 }
  match r.2.2 with
  | some _ => if d.boot.rom then d.shutdown else d
  | none => d.levelMoved was

/-- THERMAL_EVALUATE (R404 to R409). -/
def execThermalEvaluate (xs : List (Int × Fin 3)) (dt : Nat) (s : State) : Host.Outcome State Fault Refusal :=
  s.runIf (Instr.wellFormed (.thermalEvaluate xs dt)) fun d => (d.tick dt).evaluate xs

/-- LEVEL_DOWN (R408). -/
def execLevelDown (dt : Nat) (s : State) : Host.Outcome State Fault Refusal :=
  s.run fun d => ((d.tick dt).onTherm (fun io t => (levelDown io t, t))).levelMoved d.io.level

/-- SENSOR_RECOVERED (R405). -/
def execSensorRecovered (c : Fin 60) (dt : Nat) (s : State) : Host.Outcome State Fault Refusal :=
  s.run fun d => (d.tick dt).onTherm (sensorRecovered c)

/-- The hard trip: every domain but the always-on one goes off at once, and the link goes down (R412). -/
def Dev.hardTrip (d : Dev) (late : Bool) : Dev :=
  if !hardTripDue late d.io d.therm then d
  else
    let d := d.shutdown
    { d with io := d.io.hardRecord.cut hardCut, nvs := d.nvs.afterReset, boot := { d.boot with link := false } }

/-- THRM_HARD_TRIP (R412). -/
def execThrmHardTrip (late : Bool) (dt : Nat) (s : State) : Host.Outcome State Fault Refusal :=
  s.run fun d => (d.tick dt).hardTrip late

/-- PWR_OFF_WRITE (R416). -/
def execPwrOffWrite (k : Fin 3) (v : Word) (s : State) : Host.Outcome State Fault Refusal :=
  s.run fun d => d.onPower (pwrOffWrite k v)

/-- PWR_TILE_OFF_WRITE (R415). -/
def execPwrTileOffWrite (v : Word) (s : State) : Host.Outcome State Fault Refusal :=
  s.run fun d => d.onPower (pwrTileOffWrite v)

/-- DOMAIN_ON (R416): the Larder counts the slots of the domain again. -/
def execDomainOn (k : Fin 96) (dt : Nat) (s : State) : Host.Outcome State Fault Refusal :=
  s.run fun d => ((d.tick dt).onPower (domainOn k)).onLar Lar.show

/-- DOMAIN_OFF (R415): the Larder stops offering the spares of the domain. -/
def execDomainOff (k : Fin 96) (dt : Nat) (s : State) : Host.Outcome State Fault Refusal :=
  s.run fun d => ((d.tick dt).onPower (domainOff k)).onLar Lar.show

/-! The rows of spares and repair (ch. 17) that touch no output. -/

/-- LARD_SWAP (R426, R436). -/
def execLardSwap (v : Word) (s : State) : Host.Outcome State Fault Refusal :=
  s.run fun d => d.onLar (fun x => x.swapWrite d.sc.jobs v)

/-- IST_STEP (R430). -/
def execIstStep (dt : Nat) (s : State) : Host.Outcome State Fault Refusal :=
  s.run fun d => (d.tick dt).onLar (fun x => x.istStep d.sc.jobs)

/-- A write of LARD_CTL: IST_EN, and IST_NOW starts the next step (R430, R436). -/
def Dev.lardCtl (d : Dev) (v : Word) : Dev :=
  let ok := d.io.accepts .lard Reg.LARD_CTL v
  let d := d.onIo (fun io => io.regWrite 0 .lard Reg.LARD_CTL v)
  if !ok then d
  else if bit v 1 then d.onLar (fun x => (x.istNow d.sc.jobs).show)
  else d.onLar Lar.show

/-- IST_NOW (R430): the write that sets IST_NOW and leaves IST_EN. -/
def execIstNow (s : State) : Host.Outcome State Fault Refusal :=
  s.run fun d => d.lardCtl (setBit (d.io.reg .lard Reg.LARD_CTL) 1 true)

/-- IST_TEST_DONE (R430). -/
def execIstTestDone (e : Fin 144) (pass : Bool) (dt : Nat) (s : State) : Host.Outcome State Fault Refusal :=
  s.run fun d => (d.tick dt).onLar (fun x => x.testDone e pass)

/-- CORE_TAKEOVER (R431). -/
def execCoreTakeover (k : Fin 9) (dt : Nat) (s : State) : Host.Outcome State Fault Refusal :=
  s.run fun d => (d.tick dt).onLar (fun x => x.coreFails k)

/-- SRAM_REPAIRED (R433). -/
def execSramRepaired (location : Fin 65536) (dt : Nat) (s : State) : Host.Outcome State Fault Refusal :=
  s.run fun d => (d.tick dt).onLar (fun x => x.sramRepaired location)

/-- PKTBUF_REPAIRED (R433). -/
def execPktbufRepaired (location : Fin 65536) (dt : Nat) (s : State) : Host.Outcome State Fault Refusal :=
  s.run fun d => (d.tick dt).onLar (fun x => x.pktRepaired (pktDie location) location)

/-- MAP_WRITE_FAIL (R434). -/
def execMapWriteFail (dt : Nat) (s : State) : Host.Outcome State Fault Refusal :=
  s.run fun d => (d.tick dt).onLar Lar.mapWriteFails

/-- WEAR_HOUR_TICK (R435). -/
def execWearHourTick (dt : Nat) (s : State) : Host.Outcome State Fault Refusal :=
  s.run fun d => (d.tick dt).onLar Lar.wearHour

/-- LARD_MAP_QUERY (R436). -/
def execLardMapQuery (v : Word) (s : State) : Host.Outcome State Fault Refusal :=
  s.run fun d => d.onLar (fun x => x.mapQuery v)

/-- A write of LARD_WEAR_SEL snapshots the three counters of an engine, or of a core as 144 + k (R435, R436). -/
def Dev.wearSel (d : Dev) (v : Word) : Dev :=
  if !d.io.accepts .lard Reg.LARD_WEAR_SEL v then d.onIo (fun io => io.regWrite 0 .lard Reg.LARD_WEAR_SEL v)
  else
    let u := bits v 0 8
    let c := fun i => if u < 153 then d.nvs.ctrValue (3 * u + i) else 0
    d.onIo (fun io => ((io.regWrite 0 .lard Reg.LARD_WEAR_SEL v).put .lard Reg.LARD_WEAR_HOURS (Word.of (c 0))).put
      .lard Reg.LARD_WEAR_CNT (Word.of (sat 16 (c 1) + sat 16 (c 2) * 2 ^ 16)))

/-- LARD_WEAR_SEL (R436). -/
def execLardWearSel (v : Word) (s : State) : Host.Outcome State Fault Refusal := s.run fun d => d.wearSel v

/-! The rows of the non-volatile store (ch. 18). -/

/-- A page write ends; a page that a spare replaced enters the repair map (R441, R452). -/
def Dev.pageWritten (d : Dev) (replaced : Bool) : Dev :=
  let r := Nv.pageDone { io := d.io, nv := d.nvs, ks := d.keys, done := [] } replaced
  let d := d.onNv (fun x => (x.pageDone replaced).1)
  d.repairPages r.2.toList

/-- NV_PAGE_WRITE_DONE (R441). -/
def execNvPageWriteDone (replaced : Bool) (dt : Nat) (s : State) : Host.Outcome State Fault Refusal :=
  s.run fun d => (d.tick dt).pageWritten replaced

/-- NV_WINDOW_WRITE (R443, R444). -/
def execNvWindowWrite (off : Fin 65536) (bytes : List Byte) (s : State) : Host.Outcome State Fault Refusal :=
  s.runIf (Instr.wellFormed (.nvWindowWrite off bytes)) fun d => d.onNv (fun x => x.window off (some bytes) bytes.length)

/-- NV_WINDOW_READ (R443, R445). -/
def execNvWindowRead (off : Fin 65536) (len : Nat) (s : State) : Host.Outcome State Fault Refusal :=
  s.runIf (Instr.wellFormed (.nvWindowRead off len)) fun d => d.onNv (fun x => x.window off none len)

/-- A write of NVS_WIN_CTL: IDLE_US, and FLUSH writes the gathered page (R444). -/
def Dev.winCtl (d : Dev) (v : Word) : Dev :=
  let ok := d.io.accepts .nvs Reg.NVS_WIN_CTL v
  let d := d.onIo (fun io => io.regWrite 0 .nvs Reg.NVS_WIN_CTL v)
  if ok ∧ bit v 0 then d.onNv Nv.flush else d

/-- NVS_FLUSH (R444): the write that sets FLUSH and leaves IDLE_US. -/
def execNvsFlush (s : State) : Host.Outcome State Fault Refusal :=
  s.run fun d => d.winCtl (setBit (d.io.reg .nvs Reg.NVS_WIN_CTL) 0 true)

/-- NV_WINDOW_IDLE (R444). -/
def execNvWindowIdle (dt : Nat) (s : State) : Host.Outcome State Fault Refusal :=
  s.run fun d => (d.tick dt).onNv Nv.idle

/-- NVS_WIN_TIMEOUT (R445). -/
def execNvsWinTimeout (dt : Nat) (s : State) : Host.Outcome State Fault Refusal :=
  s.run fun d => (d.tick dt).onNv Nv.winTimeout

/-- A scrub pass; the pages that spares replaced enter the repair map (R452). -/
def Dev.scrubNv (d : Dev) (fs : List (Nat × Nat)) : Dev :=
  let r := Nv.scrub { io := d.io, nv := d.nvs, ks := d.keys, done := [] } fs
  (d.onNv (fun x => (x.scrub fs).1)).repairPages r.2

/-- NVS_SCRUB (R452). -/
def execNvsScrub (findings : List (Fin 131072 × Fin 3)) (dt : Nat) (s : State) : Host.Outcome State Fault Refusal :=
  s.run fun d => (d.tick dt).scrubNv (findings.map (fun f => (f.1.val, f.2.val)))

/-- NVS_CNT_CLR (R453). -/
def execNvsCntClr (s : State) : Host.Outcome State Fault Refusal :=
  s.run fun d => d.onIo (fun io => io.clearWrite .nvs Reg.NVS_CNT_CLR 1 (fun io => io.clearFrom .nvs Reg.NVS_CORR_LO 8))

/-- POWER_LOSS (R442). -/
def execPowerLoss (mv : Fin 4096) (holdup : Bool) (dt : Nat) (s : State) : Host.Outcome State Fault Refusal :=
  s.run fun d => (d.tick dt).onNv (fun x => x.powerLoss mv holdup)

/-- Parameters of `CMD_NV_READ` and `CMD_NV_WRITE`: mode, target, length, host address (R446). -/
def nvParams (c : Cmd) : Nat × Nat × Nat × Nat :=
  (bits (c.p 0) 0 3, (c.p 1).toNat, bits (c.p 4) 0 17, (c.p 2).toNat + 2 ^ 32 * (c.p 3).toNat)

/-- Reserved bits or a host address off its word boundary (R62, R446). -/
def nvBadParam (c : Cmd) : Bool := decide (bits (c.p 0) 3 29 ≠ 0 ∨ bits (c.p 2) 0 2 ≠ 0 ∨ bits (c.p 4) 17 15 ≠ 0)

/-- `CMD_NV_READ` (R446). -/
def nvReadCommand (c : Cmd) (d : Dev) : Dev :=
  let (mode, target, len, addr) := nvParams c
  if nvBadParam c then d.complete c.q c.tag (Reply.rejected 0x0213)
  else if !nvReadOk mode target len then d.complete c.q c.tag (Reply.rejected 0x1111)
  else d.onNv (fun x => ({ x with nv := x.nv.want (some (c.q, c.tag)) (.read mode target len addr) } : Nv).run)

/-- CMD_NV_READ (R446). -/
def execCmdNvRead (q : Fin 316) (tag : BitVec 16) (s : State) : Host.Outcome State Fault Refusal :=
  s.run fun d => d.command 0x40 q tag.toNat nvReadCommand

/-- `CMD_NV_WRITE`, with the data read from host memory (R446). -/
def nvWriteCommand (data : List Byte) (c : Cmd) (d : Dev) : Dev :=
  let (mode, target, len, _) := nvParams c
  if nvBadParam c then d.complete c.q c.tag (Reply.rejected 0x0213)
  else if !nvWriteOk mode target len then d.complete c.q c.tag (Reply.rejected 0x1111)
  else d.onNv (fun x => ({ x with
    nv := x.nv.want (some (c.q, c.tag)) (nvWriteKind x.io mode target (padTo len data))
    io := if mode = 1 then x.io.took else x.io } : Nv).run)

/-- CMD_NV_WRITE (R446). -/
def execCmdNvWrite (q : Fin 316) (tag : BitVec 16) (data : List Byte) (s : State) : Host.Outcome State Fault Refusal :=
  s.runIf (Instr.wellFormed (.cmdNvWrite q tag data)) fun d => d.command 0x41 q tag.toNat (nvWriteCommand data)

/-! The rows of the keys (ch. 19). -/

/-- The key of `CMD_KEY_WRITE`: P1 to P8, first byte in P1 [7:0] (R460). -/
def keyBytes (c : Cmd) : List Byte := (List.range 8).flatMap (fun i => wordBytes (c.p (1 + i)))

/-- `CMD_KEY_WRITE` joins the one order of the store's commands; its tests run when its turn comes (R460, R461, R468). -/
def keyWriteCommand (c : Cmd) (d : Dev) : Dev :=
  let p0 := c.p 0
  let erase := bit p0 12
  if bits p0 16 2 = 3 ∨ bits p0 9 3 ≠ 0 ∨ bits p0 13 3 ≠ 0 ∨ bits p0 18 2 ≠ 0 ∨ bits p0 21 11 ≠ 0 then
    d.complete c.q c.tag (Reply.rejected 0x0213)
  else d.onNv (fun x => ({ x with
    nv := x.nv.want (some (c.q, c.tag)) (.key (bits p0 0 9) (bits p0 16 2) (bit p0 20) erase (keyBytes c)) } : Nv).run)

/-- CMD_KEY_WRITE (R460). -/
def execCmdKeyWrite (q : Fin 316) (tag : BitVec 16) (s : State) : Host.Outcome State Fault Refusal :=
  s.run fun d => d.command 0x50 q tag.toNat keyWriteCommand

/-- `CMD_LIFECYCLE`: a second one meets KEYS_LC_BUSY while one waits or runs (R466, R468). -/
def lifecycleCommand (c : Cmd) (d : Dev) : Dev :=
  let target := bits (c.p 0) 0 3
  let waits := d.nvs.jobs.any (fun j => match j.kind with
    | .lifecycle .. => true
    | _ => false)
  if bits (c.p 0) 3 29 ≠ 0 then d.complete c.q c.tag (Reply.rejected 0x0213)
  else if (c.p 1).toNat ≠ 0x4C430000 + 16 * d.io.lcState + target ∧ !waits then d.complete c.q c.tag (Reply.rejected 0x1214)
  else if waits then d.complete c.q c.tag (Reply.rejected 0x1215)
  else d.onNv (fun x => ({ x with nv := x.nv.want (some (c.q, c.tag)) (.lifecycle target (some (c.p 1).toNat)) } : Nv).run)

/-- CMD_LIFECYCLE (R466). -/
def execCmdLifecycle (q : Fin 316) (tag : BitVec 16) (s : State) : Host.Outcome State Fault Refusal :=
  s.run fun d => d.command 0x51 q tag.toNat lifecycleCommand

/-- KEYS_RNG_READ (R471). -/
def execKeysRngRead (s : State) : Host.Outcome State Fault Refusal := s.run fun d => d.onIo (fun io => rngRead io d.keys)

/-- A live AUTH handle names the key slot (R205, R472). -/
def Stores.authNames (st : Stores) (s : Nat) : Bool := st.table.any (fun e => e.2.auth && decide (e.2.keySlot = s))

/-- KEYS_SLOT_QUERY (R472). -/
def execKeysSlotQuery (v : Word) (s : State) : Host.Outcome State Fault Refusal :=
  s.run fun d => d.onIo (fun io => keysQuery v d.st.authNames io d.keys)

/-- ENTROPY_FAIL (R471). -/
def execEntropyFail (dt : Nat) (s : State) : Host.Outcome State Fault Refusal := s.run fun d => (d.tick dt).onKeys entropyFail

/-- ENTROPY_RETEST (R471). -/
def execEntropyRetest (pass : Bool) (dt : Nat) (s : State) : Host.Outcome State Fault Refusal :=
  s.run fun d => (d.tick dt).onKeys (entropyRetest pass)

end Sys2Proof.Machine
end

