-- ==== Sys2Proof/Machine/HostCmds.lean ====
section
/-! DEFINITION. The commands of the queues and of the frame stores (ch. 3, ch. 8). -/
namespace Sys2Proof.Machine

/-! The rows of queues (R60 to R76). -/

/-- SQ_DOORBELL (R65). -/
def execSqDoorbell (q : Fin 316) (v : Word) (s : State) : Host.Outcome State Fault Refusal :=
  s.run fun d => d.onHq (fun io hq => let io := sqDoorbell q v io; (showStall q io hq, hq))

/-- CQ_DOORBELL (R65, R70). -/
def execCqDoorbell (q : Fin 316) (v : Word) (s : State) : Host.Outcome State Fault Refusal :=
  s.run fun d => d.onHq (cqDoorbell q v)

/-- The function that writes a pair's context: PF0, or the owner of the pair (R59). -/
def contextWriter (q : Nat) (byVf : Bool) : Nat := if byVf then qFn q else 0

/-- QP_ENABLE (R60): a write of HQ_QP_CFG with EN set. -/
def execQpEnable (q : Fin 316) (v : Word) (byVf : Bool) (s : State) : Host.Outcome State Fault Refusal :=
  s.run fun d => d.onHq (qpWrite (contextWriter q byVf) q Reg.HQ_QP_CFG (setBit v 0 true))

/-- QP_DISABLE (R60): a write of HQ_QP_CFG with EN clear. -/
def execQpDisable (q : Fin 316) (v : Word) (byVf : Bool) (s : State) : Host.Outcome State Fault Refusal :=
  s.run fun d => d.onHq (qpWrite (contextWriter q byVf) q Reg.HQ_QP_CFG (setBit v 0 false))

/-- COMMAND_FETCH (R67, R68): the entry that stands in host memory is read over the link. -/
def execCommandFetch (q : Fin 316) (entry : Option (List Word)) (dt : Nat) (s : State) : Host.Outcome State Fault Refusal :=
  s.runIf (Instr.wellFormed (.commandFetch q entry dt)) fun d =>
    let d := d.tick dt
    if d.boot.link then d.onHq (fetch q entry d.boot.woride) else d

/-- COMMAND_TIMEOUT (R61, R76): only before the commit point. -/
def execCommandTimeout (q : Fin 316) (tag : BitVec 16) (dt : Nat) (s : State) : Host.Outcome State Fault Refusal :=
  s.settled fun d =>
    let d := d.tick dt
    match d.hq.cmd q tag.toNat with
    | some c => if c.past ∨ d.io.up < c.since + c.timeout ∨ d.io.halted then d else d.cancel c.q c.tag 6
    | none => d

/-- COALESCE_TIMEOUT (R70). -/
def execCoalesceTimeout (q : Fin 316) (dt : Nat) (s : State) : Host.Outcome State Fault Refusal :=
  s.run fun d => (d.tick dt).onHq (coalesce q)

/-- CMD_NOP (R71). -/
def execCmdNop (q : Fin 316) (tag : BitVec 16) (s : State) : Host.Outcome State Fault Refusal :=
  s.run fun d => d.command 0x00 q tag.toNat (fun c d => d.complete c.q c.tag (Reply.done 0 0))

/-- `CMD_ABORT`: its acceptance and the target's commit point are ordered here (R76). -/
def abortCommand (c : Cmd) (d : Dev) : Dev :=
  let k := bits (c.p 0) 16 6
  let q := qOf c.fn k
  if c.strays [0x3FFFFF] ∨ (c.fn ≠ 0 ∧ 4 ≤ k) then d.complete c.q c.tag (Reply.rejected 0x0213)
  else
    match d.hq.live.find? (fun x => decide (x.q = q ∧ x.tag = bits (c.p 0) 0 16)) with
    | none => d.complete c.q c.tag (Reply.rejected 0x0215)
    | some x =>
      if x.op = 0x02 then d.complete c.q c.tag (Reply.rejected 0x0216)
      else if x.past then d.complete c.q c.tag { status := 4, code := 0, hi := 0, lo := 0 }
      else (d.cancel x.q x.tag 2).complete c.q c.tag (Reply.done 0 0)

/-- CMD_ABORT (R76). -/
def execCmdAbort (q : Fin 316) (tag : BitVec 16) (s : State) : Host.Outcome State Fault Refusal :=
  s.settled fun d => d.command 0x02 q tag.toNat abortCommand

/-! The rows of frame stores (ch. 8). -/

/-- `CMD_FS_ALLOC` (R197): AUTH from a VF is refused first. -/
def allocCommand (c : Cmd) (d : Dev) : Dev :=
  let kind := bits (c.p 0) 4 2
  if !(bit (c.p 0) 8 && decide (c.fn ≠ 0)) && c.strays ([0x01FF01F7] ++ if kind = 0 then [0x3FFF3FFF, 0xFF] else []) then
    d.complete c.q c.tag (Reply.rejected 0x0213)
  else
    let (r, io, st) := fsAlloc c.fn (c.p 0) (c.p 1) (c.p 2) d.io d.st
    { d with io := io, st := st }.complete c.q c.tag r

/-- CMD_FS_ALLOC (R197 to R199). -/
def execCmdFsAlloc (q : Fin 316) (tag : BitVec 16) (s : State) : Host.Outcome State Fault Refusal :=
  s.run fun d => d.command 0x10 q tag.toNat allocCommand

/-- A command that names a handle: the handle is known, and its issuer owns it (R71, R81, R196). -/
def Dev.withHandle (d : Dev) (c : Cmd) (h : Nat) (f : Store → Dev) : Dev :=
  match d.st.known h with
  | none => d.complete c.q c.tag (Reply.rejected 0x0810)
  | some s => if c.fn ≠ 0 ∧ s.owner ≠ c.fn then d.complete c.q c.tag (Reply.denied 0x0218) else f s

/-- `CMD_FREE` (R208): from here the handle is FREEING. -/
def freeCommand (c : Cmd) (d : Dev) : Dev :=
  let h := (c.p 0).toNat
  d.withHandle c h fun s0 =>
    if s0.freeing then d.complete c.q c.tag (Reply.rejected 0x0813)
    else
      let i := h % 65536
      let s : Store := { s0 with freeing := true, waiter := some (c.q, c.tag) }
      let st := { d.st.unmapAll h with table := FMap.insert d.st.table i s }
      let d : Dev := ({ d with io := d.io.showHandles st, st := st } : Dev).past (some (c.q, c.tag))
      if d.refs i s = 0 then d.retire i s false else d

/-- CMD_FREE (R208). -/
def execCmdFree (q : Fin 316) (tag : BitVec 16) (s : State) : Host.Outcome State Fault Refusal :=
  s.run fun d => d.command 0x11 q tag.toNat freeCommand

/-- `CMD_FS_MAP` (R210): with UNMAP the handle is ignored. -/
def mapCommand (c : Cmd) (d : Dev) : Dev :=
  let n := bits (c.p 1) 16 8
  if (c.strays [0xFFFFFFFF, 0x00FF8FFF, 0xFFFFFF, 3]) || decide (n = 0 ∨ 64 < n) then d.complete c.q c.tag (Reply.rejected 0x0213)
  else if bit (c.p 3) 1 then
    let (r, st) := fsUnmap c.fn (c.p 1) d.st
    { d with st := st }.complete c.q c.tag r
  else
    d.withHandle c (c.p 0).toNat fun _ =>
      let (r, st) := fsMap c.fn (c.p 0).toNat (c.p 1) (c.p 2) (c.p 3) d.st
      { d with st := st }.complete c.q c.tag r

/-- CMD_FS_MAP (R210). -/
def execCmdFsMap (q : Fin 316) (tag : BitVec 16) (s : State) : Host.Outcome State Fault Refusal :=
  s.run fun d => d.command 0x12 q tag.toNat mapCommand

/-- The tag of an authenticated publication: P2 to P9, first byte in P2 [7:0] (R206). -/
def fenceTag (c : Cmd) : List Byte := (List.range 8).flatMap (fun i => wordBytes (c.p (2 + i)))

/-- The slot's bytes carry the tag that the key of KEY_SLOT gives (R205); an empty key slot fails. -/
def Dev.authentic (d : Dev) (i k : Nat) (s : Store) (tag : List Byte) : Bool :=
  !s.auth ||
  match d.keys.key 1 s.keySlot with
  | some key => decide (beBytes 32 (Config.hmacSha256 key (d.st.bytes i (k * s.slotG * 65536) (s.slotG * 65536))).toNat = tag)
  | none => false

/-- PUBLISH on the host path (R204 to R206). -/
def publishCommand (c : Cmd) (i k : Nat) (s : Store) (d : Dev) : Dev :=
  if s.writer ≠ 0 then d.complete c.q c.tag (Reply.rejected 0x0817)
  else if !(s.inState 1).contains k then d.complete c.q c.tag (Reply.rejected 0x0815)
  else if !d.authentic i k s (fenceTag c) then d.complete c.q c.tag (Reply.rejected 0x0816)
  else { d with st := d.st.publish i k 0 d.io.now d.io.now }.complete c.q c.tag (Reply.done 0 0)

/-- PIN (R206): SLOT 7 names the NEWEST slot. -/
def pinCommand (c : Cmd) (i slot : Nat) (s : Store) (d : Dev) : Dev :=
  match (if slot = 7 then s.newest else some slot) with
  | none => d.complete c.q c.tag (Reply.rejected 0x0815)
  | some k =>
    if s.freeing then d.complete c.q c.tag (Reply.rejected 0x0813)
    else if !s.published_ k ∨ 8 ≤ s.pins.length then d.complete c.q c.tag (Reply.rejected 0x0815)
    else
      { d with st := d.st.modify i (fun s => { s with pins := (c.fn, k) :: s.pins }) }.complete c.q c.tag
        (Reply.done k (((s.slots[k]?).map (fun (x : Slot) => x.count)).getD 0))

/-- UNPIN (R206). -/
def unpinCommand (c : Cmd) (i k : Nat) (s : Store) (d : Dev) : Dev :=
  if !s.pins.contains (c.fn, k) then d.complete c.q c.tag (Reply.rejected 0x0815)
  else { d with st := d.st.modify i (fun s => { s with pins := s.pins.erase (c.fn, k) }) }.complete c.q c.tag (Reply.done 0 0)

/-- `CMD_FENCE`: the parameters, then the handle, then its table (R206). -/
def fenceCommand (c : Cmd) (d : Dev) : Dev :=
  let h := (c.p 0).toNat
  let op := bits (c.p 1) 0 2
  let slot := bits (c.p 1) 4 3
  if c.strays [0xFFFFFFFF, 0x73] ∨ op = 3 ∨ (slot = 7 ∧ op ≠ 1) then d.complete c.q c.tag (Reply.rejected 0x0213)
  else
    d.withHandle c h fun s =>
      if slot ≠ 7 ∧ s.slots.length ≤ slot then d.complete c.q c.tag (Reply.rejected 0x0213)
      else if op = 0 then publishCommand c (h % 65536) slot s d
      else if op = 1 then pinCommand c (h % 65536) slot s d
      else unpinCommand c (h % 65536) slot s d

/-- CMD_FENCE (R206). -/
def execCmdFence (q : Fin 316) (tag : BitVec 16) (s : State) : Host.Outcome State Fault Refusal :=
  s.settled fun d => d.command 0x13 q tag.toNat fenceCommand

/-- A read met an HBM error: counted, logged and repaired, and the row enters the repair map as KIND 6 (R212 to R215). -/
def Dev.hbmError (d : Dev) (e : HbmError) : Dev :=
  let (io, st, repaired) := Sys2Proof.Machine.hbmError e d.io d.st
  let d := { d with io := io, st := st }
  if repaired then d.onLar (fun x => x.repair 6 0 (e.stack.val + e.pch.val * 2 ^ 2 + e.bank.val * 2 ^ 7 + e.row.val * 2 ^ 13)) else d

/-- AP_WRITE (R211). -/
def execApWrite (fn : Fin 64) (addr : Nat) (bytes : List Byte) (s : State) : Host.Outcome State Fault Refusal :=
  s.runIf (Instr.wellFormed (.apWrite fn addr bytes)) fun d => d.onSt (apWrite fn addr bytes)

/-- AP_READ (R209, R213). -/
def execApRead (fn : Fin 64) (addr len : Nat) (bad : Option HbmError) (s : State) : Host.Outcome State Fault Refusal :=
  s.runIf (Instr.wellFormed (.apRead fn addr len bad)) fun d =>
    let d := match bad with
      | some e => d.hbmError e
      | none => d
    d.onIo (fun io => io.emit (.readBytes (d.st.apBytes fn addr len) (d.st.apPoisoned fn addr len)))

/-- The query words of an index (R218). -/
def Dev.queryWords (d : Dev) (i : Nat) : List Nat :=
  match FMap.find d.st.table i with
  | none => [i + d.st.genOf i * 2 ^ 16, 0, 0, 0, 0, 0, 0]
  | some s =>
    [ i + s.gen * 2 ^ 16 + 2 ^ 31
    , s.owner + s.kind * 2 ^ 8 + s.writer * 2 ^ 10 + s.slots.length * 2 ^ 12 + b2n s.auth * 2 ^ 15 + b2n s.fence * 2 ^ 16
        + b2n s.freeing * 2 ^ 17
    , sat 16 s.slotG + sat 16 (d.refs i s) * 2 ^ 16
    , (s.slots.zipIdx.map (fun x => (x.1.state + min 3 (d.slotRefs i x.2 s) * 4) * 2 ^ (4 * x.2))).sum
    , s.width + s.height * 2 ^ 16
    , s.format + s.keySlot * 2 ^ 16
    , s.published ]

/-- A write of FSTR_QUERY, with its snapshot when the write is taken (R217). -/
def Dev.fstrQuery (d : Dev) (v : Word) : Dev :=
  if d.io.accepts .fstr Reg.FSTR_QUERY v then
    let io := d.io.regWrite 0 .fstr Reg.FSTR_QUERY v
    let ws := d.queryWords (bits v 0 16)
    { d with io := ws.zipIdx.foldl (fun (io : Io) w => io.put .fstr (Reg.FSTR_QUERY_DATA + 4 * w.2) (Word.of w.1)) io }
  else d.onIo (fun io => io.regWrite 0 .fstr Reg.FSTR_QUERY v)

/-- FSTR_QUERY (R217, R218). -/
def execFstrQuery (v : Word) (s : State) : Host.Outcome State Fault Refusal := s.run fun d => d.fstrQuery v

/-- A write of FSTR_MAP_QUERY, with its snapshot when the write is taken (R217). -/
def Dev.mapQueryWrite (d : Dev) (v : Word) : Dev :=
  d.onIo (fun io => if io.accepts .fstr Reg.FSTR_MAP_QUERY v then fstrMapQuery v io d.st else io.regWrite 0 .fstr Reg.FSTR_MAP_QUERY v)

/-- FSTR_MAP_QUERY (R217). -/
def execFstrMapQuery (v : Word) (s : State) : Host.Outcome State Fault Refusal := s.run fun d => d.mapQueryWrite v

/-- FSTR_CNT_CLR (R217). -/
def execFstrCntClr (s : State) : Host.Outcome State Fault Refusal :=
  s.run fun d => d.onIo (fun io => io.clearWrite .fstr Reg.FSTR_CNT_CLR 1 (fun io => io.clearFrom .fstr 0x80 6))

/-- A stack's controller works: its stack is trained (R101, R219). -/
def Io.trained (io : Io) (k : Fin 4) : Bool := io.flag (.hbmc k) Reg.HBMC_STAT 0

/-- HBM_SCRUB (R212): the pass meets the errors given, and ends. -/
def execHbmScrub (k : Fin 4) (errs : List HbmError) (dt : Nat) (s : State) : Host.Outcome State Fault Refusal :=
  s.run fun d =>
    let d := d.tick dt
    if d.io.trained k then
      ((errs.filter (fun e => e.stack = k)).foldl (fun (d : Dev) e => d.hbmError e) d).onIo (fun io => io.scrubDone k)
    else d

/-- What admission judges of the live state alone (R27). -/
def Dev.liveAdm (d : Dev) : Adm :=
  { views := [d.io.live], final := d.io.live, st := d.st, outs := d.io.outsOn
    hidden := fun l => d.io.live.layerHidden l, flat := d.sc.flat }

/-- Live charges exceed the live capacity in budget 1 or 2, or a job of a shown layer has no engine (R27). -/
def Adm.short (a : Adm) (js : List Job) : Bool :=
  (match a.judge with
   | some (code, _) => decide (code ≤ 0x0141)
   | none => false) || (unplaced js).isSome

/-- Capacity has changed: a shortfall is announced as it begins, and layers are shed from the next latch lines on (R27). -/
def Dev.checkCapacity (d : Dev) : Dev :=
  let short := d.liveAdm.short d.sc.jobs
  let d := { d with com := { d.com with shed := short } }
  if short then d.onIo (fun io => io.raise .top 9) else d

/-- PCH_LOST (R215). -/
def execPchLost (k : Fin 4) (c : Fin 32) (dt : Nat) (s : State) : Host.Outcome State Fault Refusal :=
  s.run fun d =>
    let d := d.tick dt
    if d.io.trained k then (d.onSt (pchLost k c)).checkCapacity else d

/-- REFRESH_2X (R216). -/
def execRefresh2x (k : Fin 4) (celsius : Nat) (dt : Nat) (s : State) : Host.Outcome State Fault Refusal :=
  s.run fun d =>
    let d := d.tick dt
    if d.io.trained k then d.onIo (fun io => io.hbmTemp k celsius) else d

/-- HBMC_CNT_CLR (R219). -/
def execHbmcCntClr (k : Fin 4) (s : State) : Host.Outcome State Fault Refusal :=
  s.run fun d => d.onIo (fun io => io.clearWrite (.hbmc k) Reg.HBMC_CNT_CLR 1 (fun io => io.clearFrom (.hbmc k) Reg.HBMC_CORR_LO 4))

end Sys2Proof.Machine
end

