-- ==== Sys2Proof/Machine/Sdi.lean ====
section
/-! DEFINITION. SDI signals inside ST 2022-6 (R176, R339, R358, R360): the words of a raster, its picture, ancillary data and embedded audio. Layouts are those of SMPTE ST 292-1, ST 291-1 and ST 299-1, which the spec names and does not print (PRESUMED: notes/assumptions). -/
namespace Sys2Proof.Machine

/-- Whole frames per second of a rate. -/
def Rate.whole (r : Rate) : Nat := if r.den = 1001 then r.num / 1000 else r.num

/-- Samples per line of a raster in each of the two streams (SMPTE ST 274, ST 296). -/
def sdiTotal (p : Pic) : Nat :=
  let n := p.rate.whole
  if p.h = 720 then
    (if n = 60 then 1650 else if n = 50 then 1980 else if n = 30 then 3300 else if n = 25 then 3960 else 4125)
  else if n = 60 ∨ n = 30 then 2200 else if n = 50 ∨ n = 25 then 2640 else 2750

/-- Lines of the raster. -/
def sdiLines (p : Pic) : Nat := if p.h = 720 then 750 else 1125

/-- The SDI line, counted from 1, that carries row `y` of the picture (R339). -/
def sdiLineOf (p : Pic) (y : Nat) : Nat :=
  if p.scan = 0 then (if p.h = 720 then 26 else 42) + y
  else if y % 2 = 0 then 21 + y / 2 else 584 + y / 2

/-- The first active SDI line (R339). -/
def sdiFirst (p : Pic) : Nat := sdiLineOf p 0

/-- The row of the picture that an SDI line carries, if any. -/
def sdiRowOf (p : Pic) (n : Nat) : Option Nat :=
  if p.scan = 0 then
    (if sdiFirst p ≤ n ∧ n < sdiFirst p + p.h then some (n - sdiFirst p) else none)
  else if 21 ≤ n ∧ n < 21 + p.h / 2 then some (2 * (n - 21))
  else if 584 ≤ n ∧ n < 584 + p.h / 2 then some (2 * (n - 584) + 1)
  else none

/-- Line `n` lies in the second field. -/
def sdiField2 (p : Pic) (n : Nat) : Bool := decide (p.scan ≠ 0) && decide (564 ≤ n)

/-- Words of 10 bits packed most significant bit first: five bytes hold four words. -/
def tenWords : List Byte → List Nat
  | a :: b :: c :: d :: e :: rest =>
    let n := beNat [a, b, c, d, e]
    n / 2 ^ 30 :: n / 2 ^ 20 % 1024 :: n / 2 ^ 10 % 1024 :: n % 1024 :: tenWords rest
  | _ => []

/-- Pack words of 10 bits, the last bytes filled with 0. -/
def packTens : List Nat → List Byte
  | a :: b :: c :: d :: rest => beBytes 5 (((a * 1024 + b) * 1024 + c) * 1024 + d) ++ packTens rest
  | [] => []
  | [a] => beBytes 2 (a * 64)
  | [a, b] => beBytes 3 ((a * 1024 + b) * 16)
  | [a, b, c] => beBytes 4 (((a * 1024 + b) * 1024 + c) * 4)

/-- Every second word from the first: one of the two streams. -/
def stream : List Nat → List Nat
  | a :: _ :: rest => a :: stream rest
  | [a] => [a]
  | [] => []

/-- The colour-difference stream of a line's words. -/
def chromaOf (ws : List Nat) : List Nat := stream ws
/-- The luma stream of a line's words. -/
def lumaOf (ws : List Nat) : List Nat := stream (ws.drop 1)

/-- An ancillary packet in a stream: where it starts, its DID, SDID or block number, its user words, and its checksum. -/
structure AncRaw where
  pos : Nat
  did : Nat
  second : Nat
  udw : List Nat
  checksumOk : Bool
  deriving DecidableEq, Repr

/-- Ancillary packets in a stream, from position `pos` on. -/
def scanAnc : Nat → Nat → List Nat → List AncRaw
  | 0, _, _ => []
  | _ + 1, _, [] => []
  | k + 1, pos, w :: ws =>
    match w, ws with
    | 0, 0x3FF :: 0x3FF :: did :: sec :: dc :: rest =>
      let n := dc % 256
      if rest.length < n + 1 then []
      else
        let udw := rest.take n
        let a : AncRaw :=
          { pos := pos, did := did, second := sec, udw := udw
            checksumOk := decide (ancChecksum ([did, sec, dc] ++ udw) = rest.getD n 0) }
        a :: scanAnc k (pos + 7 + n) (rest.drop (n + 1))
    | _, _ => scanAnc k (pos + 1) ws

/-! Embedded audio (ST 299-1). -/

/-- DID of audio group 1 to 4, as a 10-bit word. -/
def audioDid (g : Nat) : Nat := if g = 0 then 0x2E7 else if g = 1 then 0x1E6 else if g = 2 then 0x1E5 else 0x2E4

/-- The audio group of a DID. -/
def audioGroup (did : Nat) : Option Nat := [0, 1, 2, 3].find? (fun g => decide (did = audioDid g))

/-- Remainder of a bit string by x^6 + x^5 + x^3 + x^2 + x + 1. -/
def bchRem (bs : List Bool) : Nat :=
  bs.foldl (fun r b => let r := 2 * r + b2n b; if r ≥ 64 then r ^^^ 0x6F else r) 0

/-- Bit lane `i` of words. -/
def lane (i : Nat) (ws : List Nat) : List Bool := ws.map (fun w => w.testBit i)

/-- The six error-correction words of the first 24 words of an audio packet. -/
def bchWords (ws : List Nat) : List Nat :=
  let rems := (List.range 8).map (fun i => bchRem (lane i ws ++ List.replicate 6 false))
  (List.range 6).map fun k =>
    ancWord ((rems.zipIdx.map (fun r => if r.1.testBit (5 - k) then 2 ^ r.2 else 0)).sum)

/-- Correct one bit per lane; none where a lane cannot be corrected. The 30 words are the 24 protected and the six check words. -/
def bchCorrect (ws : List Nat) : Option (List Nat) :=
  (List.range 8).foldl (fun out i =>
    match out with
    | none => none
    | some out =>
      let s := bchRem (lane i ws)
      if s = 0 then some out
      else
        match (List.range 30).find? (fun j => decide (bchRem (true :: List.replicate (29 - j) false) = s)) with
        | some j => some (modifyAt (fun w => w ^^^ 2 ^ i) j out)
        | none => none) (some ws)

/-- The user words of an audio packet after correction: none where the packet is dropped (R358). -/
def audioWords (a : AncRaw) : Option (List Nat) :=
  if !a.checksumOk ∨ a.udw.length ≠ 24 then none
  else (bchCorrect ([0, 0x3FF, 0x3FF, a.did, a.second, 0x218] ++ a.udw)).map (fun ws => (ws.drop 6).take 18)

/-- The sample of channel `j` of a group, with V, U and C in bits 24 to 26 and the block start in bit 27. -/
def audioValue (ws : List Nat) (j : Nat) : Nat :=
  let w := fun k => ws.getD (2 + 4 * j + k) 0
  w 0 / 16 % 16 + w 1 % 256 * 16 + w 2 % 256 * 2 ^ 12 + w 3 % 16 * 2 ^ 20 + b2n ((w 3).testBit 4) * 2 ^ 24
    + b2n ((w 3).testBit 5) * 2 ^ 25 + b2n ((w 3).testBit 6) * 2 ^ 26 + b2n ((w 0).testBit 3) * 2 ^ 27

/-- Video clocks from the start of the line to the sample, and whether the packet comes one line late. -/
def audioPhase (ws : List Nat) : Nat × Bool :=
  let a := ws.getD 0 0
  let b := ws.getD 1 0
  (a % 256 + b % 16 * 256 + b2n (b.testBit 5) * 4096, b.testBit 4)

/-- The instant of an embedded sample: that of its line, and the clock phase (R354). -/
def audioInstant (p : Pic) (media line : Nat) (ws : List Nat) : Nat :=
  let (ck, late) := audioPhase ws
  let clocks := (line - 1 - b2n late) * sdiTotal p + ck
  media + clocks * p.rate.den * 1000000000 / (p.rate.num * sdiLines p * sdiTotal p)

/-- The audio packets in the horizontal blanking of a line's colour-difference stream. -/
def lineAudio (p : Pic) (ws : List Nat) : List AncRaw :=
  let hanc := ((chromaOf ws).take (sdiTotal p - p.w - 4)).drop 8
  (scanAnc (hanc.length + 1) 0 hanc).filter (fun a => (audioGroup a.did).isSome)

/-- A packet of embedded audio gives its four samples to the channels of its group, or is dropped and counted (R358). -/
def embeddedPacket (p : Pic) (first media line : Nat) (a : AncRaw) (io : Io) (au : Audio) : Io × Audio :=
  match audioWords a, audioGroup a.did with
  | some ws, some g =>
    let n := (audioInstant p media line ws * 48000 + 500000000) / 1000000000
    (List.range 4).foldl (fun x j => inputSample (first + 4 * g + j) n (audioValue ws j) true x.1 x.2) (io, au)
  | _, _ => audRaise 7 (io.count48 .audm Reg.AUDM_EMBED_DROP_LO 1) au

/-! Ancillary data and the picture. -/

/-- An ancillary packet of a stream as ST 2110-40 describes it. -/
def AncRaw.anc (a : AncRaw) (chroma : Bool) (line : Nat) : Anc :=
  { chroma := chroma, line := line, hoff := a.pos, did := a.did % 256, sdid := a.second % 256, udw := a.udw, checksumOk := a.checksumOk }

/-- The vertical ancillary packets of a line with good checksums (R176). -/
def lineVanc (p : Pic) (line : Nat) (ws : List Nat) : List Anc :=
  if (sdiRowOf p line).isSome then []
  else
    let t := sdiTotal p
    let part := fun (s : List Nat) => let a := s.drop (t - p.w); scanAnc (a.length + 1) 0 a
    (((part (lumaOf ws)).map (fun a => a.anc false line)) ++ ((part (chromaOf ws)).map (fun a => a.anc true line))).filter Anc.checksumOk

/-- The lines of a frame's signal, from line 1. -/
def sdiSplit (p : Pic) (bytes : List Byte) : List (List Nat) := chunks (2 * sdiTotal p) (sdiLines p) (tenWords bytes)

/-- The active words of a line, as pixel groups of 4:2:2 10-bit. -/
def activeBytes (p : Pic) (ws : List Nat) : List Byte := packTens (ws.drop (2 * (sdiTotal p - p.w)))

/-- A complete SDI frame gives its picture to the store, its VANC to the ANC store, and its audio to the input channels (R176, R358). -/
def sdiFrame (x : SdiFrame) (io : Io) (st : Stores) (au : Audio) : Io × Stores × Audio :=
  let v := io.live
  let p := v.flowPic x.flow
  let lines := (sdiSplit p x.bytes).zipIdx.map (fun e => (e.2 + 1, e.1))
  let i := (v.flow x.flow 28).toNat % 65536
  let st := match x.slot with
    | some k =>
      let base := st.slotBase i k
      lines.foldl (fun st l =>
        match sdiRowOf p l.1 with
        | some y => st.write i (base + y * pitchOf p.w p.sampling p.depth) (activeBytes p l.2)
        | none => st) st
    | none => st
  let j := (v.flow x.flow 29).toNat % 65536
  let st := match x.anc with
    | some k =>
      let st := st.write j (st.slotBase j k) (ancSlotBytes (lines.flatMap (fun l => lineVanc p l.1 l.2)))
      st.publish j k x.rtp x.media io.now
    | none => st
  let r := if v.flowChannels x.flow = 16 then
      lines.foldl (fun r l =>
        (lineAudio p l.2).foldl (fun (r : Io × Audio) a => embeddedPacket p (v.flowFirstCh x.flow) x.media l.1 a r.1 r.2) r) (io, au)
    else (io, au)
  (r.1, st, r.2)

end Sys2Proof.Machine
end

