-- ==== Sys2Proof/Machine/Sound.lean ====
section
/-! DEFINITION. The commands of the audio matrix, sample rate conversion and the TDM ports (ch. 14, 15). -/
namespace Sys2Proof.Machine

/-- Act on the audio matrix and the TDM ports. -/
def Dev.onSound (d : Dev) (f : Io → Audio → Tdm → Io × Audio × Tdm) : Dev :=
  let r := f d.io d.aud d.tdm
  { d with io := r.1, aud := r.2.1, tdm := r.2.2 }

/-- The pairs of input and clock that enabled channels need have changed: ASRC channels are given out and taken back (R374). -/
def Dev.asrcs (d : Dev) : Dev := d.onAud (fun io a => asrcUpdate io a d.tdm)

/-- AUDIO_SAMPLE (R355). -/
def execAudioSample (ch : Fin 16384) (dt : Nat) (s : State) : Host.Outcome State Fault Refusal :=
  s.settled fun d => (d.tick dt).onAud (fun io a => audioSample ch io a d.tdm)

/-- ALIGN_REGAINED (R373). -/
def execAlignRegained (g : Fin 256) (dt : Nat) (s : State) : Host.Outcome State Fault Refusal :=
  s.run fun d => (d.tick dt).onAud (fun io a => (alignRegained g io a, a))

/-- ZC_TIMEOUT (R367). -/
def execZcTimeout (ch : Fin 16384) (dt : Nat) (s : State) : Host.Outcome State Fault Refusal :=
  s.settled fun d => ((d.tick dt).onAud (zcTimeout ch)).asrcs

/-- NONPCM_MARK_CLEAR (R377): of an input channel. -/
def execNonpcmMarkClear (ch : Fin 16384) (dt : Nat) (s : State) : Host.Outcome State Fault Refusal :=
  s.run fun d => (d.tick dt).onAud (nonpcmClear ch)

/-- ASRC_LOCKED (R375). -/
def execAsrcLocked (a : Fin 2048) (dt : Nat) (s : State) : Host.Outcome State Fault Refusal :=
  s.run fun d => (d.tick dt).onAud (asrcLock a)

/-- ASRC_RANGE (R375). -/
def execAsrcRange (a : Fin 2048) (dev : Word) (dt : Nat) (s : State) : Host.Outcome State Fault Refusal :=
  s.run fun d => (d.tick dt).onAud (asrcRange a dev)

/-- ASRC_WITHIN_RANGE (R375). -/
def execAsrcWithinRange (a : Fin 2048) (dev : Word) (dt : Nat) (s : State) : Host.Outcome State Fault Refusal :=
  s.run fun d => (d.tick dt).onAud (asrcBack a dev)

/-- AUDM_CNT_CLR (R381). -/
def execAudmCntClr (s : State) : Host.Outcome State Fault Refusal :=
  s.run fun d => d.onIo (fun io => io.clearWrite .audm Reg.AUDM_CNT_CLR 1 (fun io => io.clearFrom .audm Reg.AUDM_UNDERRUN_SAMPLES_LO 10))

/-- ASRC_CNT_CLR (R382). -/
def execAsrcCntClr (s : State) : Host.Outcome State Fault Refusal :=
  s.run fun d => d.onIo (fun io => io.clearWrite .asrc Reg.ASRC_CNT_CLR 1 (fun io => io.clearFrom .asrc Reg.ASRC_UNLOCKS_LO 2))

/-- TDM_FRAME_SYNC (R395). -/
def execTdmFrameSync (p : Fin 16) (off : Nat) (din : List Word) (dt : Nat) (s : State) : Host.Outcome State Fault Refusal :=
  s.runIf (Instr.wellFormed (.tdmFrameSync p off din dt)) fun d => ((d.tick dt).onSound (tdmSync p off din)).settle

/-- A write of TDMP_CTL: the controls, and RESTART mutes the port and flushes its FIFOs (R397, R400). -/
def tdmCtlWrite (p : Fin 16) (v : Word) (io : Io) (tdm : Tdm) : Io × Tdm :=
  let ok := io.accepts (.tdmp p) Reg.TDMP_CTL v
  let io := io.regWrite 0 (.tdmp p) Reg.TDMP_CTL v
  if ok && bit v 1 then tdmRestart p io tdm else (io, tdm)

/-- TDMP_RESTART (R397): the write that sets RESTART and leaves the other fields. -/
def execTdmpRestart (p : Fin 16) (s : State) : Host.Outcome State Fault Refusal :=
  s.settled fun d => d.onTdm (tdmCtlWrite p (setBit (d.io.reg (.tdmp p) Reg.TDMP_CTL) 1 true))

/-- CLOCK_LOST (R390). -/
def execClockLost (p : Fin 16) (cause : Fin 3) (dt : Nat) (s : State) : Host.Outcome State Fault Refusal :=
  s.settled fun d => (d.tick dt).onSound (clockLost p cause)

/-- CLOCK_RESTORED (R390). -/
def execClockRestored (p : Fin 16) (dt : Nat) (s : State) : Host.Outcome State Fault Refusal :=
  s.settled fun d => (d.tick dt).onTdm (clockRestored p)

/-- TDM_RATE_MEASURE (R389). -/
def execTdmRateMeasure (p : Fin 16) (ppm hz : Word) (dt : Nat) (s : State) : Host.Outcome State Fault Refusal :=
  s.settled fun d => (d.tick dt).onSound (rateMeasure p ppm hz)

/-- SLOT_ZC_TIMEOUT (R393). -/
def execSlotZcTimeout (p : Fin 16) (tx : Bool) (slot : Fin 32) (dt : Nat) (s : State) : Host.Outcome State Fault Refusal :=
  s.settled fun d => (d.tick dt).onTdm (slotTimeout p tx slot)

/-- TDMP_CNT_CLR (R400). -/
def execTdmpCntClr (p : Fin 16) (s : State) : Host.Outcome State Fault Refusal :=
  s.run fun d => d.onIo (fun io => io.clearWrite (.tdmp p) Reg.TDMP_CNT_CLR 1 (fun io => io.clearFrom (.tdmp p) Reg.TDMP_FRAMES_LO 12))

end Sys2Proof.Machine
end

