-- ==== Sys2Proof/Machine/Ingress.lean ====
section
/-! DEFINITION. Ingress as a whole (ch. 7): a frame from a MAC through MACsec and the Sieve to frame stores, audio and the fast path; claims and releases of flows; the rows of fast-path entries that stand alone. -/
namespace Sys2Proof.Machine

/-- A packet that the merge has released goes to depacketization, to audio and to the fast path alike (R177 to R179). -/
def Dev.released (d : Dev) (f : Nat) (h : HeldPkt) : Dev :=
  let (io, st, sv, sdi) := depacketize f h.seq h.pkt d.io d.st d.sv
  let d := { d with io := io, st := st, sv := sv }
  let t := d.io.live.flowType f
  let d := if t = 2 ∨ t = 3 then d.onAud (audioPacket f h.pkt) else d
  let d := match sdi with
    | some x =>
      let (io, st, au) := sdiFrame x d.io d.st d.aud
      { d with io := io, st := st, aud := au }
    | none => d
  (fpReaders f d.rt).foldl (fun (d : Dev) e =>
    let (io, sc, rt, sv) := fpPacket d.macKey e f h.pkt d.io d.sc d.rt d.sv
    { d with io := io, sc := sc, rt := rt, sv := sv }) d

/-- Released packets in order. -/
def Dev.releasedAll (d : Dev) (f : Nat) (hs : List HeldPkt) : Dev := hs.foldl (fun (d : Dev) h => d.released f h) d

/-- A datagram that matches a flow: the Sieve of PORT_A's tile serves it while it runs (R166, R189). -/
def Dev.flowArrives (d : Dev) (f : Nat) (legB : Bool) (pkt : Pkt) : Dev :=
  if !d.io.running (d.io.flowPage f) then d
  else
    let (hs, io, sv) := flowPacket f legB pkt d.io d.sv
    { d with io := io, sv := sv }.releasedAll f hs

/-- A frame that the MAC and MACsec have passed meets the Sieve of its tile (R165, R172). -/
def Dev.sieve (d : Dev) (p : Fin 128) (bs : List Byte) : Dev :=
  let t : Fin 16 := Fin.ofNat 16 (p / 8)
  if !d.io.running (.siev t) then d
  else
    match classify d.io p bs with
    | .l3Error => d.onIo (fun io => io.count48 (.siev t) Reg.SIEV_L3_ERR_LO 1)
    | .ptp ip => (d.onPtp (ptpMessage p (readPtp (ip.payload.drop 8)))).stepped d.io.now 0
    | .query ip => d.onSv (query p ip)
    | .flow f legB pkt => d.flowArrives f legB pkt
    | .punt n => if d.io.punts p n then d.onSv (punt p bs) else d
    | .listen k pkt => { d with sv := discover t k pkt d.io d.sv }
    | .other => d.onIo (fun io => io.count48 (.siev t) Reg.SIEV_UNMATCHED_LO 1)

/-- A frame arrives at a port (R147, R158, R165). -/
def Dev.frame (d : Dev) (p : Fin 128) (bytes : List Byte) (trunc phy : Bool) : Dev :=
  let (r, io) := macReceive p bytes trunc phy d.io
  let d := { d with io := io }
  match r with
  | none => d
  | some bs =>
    let (r, io) := msecReceive d.macKey p bs d.io
    let d := { d with io := io }
    match r with
    | none => d
    | some bs => d.watching (fun d => d.sieve p bs)

/-- MAC_RX_FRAME (R147, R165). -/
def execMacRxFrame (p : Fin 128) (bytes : List Byte) (trunc phy : Bool) (dt : Nat) (s : State) : Host.Outcome State Fault Refusal :=
  s.settled fun d => (d.tick dt).frame p bytes trunc phy

/-- Frames of a mirrored flow whose wait for the late leg has ended are discarded (R175). -/
def Dev.discardFrames (d : Dev) (f : Nat) : Dev :=
  match d.sv.rt f with
  | none => d
  | some r =>
    let ripe := fun (a : Assembly) =>
      match a.laterAt with
      | some t => decide (t + d.io.live.flowWin f * 1000 ≤ d.io.now)
      | none => false
    let (io, st) := (r.frames.filter ripe).foldl (fun (x : Io × Stores) a => frameDrop f a x.1 x.2) (d.io, d.st)
    { d with io := io, st := st, sv := d.sv.upd f (fun r => { r with frames := r.frames.filter (fun a => !ripe a) }) }

/-- FRAME_DISCARD (R175). -/
def execFrameDiscard (f : Fin 4096) (dt : Nat) (s : State) : Host.Outcome State Fault Refusal :=
  s.settled fun d => (d.tick dt).discardFrames f

/-- Numbers whose window has passed are lost, and what they held back is released (R179). -/
def Dev.seqLost (d : Dev) (f : Nat) : Dev :=
  d.watching fun d =>
    let (hs, io, sv) := mergeLost f d.io d.sv 65536
    { d with io := io, sv := sv }.releasedAll f hs

/-- MIRROR_SEQ_LOST (R179). -/
def execMirrorSeqLost (f : Fin 4096) (dt : Nat) (s : State) : Host.Outcome State Fault Refusal :=
  s.settled fun d => (d.tick dt).seqLost f

/-- MIRROR_SKEW (R180). -/
def execMirrorSkew (f : Fin 4096) (dt : Nat) (s : State) : Host.Outcome State Fault Refusal :=
  s.run fun d => (d.tick dt).onSv (skewAverage f)

/-- LEG_LOST (R181). -/
def execLegLost (f : Fin 4096) (legB : Bool) (dt : Nat) (s : State) : Host.Outcome State Fault Refusal :=
  s.run fun d =>
    let d := d.tick dt
    if legOverdue f legB d.io d.sv then d.watching (fun d => d.onSv (legLost f legB)) else d

/-- SEEN_REPORT (R183, R184). -/
def execSeenReport (t : Fin 16) (k : Nat) (dt : Nat) (s : State) : Host.Outcome State Fault Refusal :=
  s.run fun d => (d.tick dt).onSv (seenReport t k)

/-- MEMBERSHIP_REPORT (R187). -/
def execMembershipReport (p : Fin 128) (k : Nat) (dt : Nat) (s : State) : Host.Outcome State Fault Refusal :=
  s.run fun d => let d := d.tick dt; d.onSv (membershipReport d.macKey p k)

/-- SIEV_CNT_CLR (R189). -/
def execSievCntClr (t : Fin 16) (s : State) : Host.Outcome State Fault Refusal :=
  s.run fun d => d.onIo (fun io => io.clearWrite (.siev t) Reg.SIEV_CNT_CLR 1 (fun io => io.sievClear t))

/-! Claims and releases (R185, R186). -/

/-- Key of a claimed flow: ingress by index, egress from 4,096 on. -/
def claimKey (egress : Bool) (i : Nat) : Nat := if egress then 4096 + i else i

/-- Change a function's use of flows; PF0 has no quota block (R84). -/
def Io.addFlows (io : Io) (fn : Nat) (up : Bool) : Io :=
  let n := io.fn fn Reg.HQ_FN_U_FLOWS
  io.setFn fn Reg.HQ_FN_U_FLOWS (if up then n + 1 else n - 1)

/-- The words of a flow entry that hold fields: ingress, then egress (R167, R334). -/
def entryWords (egress : Bool) : List Nat :=
  if egress then List.range 29 else [0, 1, 2] ++ (List.range 19).map (· + 4) ++ (List.range 6).map (· + 24)

/-- Address of a word of a flow entry. -/
def entryAddr (egress : Bool) (i w : Nat) : Nat := if egress then egrAddr i w else flowAddr i w

/-- The words that a claim copies from a seen report into the entry (R185). -/
def seenEntry (r : Nat → Word) : List (Nat × Nat) :=
  let v6 := bit (r 0) 23
  let src := (List.range 4).any (fun k => decide (r (8 + k) ≠ 0))
  let tag := bit (r 0) 28
  [(0, b2n v6 * 2 ^ 6 + b2n src * 2 ^ 7 + b2n tag * 2 ^ 8), (1, bits (r 0) 16 7 + (if tag then bits (r 1) 0 12 else 0) * 2 ^ 16)]
    ++ (List.range 4).map (fun k => (4 + k, (r (4 + k)).toNat)) ++ (List.range 4).map (fun k => (8 + k, (r (8 + k)).toNat))
    ++ [(20, bits (r 1) 16 16), (21, bits (r 2) 16 7)]

/-- The report that a SEQ names in a tile's ring, while it stands there (R184, R185). -/
def Io.seenAt (io : Io) (t : Fin 16) (seq : Nat) : Option (Nat → Word) :=
  let next := io.fld (.siev t) Reg.SIEV_SEEN_TAIL 16 16
  let age := (next + 65536 - seq) % 65536
  let r := fun w => io.reg (.siev t) (0x2000 + 64 * (seq % 128) + 4 * w)
  if 1 ≤ age ∧ age ≤ 128 ∧ bits (r 0) 0 16 = seq then some r else none

/-- `CMD_FLOW_CLAIM`: the parameters, the quota, the index, the report (R185). -/
def claimCommand (c : Cmd) (d : Dev) : Dev :=
  let p0 := c.p 0
  let egress := bit p0 13
  let seen := bit p0 14
  let used := fun i => (FMap.find d.hq.claims (claimKey egress i)).isSome
  let reject := fun code => d.complete c.q c.tag (Reply.rejected code)
  if c.strays [0x7FFF, 0xFFFFF] ∨ (egress ∧ seen) then reject 0x0213
  else if c.fn ≠ 0 ∧ d.io.fn c.fn Reg.HQ_FN_U_FLOWS + 1 > d.io.fn c.fn Reg.HQ_FN_Q_FLOWS then d.complete c.q c.tag (Reply.quota 0x0222)
  else if !bit p0 12 ∧ used (bits p0 0 12) then reject 0x0618
  else
    match (if bit p0 12 then (List.range 4096).find? (fun i => !used i) else some (bits p0 0 12)) with
    | none => reject 0x0619
    | some i =>
      let report := if seen then d.io.seenAt (Fin.ofNat 16 (bits (c.p 1) 16 4)) (bits (c.p 1) 0 16) else none
      if seen ∧ report.isNone then reject 0x061A
      else
        let zeros := (entryWords egress).map (fun w => (w, 0))
        let vals := match report with
          | some r => zeros ++ seenEntry r
          | none => zeros
        let io := vals.foldl (fun (io : Io) x => io.shadowWr c.fn (entryAddr egress i x.1) (Word.of x.2)) d.io
        let hq := { d.hq with claims := FMap.insert d.hq.claims (claimKey egress i) c.fn }
        { d with io := io.addFlows c.fn true, hq := hq }.complete c.q c.tag (Reply.done 0 i)

/-- CMD_FLOW_CLAIM (R185). -/
def execCmdFlowClaim (q : Fin 316) (tag : BitVec 16) (s : State) : Host.Outcome State Fault Refusal :=
  s.run fun d => d.command 0x30 q tag.toNat claimCommand

/-- Values that accepted commits will make live, of every kind, in order of acceptance. -/
def Dev.acceptedVals (d : Dev) : List (Nat × Word) :=
  d.com.pend.flatMap (·.vals) ++ d.com.held.flatMap (·.vals) ++ d.sv.flows.flatMap (fun e => e.2.fmt)
    ++ d.aud.outs.flatMap (fun e => e.2.queue.flatMap (fun ch => ch.words.map (fun w => (audAddr e.1 w.1, w.2))))
    ++ d.rt.fast.flatMap (fun e => e.2.changes.flatMap (·.vals)) ++ d.sc.egr.flatMap (fun e => e.2.pending)

/-- The live state, and the state that accepted commits not yet applied will give. -/
def Dev.states (d : Dev) : List View := [d.io.live, d.io.live.over d.acceptedVals]

/-- A view names an ingress flow in a route slot, a fast-path entry or the sources of an enabled output channel (R186). -/
def View.namesFlow (v : View) (f : Nat) : Bool :=
  (v.routedOuts.any fun o => (v.enabledSlots o).any fun k =>
    (decide (v.slotKind o k false = 1) && decide (v.slotSrc o k false % 4096 = f))
      || (decide (v.slotKind o k true = 1) && decide (v.slotSrc o k true % 4096 = f)))
  || (v.fasts.any fun e => decide (v.fastSrc e = f) || decide (v.fastBkp e = some f))
  || (v.audChannels.any fun c => (tapsOf (v.audWords c) (followInput v (v.aud c 5))).any fun t =>
      (t.input.bind (v.flowBinds f)).isSome)

/-- A view names an egress flow: its own fast-path entry is FAST or PROMOTED (R186). -/
def View.namesEgress (v : View) (e : Nat) : Bool := v.fastEn e && decide (v.fastState e = 1 ∨ v.fastState e = 2)

/-- An ingress entry ceases to be valid: its frames are discarded, its groups left, and the routes that read it find it absent (R171). -/
def Dev.flowOff (d : Dev) (f : Nat) : Dev :=
  d.watching fun d =>
    let was := d.io.live.members
    let r := (d.sv.rt f).getD (newFlowRt d.io.now)
    let (io, st) := r.frames.foldl (fun (x : Io × Stores) a => frameDrop f a x.1 x.2) (d.io, d.st)
    let io := (io.makeLive r.fmt).wr (flowAddr f 0) (setBit (io.rd (flowAddr f 0)) 0 false)
    let io := (io.setFlowState f 0).setFs f 32 (setBits ((io.setFlowState f 0).fs f 32) 3 2 0)
    let sv := membershipChange was io.live.members io { d.sv with flows := FMap.erase d.sv.flows f }
    ({ d with io := io, st := st, sv := sv } : Dev).asrcs

/-- An egress entry ceases to be valid: the flow stops at the end of the packet in transmission (R186). -/
def Dev.egressOff (d : Dev) (e : Nat) : Dev :=
  let (io, sc) := egressStop e d.io d.sc
  { d with io := io, sc := sc }

/-- `CMD_FLOW_RELEASE` (R186). -/
def releaseCommand (c : Cmd) (d : Dev) : Dev :=
  let i := bits (c.p 0) 0 12
  let egress := bit (c.p 0) 13
  let reject := fun code => d.complete c.q c.tag (Reply.rejected code)
  if c.strays [0x2FFF] then reject 0x0213
  else
    match FMap.find d.hq.claims (claimKey egress i) with
    | none => reject 0x061C
    | some owner =>
      if c.fn ≠ 0 ∧ owner ≠ c.fn then d.complete c.q c.tag (Reply.denied 0x0218)
      else if d.states.any (fun v => if egress then v.namesEgress i else v.namesFlow i) then reject 0x061B
      else
        let d := if egress then d.egressOff i else d.flowOff i
        let base := entryAddr egress i 0
        let io := (d.io.discardWhere (fun a => decide (base ≤ a ∧ a < base + 0x100))).addFlows owner false
        let pend := d.com.pend.map (fun p => { p with vals := p.vals.filter (fun x => !decide (base ≤ x.1 ∧ x.1 < base + 0x100)) })
        { d with io := io, com := { d.com with pend := pend }
                 hq := { d.hq with claims := FMap.erase d.hq.claims (claimKey egress i) } }.complete c.q c.tag (Reply.done 0 0)

/-- CMD_FLOW_RELEASE (R186). -/
def execCmdFlowRelease (q : Fin 316) (tag : BitVec 16) (s : State) : Host.Outcome State Fault Refusal :=
  s.settled fun d => d.command 0x31 q tag.toNat releaseCommand

/-! The rows of fast-path entries that stand alone (R231, R235, R240). -/

/-- FP_HOLD_TIMEOUT (R231). -/
def execFpHoldTimeout (e : Fin 4096) (dt : Nat) (s : State) : Host.Outcome State Fault Refusal :=
  s.run fun d =>
    let d := d.tick dt
    let (io, sc, rt) := fpHoldTimeout d.macKey e d.io d.sc d.rt
    { d with io := io, sc := sc, rt := rt }

/-- FP_REVERT (R235). -/
def execFpRevert (e : Fin 4096) (dt : Nat) (s : State) : Host.Outcome State Fault Refusal :=
  s.run fun d =>
    let d := d.tick dt
    let (io, rt) := fpRevert e d.io d.rt
    { d with io := io, rt := rt }

/-- ROUT_CNT_CLR (R240). -/
def execRoutCntClr (s : State) : Host.Outcome State Fault Refusal :=
  s.run fun d => d.onIo (fun io => io.clearWrite .rout Reg.ROUT_CNT_CLR 1 (fun io => io.clearFrom .rout Reg.ROUT_FP_LATE_LO 4))

end Sys2Proof.Machine
end

