-- ==== Sys2Proof/Machine/Pixels.lean ====
section
/-! DEFINITION. Pixels (R245 to R259, R302, R304, R308): the stages of a conversion job from a stored slot to a line of a layer, and the way from blended light to packed samples. -/
namespace Sys2Proof.Machine

/-! Fixed point (R245, R246). -/

/-- A pixel between stages: three colour components and alpha in units of 2^-16, and whether some stage clamped it (R245, R246). -/
structure Px where
  c0 : Nat
  c1 : Nat
  c2 : Nat
  a : Nat
  clip : Bool
  deriving DecidableEq, Repr

/-- Fully transparent. -/
def Px.clear : Px := { c0 := 0, c1 := 0, c2 := 0, a := 0, clip := false }

/-- Opaque black (R226). -/
def Px.black : Px := { c0 := 0, c1 := 0, c2 := 0, a := 65536, clip := false }

/-- The quotient of an integer and a positive number, to nearest with halves upward (R246). -/
def roundDiv (n : Int) (d : Nat) : Int := (2 * n + Int.ofNat d) / Int.ofNat (2 * d)

/-- A result in units of 2^-16 clamped to 18 bits, and whether that changed it (R246). -/
def clamp18 (x : Int) : Nat × Bool := (min x.toNat 0x3FFFF, decide (x < 0 ∨ 0x3FFFF < x))

/-- A stage's result n / d, rounded and clamped (R246). -/
def stage18 (n : Int) (d : Nat) : Nat × Bool := clamp18 (roundDiv n d)

/-- Three exact components over one denominator. -/
structure V3 where
  x : Int
  y : Int
  z : Int
  deriving DecidableEq, Repr

/-- Sum. -/
def V3.add (a b : V3) : V3 := { x := a.x + b.x, y := a.y + b.y, z := a.z + b.z }
/-- Multiple. -/
def V3.scale (k : Int) (a : V3) : V3 := { x := k * a.x, y := k * a.y, z := k * a.z }
/-- Inner product. -/
def V3.dot (a b : V3) : Int := a.x * b.x + a.y * b.y + a.z * b.z
/-- Vector product. -/
def V3.cross (a b : V3) : V3 :=
  { x := a.y * b.z - a.z * b.y, y := a.z * b.x - a.x * b.z, z := a.x * b.y - a.y * b.x }

/-- A 3 × 3 matrix by rows. -/
structure M3 where
  r0 : V3
  r1 : V3
  r2 : V3
  deriving DecidableEq, Repr

/-- Product with a vector. -/
def M3.mul (m : M3) (v : V3) : V3 := { x := m.r0.dot v, y := m.r1.dot v, z := m.r2.dot v }
/-- Transpose. -/
def M3.transpose (m : M3) : M3 :=
  { r0 := { x := m.r0.x, y := m.r1.x, z := m.r2.x }, r1 := { x := m.r0.y, y := m.r1.y, z := m.r2.y }
    r2 := { x := m.r0.z, y := m.r1.z, z := m.r2.z } }
/-- Product of matrices. -/
def M3.comp (a b : M3) : M3 :=
  let t := b.transpose
  { r0 := t.mul a.r0, r1 := t.mul a.r1, r2 := t.mul a.r2 }
/-- Determinant. -/
def M3.det (m : M3) : Int := m.r0.dot (m.r1.cross m.r2)
/-- Adjugate: the inverse is this over the determinant. -/
def M3.adj (m : M3) : M3 :=
  ({ r0 := m.r1.cross m.r2, r1 := m.r2.cross m.r0, r2 := m.r0.cross m.r1 } : M3).transpose
/-- Multiple. -/
def M3.scale (k : Int) (m : M3) : M3 := { r0 := m.r0.scale k, r1 := m.r1.scale k, r2 := m.r2.scale k }

/-- A colour matrix with offsets: out = (m / den) × (in + pre) + post, offsets in units of 2^-16 (R253). -/
structure Mat where
  pre : V3
  m : M3
  den : Nat
  post : V3
  deriving DecidableEq, Repr

/-- No offset. -/
def V3.zero : V3 := { x := 0, y := 0, z := 0 }
/-- The unit matrix. -/
def M3.one : M3 := { r0 := { x := 1, y := 0, z := 0 }, r1 := { x := 0, y := 1, z := 0 }, r2 := { x := 0, y := 0, z := 1 } }
/-- A matrix over a denominator of either sign. -/
def Mat.over (pre : V3) (m : M3) (den : Int) (post : V3) : Mat :=
  if den < 0 then { pre := pre, m := m.scale (-1), den := den.natAbs, post := post }
  else { pre := pre, m := m, den := den.natAbs, post := post }
/-- The identity. -/
def Mat.id : Mat := { pre := V3.zero, m := M3.one, den := 1, post := V3.zero }
/-- The matrix applied to components over `k`: numerators over `k · den`. -/
def Mat.apply (t : Mat) (k : Nat) (v : V3) : V3 :=
  (t.m.mul (v.add (t.pre.scale (Int.ofNat k)))).add (t.post.scale (Int.ofNat (k * t.den)))
/-- The inverse of a matrix whose determinant is not 0. -/
def Mat.inv (t : Mat) : Mat :=
  Mat.over (t.post.scale (-1)) (t.m.adj.scale (Int.ofNat t.den)) t.m.det (t.pre.scale (-1))
/-- Columns scaled: Y by a / b, the others by c / d. -/
def M3.columns (m : M3) (a c : Int) : M3 :=
  let f := fun (r : V3) => ({ x := r.x * a, y := r.y * c, z := r.z * c } : V3)
  { r0 := f m.r0, r1 := f m.r1, r2 := f m.r2 }

/-! Colour descriptions (R247, R252). -/

/-- Kr and Kb in ten-thousandths (R247). -/
def krKb (color : Nat) : Nat × Nat :=
  if color = 0 then (2990, 1140) else if color = 1 then (2126, 722) else (2627, 593)

/-- Scales of Y or of every component, and of Cb and Cr, as fractions (R252). -/
def rangeScale (full : Bool) (d : Nat) : (Int × Int) × (Int × Int) :=
  if full then ((2 ^ d, 2 ^ d - 1), (2 ^ d, 2 ^ d - 1)) else ((256, 219), (256, 224))

/-- A matrix from components with the offsets and scales of a range in front; `chroma` tells Cb and Cr from a third and second RGB component (R252). -/
def ranged (chroma full : Bool) (d : Nat) (m : M3) (den : Int) : Mat :=
  let s := rangeScale full d
  let c := if chroma then s.2 else s.1
  let off : Int := if full then 0 else -4096
  let pre := { x := off, y := if chroma then -32768 else off, z := if chroma then -32768 else off : V3 }
  Mat.over pre (m.columns (s.1.1 * c.2) (c.1 * s.1.2)) (den * s.1.2 * c.2) V3.zero

/-- Y'CbCr to R'G'B' before range handling: matrix and denominator (R252). -/
def yccMatrix (color : Nat) : M3 × Int :=
  let k : Int := 10000
  let kr : Int := Int.ofNat (krKb color).1
  let kb : Int := Int.ofNat (krKb color).2
  let g := k - kr - kb
  ({ r0 := { x := g * k, y := 0, z := 2 * (k - kr) * g }
     r1 := { x := g * k, y := -(2 * kb * (k - kb)), z := -(2 * kr * (k - kr)) }
     r2 := { x := g * k, y := 2 * (k - kb) * g, z := 0 } }, g * k)

/-- L'M'S' to ICtCp, in 4,096ths, by transfer characteristic (ITU-R BT.2100). PRESUMED: the coefficients stand in the standard that R252 names. -/
def ictcpForward (tcs : Nat) : M3 :=
  if tcs = 2 then
    { r0 := { x := 2048, y := 2048, z := 0 }, r1 := { x := 3625, y := -7465, z := 3840 }, r2 := { x := 9500, y := -9212, z := -288 } }
  else
    { r0 := { x := 2048, y := 2048, z := 0 }, r1 := { x := 6610, y := -13613, z := 7003 }, r2 := { x := 17933, y := -17390, z := -543 } }

/-- BT.2020 RGB to LMS, in 4,096ths (ITU-R BT.2100). PRESUMED as above. -/
def rgbToLms : M3 :=
  { r0 := { x := 1688, y := 2146, z := 262 }, r1 := { x := 683, y := 2951, z := 462 }, r2 := { x := 99, y := 309, z := 3688 } }

/-- A sampling with a luma and two chroma components. -/
def isYcc (s : Nat) : Bool := decide (s = 0 ∨ s = 1 ∨ s = 2)
/-- ICtCp. -/
def isIctcp (s : Nat) : Bool := decide (s = 4 ∨ s = 5)

/-- The automatic matrix of stage 3 (R252). -/
def autoMatrix (p : Pic) : Mat :=
  let d := depthBits p.depth
  if isYcc p.sampling then
    let m := yccMatrix p.color
    ranged true p.full d m.1 m.2
  else if isIctcp p.sampling then
    let f := ictcpForward p.tcs
    ranged true p.full d (f.adj.scale 4096) f.det
  else ranged false p.full d M3.one 1

/-- Chromaticities of red, green and blue as x, y, z columns in ten-thousandths (R247). PRESUMED: the figures stand in the standards that R247 names. -/
def primariesOf (color : Nat) : M3 :=
  if color = 0 ∨ color = 1 then
    { r0 := { x := 6400, y := 3000, z := 1500 }, r1 := { x := 3300, y := 6000, z := 600 }, r2 := { x := 300, y := 1000, z := 7900 } }
  else if color = 4 then
    { r0 := { x := 6800, y := 2650, z := 1500 }, r1 := { x := 3200, y := 6900, z := 600 }, r2 := { x := 0, y := 450, z := 7900 } }
  else
    { r0 := { x := 7080, y := 1700, z := 1310 }, r1 := { x := 2920, y := 7970, z := 460 }, r2 := { x := 0, y := 330, z := 8230 } }

/-- The white of D65. -/
def whiteD65 : V3 := { x := 3127, y := 3290, z := 3583 }

/-- RGB of a colour space to XYZ, up to a scale that all share: matrix and denominator. -/
def toXyz (color : Nat) : M3 × Int :=
  let p := primariesOf color
  let s := p.adj.mul whiteD65
  let col := fun (r : V3) => ({ x := r.x * s.x, y := r.y * s.y, z := r.z * s.z } : V3)
  ({ r0 := col p.r0, r1 := col p.r1, r2 := col p.r2 }, p.det)

/-- Components that stages 4 to 6 and blending carry for a format, to XYZ: LMS for ICtCp, RGB otherwise (R252). -/
def lightXyz (p : Pic) : M3 × Int :=
  let t := toXyz p.color
  if isIctcp p.sampling then (t.1.comp (rgbToLms.adj.scale 4096), t.2 * rgbToLms.det) else t

/-- Two formats share their primaries: the primaries step is the identity (R252). -/
def sameLight (a b : Pic) : Bool :=
  decide (isIctcp a.sampling = isIctcp b.sampling) && decide (primariesOf a.color = primariesOf b.color)

/-- The automatic matrix of the primaries step (R252). -/
def autoPrimaries (src out : Pic) : Mat :=
  if sameLight src out then Mat.id
  else
    let a := lightXyz src
    let b := lightXyz out
    Mat.over V3.zero ((b.1.adj.comp a.1).scale b.2) (b.1.det * a.2) V3.zero

/-- Custom matrix set `m` of the LUT RAM (R253). -/
def View.matrixSet (v : View) (m : Nat) : Mat :=
  let w := fun k => (v.get (0x29C0000 + m * 0x40 + 4 * k)).toNat
  let off := fun k => signed 19 (w k % 2 ^ 19)
  let co := fun k => signed 20 (w k % 2 ^ 20)
  { pre := { x := off 0, y := off 1, z := off 2 }
    m := { r0 := { x := co 3, y := co 4, z := co 5 }, r1 := { x := co 6, y := co 7, z := co 8 }, r2 := { x := co 9, y := co 10, z := co 11 } }
    den := 65536, post := { x := off 12, y := off 13, z := off 14 } }

/-! LUTs (R304). -/

/-- Position of an input code on a LUT's points, in units of 2^-16 (R304). -/
def lutT (domain x : Nat) : Nat :=
  if domain = 0 then min x 0x1FFFF * 512 else if domain = 1 then x * 256 else isqrt (x * 2 ^ 34) 27 0

/-- A LUT at `base` applied to an 18-bit code: the value in units of 2^-32 (R304). -/
def View.lutAt (v : View) (base x : Nat) : Int :=
  let point := fun i => Int.ofNat (bits (v.get (base + 4 * i)) 0 18)
  let t := lutT (bits (v.get base) 30 2) x
  let i := min (t / 65536) 1022
  point i * 65536 + (Int.ofNat t - Int.ofNat (i * 65536)) * (point (i + 1) - point i)

/-- Base of pre-blend set `p` (R304). -/
def preLutBase (p : Nat) : Nat := 0x2400000 + p * 0x1000
/-- Base of bank `b` of the post-blend LUT of output `o` (R304). -/
def postLutBase (o b : Nat) : Nat := 0x2500000 + o * 0x2000 + b * 0x1000

/-! Stage 1: unpack (R198, R250), with lost blocks replaced (R213). -/

/-- A stored picture as an engine reads it: handle index, first byte of its slot, first byte of the slot of its even lines where that is another (R283), format, chroma filter and site (R249). -/
structure Picture where
  index : Nat
  base : Nat
  even : Option Nat
  pic : Pic
  filter : Nat
  vsite : Bool
  deriving DecidableEq, Repr

/-- Bytes of a stored line, or of a pair of lines for 4:2:0 (R198). -/
def Pic.unit (p : Pic) : Nat := pitchOf p.w p.sampling p.depth * (if p.sampling = 2 then 2 else 1)

/-- Black in a format: code of luma or of an RGB component, and of chroma. -/
def blackCodes (p : Pic) : Nat × Nat :=
  let d := depthBits p.depth
  (if p.full then 0 else 16 * 2 ^ (d - 8), 2 ^ (d - 1))

/-- The sample with number `n` of a line carries luma, in the order of a pixel group (R344). -/
def lumaSample (sampling n : Nat) : Bool :=
  if sampling = 0 ∨ sampling = 4 then decide (n % 2 = 1)
  else if sampling = 2 then decide (n % 6 < 4)
  else decide (n % 3 = 1)

/-- Code of sample `n` of a black line; alpha is full. -/
def blackSample (p : Pic) (n : Nat) : Nat :=
  if p.sampling = 3 then (blackCodes p).1
  else if p.sampling = 8 then (if n % 4 = 3 then 2 ^ depthBits p.depth - 1 else (blackCodes p).1)
  else if lumaSample p.sampling n then (blackCodes p).1 else (blackCodes p).2

/-- Byte `x` of a black line. -/
def blackByte (p : Pic) (x : Nat) : Byte :=
  let d := depthBits p.depth
  BitVec.ofNat 8 (ofBits ((List.range 8).map fun j =>
    let t := 8 * x + j
    (blackSample p (t / d)).testBit (d - 1 - t % d)))

/-- A block of HBM has an uncorrectable error (R213, R215). -/
def Stores.blockBad (st : Stores) (i off : Nat) : Bool :=
  st.poisoned.contains (blockKey i off) || st.dead.contains (blockKey i off)

/-- Offset of stored line `n` in the handle. -/
def Picture.lineAt (p : Picture) (n : Nat) : Nat := (if n % 2 = 0 then p.even.getD p.base else p.base) + n * p.pic.unit

/-- Byte `x` of stored line `n`: a lost block is replaced by that of the line above, or by black on the first line (R213). -/
def Picture.byte (st : Stores) (p : Picture) : Nat → Nat → Byte
  | 0, x => if st.blockBad p.index (p.lineAt 0 + x) then blackByte p.pic x else st.byte p.index (p.lineAt 0 + x)
  | n + 1, x =>
    if st.blockBad p.index (p.lineAt (n + 1) + x) then p.byte st n x else st.byte p.index (p.lineAt (n + 1) + x)

/-- Code of sample `s` of stored line `n`: samples follow one another, most significant bit first (R198). -/
def Picture.code (st : Stores) (p : Picture) (n s : Nat) : Nat :=
  let d := depthBits p.pic.depth
  let b := s * d / 8
  let v := beNat [p.byte st n b, p.byte st n (b + 1), p.byte st n (b + 2)]
  v / 2 ^ (24 - s * d % 8 - d) % 2 ^ d

/-- The stored line of a picture line, and the line's place in its pair for 4:2:0: the pairs of an interlaced or PsF picture lie within its fields (R198). -/
def Pic.stored (p : Pic) (y : Nat) : Nat × Nat :=
  if p.sampling ≠ 2 then (y, 0)
  else if p.scan = 0 then (y / 2, y % 2)
  else (y / 4 * 2 + y % 2, y / 2 % 2)

/-- A code placed as a colour component (R250). -/
def place18 (depth c : Nat) : Nat := c * 2 ^ (16 - depthBits depth)

/-- Luma, or component `k` of an unsubsampled format, at a pixel. -/
def Picture.luma (st : Stores) (p : Picture) (x y k : Nat) : Nat :=
  let s := p.pic.sampling
  let at_ := p.pic.stored y
  let n :=
    if s = 0 ∨ s = 4 then 2 * x + 1
    else if s = 2 then 6 * (x / 2) + 2 * at_.2 + x % 2
    else if s = 8 then 4 * x + k
    else if s = 3 then 3 * x + k
    else 3 * x + (if k = 0 then 1 else if k = 1 then 0 else 2)
  place18 p.pic.depth (p.code st at_.1 n)

/-- Chroma component `k` (1 or 2) of chroma column `j` in stored line `n`. -/
def Picture.chroma (st : Stores) (p : Picture) (j n k : Nat) : Nat :=
  let s := if p.pic.sampling = 2 then 6 * j + 3 + k else 4 * j + (if k = 1 then 0 else 2)
  place18 p.pic.depth (p.code st n s)

/-! Stage 2: chroma up-sampling (R251). -/

/-- Horizontal taps at the half position, as offset and coefficient, with their denominator (R251). -/
def chromaH (filter : Nat) : List (Int × Int) × Nat :=
  if filter = 1 then ([(0, 1)], 1)
  else if filter = 2 then ([(0, 1), (1, 1)], 2)
  else if filter = 0 then ([(-1, -1), (0, 9), (1, 9), (2, -1)], 16)
  else ([(-3, -3), (-2, 21), (-1, -70), (0, 308), (1, 308), (2, -70), (3, 21), (4, -3)], 512)

/-- Vertical taps for a line of a pair of 4:2:0, co-sited or interstitial (R251). -/
def chromaV (filter : Nat) (interstitial second : Bool) : List (Int × Int) × Nat :=
  if !interstitial then
    if !second || filter = 1 then ([(0, 1)], 1)
    else if filter = 2 then ([(0, 1), (1, 1)], 2)
    else ([(-1, -1), (0, 9), (1, 9), (2, -1)], 16)
  else if filter = 1 then ([(0, 1)], 1)
  else if filter = 2 then (if second then [(0, 3), (1, 1)] else [(-1, 1), (0, 3)], 4)
  else (if second then [(-1, -9), (0, 111), (1, 29), (2, -3)] else [(-2, -3), (-1, 29), (0, 111), (1, -9)], 128)

/-- An index displaced by an offset, repeating the edges of `0 … n - 1`. -/
def edge (n i : Nat) (o : Int) : Nat := min (Int.ofNat i + o).toNat (n - 1)

/-- Component `k` of an up-sampled pixel, as numerator and denominator. -/
def Picture.upsampled (st : Stores) (p : Picture) (x y k : Nat) : Int × Nat :=
  let s := p.pic.sampling
  let cols := ceilDiv p.pic.w 2
  let h := if x % 2 = 0 then ([((0 : Int), (1 : Int))], 1) else chromaH p.filter
  let row := fun (n : Nat) => h.1.foldl (fun acc t => acc + t.2 * Int.ofNat (p.chroma st (edge cols (x / 2) t.1) n k)) 0
  if s = 2 then
    let fields := decide (p.pic.scan ≠ 0)
    let m := if fields then y / 2 else y
    let rows := if fields then p.pic.h / 4 else p.pic.h / 2
    let v := chromaV p.filter p.vsite (decide (m % 2 = 1))
    let line := fun (c : Nat) => if fields then 2 * c + y % 2 else c
    (v.1.foldl (fun acc t => acc + t.2 * row (line (edge rows (m / 2) t.1))) 0, h.2 * v.2)
  else (row y, h.2)

/-- Stages 1 and 2: the 4:4:4 pixel at a place of the picture (R250, R251). -/
def Picture.coded (st : Stores) (p : Picture) (x y : Nat) : Px :=
  let s := p.pic.sampling
  if s = 0 ∨ s = 2 ∨ s = 4 then
    let b := p.upsampled st x y 1
    let r := p.upsampled st x y 2
    let b := stage18 b.1 b.2
    let r := stage18 r.1 r.2
    { c0 := p.luma st x y 0, c1 := b.1, c2 := r.1, a := 65536, clip := b.2 || r.2 }
  else
    let a := if s = 8 then
        let d := depthBits p.pic.depth
        (roundDiv (Int.ofNat (p.code st y (4 * x + 3) * 65536)) (2 ^ d - 1)).toNat
      else 65536
    { c0 := p.luma st x y 0, c1 := p.luma st x y 1, c2 := p.luma st x y 2, a := a, clip := false }

/-! Stages 3 and 4 (R252, R254). -/

/-- The colour components of a pixel. -/
def Px.v3 (p : Px) : V3 := { x := Int.ofNat p.c0, y := Int.ofNat p.c1, z := Int.ofNat p.c2 }

/-- A pixel with new colour components n / d, rounded and clamped (R246). -/
def Px.colour (p : Px) (v : V3) (d : Nat) : Px :=
  let x := stage18 v.x d
  let y := stage18 v.y d
  let z := stage18 v.z d
  { p with c0 := x.1, c1 := y.1, c2 := z.1, clip := p.clip || x.2 || y.2 || z.2 }

/-- What stages 3 to 5 of a layer need from its context (R249). -/
structure Convert where
  input : Mat
  lut : Option Nat
  primaries : Mat
  deriving DecidableEq, Repr

/-- The colour conversion of a layer for a source picture (R252, R254, R320). -/
def View.convert (v : View) (o l : Nat) (p : Pic) : Convert :=
  let w := v.layer l 17
  { input := if bit w 8 then v.matrixSet (bits w 0 8) else autoMatrix p
    lut := if bit (v.layer l 18) 8 then some (bits (v.layer l 18) 0 8) else none
    primaries := if bit w 24 then v.matrixSet (bits w 16 8)
      else if v.legacy o && decide (v.lid o ≠ some l) then Mat.id else autoPrimaries p (v.outPic o) }

/-- Stages 3 and 4 of a pixel. -/
def Convert.run (v : View) (c : Convert) (p : Px) : Px :=
  let p := p.colour (c.input.apply 1 p.v3) c.input.den
  let lin : V3 := match c.lut with
    | some s => { x := v.lutAt (preLutBase s) p.c0, y := v.lutAt (preLutBase s) p.c1, z := v.lutAt (preLutBase s) p.c2 }
    | none => p.v3.scale 65536
  p.colour (c.primaries.apply 65536 lin) (65536 * c.primaries.den)

/-! Stage 5: the scaler (R255 to R259). -/

/-- A coefficient of a set: built in, or from the LUT RAM (R256, R257). -/
def View.coef (v : View) (s : Nat) (vertical : Bool) (phase k : Nat) : Int :=
  if s < 8 then Config.builtinCoef s vertical phase k
  else
    let off := if vertical then 0x800 + 16 * phase + 2 * k else 32 * phase + 2 * k
    signed 16 (bits (v.get (0x2980000 + s * 0x1000 + off / 4 * 4)) (off % 4 * 8) 16)

/-- One axis of the scaler: sizes, displacement of the source in 64ths, taps, set; taps 0 bypasses the axis. -/
structure Axis where
  src : Nat
  dst : Nat
  shift : Int
  taps : Nat
  set_ : Nat
  vertical : Bool
  deriving DecidableEq, Repr

/-- Position of output sample `i` in 64ths of a source sample, displaced by `move` 256ths: to nearest, halves upward (R255). -/
def Axis.position (a : Axis) (i : Nat) (move : Int) : Int :=
  if a.taps = 0 then roundDiv (Int.ofNat (256 * i) + 4 * a.shift + move) 256 * 64
  else
    let d := Int.ofNat (2 * a.dst)
    (2 * (64 * (Int.ofNat (2 * i + 1) * Int.ofNat a.src) + d * (a.shift - 32)) + d + (2 * d * move) / 4) / (2 * d)

/-- Source samples and coefficients for output sample `i`: offsets from the origin of the source axis (R255, R256). -/
def Axis.tapsAt (v : View) (a : Axis) (i : Nat) (move : Int) : List (Int × Int) :=
  let p := a.position i move
  let n := a.taps
  if n = 0 then [(p / 64, 16384)]
  else
    (List.range n).map fun k =>
      (p / 64 + Int.ofNat k - (if n = 1 then 0 else Int.ofNat (n / 2) - 1), v.coef a.set_ a.vertical (p % 64).toNat k)

/-- How a layer reads a picture for one output line: the axes, the origin, and the field it reads, if one (R255, R259). -/
structure Scan where
  horizontal : Axis
  vertical : Axis
  x0 : Nat
  y0 : Nat
  field : Option Nat
  deriving DecidableEq, Repr

/-- The line of the frame that line `m` of what an engine reads lies on, and the number of such lines. -/
def Scan.line (s : Scan) (m : Int) (h : Nat) : Nat :=
  match s.field with
  | none => min m.toNat (h - 1)
  | some f => 2 * min m.toNat (h / 2 - 1) + f

/-- The scan of a layer for a picture and a destination row of the layer; `asField` reads one field of the source as a picture (R259, R284). -/
def View.scanOf (v : View) (o l : Nat) (p : Pic) (row : Nat) (asField : Option Nat) : Scan × Nat :=
  let g := v.geo o l p
  let out := (v.timing o).scan
  let w19 := v.layer l 19
  let hor : Axis := { src := g.src.w, dst := g.dst.w, shift := 0, taps := g.hTaps, set_ := bits w19 0 6, vertical := false }
  let ver := fun (src dst : Nat) (shift : Int) (bypass : Bool) =>
    ({ src := src, dst := dst, shift := shift, taps := if bypass then 0 else max 1 (v.taps l true), set_ := bits w19 8 6, vertical := true } : Axis)
  match asField with
  | some f =>
    ({ horizontal := hor, vertical := ver (g.src.h / 2) g.dst.h (16 - 32 * Int.ofNat f) false, x0 := g.src.x, y0 := g.src.y / 2, field := some f }, row)
  | none =>
    if p.scan = 1 ∧ out = 1 then
      ({ horizontal := hor, vertical := ver g.srcH g.dstH 0 g.vBypass, x0 := g.src.x, y0 := g.src.y / 2
         field := some ((g.dst.y + row) % 2) }, row / 2)
    else if p.scan = 1 ∧ bit (v.layer l 16) 4 then
      ({ horizontal := hor, vertical := ver g.srcH g.dstH (-16) g.vBypass, x0 := g.src.x, y0 := g.src.y / 2, field := some 1 }, row)
    else if out = 1 ∧ g.vBypass then
      ({ horizontal := hor, vertical := ver g.srcH g.dstH 0 true, x0 := g.src.x, y0 := g.src.y, field := none }, row / 2)
    else
      ({ horizontal := hor, vertical := ver g.src.h g.dst.h 0 g.vBypass, x0 := g.src.x, y0 := g.src.y, field := none }, row)

/-- Sum of source pixels weighted by taps: four exact components, and whether one of them was clamped. -/
structure Sum4 where
  v : V3
  a : Int
  clip : Bool
  deriving DecidableEq, Repr

/-- Stages 1 to 5 of one pixel of a layer (R245), displaced by `mx`, `my` 256ths of a source sample (R279). -/
def layerPixel (v : View) (st : Stores) (pic : Picture) (cv : Convert) (sc : Scan × Nat) (i : Nat) (mx my : Int) : Px :=
  let hs := sc.1.horizontal.tapsAt v i mx
  let vs := sc.1.vertical.tapsAt v sc.2 my
  let zero : Sum4 := { v := V3.zero, a := 0, clip := false }
  let sum := vs.foldl (fun acc t =>
    let y := sc.1.line (Int.ofNat sc.1.y0 + t.1) pic.pic.h
    hs.foldl (fun (acc : Sum4) h =>
      let x := min (Int.ofNat sc.1.x0 + h.1).toNat (pic.pic.w - 1)
      let p := cv.run v (pic.coded st x y)
      let k := t.2 * h.2
      { v := acc.v.add (p.v3.scale k), a := acc.a + k * Int.ofNat p.a, clip := acc.clip || p.clip }) acc) zero
  let a := stage18 sum.a (2 ^ 28)
  ({ Px.clear with a := a.1, clip := sum.clip || a.2 } : Px).colour sum.v (2 ^ 28)

/-! Linear light of coded colours (R302). -/

/-- The inverse of a standard curve; linear stays as it is (R302). -/
def eotf (tcs x : Nat) : Nat := if tcs = 3 then x else min (Config.toLinear tcs x) 0x3FFFF

/-- The output matrix of an output: from R'G'B' or L'M'S' to its coded components (R308, step 2). -/
def View.outMatrix (v : View) (o : Nat) : Mat :=
  let w := v.outc o Reg.OUTC_OUT_MATRIX
  if bit w 8 then v.matrixSet (bits w 0 8) else (autoMatrix (v.outPic o)).inv

/-- Linear light of a triple of 10-bit codes in an output's format (R302), packed as three 18-bit values. -/
def View.codesToLight (v : View) (o codes : Nat) : Nat :=
  let t := (v.outMatrix o).inv
  let c := fun k => Int.ofNat (codes / 2 ^ k % 1024 * 64)
  let p := Px.black.colour (t.apply 1 { x := c 20, y := c 10, z := c 0 }) t.den
  let tcs := (v.outPic o).tcs
  eotf tcs p.c0 + 2 ^ 18 * eotf tcs p.c1 + 2 ^ 36 * eotf tcs p.c2

/-- The pixel of a packed linear colour. -/
def lightPx (n : Nat) : Px := { c0 := n % 2 ^ 18, c1 := n / 2 ^ 18 % 2 ^ 18, c2 := n / 2 ^ 36 % 2 ^ 18, a := 65536, clip := false }

/-! From blended light to samples (R308). -/

/-- What step 1 and step 2 of R308 need of an output. -/
structure Encode where
  lut : Option Nat
  mat : Mat
  pic : Pic
  down : Nat
  deriving DecidableEq, Repr

/-- The encoding of an output (R308, R320). -/
def View.encode (v : View) (o : Nat) : Encode :=
  let w := v.outc o Reg.OUTC_POST_LUT
  { lut := if bit w 1 && !v.legacy o then some (postLutBase o (bits w 0 1)) else none
    mat := v.outMatrix o, pic := v.outPic o, down := bits (v.outc o Reg.OUTC_OUT_FMT) 18 2 }

/-- Denominator of the components after step 2. -/
def Encode.den (e : Encode) : Nat := 65536 * e.mat.den

/-- Steps 1 and 2 for a pixel: numerators over `den`. -/
def Encode.components (v : View) (e : Encode) (p : Px) : V3 :=
  let x : V3 := match e.lut with
    | some b => { x := v.lutAt b p.c0, y := v.lutAt b p.c1, z := v.lutAt b p.c2 }
    | none => p.v3.scale 65536
  e.mat.apply 65536 x

/-- A component n / d in units of 2^-16 rounded to the depth and clamped to the range (R308, step 4). -/
def quantise (p : Pic) (n : Int) (d : Nat) : Nat :=
  let b := depthBits p.depth
  let c := roundDiv (n * 2 ^ b) (d * 65536)
  let hi : Int := 2 ^ b
  (if p.full then clampInt 0 (hi - 1) c else clampInt (2 ^ (b - 8)) (hi - 2 ^ (b - 8) - 1) c).toNat

/-- Alpha at the output's depth (R308, step 5). -/
def quantiseAlpha (p : Pic) (a : Nat) : Nat :=
  let b := depthBits p.depth
  (roundDiv (Int.ofNat (a * (2 ^ b - 1))) 65536).toNat

/-- Chroma of column pair `j` of a line by CHROMA_DOWN: numerators of the second and third component over `4 · den` (R307). -/
def chromaDown (down : Nat) (cs : List V3) (j : Nat) : Int × Int :=
  let c := fun (k : Int) => (cs[edge cs.length (2 * j) k]?).getD V3.zero
  let mix := fun (f : V3 → Int) =>
    if down = 0 then 2 * (f (c 0) + f (c 1)) else if down = 1 then f (c (-1)) + 2 * f (c 0) + f (c 1) else 4 * f (c 0)
  (mix (·.y), mix (·.z))

/-- Samples of a pair of chroma numerators over `d` among luma codes, in pixel-group order. -/
def packLine422 (p : Pic) (d : Nat) (ys : List Nat) (cs : List (Int × Int)) : List Nat :=
  (cs.zipIdx).flatMap fun c =>
    let y := fun k => (ys[2 * c.2 + k]?).getD 0
    [quantise p c.1.1 d, y 0, quantise p c.1.2 d, y 1]

end Sys2Proof.Machine
end

