-- ==== Sys2Proof/Machine/Frc.lean ====
section
/-! DEFINITION. Frame-rate conversion (R271 to R294): which source pictures a layer shows in each output picture, motion estimation, cadence, and the engine pages' counters. -/
namespace Sys2Proof.Machine

/-! Engines and their counters (R149, R267, R291). -/

/-- The physical engine of a logical one. -/
def Io.physical (io : Io) (l : Nat) : Option (Fin 144) :=
  (io.engines.find? (fun e => e.1 = l)).map (fun e => Fin.ofNat 144 e.2)

/-- The physical engines on which the strips of a layer run. -/
def enginesOf (io : Io) (sc : Scanout) (o l : Nat) : List (Fin 144) :=
  (sc.jobs.filter (fun j => decide (j.out = o ∧ j.layer = l))).filterMap (fun j => j.engine.bind io.physical)

/-- Raise a rate-limited event of an engine: the first after 1 s without one. -/
def engineRaise (pg : PageRef) (b key : Nat) (io : Io) (sc : Scanout) : Io × Scanout :=
  let quiet := match FMap.find sc.engineAt key with
    | some t => decide (t + 1000000000 ≤ io.up)
    | none => true
  (if quiet then io.raise pg b else io, { sc with engineAt := FMap.insert sc.engineAt key io.up })

/-- Count for every job of a layer on the FRC page of its engine. -/
def Io.frcCount (io : Io) (es : List (Fin 144)) (off n : Nat) : Io :=
  es.foldl (fun (io : Io) e => io.count48 (.frc e) off n) io

/-- Count for every job of a layer, and raise an event on the first after 1 s without one; `kind` keys the limit. -/
def frcEvent (es : List (Fin 144)) (off b kind : Nat) (io : Io) (sc : Scanout) : Io × Scanout :=
  es.foldl (fun (x : Io × Scanout) e => engineRaise (.frc e) b (e.val * 4 + kind) (x.1.count48 (.frc e) off 1) x.2) (io, sc)

/-! Sources (R272 to R274). -/

/-- A store as the source of a layer: its index, and the rate and phase of its frames. -/
structure Source where
  index : Nat
  store : Store
  num : Nat
  den : Nat
  phase : Nat
  deriving DecidableEq, Repr

/-- The nominal grid of a source: pictures per second and phase (R274, R275). -/
def View.sourceGrid (v : View) (o k : Nat) (backup : Bool) : Rate × Nat :=
  let src := v.slotSrc o k backup
  if v.slotKind o k backup = 1 then (rateOf (v.flow (src % 4096) 26), 0)
  else match v.wbWriter src with
    | some w => ((v.timing w).rate, (v.timing w).phase)
    | none => (v.storeRate src, 0)

/-- The source, or the backup, of a route slot. -/
def View.sourceOf (v : View) (st : Stores) (o k : Nat) (backup : Bool) : Option Source :=
  (st.known (v.slotHandle o k backup)).map fun s =>
    let g := v.sourceGrid o k backup
    { index := v.slotHandle o k backup % 65536, store := s, num := g.1.num, den := g.1.den, phase := g.2 }

/-- A source picture: media time, slot, the field that it is, the slot of its even lines, publication count (R273, R283, R284). -/
structure Cand where
  media : Nat
  slot : Nat
  field : Option Nat
  even : Option Nat
  count : Nat
  deriving DecidableEq, Repr

/-- The published slots of a store, in order of media time. -/
def Store.publishedCands (s : Store) : List Cand :=
  sortBy (fun a b => decide (a.media ≤ b.media))
    (s.slots.zipIdx.filterMap fun e =>
      if e.1.state ≥ 2 then some { media := e.1.media, slot := e.2, field := none, even := none, count := e.1.count } else none)

/-- The fields of published frames, each half a frame period after the other (R284). -/
def fieldCands (src : Source) (cs : List Cand) : List Cand :=
  let half := src.den * 500000000 / src.num
  cs.flatMap fun c => [{ c with field := some 0 }, { c with media := c.media + half, field := some 1 }]

/-- The film frames whose frames are published (R283). -/
def filmCands (films : List (Nat × Nat × Bool)) (interlaced : Bool) (cs : List Cand) : List Cand :=
  films.filterMap fun f =>
    match cs.find? (fun c => c.count = f.2.1) with
    | none => none
    | some c =>
      if interlaced && f.2.2 then
        (cs.find? (fun x => x.count = f.2.1 + 1)).map fun x => { c with media := f.1, even := some x.slot }
      else some { c with media := f.1 }

/-- Film frames per second in place of the source's frames, as a factor of numerator and denominator (R282). -/
def filmRate (cadence : Nat) (interlaced : Bool) : Nat × Nat :=
  if cadence = 1 then (if interlaced then (4, 5) else (2, 5)) else if interlaced then (1, 1) else (1, 2)

/-- What the stage selects among: candidates in order of media time, and their grid. -/
structure Choice where
  cands : List Cand
  num : Nat
  den : Nat
  phase : Nat
  deriving DecidableEq, Repr

/-- The stage works on the fields of an interlaced source: mode 3, unlocked (R284). -/
def FrcRt.onFields (f : FrcRt) (src : Source) : Bool := decide (f.mode = 3 ∧ f.cadence = 0) && decide (src.store.format / 64 % 4 = 1)

/-- The source pictures of the stage (R273, R283, R284). -/
def FrcRt.choice (f : FrcRt) (src : Source) : Choice :=
  let cs := src.store.publishedCands
  let inter := decide (src.store.format / 64 % 4 = 1)
  if f.mode = 3 ∧ f.cadence ≠ 0 then
    let r := filmRate f.cadence inter
    { cands := filmCands f.films inter cs, num := src.num * r.1, den := src.den * r.2
      phase := ((f.films.head?).map (·.1)).getD src.phase }
  else if f.onFields src then { cands := fieldCands src cs, num := 2 * src.num, den := src.den, phase := src.phase }
  else { cands := cs, num := src.num, den := src.den, phase := src.phase }

/-- Number of the grid point nearest to a media time. -/
def Choice.numberOf (c : Choice) (media : Nat) : Int :=
  roundDiv ((Int.ofNat media - Int.ofNat c.phase) * Int.ofNat c.num) (c.den * 1000000000)

/-- An instant as an exact fraction of nanoseconds. -/
structure Instant where
  num : Int
  den : Nat
  deriving DecidableEq, Repr

/-- Number of the last grid point at or before an instant. -/
def Choice.gridAt (c : Choice) (t : Instant) : Int :=
  (t.num - Int.ofNat (c.phase * t.den)) * Int.ofNat c.num / Int.ofNat (c.den * 1000000000 * t.den)

/-- The boundary of an output picture: raster line `y` of frame `n` (R271, R327). -/
def Timing.instantOf (t : Timing) (n y : Nat) : Instant :=
  { num := Int.ofNat ((n * t.vTotal + y) * t.den * 1000000000 + t.phase * t.num * t.vTotal), den := t.num * t.vTotal }

/-- An instant less k periods of a rate and a number of nanoseconds (R272). -/
def Instant.back (b : Instant) (k num den ns : Nat) : Instant :=
  { num := b.num * Int.ofNat num - (Int.ofNat (k * den * 1000000000) + Int.ofNat (ns * num)) * Int.ofNat b.den, den := b.den * num }

/-- A media time lies at or before an instant. -/
def Instant.reaches (t : Instant) (media : Nat) : Bool := decide (Int.ofNat (media * t.den) ≤ t.num)

/-- The target time of a picture at boundary `b` (R272). -/
def View.target (v : View) (l : Nat) (src : Source) (b : Instant) : Instant :=
  b.back (v.delayFactor l) src.num src.den (v.layerDelayAdd l * 1000)

/-- D in microseconds (R272). -/
def View.delayUs (v : View) (l : Nat) (src : Source) : Nat :=
  v.delayFactor l * src.den * 1000000 / src.num + v.layerDelayAdd l

/-- What R273 and R275 select: A, B, and whether the picture falls back. -/
structure Picked where
  a : Option Cand
  b : Option Cand
  late : Bool
  deriving DecidableEq, Repr

/-- Selection for a target time; `two` where the mode uses B (R273, R275). -/
def Choice.pick (c : Choice) (newest : Option Nat) (t : Instant) (two : Bool) : Picked :=
  let before := (c.cands.filter (fun x => t.reaches x.media)).getLast?
  let after := c.cands.find? (fun x => !t.reaches x.media)
  match before with
  | none =>
    { a := (newest.bind (fun k => c.cands.find? (fun x => x.slot = k))).orElse (fun _ => c.cands.getLast?), b := none, late := true }
  | some a =>
    let lateA := decide (c.numberOf a.media < c.gridAt t)
    let due := c.gridAt t + 1
    let okB := match after with
      | some b => decide (c.numberOf b.media = due)
      | none => false
    if lateA || (two && !okB) then { a := some a, b := none, late := true }
    else { a := some a, b := if two then after else none, late := false }

/-- Quantised phase of a target time between two media times (R277). -/
def phaseOf (t : Instant) (sA sB : Nat) : Nat :=
  if sB ≤ sA then 0
  else
    let d := (sB - sA) * t.den
    (roundDiv ((t.num - Int.ofNat (sA * t.den)) * 64) d).toNat

/-! Cadence (R282, R283). -/

/-- The pattern of a cadence: whether each picture repeats, from the start of a film frame on. -/
def patternOf (cadence : Nat) (interlaced : Bool) : List Bool :=
  if cadence = 1 then (if interlaced then [false, false, false, false, true] else [false, true, true, false, true])
  else [false, true]

/-- Places of the pattern at which a film frame begins. -/
def filmStart (cadence : Nat) (interlaced : Bool) (i : Nat) : Bool :=
  if cadence = 1 then (if interlaced then decide (i = 0 ∨ i = 2) else decide (i = 0 ∨ i = 3)) else decide (i = 0)

/-- The newest pictures are `n` whole patterns in a row: the place of the pattern that comes next. -/
def patternMatch (pat : List Bool) (n : Nat) (newestFirst : List Bool) : Option Nat :=
  let len := pat.length
  let hist := (newestFirst.take (n * len)).reverse
  if hist.length < n * len then none
  else (List.range len).find? fun r =>
    (hist.zipIdx).all (fun e => decide ((pat[(e.2 + r) % len]?).getD false = e.1))

/-- The cadences that a layer may lock to at a source's rate (R276, R282). -/
def View.cadences (v : View) (l : Nat) (src : Source) (interlaced : Bool) : List Nat :=
  let w := v.layer l 24
  let r : Rate := { num := src.num, den := src.den }
  let is := fun (xs : List (Nat × Nat)) => xs.contains (r.num, r.den)
  (if bit w 3 && is (if interlaced then [(30000, 1001)] else [(60000, 1001)]) then [1] else [])
    ++ (if bit w 4 && is (if interlaced then [(25, 1), (30000, 1001)] else [(50, 1), (60000, 1001)]) then [2] else [])

/-- Whole patterns needed to lock (R276). -/
def View.cadLock (v : View) (l : Nat) : Nat :=
  let n := bits (v.layer l 26) 16 4
  if n = 0 then 2 else n

/-- A film frame begins with a picture: its media time on the even grid (R283). -/
def FrcRt.film (f : FrcRt) (src : Source) (interlaced : Bool) (media count : Nat) (second : Bool) : FrcRt :=
  let r := filmRate f.cadence interlaced
  let at_ := match f.films.getLast? with
    | some x => x.1 + src.den * r.2 * 1000000000 / (src.num * r.1)
    | none => media
  { f with films := ((f.films ++ [(at_, count, second)]).reverse.take 8).reverse }

/-- One picture is classified: lock is gained after CAD_LOCK patterns, kept while the pattern holds, and lost with the first that breaks it (R282). Whether a picture repeats the one before is a free value: no rule states the measure of difference. -/
def classify1 (v : View) (es : List (Fin 144)) (src : Source) (interlaced : Bool) (x : Io × FrcRt) (c : Cand) : Io × FrcRt :=
  let (io, f) := x
  let rep := decide (io.freeNat 1 = 1)
  let io := io.took
  let bits_ := (rep :: f.bits).take 80
  let second := decide (c.field = some 1)
  if f.cadence = 0 then
    match (v.cadences f.layer src interlaced).findSome? (fun k =>
        (patternMatch (patternOf k interlaced) (v.cadLock f.layer) bits_).map (fun p => (k, p))) with
    | some (k, p) =>
      (es.foldl (fun (io : Io) e => io.raise (.frc e) 4) io, { f with bits := bits_, cadence := k, phase := p, films := [] })
    | none => (io, { f with bits := bits_ })
  else
    let pat := patternOf f.cadence interlaced
    if (pat[f.phase]?).getD false = rep then
      let f' := if filmStart f.cadence interlaced f.phase then f.film src interlaced c.media c.count second else f
      (io, { f' with bits := bits_, phase := (f.phase + 1) % pat.length })
    else
      (es.foldl (fun (io : Io) e => (io.count48 (.frc e) Reg.FRC_CAD_BREAKS_LO 1).raise (.frc e) 5) io,
        { f with bits := [], cadence := 0, phase := 0, films := [] })

/-- The pictures published since the last are classified in order (R282). -/
def cadence (v : View) (es : List (Fin 144)) (src : Source) (io : Io) (f : FrcRt) : Io × FrcRt :=
  let inter := decide (src.store.format / 64 % 4 = 1)
  let cs := src.store.publishedCands.filter (fun c => f.judged < c.count)
  let cs := if inter then fieldCands src cs else cs
  let (io, f) := cs.foldl (classify1 v es src inter) (io, f)
  (io, { f with judged := cs.foldl (fun m c => max m c.count) f.judged })

/-! The stage of one layer (R273 to R281). -/

/-- A frame-rate stage whose history begins (R285). -/
def FrcRt.fresh (o l mode : Nat) : FrcRt :=
  { out := o, layer := l, lastA := none, upto := none, fields := [], bits := [], judged := 0, cadence := 0, phase := 0, films := []
    tau := 0, sA := 0, delay := 0, q := 0, slotA := 0, slotB := 7, cut := false, estLate := false, srcLate := false
    conf := 0, blocks := 0, mode := mode }

/-- The mode in which a layer's stage runs: mode 3 as mode 2 while its output is DEGRADED (R289). -/
def Io.stageMode (io : Io) (o l : Nat) : Nat :=
  let m := io.live.layerMode l
  if m = 3 ∧ io.flag (outPage o) Reg.OUTC_FRC_STAT 0 then 2 else m

/-- The stage of a layer. -/
def Scanout.frc (sc : Scanout) (o l : Nat) : Option FrcRt := sc.frcs.find? (fun f => decide (f.out = o ∧ f.layer = l))

/-- Put a stage in place. -/
def Scanout.setFrc (sc : Scanout) (f : FrcRt) : Scanout :=
  { sc with frcs := f :: sc.frcs.filter (fun x => !decide (x.out = f.out ∧ x.layer = f.layer)) }

/-- Blocks of a vector field over a source of the given size (R278). -/
def blocksOf (w h : Nat) : List (Nat × Nat) :=
  (List.range (ceilDiv h 8)).flatMap fun y => (List.range (ceilDiv w 8)).map fun x => (x, y)

/-- Confidence of a block. -/
def confidence (n : Nat) (b : Nat × Nat) : Nat := min (Config.motion n b.1 b.2).2.2.2.2 255

/-- CONF_MIN, 0 selecting 64. -/
def View.confMin (v : View) (l : Nat) : Nat :=
  let n := bits (v.layer l 26) 0 8
  if n = 0 then 64 else n

/-- CUT_PCT, 0 selecting 60. -/
def View.cutPct (v : View) (l : Nat) : Nat :=
  let n := bits (v.layer l 26) 8 7
  if n = 0 then 60 else n

/-- SNAP (R276). -/
def View.snap (v : View) (l : Nat) : Nat := bits (v.layer l 24) 8 6

/-- A picture shown from candidates. -/
def shownOf (l k : Nat) (backup : Bool) (i : Nat) (a : Cand) (b : Option Cand) (q : Nat) (vectors : Option Nat) : Shown :=
  { layer := l, slot := k, kind := 1, backup := backup, a := some (i, a.slot), b := b.map (fun c => (i, c.slot))
    fieldA := a.field, fieldB := b.bind (·.field), evenA := a.even, evenB := b.bind (·.even), q := q, vectors := vectors }

/-- Nothing shown. -/
def Shown.none_ (l k : Nat) : Shown :=
  { layer := l, slot := k, kind := 0, backup := false, a := none, b := none, fieldA := none, fieldB := none, evenA := none
    evenB := none, q := 0, vectors := none }

/-- One stored slot shown alone. -/
def Shown.alone (l k : Nat) (backup : Bool) (i slot : Nat) : Shown :=
  { Shown.none_ l k with kind := 1, backup := backup, a := some (i, slot) }

/-- Frames dropped by the stage, and the count up to which it has accounted for them (R273). -/
def dropsOf (upto : Option Nat) (a : Nat) (last : Nat) : Nat × Nat :=
  match upto with
  | none => (0, max a last)
  | some u => (a - u - 1, max u (max a last))

/-- The stage in modes 1 to 3 picks its pictures at boundary `b` (R273 to R280). -/
def frcSelect (v : View) (l k : Nat) (backup : Bool) (src : Source) (b : Instant) (f : FrcRt) (io : Io) (sc : Scanout) : Option Shown × Io × Scanout :=
  let es := enginesOf io sc f.out l
  let cad := bit (v.layer l 24) 2 && decide (f.mode = 3)
  let (io, f) := if cad then cadence v es src io f else (io, f)
  let ch := f.choice src
  let t := v.target l src b
  let two := decide (2 ≤ f.mode)
  let p := ch.pick src.store.newest t two
  let f := { f with tau := (t.num / Int.ofNat t.den).toNat, delay := v.delayUs l src, srcLate := p.late, estLate := false, cut := false, blocks := 0, q := 0, slotB := 7 }
  match p.a with
  | none => (none, io, sc.setFrc f)
  | some a =>
    let (io, sc) := if p.late then frcEvent es Reg.FRC_SOURCE_LATE_LO 2 2 io sc else (io, sc)
    let io := io.frcCount es Reg.FRC_PICTURES_LO 1
    let io := if f.mode = 1 ∧ f.lastA = some a.media then io.frcCount es Reg.FRC_REPEATS_LO 1 else io
    let d := dropsOf f.upto a.count ((p.b.map (·.count)).getD 0)
    let io := if d.1 = 0 then io else io.frcCount es Reg.FRC_DROPS_LO d.1
    let f := { f with lastA := some a.media, sA := a.media, slotA := a.slot, upto := some d.2
                      fields := f.fields.filter (fun x => a.media ≤ x.2.1) }
    match p.b with
    | none => (some (shownOf l k backup src.index a none 0 none), io, sc.setFrc f)
    | some c =>
      let q := phaseOf t a.media c.media
      let f := { f with q := q, slotB := c.slot }
      let alone := decide (q < v.snap l) || decide (64 - v.snap l < q) || decide (q = 64)
      let near := if q < v.snap l then a else if 64 - v.snap l < q ∨ q = 64 then c else if q ≤ 32 then a else c
      let field := (f.fields.find? (fun x => decide (x.1 = a.media ∧ x.2.1 = c.media))).map (·.2.2)
      if f.mode = 3 then
        match field with
        | none =>
          let (io, sc) := frcEvent es Reg.FRC_EST_LATE_LO 3 3 io sc
          let f := { f with estLate := true }
          (some (if alone then shownOf l k backup src.index near none 0 none else shownOf l k backup src.index a (some c) q none), io, sc.setFrc f)
        | some n =>
          let h := if f.onFields src then src.store.height / 2 else src.store.height
          let bs := blocksOf src.store.width h
          let low := (bs.filter (fun x => decide (confidence n x < v.confMin l))).length
          let mean := if bs.isEmpty then 0 else (bs.foldl (fun s x => s + confidence n x) 0) / bs.length
          let cut := decide (v.cutPct l * bs.length ≤ low * 100)
          let f := { f with conf := mean, cut := cut, blocks := if cut || alone then 0 else sat 24 low }
          let io := if cut then io.frcCount es Reg.FRC_SCENE_CUTS_LO 1 else io
          let io := if low = 0 || alone then io else io.frcCount es Reg.FRC_FALLBACK_BLOCKS_LO low
          (some (if alone || cut then shownOf l k backup src.index near none 0 none
            else shownOf l k backup src.index a (some c) q (some n)), io, sc.setFrc f)
      else
        (some (if alone then shownOf l k backup src.index near none 0 none else shownOf l k backup src.index a (some c) q none), io, sc.setFrc f)

/-- The frame-rate stage without one: the NEWEST slot (R201, R271). -/
def newestShown (l k : Nat) (backup : Bool) (src : Source) (f : FrcRt) (io : Io) (sc : Scanout) : Option Shown × Io × Scanout :=
  match src.store.newest with
  | none => (none, io, sc)
  | some n =>
    let media := ((src.store.slots[n]?).map (·.media)).getD 0
    (some (Shown.alone l k backup src.index n), io.frcCount (enginesOf io sc f.out l) Reg.FRC_PICTURES_LO 1,
      sc.setFrc { f with slotA := n, slotB := 7, sA := media, tau := 0, delay := 0, q := 0 })

/-- What route slot `k` of an output shows in the picture that begins at `b` (R226, R273, R285). -/
def showSlot (v : View) (o k : Nat) (b : Instant) (io : Io) (st : Stores) (sc : Scanout) (rt : Routing) : Option Shown × Io × Scanout :=
  let l := v.slotLayer o k
  let state := bits (v.get (routeAddr o (192 + k))) 0 3
  let rtSlot := FMap.find rt.slots (o * 16 + k)
  if state = 4 then (some { Shown.none_ l k with kind := 3 }, io, sc)
  else if state = 3 then
    match rtSlot.bind (·.hold) with
    | some h => (some (Shown.alone l k ((rtSlot.map (·.onBackupFrozen)).getD false) h.1 h.2), io, sc)
    | none => (none, io, sc)
  else if state = 0 then (none, io, sc)
  else
    let backup := decide (state = 2)
    let kind := v.slotKind o k backup
    if kind = 0 then (none, io, sc)
    else if kind = 3 then (some { Shown.none_ l k with kind := 2, backup := backup }, io, sc)
    else
      match v.sourceOf st o k backup with
      | none => (none, io, sc)
      | some src =>
        let f := (sc.frc o l).getD (FrcRt.fresh o l (io.stageMode o l))
        if f.mode = 0 ∨ src.num = 0 then newestShown l k backup src f io sc
        else frcSelect v l k backup src b f io sc

/-! Estimation (R278, R285). -/

/-- The pair of source pictures that a stage estimates next: after the last pair the one that follows it, else the pair that the next picture needs. -/
def nextPair (v : View) (l : Nat) (src : Source) (b : Instant) (f : FrcRt) : Option (Cand × Cand) :=
  let cs := (f.choice src).cands
  let after := fun (m : Nat) => cs.find? (fun c => decide (m < c.media))
  match f.fields.getLast? with
  | some x =>
    (cs.find? (fun c => c.media = x.2.1)).bind fun a => (after a.media).map fun c => (a, c)
  | none =>
    let t := v.target l src b
    (cs.filter (fun c => t.reaches c.media)).getLast?.orElse (fun _ => cs.head?) |>.bind fun a =>
      (after a.media).map fun c => (a, c)

/-- ESTIMATION_DONE: the vector field of the pair under estimation is complete (R278). -/
def estimated (o l : Nat) (io : Io) (st : Stores) (sc : Scanout) (next : Instant) : Scanout :=
  let v := io.live
  match sc.frc o l, v.slotOf o l with
  | some f, some k =>
    let state := bits (v.get (routeAddr o (192 + k))) 0 3
    if f.mode = 3 ∧ (state = 1 ∨ state = 2) then
      match v.sourceOf st o k (decide (state = 2)) with
      | some src =>
        match nextPair v l src next f with
        | some (a, c) =>
          { sc.setFrc { f with fields := f.fields ++ [(a.media, c.media, sc.nextField)] } with nextField := sc.nextField + 1 }
        | none => sc
      | none => sc
    else sc
  | _, _ => sc

/-! FRC_JOB_SEL (R291, R292). -/

/-- The words that a snapshot of a job's stage gives at 0x044 to 0x05C. -/
def FrcRt.words (f : FrcRt) (asked : Nat) : List Word :=
  [Word.of (f.mode + b2n (decide (asked = 3 ∧ f.mode = 2)) * 4 + f.cadence * 8 + f.phase % 8 * 32 + f.q * 256 + f.slotA % 8 * 2 ^ 16
      + f.slotB % 8 * 2 ^ 20 + b2n f.cut * 2 ^ 24 + b2n f.estLate * 2 ^ 25 + b2n f.srcLate * 2 ^ 26),
   Word.of f.tau, Word.of (f.tau / 2 ^ 32), Word.of f.sA, Word.of (f.sA / 2 ^ 32), Word.of f.delay, Word.of (f.conf + f.blocks * 256)]

/-- A write of FRC_JOB_SEL takes the snapshot of the entry's job; an entry that is not valid reads zeros (R291). -/
def frcJobSel (e : Fin 144) (v : Word) (io : Io) (sc : Scanout) : Io :=
  if !io.accepts (.frc e) Reg.FRC_JOB_SEL v then io.regWrite 0 (.frc e) Reg.FRC_JOB_SEL v
  else
    let io := io.regWrite 0 (.frc e) Reg.FRC_JOB_SEL v
    let job := io.reg (.prsm e) (Reg.PRSM_JOB + 4 * bits v 0 6)
    let ws := if bit job 31 then
        match sc.frc (bits job 12 9) (bits job 0 12) with
        | some f => f.words (io.live.layerMode f.layer)
        | none => List.replicate 7 0
      else List.replicate 7 0
    (ws.zipIdx).foldl (fun (io : Io) x => io.put (.frc e) (Reg.FRC_JOB_STAT + 4 * x.2) x.1) io

/-! Ring sizes (R286). -/

/-- A reader of a ring as R286 follows it: output timing, mode, delay in nanoseconds as k periods and an addition, and whether it works on fields (R284). -/
structure RingReader where
  tm : Timing
  mode : Nat
  k : Nat
  addNs : Nat
  fields : Bool
  deriving DecidableEq, Repr

/-- Source frames that the stage takes for a picture at boundary `b`, numbered on the source's grid (R273). -/
def RingReader.takes (r : RingReader) (src : Rate) (phase : Nat) (b : Instant) : List Int :=
  let g : Choice := { cands := [], num := src.num, den := src.den, phase := phase }
  if r.mode = 0 then [g.gridAt b - 1]
  else
    let t := b.back r.k src.num src.den r.addNs
    if r.fields then
      let n := { g with num := 2 * src.num }.gridAt t
      [n / 2, (n + 1) / 2]
    else if r.mode = 1 then [g.gridAt t] else [g.gridAt t, g.gridAt t + 1]

/-- An instant lies on the grid of a source. -/
def onGrid (src : Rate) (phase : Nat) (t : Instant) : Bool :=
  decide ((t.num - Int.ofNat (phase * t.den)) * Int.ofNat src.num % Int.ofNat (src.den * 1000000000 * t.den) = 0)

/-- Source frames that a reader and its estimator hold at an instant, on the nominal pattern (R286). A hold covers the instant at which it ends: with that reading, and no other, the figures of R286's table come out. -/
def RingReader.holds (r : RingReader) (src : Rate) (phase : Nat) (t : Instant) : List Int :=
  let tm := r.tm
  let m := ((t.num - Int.ofNat (tm.phase * t.den)) * Int.ofNat tm.num / Int.ofNat (tm.den * 1000000000 * t.den)).toNat
  let done := tm.instantOf m tm.blankFrom
  let active := decide (t.num * Int.ofNat done.den ≤ done.num * Int.ofNat t.den)
  let field := tm.instantOf m tm.field2
  let second := decide (tm.scan = 1) && decide (1 ≤ r.mode) && decide (field.num * Int.ofNat t.den ≤ t.num * Int.ofNat field.den)
  let shown := if active then r.takes src phase (tm.instantOf m 0) ++ (if second then r.takes src phase field else []) else []
  let n := ({ cands := [], num := src.num, den := src.den, phase := phase } : Choice).gridAt t
  let est := if r.mode = 3 then [n - 2, n - 1] ++ (if onGrid src phase t then [n - 3] else []) else []
  shown ++ est

/-- Slots that a ring needs at an instant: what is held, NEWEST and FILLING, each once (R286). -/
def ringAt (rs : List RingReader) (src : Rate) (phase : Nat) (t : Instant) : Nat :=
  let n := ({ cands := [], num := src.num, den := src.den, phase := phase } : Choice).gridAt t
  (((rs.flatMap (fun r => r.holds src phase t)) ++ [n - 1, n] ++ (if onGrid src phase t then [n - 2] else [])).eraseDups).length

/-- Least common period of the grids in units of 1/(1,001 · 600,000) s: every accepted rate divides into it. -/
def commonPeriod (rs : List RingReader) (src : Rate) : Nat :=
  let one := fun (num den : Nat) => den * 600600000 / num
  rs.foldl (fun p r => Nat.lcm p (one r.tm.num r.tm.den)) (one src.num src.den)

/-- The largest number of slots over the whole pattern (R286). -/
def ringNeed (rs : List RingReader) (src : Rate) (phase : Nat) : Nat :=
  let span := commonPeriod rs src
  let count := fun (num den : Nat) => span * num / (den * 600600000)
  let from_ := fun (num den : Nat) => 600600000 * 4 * num / (den * 600600000)
  let mine := (List.range (count src.num src.den + 1)).map fun i =>
    ({ num := Int.ofNat ((from_ src.num src.den + i) * src.den * 1000000000 + phase * src.num), den := src.num } : Instant)
  let theirs := rs.flatMap fun r =>
    (List.range (count r.tm.num r.tm.den + 1)).flatMap fun i =>
      let n := from_ r.tm.num r.tm.den + i
      r.tm.instantOf n 0 :: (if r.tm.scan = 1 then [r.tm.instantOf n r.tm.field2] else [])
  (mine ++ theirs).foldl (fun m t => max m (ringAt rs src phase t)) 0

end Sys2Proof.Machine
end

