-- ==== Sys2Proof/Machine/Compose.lean ====
section
/-! DEFINITION. Layer composition (R295 to R319): what a layer contributes to a line, blending, runs, and the packing of a composed line (R301 to R303, R308). -/
namespace Sys2Proof.Machine

/-! The raster (R328). -/

/-- Picture line of the `k`-th active line of a frame, in raster order. -/
def Timing.pictureLine (t : Timing) (k : Nat) : Nat :=
  if t.scan = 0 then k else if k < t.actH / 2 then 2 * k else 2 * (k - t.actH / 2) + 1

/-- Raster line of the `k`-th active line of a frame. -/
def Timing.rasterLine (t : Timing) (k : Nat) : Nat :=
  if t.scan = 0 then k else if k < t.actH / 2 then k else t.field2 + (k - t.actH / 2)

/-- Position in raster order of picture line `y`. -/
def Timing.orderOf (t : Timing) (y : Nat) : Nat :=
  if t.scan = 0 then y else if y % 2 = 0 then y / 2 else t.actH / 2 + y / 2

/-! A layer's pixels (R245 to R259, R277, R279). -/

/-- The picture that a slot holds for a layer. -/
def View.pictureOf (v : View) (st : Stores) (o : Nat) (sh : Shown) (at_ : Nat × Nat) (even : Option Nat) : Option Picture :=
  match FMap.find st.table at_.1, v.slotPic st o sh.slot sh.backup with
  | some s, some p =>
    let w := v.layer sh.layer 16
    some { index := at_.1, base := at_.2 * s.slotG * 65536, even := even.map (fun k => k * s.slotG * 65536), pic := p
           filter := bits w 1 2, vsite := bit w 3 }
  | _, _ => none

/-- A weighted pair of pixels, weights in 64ths (R277). -/
def mixPx (q : Nat) (a b : Px) : Px :=
  let f := fun (x y : Nat) => stage18 (Int.ofNat ((64 - q) * x + q * y)) 64
  { c0 := (f a.c0 b.c0).1, c1 := (f a.c1 b.c1).1, c2 := (f a.c2 b.c2).1, a := (f a.a b.a).1, clip := a.clip || b.clip }

/-- Two vectors of a block, forward and backward, disagree by more than 2 pixels (R279). -/
def disagree (m : Int × Int × Int × Int × Nat) : Bool :=
  let x := m.1 + m.2.2.1
  let y := m.2.1 + m.2.2.2.1
  decide (64 < x * x + y * y)

/-- One pixel of a layer from its stored pictures (R273, R277, R279). -/
def storedPixel (v : View) (st : Stores) (o : Nat) (sh : Shown) (pa : Picture) (pb : Option Picture) (row i : Nat) : Px :=
  let l := sh.layer
  let cv := v.convert o l pa.pic
  let sa := v.scanOf o l pa.pic row sh.fieldA
  let one := layerPixel v st pa cv sa i
  match pb with
  | none => one 0 0
  | some pb =>
    let two := layerPixel v st pb (v.convert o l pb.pic) (v.scanOf o l pb.pic row sh.fieldB) i
    let q := sh.q
    match sh.vectors with
    | none => mixPx q (one 0 0) (two 0 0)
    | some n =>
      let bx := (Int.ofNat sa.1.x0 + sa.1.horizontal.position i 0 / 64).toNat / 8
      let by_ := (Int.ofNat sa.1.y0 + sa.1.vertical.position sa.2 0 / 64).toNat / 8
      let m := Config.motion n bx by_
      if confidence n (bx, by_) < v.confMin l then
        if bit (v.layer l 24) 16 then (if q ≤ 32 then one 0 0 else two 0 0) else mixPx q (one 0 0) (two 0 0)
      else
        let a := fun (x y : Int) => one (-(Int.ofNat q * x)) (-(Int.ofNat q * y))
        let b := fun (x y : Int) => two (Int.ofNat (64 - q) * x) (Int.ofNat (64 - q) * y)
        if disagree m then (if Config.consistent n bx by_ then a m.1 m.2.1 else b (-m.2.2.1) (-m.2.2.2.1))
        else mixPx q (a m.1 m.2.1) (b m.1 m.2.1)

/-- The pixels of a layer on picture line `y`, from its left edge on; none where it shows nothing there. -/
def layerLine (v : View) (st : Stores) (lin : FMap Nat) (o : Nat) (sh : Shown) (y : Nat) : Option (List Px) :=
  let d := v.layerDst sh.layer
  if sh.kind = 0 || !(decide (d.y ≤ y) && decide (y < d.y + d.h)) then none
  else if sh.kind = 3 then some (List.replicate d.w Px.black)
  else if sh.kind = 2 then
    let key := 1 + 2 * sh.slot + b2n sh.backup
    let n := (FMap.find lin key).getD (v.codesToLight o (v.slotSrc o sh.slot sh.backup))
    some (List.replicate d.w (lightPx n))
  else
    match sh.a.bind (fun x => v.pictureOf st o sh x sh.evenA) with
    | none => none
    | some pa =>
      let pb := sh.b.bind (fun x => v.pictureOf st o sh x sh.evenB)
      some ((List.range d.w).map (storedPixel v st o sh pa pb (y - d.y)))

/-! Blending (R298, R301). -/

/-- Product of two values in units of 2^-16, rounded and clamped. -/
def mul18 (x y : Nat) : Nat := (stage18 (Int.ofNat (x * y)) 65536).1

/-- What a layer's pixel adds: premultiplied colour, and effective alpha (R298, R301). A COLOUR blends at ALPHA, and BLACK is opaque (R226). -/
def contribution (v : View) (sh : Shown) (p : Px) : Px :=
  let w := v.layer sh.layer 0
  let mode := bits w 6 2
  let alpha := bits (v.layer sh.layer 1) 0 17
  if sh.kind = 3 then p
  else
    let stored := decide (sh.kind = 1)
    let a := if !stored || mode = 0 then alpha else if mode = 1 then p.a else mul18 alpha p.a
    let k := if stored && bit w 5 then (if mode = 2 then alpha else 65536) else a
    { p with c0 := mul18 p.c0 k, c1 := mul18 p.c1 k, c2 := mul18 p.c2 k, a := a }

/-- A premultiplied pixel over an accumulator, each result rounded and clamped (R301). -/
def overPx (c acc : Px) : Px :=
  let f := fun (x y : Nat) => (stage18 (Int.ofNat (x * 65536) + (65536 - Int.ofNat c.a) * Int.ofNat y) 65536).1
  { c0 := f c.c0 acc.c0, c1 := f c.c1 acc.c1, c2 := f c.c2 acc.c2, a := f c.a acc.a, clip := false }

/-- A line of pixels laid over an accumulator line from column `x` on. -/
def overLine (x : Nat) (cs acc : List Px) : List Px :=
  acc.zipIdx.map fun e =>
    if x ≤ e.2 then
      match cs[e.2 - x]? with
      | some c => overPx c e.1
      | none => e.1
    else e.1

/-- A layer with its pixels on the line being composed. -/
structure Drawn where
  sh : Shown
  line : Option (List Px)
  deriving DecidableEq, Repr

/-- A layer blended onto an accumulator line. -/
def drawOver (v : View) (acc : List Px) (x : Drawn) : List Px :=
  match x.line with
  | some ps => overLine (v.layerDst x.sh.layer).x (ps.map (contribution v x.sh)) acc
  | none => acc

/-- A pixel of a plane from its packed form (R314). -/
def planePx (n : Nat) : Px :=
  { c0 := n % 2 ^ 18, c1 := n / 2 ^ 18 % 2 ^ 18, c2 := n / 2 ^ 36 % 2 ^ 18, a := n / 2 ^ 54 % 2 ^ 18, clip := false }

/-- The packed form of a pixel of a plane. -/
def Px.packed (p : Px) : Nat := p.c0 + p.c1 * 2 ^ 18 + p.c2 * 2 ^ 36 + p.a * 2 ^ 54

/-- The accumulator of a run, from its members in ascending Z: it starts transparent (R303). -/
def runLine (v : View) (w : Nat) (xs : List Drawn) : List Px := xs.foldl (drawOver v) (List.replicate w Px.clear)

/-- Consecutive layers grouped by the run that they belong to. -/
def groupDrawn (runOf : Nat → Option Nat) : List Drawn → List (Option Nat × List Drawn)
  | [] => []
  | x :: xs =>
    match groupDrawn runOf xs with
    | (some r, ys) :: rest => if runOf x.sh.layer = some r then (some r, x :: ys) :: rest else (runOf x.sh.layer, [x]) :: (some r, ys) :: rest
    | rest => (runOf x.sh.layer, [x]) :: rest

/-- Runs of an output, numbered in Z (R312). -/
def Scanout.runsOf (sc : Scanout) (o : Nat) : List Run := sc.runs.filter (fun r => r.out = o)

/-- A group blended onto an accumulator: a run as a unit, from its plane where that is live (R303). -/
def groupOver (v : View) (runs : List Run) (under : List Nat) (y : Nat) (acc : List Px) (g : Option Nat × List Drawn) : List Px :=
  match g.1.bind (fun i => runs[i]?) with
  | none => g.2.foldl (drawOver v) acc
  | some r =>
    let line :=
      if 3 ≤ r.plane then (if r.members.any under.contains then [] else ((r.image[y]?).getD []).map planePx)
      else runLine v acc.length g.2
    overLine 0 line acc

/-- The background of a raster line (R301, R302). -/
def background (v : View) (lin : FMap Nat) (o w : Nat) : List Px :=
  let bg := v.outc o (if v.legacy o then Reg.LEG_BG else Reg.OUTC_BG)
  let p := lightPx ((FMap.find lin 0).getD (v.codesToLight o (bits bg 0 30)))
  List.replicate w { p with a := if bit (v.outc o Reg.OUTC_BG) 31 then 0 else 65536 }

/-- Blending of a line below the Lid (R301, R303). -/
def composeLine (v : View) (lin : FMap Nat) (sc : Scanout) (o w y : Nat) (under : List Nat) (xs : List Drawn) : List Px :=
  let runs := sc.runsOf o
  let runOf := fun (l : Nat) => runs.findIdx? (fun r => r.members.contains l)
  (groupDrawn runOf xs).foldl (groupOver v runs under y) (background v lin o w)

/-! Packing (R307, R308). -/

/-- A composed line on its way to the pair of lines of 4:2:0: luma code and chroma numerators of each pixel. -/
def halfLine (v : View) (e : Encode) (ps : List Px) : List (Int × Int × Int) :=
  ps.map fun p =>
    let c := e.components v p
    (Int.ofNat (quantise e.pic c.x e.den), c.y, c.z)

/-- Samples of a pair of lines of 4:2:0 in pixel-group order: chroma averaged over both (R308, step 3). -/
def packPair (e : Encode) (a b : List (Int × Int × Int)) : List Nat :=
  let cs := fun (h : List (Int × Int × Int)) => h.map (fun t => ({ x := t.1, y := t.2.1, z := t.2.2 } : V3))
  let y := fun (h : List (Int × Int × Int)) (k : Nat) => ((h[k]?).map (fun t => t.1.toNat)).getD 0
  (List.range (ceilDiv a.length 2)).flatMap fun j =>
    let p := chromaDown e.down (cs a) j
    let q := chromaDown e.down (cs b) j
    [y a (2 * j), y a (2 * j + 1), y b (2 * j), y b (2 * j + 1), quantise e.pic (p.1 + q.1) (8 * e.den), quantise e.pic (p.2 + q.2) (8 * e.den)]

/-- Samples of a line of any other sampling in pixel-group order (R308). -/
def packLine (v : View) (e : Encode) (ps : List Px) : List Nat :=
  let s := e.pic.sampling
  let f := fun (n : Int) => quantise e.pic n e.den
  if s = 0 ∨ s = 4 then
    let cs := ps.map (e.components v)
    packLine422 e.pic (4 * e.den) (cs.map (fun c => f c.x)) ((List.range (ceilDiv cs.length 2)).map (chromaDown e.down cs))
  else ps.flatMap fun p =>
    let c := e.components v p
    if s = 3 then [f c.x, f c.y, f c.z]
    else if s = 8 then [f c.x, f c.y, f c.z, quantiseAlpha e.pic p.a]
    else [f c.y, f c.x, f c.z]

/-- Samples as the bytes of a store or a packet: one after the other, most significant bit first (R198). -/
def codeBytes (depth : Nat) (cs : List Nat) : List Byte := bitBytes (cs.flatMap (bitsOf (depthBits depth)))

/-- The picture and the pending half of a pair after a line has been packed: 4:2:0 waits for the second line of a pair within its field (R308). -/
def addLine (v : View) (e : Encode) (k : Nat) (t : Timing) (ps : List Px) (pic : FMap (List Nat)) (half : List (Int × Int × Int)) :
    FMap (List Nat) × List (Int × Int × Int) :=
  let y := t.pictureLine k
  if e.pic.sampling ≠ 2 then (FMap.insert pic y (packLine v e ps), half)
  else
    let place := e.pic.stored y
    let h := halfLine v e ps
    let lone := decide (t.scan ≠ 0) && decide (place.2 = 0) && decide ((k + 1) % (t.actH / 2) = 0)
    if place.2 = 0 && !lone then (pic, h)
    else
      let first := if lone then y else if t.scan = 0 then y - 1 else y - 2
      (FMap.insert pic first (packPair e (if lone then h else half) h), [])

end Sys2Proof.Machine
end

