-- ==== Sys2Proof/Machine/SdiSend.lean ====
section
/-! DEFINITION. SDI signals that the part generates for TYPE 5 egress (R339, R360): timing references, line numbers, CRCs, vertical ancillary data, embedded audio and active lines, and the datagrams that carry them. Layouts are those of SMPTE ST 292-1, ST 299-1 and ST 2022-6, which the spec names and does not print (PRESUMED: notes/assumptions). -/
namespace Sys2Proof.Machine

/-- The format of the frame in progress. -/
def OutRt.pic (r : OutRt) : Pic :=
  { w := r.tm.actW, h := r.tm.actH, sampling := bits r.fmt 0 4, depth := bits r.fmt 4 2, scan := r.tm.scan
    color := bits r.fmt 8 4, tcs := bits r.fmt 12 4, full := bit r.fmt 16, rate := r.tm.rate }

/-- A word whose bit 9 is the inverse of bit 8. -/
def notEight (n : Nat) : Nat := n % 512 + (if n.testBit 8 then 0 else 512)

/-! Channel status that the part generates (R359). -/

/-- Professional channel status, bytes 0 to 22: audio, the sample rate, and a word length of 24 bits. -/
def statusBytes (fast : Bool) : List Nat :=
  [if fast then 0x05 else 0x85, 0, 0x2C, 0, if fast then 0x10 else 0] ++ List.replicate 18 0

/-- The CRC of byte 23 over bits in the order of transmission. -/
def statusCrc (bs : List Bool) : Nat :=
  bs.foldl (fun c b => if (c.testBit 0) = b then c / 2 else (c / 2) ^^^ 0xB8) 0xFF

/-- The 192 bits of a channel-status block in the order of transmission. -/
def statusBlock (fast : Bool) : List Bool :=
  let bs := (statusBytes fast).flatMap (fun b => (bitsOf 8 b).reverse)
  bs ++ (bitsOf 8 (statusCrc bs)).reverse

/-- Sample `n` of an output channel as a destination that carries AES3 bits sends it: 24 bits, V, U, C and the start of a block (R359, R378). Blocks that the part generates start at sample numbers that are multiples of 192 [DESIGN CHOICE]. -/
def aesSample (v : View) (a : Audio) (fast : Bool) (c n : Nat) : Nat :=
  let x := (FMap.find a.made (sampleKey c n)).getD 0
  if bit (v.aud c 0) 4 then x
  else x % 2 ^ 24 + b2n (((statusBlock fast)[n % 192]?).getD false) * 2 ^ 26 + b2n (decide (n % 192 = 0)) * 2 ^ 27

/-! Timing references, line numbers and CRCs (ST 292-1). -/

/-- The XYZ word: field, vertical blanking, end of active video, and protection bits. -/
def xyz (f v h : Bool) : Nat :=
  512 + b2n f * 256 + b2n v * 128 + b2n h * 64 + b2n (v != h) * 32 + b2n (f != h) * 16 + b2n (f != v) * 8 + b2n ((f != v) != h) * 4

/-- The two line-number words. -/
def lineWords (n : Nat) : List Nat := [notEight (n % 128 * 4), notEight (n / 128 % 16 * 4)]

/-- CRC of words of 10 bits, least significant bit first, by x^18 + x^5 + x^4 + 1. -/
def sdiCrc (ws : List Nat) : Nat :=
  ws.foldl (fun c w => (List.range 10).foldl (fun c i => if (c.testBit 0) = (w.testBit i) then c / 2 else (c / 2) ^^^ 0x23000) c) 0

/-- The two CRC words. -/
def crcWords (c : Nat) : List Nat := [notEight (c % 512), notEight (c / 512)]

/-! Ancillary packets. -/

/-- The words of a packet in a stream. -/
def ancStream (ws : List Nat) : List Nat := [0, 0x3FF, 0x3FF] ++ ws ++ [ancChecksum ws]

/-- An ancillary packet as ST 2110-40 describes it, in a stream. -/
def Anc.words (a : Anc) : List Nat := ancStream ([ancWord a.did, ancWord a.sdid, ancWord a.udw.length] ++ a.udw)

/-- The four words of a sample of an audio packet, with its parity. -/
def sampleWords (x : Nat) : List Nat :=
  let p := ((bitsOf 27 (x % 2 ^ 27)).filter id).length % 2
  [ancWord (x % 16 * 16 + b2n (x.testBit 27) * 8), ancWord (x / 16), ancWord (x / 2 ^ 12),
   ancWord (x / 2 ^ 20 % 16 + b2n (x.testBit 24) * 16 + b2n (x.testBit 25) * 32 + b2n (x.testBit 26) * 64 + p * 128)]

/-- An audio data packet of group `g`: clock phase, four samples, error correction (R358, R360). Data block numbers stay inactive. -/
def audioStream (g clocks : Nat) (xs : List Nat) : List Nat :=
  let phase := [ancWord clocks, ancWord (clocks / 256 % 16 + clocks / 4096 % 2 * 32)]
  let head := [audioDid g, ancWord 0, 0x218] ++ phase ++ xs.flatMap sampleWords
  let ecc := bchWords ([0, 0x3FF, 0x3FF] ++ head)
  ancStream (head ++ ecc)

/-- DID of the audio control packet of a group. -/
def controlDid (g : Nat) : Nat := if g = 0 then 0x1E3 else if g = 1 then 0x2E2 else if g = 2 then 0x2E1 else 0x1E0

/-- An audio control packet: audio frame number, 48 kHz synchronous, four active channels, no delay. -/
def controlStream (g frame : Nat) : List Nat :=
  ancStream ([controlDid g, ancWord 0, ancWord 11, ancWord frame, ancWord 0, ancWord 15] ++ List.replicate 8 (ancWord 0))

/-- Audio frame number: 1 to 5 at the rates whose frames hold no whole number of samples, else 1. -/
def audioFrame (p : Pic) (n : Nat) : Nat := if p.rate.den = 1001 then n % 5 + 1 else 1

/-! Lines. -/

/-- What a frame of a TYPE 5 flow is made from. -/
structure SdiSource where
  pic : Pic
  frame : Nat
  picture : FMap (List Nat)
  anc : List Anc
  /-- samples of the frame: line, clocks into the line, and the 16 samples -/
  audio : List (Nat × Nat × List Nat)
  deriving DecidableEq, Repr

/-- Fill a stream's blanking with packets and the blanking level. -/
def fill (n level : Nat) (ws : List Nat) : List Nat := ws.take n ++ List.replicate (n - ws.length) level

/-- The line lies in vertical blanking. -/
def SdiSource.blank (x : SdiSource) (n : Nat) : Bool := (sdiRowOf x.pic n).isNone

/-- The active words of a line in the two streams: the picture, or vertical ancillary data over the blanking levels. -/
def SdiSource.active (x : SdiSource) (n : Nat) : List Nat × List Nat :=
  match sdiRowOf x.pic n with
  | some y =>
    let cs := (FMap.find x.picture y).getD []
    (fill x.pic.w 0x200 (chromaOf cs), fill x.pic.w 0x040 (lumaOf cs))
  | none =>
    let of := fun (c : Bool) => (x.anc.filter (fun a => decide (a.line = n) && (a.chroma == c))).flatMap Anc.words
    (fill x.pic.w 0x200 (of true), fill x.pic.w 0x040 (of false))

/-- EAV and line number of a line in one stream. -/
def SdiSource.eav (x : SdiSource) (n : Nat) : List Nat :=
  [0x3FF, 0, 0, xyz (sdiField2 x.pic n) (x.blank n) true] ++ lineWords n

/-- A line of one stream, whose CRC closes the active words of the line before. -/
def SdiSource.stream (x : SdiSource) (n level : Nat) (hanc before active : List Nat) : List Nat :=
  let eav := x.eav n
  eav ++ crcWords (sdiCrc (before ++ eav)) ++ fill (sdiTotal x.pic - x.pic.w - 12) level hanc
    ++ [0x3FF, 0, 0, xyz (sdiField2 x.pic n) (x.blank n) false] ++ active

/-- Words of the two streams, colour difference first. -/
def interleave : List Nat → List Nat → List Nat
  | a :: as, b :: bs => a :: b :: interleave as bs
  | _, _ => []

/-- The words of SDI line `n`: audio data in the colour-difference stream, audio control packets in the luma stream of lines 9 and 571. -/
def SdiSource.line (x : SdiSource) (n : Nat) : List Nat :=
  let before := x.active (if n = 1 then sdiLines x.pic else n - 1)
  let now := x.active n
  let audio := (x.audio.filter (fun s => s.1 = n)).flatMap fun s =>
    (List.range 4).flatMap (fun g => audioStream g s.2.1 ((s.2.2.drop (4 * g)).take 4))
  let control := if !x.audio.isEmpty && (decide (n = 9) || (decide (n = 571) && decide (x.pic.scan ≠ 0))) then
      (List.range 4).flatMap (fun g => controlStream g (audioFrame x.pic x.frame)) else []
  interleave (x.stream n 0x200 audio before.1 now.1) (x.stream n 0x040 control before.2 now.2)

/-- Bytes of an SDI line. -/
def sdiLineBytes (p : Pic) : Nat := 2 * sdiTotal p * 10 / 8

/-- Datagrams of a frame (R339). -/
def sdiCount (p : Pic) : Nat := ceilDiv (sdiLineBytes p * sdiLines p) 1376

/-- The SDI lines that datagram `k` carries. -/
def sdiLinesOf (p : Pic) (k : Nat) : List Nat :=
  let first := k * 1376 / sdiLineBytes p
  let last := min ((k + 1) * 1376 - 1) (sdiLineBytes p * sdiLines p - 1) / sdiLineBytes p
  (List.range (last + 1 - first)).map (fun i => first + i + 1)

/-- The media payload of datagram `k`, padded to 1,376 bytes. -/
def SdiSource.media (x : SdiSource) (k : Nat) : List Byte :=
  let bs := (sdiLinesOf x.pic k).flatMap (fun n => packTens (x.line n))
  let off := k * 1376 % sdiLineBytes x.pic
  let cut := (bs.drop off).take 1376
  cut ++ List.replicate (1376 - cut.length) 0

/-- The payload of datagram `k`: the ST 2022-6 header, and the media payload. -/
def SdiSource.datagram (x : SdiSource) (k : Nat) : List Byte :=
  [0x08, BitVec.ofNat 8 x.frame, 0, 0] ++
    beBytes 4 (sdiFrameCode x.pic * 2 ^ 20 + sdiRateCode x.pic.rate * 2 ^ 12 + 2 ^ 8) ++ x.media k

/-- The start of SDI line 1 of frame `n` of an output in units of 1 / (num · V_TOTAL) ns (R339). -/
def sdiStart (t : Timing) (first n : Nat) : Int :=
  (Int.ofNat (n * t.vTotal) - Int.ofNat (first - 1)) * Int.ofNat (t.den * 1000000000) + Int.ofNat (t.phase * t.num * t.vTotal)

/-- The 27 MHz time of SDI line 1 (R339). -/
def sdiTs (t : Timing) (first n : Nat) : Nat := (sdiStart t first n * 27 / Int.ofNat (1000 * t.num * t.vTotal)).toNat % 2 ^ 32

/-- The samples that go into frame `n`: those whose media time falls between its SDI line 1 and the next (R360). The horizontal blanking of every admitted raster has room for the samples of a line. -/
def sdiAudio (v : View) (a : Audio) (t : Timing) (p : Pic) (first n ch : Nat) : List (Nat × Nat × List Nat) :=
  let d := t.num * t.vTotal
  let s0 := (sdiStart t first n).toNat
  let s1 := (sdiStart t first (n + 1)).toNat
  let from_ := ceilDiv (s0 * 48000) (d * 1000000000)
  let to_ := ceilDiv (s1 * 48000) (d * 1000000000)
  (List.range (to_ - from_)).map fun i =>
    let m := from_ + i
    let clocks := (m * d * 1000000000 - s0 * 48000) * sdiLines p * sdiTotal p / ((s1 - s0) * 48000)
    (clocks / sdiTotal p + 1, clocks % sdiTotal p, (List.range 16).map (fun c => aesSample v a false (ch + c) m))

/-- What frame `n` of a TYPE 5 flow with audio word `w27` is made from. -/
def sdiSource (v : View) (a : Audio) (r : OutRt) (w27 : Word) : SdiSource :=
  let p := r.pic
  { pic := p, frame := r.frame, picture := r.picture, anc := ancSlotRead r.anc
    audio := if bits w27 16 7 = 16 then sdiAudio v a r.tm p (sdiFirst p) r.frame (bits w27 0 14) else [] }

end Sys2Proof.Machine
end

