-- ==== Sys2Proof/Machine/Packing.lean ====
section
/-! DEFINITION. Packetization (R338 to R341, R359): the packets of a frame of video or ancillary data and of audio, what each holds, and when it leaves. -/
namespace Sys2Proof.Machine

/-- The output whose raster a valid egress flow carries: FEED 1, or FEED 0 while its fast-path entry is PROMOTED (R233, R336). -/
def View.videoOut (v : View) (e : Nat) : Option Nat :=
  if !v.egrValid e then none
  else if v.egrFeed e = 1 then some (v.egrOut e)
  else if v.egrFeed e = 0 ∧ v.fastEn e ∧ v.fastState e = 2 then some (v.fastOut e) else none

/-- The output whose frames a valid egress flow follows: its raster, or its ancillary data. -/
def View.frameOut (v : View) (e : Nat) : Option Nat :=
  if v.egrValid e ∧ v.egrFeed e = 2 then some (v.egrOut e) else v.videoOut e

/-- The valid egress flows that follow the frames of an output. -/
def View.framesOf (v : View) (o : Nat) : List Nat := v.egrs.filter (fun e => v.frameOut e = some o)

/-- PTP time on the scale of the frame in progress (R332). -/
def OutRt.clock (r : OutRt) (io : Io) : Nat := (Int.ofNat io.now - r.shift).toNat

/-- A packet ready to be built: when it leaves, whether it ends the frame, its marker, timestamp and payload. -/
structure Ready where
  due : Nat
  ends : Bool
  marker : Bool
  ts : Nat
  body : List Byte
  deriving DecidableEq, Repr

/-- The 90 kHz timestamp of frame `n` of an output (R338). -/
def Timing.ts90 (t : Timing) (n : Nat) : Nat := n * t.den * 90000 / t.num % 2 ^ 32

/-! ST 2110-20 (R338). -/

/-- Fields per frame as packets count them. -/
def Pic.fields (p : Pic) : Nat := if p.scan = 0 then 1 else 2

/-- Lines, or pairs of lines of 4:2:0, in a field. -/
def Pic.units (p : Pic) : Nat := if p.sampling = 2 then ceilDiv (p.h / p.fields) 2 else p.h / p.fields

/-- Picture line at which unit `u` of field `f` is kept. -/
def Pic.unitLine (p : Pic) (f u : Nat) : Nat :=
  let n := if p.sampling = 2 then 2 * u else u
  if p.scan = 0 then n else 2 * n + f

/-- Pixel groups of a unit. -/
def Pic.groups (p : Pic) : Nat := ceilDiv p.w (pgroup p.sampling p.depth).2

/-- General packing: each unit in the fewest packets, whose sizes differ by at most one pixel group, the larger ones first. Packets are given as first pixel group of the field and number. -/
def linePlan (groups units most : Nat) : List (Nat × Nat) :=
  let n := ceilDiv groups (max most 1)
  let q := groups / n
  let r := groups % n
  (List.range units).flatMap fun u => (List.range n).map fun j => (u * groups + j * q + min j r, q + b2n (decide (j < r)))

/-- Block packing: packets of `per` pixel groups across at most three units, the last one shorter. -/
def blockPlan (groups per : Nat) : Nat → Nat → Nat → List (Nat × Nat)
  | 0, _, _ => []
  | k + 1, pos, left =>
    if left = 0 then []
    else
      let c := min per (min left ((pos / groups + 3) * groups - pos))
      (pos, c) :: blockPlan groups per k (pos + c) (left - c)

/-- The packets of a field. -/
def View.videoPlan (v : View) (e : Nat) (p : Pic) : List (Nat × Nat) :=
  let b := (pgroup p.sampling p.depth).1
  if bit (v.egr e 0) 10 then blockPlan p.groups (1260 / b) (p.groups * p.units) 0 (p.groups * p.units)
  else linePlan p.groups p.units (v.egrPayload e / b)

/-- The parts of a packet by unit: unit, first pixel group, number. -/
def packetParts (groups : Nat) (x : Nat × Nat) : List (Nat × Nat × Nat) :=
  (List.range 3).filterMap fun i =>
    let u := x.1 / groups + i
    let from_ := max x.1 (u * groups)
    let to_ := min (x.1 + x.2) ((u + 1) * groups)
    if from_ < to_ then some (u, from_ - u * groups, to_ - from_) else none

/-- The pixel groups of a unit as bytes, once its lines are packed. -/
def unitBytes (p : Pic) (picture : FMap (List Nat)) (f u : Nat) : Option (List Byte) :=
  (FMap.find picture (p.unitLine f u)).map fun cs =>
    let bs := codeBytes p.depth cs
    let n := p.groups * (pgroup p.sampling p.depth).1
    bs.take n ++ List.replicate (n - bs.length) 0

/-- Sample row data headers: length, row with the field bit, offset with the continuation bit. -/
def srdHeaders (p : Pic) (f : Nat) : List (Nat × Nat × Nat) → List Byte
  | [] => []
  | x :: xs =>
    let g := pgroup p.sampling p.depth
    beBytes 2 (x.2.2 * g.1) ++ beBytes 2 ((if p.sampling = 2 then 2 * x.1 else x.1) + f * 2 ^ 15)
      ++ beBytes 2 (x.2.1 * g.2 + b2n (!xs.isEmpty) * 2 ^ 15) ++ srdHeaders p f xs

/-- The pixel groups of a packet; none while some line of it is not packed. -/
def partBytes (p : Pic) (picture : FMap (List Nat)) (f : Nat) : List (Nat × Nat × Nat) → Option (List Byte)
  | [] => some []
  | x :: xs =>
    match unitBytes p picture f x.1, partBytes p picture f xs with
    | some bs, some rest =>
      let b := (pgroup p.sampling p.depth).1
      some ((bs.drop (x.2.1 * b)).take (x.2.2 * b) ++ rest)
    | _, _ => none

/-- The instant at which packet `k` of the `n` packets of field `f` leaves: type N evenly over the active lines, type W as soon as its last byte is packed (R338). -/
def videoDue (t : Timing) (p : Pic) (frame : Nat) (wide : Bool) (f k n lastUnit : Nat) : Nat :=
  if wide then
    let last := min (p.unitLine f lastUnit + (if p.sampling = 2 then p.fields else 0)) (t.actH - p.fields + f)
    t.lineStart frame (t.rasterLine (t.orderOf last) + 1)
  else
    ((frame * t.vTotal + f * t.field2) * n + n + (k + 1) * (p.h / p.fields)) * t.den * 1000000000 / (t.num * t.vTotal * n) + t.phase

/-- Packet `k` of the frame of a TYPE 0 flow. -/
def videoReady (v : View) (e : Nat) (r : OutRt) (seq k : Nat) : Option Ready :=
  let p := r.pic
  let plan := v.videoPlan e p
  let n := plan.length
  match (if n = 0 ∨ p.fields ≤ k / n then none else plan[k % n]?) with
  | none => none
  | some x =>
    let f := k / n
    let parts := packetParts p.groups x
    (partBytes p r.picture f parts).map fun bs =>
      { due := videoDue r.tm p r.frame (bit (v.egr e 0) 11) f (k % n) n ((parts.getLast?.map (·.1)).getD 0)
        ends := decide (k + 1 = n * p.fields), marker := decide (k % n + 1 = n), ts := r.tm.ts90 r.frame
        body := beBytes 2 (seq / 65536) ++ srdHeaders p f parts ++ bs }

/-! ST 2022-6 (R339). -/

/-- Datagram `k` of the frame of a TYPE 5 flow: paced evenly over the frame period from its boundary on. -/
def sdiReady (v : View) (a : Audio) (e : Nat) (r : OutRt) (k : Nat) : Option Ready :=
  let p := r.pic
  let n := sdiCount p
  let rows := (sdiLinesOf p k).filterMap (sdiRowOf p)
  if n ≤ k ∨ !rows.all (fun y => (FMap.find r.picture y).isSome) then none
  else
    let t := r.tm
    some { due := (r.frame * n + k) * t.den * 1000000000 / (t.num * n) + t.phase, ends := decide (k + 1 = n), marker := decide (k + 1 = n)
           ts := sdiTs t (sdiFirst p) r.frame, body := (sdiSource v a r (v.egr e 27)).datagram k }

/-! ST 2110-40 (R341). -/

/-- Ancillary packets in datagrams of at most `most` bytes. -/
def ancGroups (most : Nat) : List Anc → List (List Anc)
  | [] => []
  | x :: xs =>
    match ancGroups most xs with
    | g :: gs =>
      if 8 + ((x :: g).flatMap ancBits).length / 8 ≤ most ∧ g.length < 255 then (x :: g) :: gs else [x] :: g :: gs
    | [] => [[x]]

/-- The datagrams of a frame: field and ancillary packets. -/
def ancPlan (v : View) (e : Nat) (r : OutRt) : List (Nat × List Anc) :=
  let all := ancSlotRead r.anc
  let part := fun (xs : List Anc) (f : Nat) => (ancGroups (v.egrPayload e) xs).map (fun g => (f, g))
  if r.tm.scan = 1 then
    part (all.filter (fun a => a.line ≤ r.tm.field2)) 0 ++ part (all.filter (fun a => r.tm.field2 < a.line)) 1
  else part all 0

/-- Datagram `k` of the frame of a FEED 2 flow: one line after the start of its frame, or of its field (R341). -/
def ancReady (v : View) (e : Nat) (r : OutRt) (seq k : Nat) : Option Ready :=
  let plan := ancPlan v e r
  (plan[k]?).map fun x =>
    let data := bitBytes (x.2.flatMap ancBits)
    let more := (plan.drop (k + 1)).any (fun y => decide (y.1 = x.1))
    { due := r.tm.lineStart r.frame (x.1 * r.tm.field2 + 1), ends := decide (k + 1 = plan.length), marker := !more
      ts := r.tm.ts90 r.frame
      body := beBytes 2 (seq / 65536) ++ beBytes 2 data.length ++ beBytes 1 x.2.length
        ++ beBytes 3 ((if r.tm.scan = 1 then 2 + x.1 else 0) * 2 ^ 22) ++ data }

/-- The next packet of the frame of a flow. -/
def frameReady (v : View) (a : Audio) (e : Nat) (r : OutRt) (seq k : Nat) : Option Ready :=
  if v.egrFeed e = 2 then ancReady v e r seq k
  else if v.egrType e = 5 then sdiReady v a e r k else videoReady v e r seq k

/-! ST 2110-30 and -31 (R359). -/

/-- One sample of a channel in a packet, with the dither that it takes. -/
def audioSampleBytes (v : View) (a : Audio) (typ : Nat) (w27 : Word) (c n place : Nat) (io : Io) : List Byte × Io :=
  let x := (FMap.find a.made (sampleKey c n)).getD 0
  if typ = 3 then
    let s := aesSample v a (bit w27 24) c n
    let p := ((bitsOf 27 (s % 2 ^ 27)).filter id).length % 2
    (beBytes 4 (s % 2 ^ 27 + p * 2 ^ 27 + b2n (decide (place % 2 = 0)) * 2 ^ 28 + b2n (s.testBit 27) * 2 ^ 29), io)
  else if bit w27 25 then (beBytes 3 (x % 2 ^ 24), io)
  else if bit (v.aud c 0) 7 then (beBytes 2 (unsigned 16 (round16 (sample24 x) io.tpdf)), io.took)
  else (beBytes 2 (unsigned 16 (round16 (sample24 x) 0)), io)

/-- The payload of a packet whose first sample has number `n`. -/
def audioBody (v : View) (a : Audio) (e n : Nat) (io : Io) : List Byte × Io :=
  let w := v.egr e 27
  let ch := bits w 16 7
  (List.range (samplesPerPtime w * ch)).foldl (fun (x : List Byte × Io) k =>
    let (bs, io) := audioSampleBytes v a (v.egrType e) w (bits w 0 14 + k % ch) (n + k / ch) (k % ch) x.2
    (x.1 ++ bs, io)) ([], io)

/-! Sending. -/

/-- The tile whose packetizer sends a flow: that of its output, or of its port for audio. -/
def View.packetTile (v : View) (e : Nat) : Fin 16 :=
  match v.frameOut e with
  | some o => Fin.ofNat 16 (o / 32)
  | none => Fin.ofNat 16 (bits (v.egr e 1) 0 7 / 8)

/-- A packet of the packetizer leaves (R337, R340, R349). -/
def packetSend (key : Nat → Option (List Byte)) (e : Nat) (x : Ready) (io : Io) (sc : Scanout) : Io × Scanout :=
  let v := io.live
  let r := sc.egrRt e
  let packet := rtpHeader x.marker (bits (v.egr e 25) 0 7) (r.seq % 65536) x.ts (v.egr e 26).toNat ++ x.body
  let io := io.count48 (.scan (v.packetTile e)) Reg.SCAN_PKTS_TX_LO 1
  let (io, sc) := egressSend key e r.seq x.ends packet io sc
  let r := sc.egrRt e
  (io, sc.setEgr e { r with seq := (r.seq + 1) % 2 ^ 32, sent := r.sent + 1, busy := r.busy && !x.ends })

/-- The next packet of a flow that follows an output leaves, if it is ready and `ok` takes its instant. -/
def sendNext (key : Nat → Option (List Byte)) (e : Nat) (ok : Nat → Bool) (io : Io) (a : Audio) (sc : Scanout) : Option (Io × Scanout) :=
  let v := io.live
  let g := sc.egrRt e
  match (v.frameOut e).bind (fun o => FMap.find sc.outs o) with
  | some r =>
    if !g.busy then none
    else
      match frameReady v a e r g.seq g.sent with
      | some x => if ok x.due then some (packetSend key e x io sc) else none
      | none => none
  | none => none

/-- Packets of a flow that are still to leave at the end of a frame leave, in order; `n` bounds their number. -/
def flushFlow (key : Nat → Option (List Byte)) (e : Nat) : Nat → Io → Audio → Scanout → Io × Scanout
  | 0, io, _, sc => (io, sc)
  | n + 1, io, a, sc =>
    match sendNext key e (fun _ => true) io a sc with
    | some (io, sc) => flushFlow key e n io a sc
    | none => (io, sc)

/-- An audio flow starts: its first packet is the first whose samples all lie after the start (R335). -/
def audioStart (v : View) (e now : Nat) (r : EgrRt) : EgrRt :=
  let w := v.egr e 27
  let n := sampleAt (bit w 24) now
  let s := samplesPerPtime w
  { r with frame := n / s, started := decide (n % s = 0) && decide (sampleTime (bit w 24) n = now) }

/-- An audio packet leaves once the samples of its packet time have passed; packets whose turn went by are not sent late (R359). -/
def audioSend (key : Nat → Option (List Byte)) (e : Nat) (io : Io) (a : Audio) (sc : Scanout) : Io × Scanout :=
  let v := io.live
  let w := v.egr e 27
  let s := samplesPerPtime w
  let done := sampleAt (bit w 24) io.now / s
  if done = 0 ∨ done = (sc.egrRt e).frame then (io, sc)
  else if !(sc.egrRt e).started then (io, sc.setEgr e { sc.egrRt e with frame := done, started := true })
  else
    let (io, sc) := egressPending e io sc
    let v := io.live
    if !v.egrValid e then (io, sc)
    else
      let n := (done - 1) * s
      let (bs, io) := audioBody v a e n io
      let (io, sc) := packetSend key e { due := 0, ends := false, marker := false, ts := n % 2 ^ 32, body := bs } io sc
      (io, sc.setEgr e { sc.egrRt e with frame := done })

/-- PACKET_TX: the next packet of a flow leaves at its instant (R338, R339, R341, R359). -/
def packetTx (key : Nat → Option (List Byte)) (e : Nat) (io : Io) (a : Audio) (sc : Scanout) : Io × Scanout :=
  let v := io.live
  if !v.egrValid e then (io, sc)
  else if v.egrFeed e = 3 then audioSend key e io a sc
  else
    match (v.frameOut e).bind (fun o => FMap.find sc.outs o) with
    | some r => (sendNext key e (fun due => decide (due ≤ r.clock io)) io a sc).getD (io, sc)
    | none => (io, sc)

/-- A frame of an output begins for a flow that follows it: captured header words become live, and the flow starts or goes on (R335). -/
def frameBegins (key : Nat → Option (List Byte)) (e : Nat) (o frame : Nat) (io : Io) (a : Audio) (sc : Scanout) : Io × Scanout :=
  let (io, sc) := flushFlow key e 131072 io a sc
  let (io, sc) := egressPending e io sc
  if io.live.frameOut e = some o then
    (io, sc.setEgr e { sc.egrRt e with frame := frame, sent := 0, busy := true, started := true })
  else (io, sc)

end Sys2Proof.Machine
end

