-- ==== Sys2Proof/Machine/Ancillary.lean ====
section
/-! DEFINITION. Ancillary data of an output (R341): the packets of the source frame shown, remapped or dropped, and generated timecode. -/
namespace Sys2Proof.Machine

/-- The ANC slot of a flow whose media time is that of a video slot (R341). -/
def Stores.ancAt (st : Stores) (v : View) (f media : Nat) : Option (List Anc) :=
  (st.known (v.flow f 29).toNat).bind fun s =>
    (s.slots.zipIdx.find? (fun x => decide (2 ≤ x.1.state ∧ x.1.media = media))).map fun x =>
      ancSlotRead (st.bytes ((v.flow f 29).toNat % 65536) (x.2 * s.slotG * 65536) (s.slotG * 65536))

/-- The flow and media time that a route slot shows: a flow as source or backup, neither frozen nor black. -/
def View.ancSource (v : View) (st : Stores) (o k : Nat) (shown : List Shown) : Option (Nat × Nat) :=
  let state := bits (v.get (routeAddr o (192 + k))) 0 3
  match shown.find? (fun s => s.slot = k) with
  | some s =>
    if (state = 1 ∨ state = 2) ∧ s.kind = 1 ∧ v.slotKind o k s.backup = 1 then
      s.a.bind fun a => (FMap.find st.table a.1).bind fun h => (h.slots[a.2]?).map fun x => (v.slotSrc o k s.backup % 4096, x.media)
    else none
  | none => none

/-- The route is converting: another size, scan or rate, or a layer that does not cover the raster from the whole source. -/
def View.converting (v : View) (o k f : Nat) (t : Timing) : Bool :=
  let p := v.flowPic f
  let l := v.slotLayer o k
  decide (p.w ≠ t.actW ∨ p.h ≠ t.actH ∨ p.scan ≠ t.scan ∨ p.rate ≠ t.rate)
    || decide (v.layerDst l ≠ { x := 0, y := 0, w := t.actW, h := t.actH })
    || decide (v.layerSrc l p ≠ { x := 0, y := 0, w := p.w, h := p.h })

/-- The allow-list of a tile holds the packet's identifiers (R349). -/
def Io.ancAllowed (io : Io) (t : Fin 16) (a : Anc) : Bool :=
  (List.range 32).any fun i =>
    let w := io.reg (.scan t) (0x100 + 4 * i)
    bit w 16 && decide (bits w 8 8 = a.did) && decide (bits w 0 8 = a.sdid)

/-- Timecode. -/
def Anc.timecode (a : Anc) : Bool := decide (a.did = 0x60 ∧ a.sdid = 0x60)

/-- Captions. -/
def Anc.caption (a : Anc) : Bool := decide (a.did = 0x61 ∧ (a.sdid = 1 ∨ a.sdid = 2))

/-- What becomes of a packet: it goes on a line, or is dropped (R341). -/
def ancPlace (io : Io) (o : Nat) (t : Timing) (converting : Bool) (p : Pic) (a : Anc) : Option Anc :=
  let v := io.live
  let lines := v.outc o Reg.OUTC_ANC_LINES
  let second := if sdiField2 p a.line ∧ t.scan ≠ 0 then t.vTotal / 2 else 0
  let same := decide (p.rate = t.rate)
  if a.timecode ∧ bit (v.outc o Reg.OUTC_ANC_CFG) 5 then none
  else if !converting then some a
  else if a.timecode then (if same then some { a with line := bits lines 0 12 + second } else none)
  else if a.caption then (if same then some { a with line := bits lines 16 12 + second } else none)
  else if io.ancAllowed (Fin.ofNat 16 (o / 32)) a ∧ a.line ≤ t.vTotal then some a else none

/-! Generated timecode (R341). Layout of ST 12-2 (PRESUMED: notes/assumptions). -/

/-- Frames per second that labels count: rates above 30 are counted in groups of frames. -/
def labelRate (n : Nat) : Nat × Nat := if n ≤ 30 then (n, 1) else if n ≤ 60 then (n / 2, 2) else (n / 4, 4)

/-- Frames that a drop-frame count skips before frame `n` of a day. -/
def dropFrames (n : Nat) : Nat := 18 * (n / 17982) + (if n % 17982 < 2 then 0 else 2 * ((n % 17982 - 2) / 1798))

/-- Hours, minutes, seconds and frames of frame `n` of an output, and whether frames are dropped. -/
def View.timecode (v : View) (utc : Word) (o : Nat) (t : Timing) (frame : Nat) : (Nat × Nat × Nat × Nat) × Bool :=
  let off := if bit utc 16 then signed 16 (bits utc 0 16) else 37
  let ofs := signed 18 (bits (v.outc o Reg.OUTC_TC_OFS) 0 18)
  let tod := (Int.ofNat (frame * t.den) + (ofs - off) * Int.ofNat t.num) % Int.ofNat (86400 * t.num)
  let r := labelRate t.rate.whole
  let n := tod.toNat / t.den / r.2
  let drop := decide (t.den = 1001 ∧ r.1 = 30)
  let n := if drop then n + dropFrames n else n
  let s := n / r.1
  ((s / 3600 % 24, s / 60 % 60, s % 60, n % r.1), drop)

/-- The ATC_LTC packet of a frame. -/
def atcLtc (line : Nat) (x : (Nat × Nat × Nat × Nat) × Bool) : Anc :=
  let (h, m, s, f) := x.1
  let ns := [f % 10, f / 10 + b2n x.2 * 4, s % 10, s / 10, m % 10, m / 10, h % 10, h / 10]
  { chroma := false, line := line, hoff := 0, did := 0x60, sdid := 0x60
    udw := ns.flatMap (fun n => [ancWord (n * 16), ancWord 0]), checksumOk := true }

/-- The ancillary data of a frame of an output as an ANC slot holds it, and how many packets were dropped. -/
def ancOfFrame (o : Nat) (t : Timing) (frame : Nat) (shown : List Shown) (io : Io) (st : Stores) : List Byte × Nat :=
  let v := io.live
  let cfg := v.outc o Reg.OUTC_ANC_CFG
  let k := bits cfg 0 4
  let (source, kept) :=
    match (if bit cfg 4 then v.ancSource st o k shown else none) with
    | none => ([], [])
    | some (f, media) =>
      let xs := (st.ancAt v f media).getD []
      (xs, xs.filterMap (ancPlace io o t (v.converting o k f t) (v.flowPic f)))
  let tc := if bit cfg 5 then
      [atcLtc (bits (v.outc o Reg.OUTC_ANC_LINES) 0 12) (v.timecode (io.reg .ptp Reg.PTP_UTC_OFFSET) o t frame)] else []
  if (tc ++ kept).isEmpty then ([], source.length)
  else (ancSlotBytes (tc ++ kept), source.length - kept.length)

end Sys2Proof.Machine
end

