-- ==== Sys2Proof/Machine/Loupe.lean ====
section
/-! DEFINITION. The Loupe (R343 to R348): which rectangles of an output are checked, the value of a rectangle, and what a result does. -/
namespace Sys2Proof.Machine

/-- The method by which an output is checked: 0 none, 1 rectangle CRC, 2 wire read-back, 3 write-back read-back; with the egress flow tapped (R343). -/
def View.loupeMethod (v : View) (o : Nat) : Nat × Nat :=
  if (v.timing o).actW ≤ 4096 then (1, 0)
  else
    match v.egrs.find? (fun e => decide (v.egrFeed e = 1 ∧ v.egrOut e = o)) with
    | some e => (2, e)
    | none => if v.wbOn o then (3, 0) else (0, 0)

/-- A rectangle from its two words. -/
def rectOf (xy wh : Word) : Rect := { x := bits xy 0 14, y := bits xy 16 14, w := bits wh 0 14, h := bits wh 16 14 }

/-- An enabled rectangle of an output: 0 to 6 the driver's, 7 the Lid's (R345, R346). -/
def View.loupeRect (v : View) (o r : Nat) : Option Rect :=
  if r < 7 then
    if bit (v.outc o (Reg.OUTC_LPE_CTL + 16 * r)) 0 then
      some (rectOf (v.outc o (Reg.OUTC_LPE_XY + 16 * r)) (v.outc o (Reg.OUTC_LPE_WH + 16 * r)))
    else none
  else (v.lid o).map v.layerDst

/-- The raster line that carries a rectangle's last line: of the two last lines the one that the raster carries later (R347). -/
def Timing.lastRaster (t : Timing) (r : Rect) : Nat :=
  let line := fun y => t.rasterLine (t.orderOf y)
  let y := r.y + r.h - 1
  if t.scan = 0 ∨ r.h < 2 then line y else max (line y) (line (y - 1))

/-- The instant of a result: for methods 1 and 2 the end of a line, for method 3 the end of the last active line, after which the slot is published (R333, R347). -/
def loupeDue (t : Timing) (frame method : Nat) (r : Rect) : Nat :=
  if method = 1 then t.lineStart frame (t.lastRaster r + 2)
  else if method = 2 then t.lineStart frame (t.lastRaster r + 4)
  else t.lineStart frame t.blankFrom

/-- Pixels, or pairs of pixels, and their samples in a packed line (R344). -/
def rectUnit (sampling : Nat) : Nat × Nat :=
  if sampling = 0 ∨ sampling = 4 then (2, 4) else if sampling = 2 then (2, 6) else if sampling = 8 then (1, 4) else (1, 3)

/-- Lines at which packed samples of a rectangle are kept: a pair of 4:2:0 stands at its first line. -/
def rectLines (p : Pic) (r : Rect) : List Nat :=
  ((List.range r.h).map (r.y + ·)).filter (fun y => decide (p.sampling ≠ 2) || decide ((p.stored y).2 = 0))

/-- The samples of a rectangle in the order of R344; none while one of its lines is missing. -/
def rectSamples (p : Pic) (picture : FMap (List Nat)) (r : Rect) : List Nat → Option (List Nat)
  | [] => some []
  | y :: ys =>
    match FMap.find picture y, rectSamples p picture r ys with
    | some cs, some rest =>
      let u := rectUnit p.sampling
      some ((cs.drop (r.x / u.1 * u.2)).take (r.w / u.1 * u.2) ++ rest)
    | _, _ => none

/-- The value of a rectangle (R344). -/
def rectCrc (p : Pic) (picture : FMap (List Nat)) (r : Rect) : Option Nat :=
  (rectSamples p picture r (rectLines p r)).map (fun cs => crc32 (cs.flatMap (leBytes 2)))

/-- Key of a rectangle of an output. -/
def rectKey (o r : Nat) : Nat := o * 8 + r

/-- Whether the value of a driver's rectangle mismatches, and what is kept of it: FIXED, HOLD, CHANGE (R345). -/
def rectMismatch (v : View) (o r value : Nat) (lp : LoupeRt) : Bool × LoupeRt :=
  let ctl := v.outc o (Reg.OUTC_LPE_CTL + 16 * r)
  let key := rectKey o r
  let same := match FMap.find lp.last key with
    | some (x, n) => if x = value then n + 1 else 0
    | none => 0
  let lp' := { lp with last := FMap.insert lp.last key (value, same) }
  if bits ctl 1 2 = 0 then (decide (value ≠ (v.outc o (Reg.OUTC_LPE_EXP + 16 * r)).toNat), lp')
  else if bits ctl 1 2 = 1 then
    match FMap.find lp.expect key with
    | some x => (decide (x ≠ value), lp')
    | none => (false, { lp' with expect := FMap.insert lp'.expect key value })
  else (decide (bits ctl 8 8 ≤ same), lp')

/-- Write a Loupe log entry (R350). -/
def Io.loupLog (io : Io) (o r method frame : Nat) : Io :=
  io.logTo .loup Reg.LOUP_LOG_HEAD 0x200 64 2 [Word.of (o + r * 2 ^ 9 + method * 2 ^ 12), Word.of frame]

/-- A check has been made: value, counts, and what a mismatch raises (R311, R345 to R347). -/
def loupeCount (o r method frame value : Nat) (bad : Bool) (io : Io) : Io :=
  let pg := outPage o
  let io := (io.put pg (0x280 + 8 * r) (Word.of value)).addSat pg (0x284 + 8 * r) 16 16 1
  let io := io.count48 .loup Reg.LOUP_CHECKS_LO 1
  if !bad then io
  else
    let io := ((io.addSat pg (0x284 + 8 * r) 0 16 1).count48 .loup Reg.LOUP_MISMATCHES_LO 1).loupLog o r method frame
    if r < 7 then io.raise pg 26
    else ((io.addSat pg Reg.OUTC_LID_STAT 16 16 1).setFlag pg Reg.OUTC_LID_STAT 0 true).raise pg 21

/-- ACTED of an output: 1 slated, 2 stopped (R311). -/
def Io.acted (io : Io) (o : Nat) : Nat := io.fld (outPage o) Reg.OUTC_LID_STAT 1 2

/-- The Loupe's result for a rectangle of the frame in progress, when it is due at or before `t` (R346, R347). -/
def loupeResult (o r t : Nat) (io : Io) (sc : Scanout) : Io × Scanout :=
  let v := io.live
  let m := (v.loupeMethod o).1
  match FMap.find sc.outs o, v.loupeRect o r with
  | some rt, some rect =>
    if m = 0 ∨ !rt.inFrame ∨ rt.held ∨ io.acted o ≠ 0 ∨ sc.loupe.done.contains (rectKey o r) ∨ t < loupeDue rt.tm rt.frame m rect then (io, sc)
    else
      match rectCrc rt.pic rt.picture rect with
      | none => (io, sc)
      | some value =>
        let done := rectKey o r :: sc.loupe.done
        if r < 7 then
          let (bad, lp) := rectMismatch v o r value sc.loupe
          (loupeCount o r m rt.frame value bad io, { sc with loupe := { lp with done := done } })
        else
          let bad := rt.lidMissing || decide (rectCrc rt.pic rt.lidPicture rect ≠ some value)
          let rt' := if bad then { rt with tripAt := some t } else rt
          (loupeCount o r m rt.frame value bad io,
            { sc with outs := FMap.insert sc.outs o rt', loupe := { sc.loupe with done := done } })
  | _, _ => (io, sc)

/-- Every result of an output that is due by `t`. -/
def loupeAll (o t : Nat) (io : Io) (sc : Scanout) : Io × Scanout :=
  (List.range 8).foldl (fun (x : Io × Scanout) r => loupeResult o r t x.1 x.2) (io, sc)

/-- Expected values of HOLD rectangles are learnt afresh: `which` selects rectangles (R345). -/
def Scanout.relearn (sc : Scanout) (o : Nat) (which : Nat → Bool) : Scanout :=
  { sc with loupe := { sc.loupe with expect := FMap.keep (fun k => !(decide (k / 8 = o) && which (k % 8))) sc.loupe.expect } }

/-- OUTC_LPE_RELEARN (R345). -/
def loupeRelearn (o : Nat) (w : Word) (io : Io) (sc : Scanout) : Io × Scanout :=
  (io.regWrite 0 (outPage o) Reg.OUTC_LPE_RELEARN w,
    if io.accepts (outPage o) Reg.OUTC_LPE_RELEARN w then sc.relearn o (fun r => decide (r < 7) && bit w r) else sc)

/-! The host transmit ring (R342). -/

/-- The slot of a tile's ring that is sent next goes, or is skipped. -/
def htxSend (key : Nat → Option (List Byte)) (t : Fin 16) (slot : List Byte) (io : Io) (sc : Scanout) : Io × Scanout :=
  let pg : PageRef := .scan t
  let head := (io.reg pg Reg.SCAN_HTX_HEAD).toNat
  let size := 2 ^ io.fld pg Reg.SCAN_HTX_CFG 1 4
  let quiet := match FMap.find sc.htxAt t with
    | some at_ => decide (at_ + 10000 ≤ io.up)
    | none => true
  if !io.running pg ∨ !io.flag pg Reg.SCAN_HTX_CFG 0 ∨ head = (io.reg pg Reg.SCAN_HTX_TAIL).toNat % size ∨ !quiet then (io, sc)
  else
    let w0 := leAt slot 0 4
    let len := leAt slot 4 4 % 2 ^ 14
    let port := w0 % 128
    let addr := io.wide pg Reg.SCAN_HTX_BASE_LO + 2048 * head
    let io := io.put pg Reg.SCAN_HTX_HEAD (Word.of ((head + 1) % size))
    let ok := decide (port / 8 = t.val) && io.portConfigured port && decide (60 ≤ len ∧ len ≤ 2032)
    let io := if ok then
        let io := macSend key (portIx port) ((slot.drop 16).take len) io
        let io := if w0.testBit 8 then io.emit (.hostWrite (addr + 8) (leBytes 8 (io.stamp (portIx port) Reg.MAC_TS_TX_ADJ % 2 ^ 64))) else io
        io.count48 pg Reg.SCAN_HTX_SENT_LO 1
      else ((io.count48 pg Reg.SCAN_HTX_BAD_LO 1).recordOpen pg 0x0C18).raise pg 2
    (io.emit (.hostWrite addr (leBytes 4 (w0 % 2 ^ 31 + 2 ^ 31))), { sc with htxAt := FMap.insert sc.htxAt t io.up })

end Sys2Proof.Machine
end

