-- ==== Sys2Proof/Machine/Raster.lean ====
section
/-! DEFINITION. The raster of an output (R326 to R333): frames, what their layers show, composition line by line, underrun and write-back. -/
namespace Sys2Proof.Machine

/-- What an output keeps when its timing generator starts: no frame starts before `from_` (R331). -/
def OutRt.fresh (v : View) (o from_ : Nat) : OutRt :=
  { tm := v.timing o, fmt := v.outc o Reg.OUTC_OUT_FMT, frame := 0, inFrame := false, notBefore := from_, resync := false, shift := 0
    latched := false, line := 0, shown := [], under := [], withheld := [], picture := [], half := [], lidPicture := [], lidHalf := []
    lidMissing := false, lin := [], slate := none, anc := [], wb := none, tripAt := none, lidAt := none, held := false, persisted := [] }

/-- The output's timing generator. -/
def Dev.outRt (d : Dev) (o : Nat) : Option OutRt := FMap.find d.sc.outs o

/-- Change the timing generator of an output. -/
def Dev.setOut (d : Dev) (o : Nat) (r : OutRt) : Dev := { d with sc := { d.sc with outs := FMap.insert d.sc.outs o r } }

/-- Act on composition and scan-out. -/
def Dev.onSc (d : Dev) (f : Io → Scanout → Io × Scanout) : Dev := let r := f d.io d.sc; { d with io := r.1, sc := r.2 }

/-- The output shows frames: its page is RUNNING, or DRAINING to the end of its frame (R331). -/
def Io.outAlive (io : Io) (o : Nat) : Bool := decide (io.stateOf (outPage o) = 2 ∨ io.stateOf (outPage o) = 3)

/-! Linear light of the background and of COLOUR values (R302). -/

/-- The background and the COLOUR values of an output, converted from their live values. -/
def linearOf (v : View) (o : Nat) : FMap Nat :=
  let bg := v.outc o (if v.legacy o then Reg.LEG_BG else Reg.OUTC_BG)
  (v.enabledSlots o).foldl (fun m k =>
    [false, true].foldl (fun m b =>
      if v.slotKind o k b = 3 then FMap.insert m (1 + 2 * k + b2n b) (v.codesToLight o (v.slotSrc o k b)) else m) m)
    [(0, v.codesToLight o (bits bg 0 30))]

/-! What layers show (R201, R223, R226, R303). -/

/-- The references of a shown layer (R201). -/
def Shown.refs (o : Nat) (s : Shown) : List JobRef :=
  let ref := fun (x : Nat × Nat) => ({ out := o, layer := s.layer, index := x.1, slot := x.2 } : JobRef)
  let even := fun (x : Option (Nat × Nat)) (k : Option Nat) =>
    match x, k with
    | some (i, _), some n => [ref (i, n)]
    | _, _ => []
  (s.a.toList ++ s.b.toList).map ref ++ even s.a s.evenA ++ even s.b s.evenB

/-- The layer belongs to a run whose plane is live (R303, R313). -/
def Scanout.flattened (sc : Scanout) (o l : Nat) : Bool := (sc.runsOf o).any (fun r => decide (3 ≤ r.plane) && r.members.contains l)

/-- What the layers of the given slots show in the picture at boundary `b`: a flattened layer runs no job. -/
def slotsShown (v : View) (o : Nat) (b : Instant) (st : Stores) (rt : Routing) :
    List Nat → Io → Scanout → List Shown × Io × Scanout
  | [], io, sc => ([], io, sc)
  | k :: ks, io, sc =>
    let l := v.slotLayer o k
    let (x, io, sc) := if sc.flattened o l then (some (Shown.none_ l k), io, sc) else showSlot v o k b io st sc rt
    let (xs, io, sc) := slotsShown v o b st rt ks io sc
    (x.toList ++ xs, io, sc)

/-- The enabled slots whose layers are not hidden. -/
def View.visibleSlots (v : View) (o : Nat) : List Nat := (v.enabledSlots o).filter (fun k => !v.layerHidden (v.slotLayer o k))

/-- The references of an output's frame are taken. -/
def Stores.take (st : Stores) (o : Nat) (xs : List Shown) : Stores := { st with jobs := (xs.flatMap (Shown.refs o)) ++ st.jobs }

/-- The references of an output's frame retire (R201). -/
def Stores.retireOut (st : Stores) (o : Nat) : Stores := { st with jobs := st.jobs.filter (fun j => j.out ≠ o) }

/-- Layer number under which the slate's reference stands. -/
def slateRef : Nat := 4096

/-! Frames (R327, R332, R333). -/

/-- The slate of an output: the NEWEST slot of its handle (R311). -/
def Stores.slateOf (st : Stores) (v : View) (o : Nat) : Option (Nat × Nat) :=
  let h := (v.outc o Reg.OUTC_SLATE).toNat
  (st.known h).bind fun s => s.newest.map (fun k => (h % 65536, k))

/-- The end of the frame in progress, on the scale that it began with. -/
def OutRt.endsAt (r : OutRt) : Nat := r.tm.lineStart (r.frame + 1) 0

/-- All active lines have been composed, the latch line has passed, and the frame's time is over. -/
def OutRt.over (r : OutRt) (io : Io) : Bool :=
  r.inFrame && decide (r.line = r.tm.actH) && r.latched && decide (r.endsAt ≤ r.clock io)

/-- The frame that starts next: the next one of an unchanged timing, else the first on the live grid at or after the end of the frame or of the wait (R327, R331, R332). -/
def nextFrame (v : View) (o : Nat) (r : OutRt) : Nat :=
  let t := v.timing o
  if r.inFrame then (if t = r.tm then r.frame + 1 else t.rate.frameFrom t.phase r.endsAt)
  else t.rate.frameFrom t.phase r.notBefore

/-- Status registers of an output whose frame begins (R326). -/
def Io.showFrame (io : Io) (o : Nat) (t : Timing) (frame : Nat) : Io :=
  let pg := outPage o
  let io := (io.putWide pg Reg.OUTC_FRAME_CNT_LO frame).putWide pg Reg.OUTC_BOUNDARY_LO (t.lineStart frame 0)
  let io := io.put pg Reg.OUTC_SCAN_STAT 1
  io.setFlag (.scan (Fin.ofNat 16 (o / 32))) Reg.SCAN_STAT (o % 32) true

/-- The write-back writer opens a slot (R202, R333). -/
def openBack (v : View) (o : Nat) (io : Io) (st : Stores) : Option (Nat × Nat) × Io × Stores :=
  if !v.wbOn o then (none, io, st)
  else
    match st.known (v.wbHandle o) with
    | none => (none, io, st)
    | some _ =>
      let i := v.wbHandle o % 65536
      let (k, io, st) := openSlot i io st
      (k.map (fun k => (i, k)), io, st)

/-- A write-back slot in FILLING that will not be published returns to FREE. -/
def Stores.dropBack (st : Stores) (wb : Option (Nat × Nat)) : Stores :=
  match wb with
  | some (i, k) => if ((FMap.find st.table i).map (fun s => (s.inState 1).contains k)).getD false then st.toFree i k else st
  | none => st

/-- An egress flow that follows an output has nothing to send in this frame (R334). -/
def silent (e : Nat) (io : Io) (sc : Scanout) : Io × Scanout := (io.setEgrState e 2, sc.setEgr e { sc.egrRt e with busy := false })

/-- Frame `n` of an output begins (R201, R202, R226, R311, R327, R335, R341, R370). -/
def Dev.startFrame (d : Dev) (o n : Nat) (r : OutRt) : Dev :=
  let d := d.onSc (loupeAll o d.io.now)
  let flows := d.io.live.framesOf o
  let d := flows.foldl (fun (d : Dev) e => d.onSc (fun io sc => frameBegins d.macKey e o n io d.aud sc)) d
  let v := d.io.live
  let t := v.timing o
  let stopped := decide (d.io.acted o = 2)
  let slated := decide (d.io.acted o = 1)
  let st := (d.st.retireOut o).dropBack r.wb
  let io := d.io.showFrame o t n
  let ks := if r.held || slated then [] else v.visibleSlots o
  let (shown, io, sc) := slotsShown v o (t.instantOf n 0) st d.rt ks io d.sc
  let st := st.take o shown
  let slate := if slated && !r.held then st.slateOf v o else none
  let st := match slate with
    | some x => { st with jobs := { out := o, layer := slateRef, index := x.1, slot := x.2 } :: st.jobs }
    | none => st
  let quiet := r.held || stopped
  let (wb, io, st) := if quiet then (none, io, st) else openBack v o io st
  let (anc, drops) := if quiet then ([], 0) else ancOfFrame o t n shown io st
  let io := if drops = 0 then io else io.count48 (.scan (Fin.ofNat 16 (o / 32))) Reg.SCAN_ANC_DROP_LO drops
  let r := { r with
    tm := t, fmt := v.outc o Reg.OUTC_OUT_FMT, frame := n, inFrame := true, resync := false, shift := 0, latched := false, line := 0
    shown := shown, under := [], withheld := [], picture := [], half := [], lidPicture := [], lidHalf := [], lidMissing := false
    slate := slate, anc := anc, wb := wb, lin := if r.lin.isEmpty then linearOf v o else r.lin }
  let loupe := { sc.loupe with done := sc.loupe.done.filter (fun k => k / 8 ≠ o) }
  let d : Dev := ({ d with io := io, st := st, sc := { sc with loupe := loupe } } : Dev).setOut o r
  let empty := fun (e : Nat) => quiet || (decide (v.egrFeed e = 2) && (ancSlotRead anc).isEmpty)
  let d := flows.foldl (fun (d : Dev) e => if empty e then d.onSc (silent e) else d) d
  d.onAud (followUpdate o)

/-! Underrun (R266, R317). -/

/-- A layer underruns in the frame: its status words, the output's and the tile's counters (R317). -/
def underrun (o l : Nat) (first : Bool) (io : Io) (sc : Scanout) : Io × Scanout :=
  let v := io.live
  let w := fun (n : Nat) => io.rd (laycAddr l n)
  let run := sat 16 (bits (w 33) 0 16 + 1)
  let io := io.wr (laycAddr l 32) (setBit (w 32) 28 true)
  let io := (io.wr (laycAddr l 33) (setBits (w 33) 0 16 run)).wr (laycAddr l 34) (Word.of (sat 32 ((w 34).toNat + 1)))
  let pg := outPage o
  let t : Fin 16 := Fin.ofNat 16 (o / 32)
  let io := if first then io.put pg Reg.OUTC_UNDERRUN_FRAMES (Word.of (sat 32 ((io.reg pg Reg.OUTC_UNDERRUN_FRAMES).toNat + 1))) else io
  let io := io.count48 (.comp t) Reg.COMP_UNDERRUN_LO 1
  let quiet := match FMap.find sc.underAt t with
    | some at_ => decide (at_ + 1000000000 ≤ io.up)
    | none => true
  let io := if quiet then io.raise (.comp t) 5 else io
  let sc := { sc with underAt := FMap.insert sc.underAt t io.up }
  match FMap.find sc.outs o with
  | some r =>
    let due := decide (bits (v.outc o Reg.OUTC_COMP_CFG) 8 8 ≤ run) && !r.persisted.contains l
    (if due then io.raise pg 20 else io,
      { sc with outs := FMap.insert sc.outs o { r with under := l :: r.under, persisted := if due then l :: r.persisted else r.persisted } })
  | none => (io, sc)

/-- The jobs of a layer are late: counted on their engines (R266). -/
def jobsLate (o l : Nat) (io : Io) (sc : Scanout) : Io × Scanout :=
  (enginesOf io sc o l).foldl (fun (x : Io × Scanout) e =>
    engineRaise (.prsm e) 2 (e.val * 4) (x.1.count48 (.prsm e) Reg.PRSM_LATE_LO 1) x.2) (io, sc)

/-- A layer's lines are withheld from the line that is composed next (R428). -/
def OutRt.withholds (r : OutRt) (l : Nat) : Bool := r.withheld.any (fun w => decide (w.1 = l ∧ w.2 ≤ r.line))

/-- Layers that miss their blend instant at picture line `y`: late lines, withheld lines, and layers with a job that has no engine, but for the lines that a failing engine had delivered (R265, R317, R428). -/
def lateLayers (v : View) (sc : Scanout) (o y : Nat) (late : List Nat) (r : OutRt) : List Nat :=
  (r.shown.map (·.layer)).filter fun l =>
    let d := v.layerDst l
    let homeless := sc.jobs.any (fun j => decide (j.out = o ∧ j.layer = l) && j.engine.isNone)
    !r.under.contains l && decide (d.y ≤ y) && decide (y < d.y + d.h) && (late.contains l || r.withholds l || (homeless && !r.withheld.any (fun w => w.1 = l)))

/-- Every late layer underruns. -/
def Dev.underruns (d : Dev) (o y : Nat) (late : List Nat) : Dev :=
  match d.outRt o with
  | none => d
  | some r =>
    (lateLayers d.io.live d.sc o y late r).foldl (fun (d : Dev) l =>
      let first := match d.outRt o with
        | some r => r.under.isEmpty
        | none => false
      (d.onSc (jobsLate o l)).onSc (underrun o l first)) d

/-! Composing a line (R301, R303, R308, R330, R346). -/

/-- The lines of the shown layers, in ascending Z, the Lid excepted; a layer that has underrun shows nothing. -/
def drawnLayers (v : View) (st : Stores) (o y : Nat) (r : OutRt) : List Drawn :=
  let xs := r.shown.filter (fun s => v.lid o ≠ some s.layer)
  (sortBy (fun (a b : Shown) => decide (v.layerZ a.layer ≤ v.layerZ b.layer)) xs).map fun s =>
    { sh := s, line := if r.under.contains s.layer then none else layerLine v st r.lin o s y }

/-- The Lid's line, whether or not it arrived in time. -/
def lidDrawn (v : View) (st : Stores) (o y : Nat) (r : OutRt) : Option Drawn :=
  (v.lid o).bind fun l => (r.shown.find? (fun s => s.layer = l)).map fun s => { sh := s, line := layerLine v st r.lin o s y }

/-- Clamped pixels of a layer's line count on the engine of each strip (R246, R269). -/
def clampCount (v : View) (o : Nat) (x : Drawn) (io : Io) (sc : Scanout) : Io × Scanout :=
  match x.line with
  | none => (io, sc)
  | some ps =>
    let w := (v.layerDst x.sh.layer).w
    (sc.jobs.filter (fun j => decide (j.out = o ∧ j.layer = x.sh.layer))).foldl (fun (a : Io × Scanout) j =>
      let cols := stripCols w j.strips
      let n := (((ps.drop (j.strip * cols)).take cols).filter Px.clip).length
      match j.engine.bind a.1.physical with
      | some e => if n = 0 then a else engineRaise (.prsm e) 3 (e.val * 4 + 1) (a.1.count48 (.prsm e) Reg.PRSM_CLAMP_LO n) a.2
      | none => a) (io, sc)

/-- The samples of a stored line of the slate, as it is sent (R311). -/
def slateLine (st : Stores) (p : Pic) (x : Nat × Nat) (y : Nat) : List Nat :=
  let s := p.stored y
  let n := ceilDiv (p.w * bpp2 p.sampling p.depth * (if p.sampling = 2 then 2 else 1)) 16
  let bs := st.bytes x.1 (st.slotBase x.1 x.2 + s.1 * p.unit) n
  (chunks (depthBits p.depth) (8 * n) (byteBits bs)).map ofBits

/-- The packed samples of a line go to the write-back slot (R198, R333). -/
def writeBack (p : Pic) (wb : Option (Nat × Nat)) (y : Nat) (picture : FMap (List Nat)) (st : Stores) : Stores :=
  match wb, FMap.find picture y with
  | some (i, k), some cs => st.write i (st.slotBase i k + (p.stored y).1 * p.unit) (codeBytes p.depth cs)
  | _, _ => st

/-- The packed lines that line `y` completes: itself, or the first of its pair. -/
def completed (old new_ : FMap (List Nat)) : List Nat :=
  (new_.filter (fun e => FMap.find old e.1 ≠ some e.2)).map (·.1)

/-- Active line `k` of the frame is composed and packed. -/
def Dev.composeAt (d : Dev) (o k : Nat) (r : OutRt) : Dev :=
  let v := d.io.live
  let y := r.tm.pictureLine k
  let p := r.pic
  match r.slate with
  | some x =>
    let first := decide ((p.stored y).2 = 0) || decide (p.sampling ≠ 2)
    let pic := if first then FMap.insert r.picture y (slateLine d.st p x y) else r.picture
    let st := if first then writeBack p r.wb y pic d.st else d.st
    ({ d with st := st } : Dev).setOut o { r with picture := pic, line := k + 1 }
  | none =>
    let e := v.encode o
    let xs := drawnLayers v d.st o y r
    let lid := lidDrawn v d.st o y r
    let below := composeLine v r.lin d.sc o p.w y r.under xs
    let lidOn := fun (late : Bool) =>
      match lid with
      | some x => if !late && r.under.contains x.sh.layer then below else drawOver v below x
      | none => below
    let (pic, half) := addLine v e k r.tm (lidOn false) r.picture r.half
    let (lpic, lhalf) := if lid.isSome then addLine v e k r.tm (lidOn true) r.lidPicture r.lidHalf else (r.lidPicture, r.lidHalf)
    let missing := match lid with
      | some x => x.line.isSome && r.withholds x.sh.layer
      | none => false
    let st := (completed r.picture pic).foldl (fun st n => writeBack p r.wb n pic st) d.st
    let d : Dev := ({ d with st := st } : Dev).setOut o
      { r with picture := pic, half := half, lidPicture := lpic, lidHalf := lhalf, lidMissing := r.lidMissing || missing, line := k + 1 }
    (xs ++ lid.toList).foldl (fun (d : Dev) x => d.onSc (clampCount v o x)) d

/-- At the first line of field 2 the frame-rate stages of an interlaced output select afresh (R271). -/
def Dev.secondField (d : Dev) (o : Nat) (r : OutRt) : Dev :=
  let v := d.io.live
  let again := (r.shown.filter (fun s => decide (s.kind = 1 ∧ v.layerMode s.layer ≠ 0))).map (·.slot)
  let (xs, io, sc) := slotsShown v o (r.tm.instantOf r.frame r.tm.field2) d.st d.rt again d.io d.sc
  let keep := r.shown.filter (fun s => !xs.any (fun x => x.slot = s.slot))
  ({ d with io := io, st := d.st.take o xs, sc := sc } : Dev).setOut o { r with shown := keep ++ xs }

/-- The write-back slot is published after the last active line (R333). -/
def Dev.publishBack (d : Dev) (o : Nat) (r : OutRt) : Dev :=
  match r.wb with
  | none => d
  | some (i, k) =>
    let pg := outPage o
    let n := sat 32 ((d.io.reg pg Reg.OUTC_WB_FRAMES).toNat + 1)
    ({ d with io := d.io.put pg Reg.OUTC_WB_FRAMES (Word.of n)
              st := d.st.publish i k 0 (r.tm.lineStart r.frame 0) d.io.now } : Dev).setOut o { r with wb := none }

/-- The last active line has been scanned out: references retire, jobs are done, and streaks of underrun end (R201, R267, R317). -/
def Dev.endActive (d : Dev) (o : Nat) : Dev :=
  match d.outRt o with
  | none => d
  | some r =>
    let d := d.publishBack o r
    let io := (d.sc.jobs.filter (fun j => j.out = o)).foldl (fun (io : Io) j =>
      match j.engine.bind io.physical with
      | some e => if r.shown.any (fun s => s.layer = j.layer) then io.count48 (.prsm e) Reg.PRSM_JOBS_DONE_LO 1 else io
      | none => io) d.io
    let io := ((r.shown.map (·.layer)).filter (fun l => !r.under.contains l)).foldl (fun (io : Io) l =>
      (io.wr (laycAddr l 32) (setBit (io.rd (laycAddr l 32)) 28 false)).wr (laycAddr l 33) (setBits (io.rd (laycAddr l 33)) 0 16 0)) io
    let d : Dev := { d with io := io, st := d.st.retireOut o }
    match d.outRt o with
    | some r => d.setOut o { r with persisted := r.persisted.filter r.under.contains }
    | none => d

/-- Reads of the line met HBM errors: counted and repaired by the controller, and poisoned blocks logged for the source (R213). -/
def Dev.poisonRead (d : Dev) (o l : Nat) (e : HbmError) : Dev :=
  let d := d.hbmError e
  if !e.uncorrectable then d
  else
    let at_ := ((d.outRt o).bind (fun r => r.shown.find? (fun s => s.layer = l))).bind (·.a)
    match at_ with
    | some (i, k) =>
      let fn := ((FMap.find d.st.table i).map (·.owner)).getD 0
      d.onIo (fun io => ((io.count48 .fstr Reg.FSTR_POISON_READS_LO 1).fstrLog i k 5 fn).raise .fstr 5)
    | none => d

/-- RASTER_LINE: the next active line of an output is composed in its line period (R330). -/
def Dev.rasterLine (d : Dev) (o : Nat) (late : List Nat) (bad : List (Nat × HbmError)) : Dev :=
  match d.outRt o with
  | none => d
  | some r =>
    let k := r.line
    if !r.inFrame ∨ r.tm.actH ≤ k ∨ !d.io.outAlive o ∨ r.clock d.io < r.tm.lineStart r.frame (r.tm.rasterLine k) then d
    else
      let again := decide (r.tm.scan = 1 ∧ k = r.tm.actH / 2)
      let d := if again then d.secondField o r else d
      let d := bad.foldl (fun (d : Dev) x => d.poisonRead o x.1 x.2) d
      let d := if r.held then d else d.underruns o (r.tm.pictureLine k) late
      match d.outRt o with
      | none => d
      | some r =>
        let d := if r.held then d.setOut o { r with line := k + 1 } else d.composeAt o k r
        if k + 1 = r.tm.actH then d.endActive o else d

/-- RASTER_LINE (R330). -/
def execRasterLine (o : Fin 512) (late : List (Fin 4096)) (bad : List (Fin 4096 × HbmError)) (dt : Nat) (s : State) :
    Host.Outcome State Fault Refusal :=
  s.settled fun d => (d.tick dt).rasterLine o (late.map (·.val)) (bad.map (fun x => (x.1.val, x.2)))

/-- PACKET_TX (R338 to R341, R359). -/
def execPacketTx (e : Fin 4096) (dt : Nat) (s : State) : Host.Outcome State Fault Refusal :=
  s.run fun d =>
    let d := d.tick dt
    d.onSc (fun io sc => packetTx d.macKey e io d.aud sc)

/-- LOUPE_RESULT (R346, R347). -/
def execLoupeResult (o : Fin 512) (r : Fin 8) (dt : Nat) (s : State) : Host.Outcome State Fault Refusal :=
  s.run fun d =>
    let d := d.tick dt
    match d.outRt o with
    | some rt => d.onSc (fun io sc => loupeResult o r (rt.clock io) io sc)
    | none => d

/-- OUTC_LPE_RELEARN (R345). -/
def execOutcLpeRelearn (o : Fin 512) (v : Word) (s : State) : Host.Outcome State Fault Refusal :=
  s.run fun d => d.onSc (loupeRelearn o v)

/-- LOUP_CNT_CLR (R350). -/
def execLoupCntClr (s : State) : Host.Outcome State Fault Refusal :=
  s.run fun d => d.onIo (fun io => io.clearWrite .loup Reg.LOUP_CNT_CLR 1 (fun io => io.clearFrom .loup Reg.LOUP_CHECKS_LO 4))

/-- HTX_SEND (R342). -/
def execHtxSend (t : Fin 16) (slot : List Byte) (dt : Nat) (s : State) : Host.Outcome State Fault Refusal :=
  s.runIf (Instr.wellFormed (.htxSend t slot dt)) fun d =>
    let d := d.tick dt
    d.onSc (fun io sc => htxSend d.macKey t slot io sc)

/-- SCAN_CNT_CLR (R349). -/
def execScanCntClr (t : Fin 16) (s : State) : Host.Outcome State Fault Refusal :=
  s.run fun d => d.onIo (fun io => io.clearWrite (.scan t) Reg.SCAN_CNT_CLR 1 (fun io => io.clearFrom (.scan t) Reg.SCAN_PKTS_TX_LO 8))

/-- COMP_CNT_CLR (R323). -/
def execCompCntClr (t : Fin 16) (s : State) : Host.Outcome State Fault Refusal :=
  s.run fun d => d.onIo (fun io => io.clearWrite (.comp t) Reg.COMP_CNT_CLR 1 (fun io => io.clearFrom (.comp t) Reg.COMP_UNDERRUN_LO 6))

/-- PRSM_CNT_CLR (R267). -/
def execPrsmCntClr (e : Fin 144) (s : State) : Host.Outcome State Fault Refusal :=
  s.run fun d => d.onIo (fun io => io.clearWrite (.prsm e) Reg.PRSM_CNT_CLR 1 (fun io => io.clearFrom (.prsm e) Reg.PRSM_JOBS_DONE_LO 6))

/-- FRC_CNT_CLR (R291). -/
def execFrcCntClr (e : Fin 144) (s : State) : Host.Outcome State Fault Refusal :=
  s.run fun d => d.onIo (fun io => io.clearWrite (.frc e) Reg.FRC_CNT_CLR 1 (fun io => io.clearFrom (.frc e) Reg.FRC_PICTURES_LO 16))

/-- FRC_JOB_SEL (R291, R292). -/
def execFrcJobSel (e : Fin 144) (v : Word) (s : State) : Host.Outcome State Fault Refusal :=
  s.run fun d => d.onIo (fun io => frcJobSel e v io d.sc)

/-- ESTIMATION_DONE (R278): at the end of a field's estimation, which at the earliest is the publication of its later frame. -/
def execEstimationDone (o : Fin 512) (l : Fin 4096) (dt : Nat) (s : State) : Host.Outcome State Fault Refusal :=
  s.settled fun d =>
    let d := d.tick dt
    match d.outRt o with
    | some r => { d with sc := estimated o l d.io d.st d.sc (r.tm.instantOf (r.frame + 1) 0) }
    | none => d

end Sys2Proof.Machine
end

