-- ==== Sys2Proof/Machine/Routes.lean ====
section
/-! DEFINITION. Route slots (R222 to R228, R240, R241): loss of sources, the state of each slot at a latch line, and its log. -/
namespace Sys2Proof.Machine

/-- Address of a slot status word, which reads the same in both views (R240). -/
def slotStat (o k : Nat) : Nat := routeAddr o (192 + k)

/-- The flow that a route slot names as its source or backup. -/
def View.slotFlow (v : View) (o k : Nat) (backup : Bool) : Nat := v.slotSrc o k backup % 4096

/-- The primary of a slot is lost (R225). -/
def Io.primaryLost (io : Io) (o k : Nat) : Bool :=
  let v := io.live
  decide (v.slotKind o k false = 1) && io.flowLost (v.slotFlow o k false)

/-- The primary of a slot is present: a flow that is PRESENT, or any source that is never lost (R227). -/
def Io.primaryBack (io : Io) (o k : Nat) : Bool :=
  let v := io.live
  decide (v.slotKind o k false ≠ 1) || io.flowPresent (v.slotFlow o k false)

/-- The backup of a slot is usable (R225). -/
def Io.backupUsable (io : Io) (st : Stores) (o k : Nat) : Bool :=
  let v := io.live
  let kind := v.slotKind o k true
  if kind = 3 then true
  else if kind = 2 then ((st.known (v.slotSrc o k true)).map (·.fence)).getD false
  else if kind = 1 then io.flowPresent (v.slotFlow o k true)
  else false

/-- The NEWEST slot of the store behind a slot's source or backup, whether or not the flow is still valid (R226). -/
def View.newestBehind (v : View) (st : Stores) (o k : Nat) (backup : Bool) : Option (Nat × Nat) :=
  let src := v.slotSrc o k backup
  let h := if v.slotKind o k backup = 1 then (v.flow (src % 4096) 28).toNat else if v.slotKind o k backup = 2 then src else 0
  (st.known h).bind fun s => s.newest.map (fun n => (h % 65536, n))

/-- What is kept of a slot. -/
def Routing.slot (rt : Routing) (o k : Nat) : SlotRt := (FMap.find rt.slots (o * 16 + k)).getD { onBackupFrozen := false, hold := none }

/-- Keep `x` of a slot; nothing is kept of a slot that is not frozen. -/
def Routing.setSlot (rt : Routing) (o k : Nat) (x : SlotRt) : Routing :=
  { rt with slots := if x = { onBackupFrozen := false, hold := none } then FMap.erase rt.slots (o * 16 + k) else FMap.insert rt.slots (o * 16 + k) x }

/-- What a slot becomes: state, whether it is frozen on the backup, frames counted towards REVERT_FRAMES. -/
structure SlotNext where
  state : Nat
  onBackup : Bool
  held : Nat
  deriving DecidableEq, Repr

/-- The state of a slot at a latch line (R226, R227). -/
def slotNext_ (io : Io) (st : Stores) (o k : Nat) (x : SlotRt) : SlotNext :=
  let v := io.live
  let w := io.rd (slotStat o k)
  let now := bits w 0 3
  let stay : SlotNext := { state := 2, onBackup := false, held := 0 }
  if !io.primaryLost o k then
    if now ≠ 2 then { state := 1, onBackup := false, held := 0 }
    else if v.slotRevert o k ∧ io.primaryBack o k then
      let n := bits w 8 8 + 1
      if io.fld .rout Reg.ROUT_CFG 0 8 ≤ n then { state := 1, onBackup := false, held := 0 } else { stay with held := n }
    else stay
  else if v.slotLoss o k = 0 then { state := 3, onBackup := false, held := 0 }
  else if v.slotLoss o k = 1 then { state := 4, onBackup := false, held := 0 }
  else if io.backupUsable st o k then stay
  else { state := 3, onBackup := decide (now = 2) || (decide (now = 3) && x.onBackupFrozen), held := 0 }

/-- The event of a change to a state (R241). -/
def slotEvent (state : Nat) : Nat := if state = 2 then 1 else if state = 3 then 2 else if state = 4 then 3 else 4

/-- One enabled slot is evaluated; a slot that a commit captured is put on its primary first (R226 to R228). -/
def evalSlot (o k : Nat) (captured : Bool) (io : Io) (st : Stores) (rt : Routing) : Io × Routing :=
  let w := io.rd (slotStat o k)
  let fresh := captured || decide (bits w 0 3 = 0)
  let io := if fresh then io.wr (slotStat o k) (setBits (setBits w 0 3 1) 8 8 0) else io
  let rt := if fresh then rt.setSlot o k { onBackupFrozen := false, hold := none } else rt
  let x := rt.slot o k
  let n := slotNext_ io st o k x
  let w := io.rd (slotStat o k)
  let was := bits w 0 3
  let moved := decide (n.state ≠ was)
  let hold := if n.state = 3 then
      (if was = 3 ∧ n.onBackup = x.onBackupFrozen then x.hold else io.live.newestBehind st o k n.onBackup)
    else none
  let w := setBits (setBits w 0 3 n.state) 8 8 n.held
  let w := setBit (setBit w 3 (!io.primaryLost o k)) 4 (io.backupUsable st o k)
  let w := if moved then setBits w 16 16 (sat 16 (bits w 16 16 + 1)) else w
  let io := io.wr (slotStat o k) w
  let io := if moved then
      ((io.count48 .rout Reg.ROUT_LOSS_SW_LO 1).routLog o false k (slotEvent n.state)).raise (outPage o) (if n.state = 1 then 17 else 16)
    else io
  (io, rt.setSlot o k { onBackupFrozen := decide (n.state = 3) && n.onBackup, hold := hold })

/-- A slot that is not enabled is IDLE (R241). -/
def idleSlot (o k : Nat) (io : Io) (rt : Routing) : Io × Routing :=
  let w := io.rd (slotStat o k)
  (if bits w 0 5 = 0 ∧ bits w 8 8 = 0 then io else io.wr (slotStat o k) (setBits (setBits w 0 5 0) 8 8 0),
    rt.setSlot o k { onBackupFrozen := false, hold := none })

/-- Every slot of an output is evaluated (R226); `captured` names slots that a commit put on their primary. -/
def evalSlots (o : Nat) (captured : List Nat) (io : Io) (st : Stores) (rt : Routing) : Io × Routing :=
  (List.range 16).foldl (fun (x : Io × Routing) k =>
    if io.live.slotEn o k then evalSlot o k (captured.contains k) x.1 st x.2 else idleSlot o k x.1 x.2) (io, rt)

/-- Slots that captured values put on their primary: a field of the slot, or a change of its bit in word 0 (R228). -/
def slotsCaptured (v : View) (o : Nat) (vals : List (Nat × Word)) : List Nat :=
  (List.range 16).filter fun k =>
    vals.any fun x =>
      match placeOf x.1 with
      | .route q w =>
        decide (q = o) && ((decide (16 + 8 * k ≤ w) && decide (w < 24 + 8 * k)) || (decide (w = 0) && (bit x.2 k != v.slotEn o k)))
      | _ => false

/-- Enabled slots off their primary, over all outputs, as `ROUT_OFF_PRIMARY` shows them (R240). -/
def Io.offPrimary (io : Io) : Nat :=
  let v := io.live
  (v.routedOuts.map fun o => ((v.enabledSlots o).filter (fun k => decide (2 ≤ bits (io.rd (slotStat o k)) 0 3))).length).sum

end Sys2Proof.Machine
end

