-- ==== Sys2Proof/Machine/Stock.lean ====
section
/-! DEFINITION. The Stockpot (R312 to R316): runs of static layers, settle counts, planes and their builds. -/
namespace Sys2Proof.Machine

/-- KiB of one die's Stockpot half, and of the region of HBM that serves spilled planes (R314). -/
def stockHalf : Nat := 32768
/-- KiB of HBM for spilled tiles. -/
def stockSpill : Nat := 2097152

/-- The plane of a run, before it is built. -/
def Run.fresh (o : Nat) (members : List Nat) (shown : List (Nat × Nat × Nat)) : Run :=
  { out := o, members := members, settle := 0, shown := shown, plane := 0, full := false, kib := 0, spill := 0, newKib := 0, newSpill := 0
    image := [], newImage := [] }

/-- Slots that shown layers show, as a run records them. -/
def shownSlots (members : List Nat) (xs : List Shown) : List (Nat × Nat × Nat) :=
  members.filterMap fun l => (xs.find? (fun s => s.layer = l)).bind fun s => s.a.map fun a => (l, a.1, a.2)

/-- What a static layer's slot shows now, by its state: a colour, the NEWEST slot of a handle, or what it holds (R226). -/
def staticShown (v : View) (st : Stores) (rt : Routing) (o k : Nat) : Shown :=
  let l := v.slotLayer o k
  let state := bits (v.get (slotStat o k)) 0 3
  if state = 4 then { Shown.none_ l k with kind := 3 }
  else if state = 3 then
    match (rt.slot o k).hold with
    | some h => Shown.alone l k (rt.slot o k).onBackupFrozen h.1 h.2
    | none => Shown.none_ l k
  else
    let b := decide (state = 2)
    if v.slotKind o k b = 3 then { Shown.none_ l k with kind := 2, backup := b }
    else
      match v.newestBehind st o k b with
      | some h => Shown.alone l k b h.1 h.2
      | none => Shown.none_ l k

/-- What the members of a run would show from their NEWEST slots. -/
def staticMembers (v : View) (st : Stores) (rt : Routing) (o : Nat) (members : List Nat) : List Shown :=
  members.filterMap (fun l => (v.slotOf o l).map (staticShown v st rt o))

/-- The plane of a run line by line: its members blended in ascending Z from a transparent start (R303, R314). -/
def runImage (v : View) (st : Stores) (lin : FMap Nat) (o : Nat) (xs : List Shown) : List (List Nat) :=
  let t := v.timing o
  (List.range t.actH).map fun y =>
    (runLine v t.actW (xs.map (fun s => { sh := s, line := layerLine v st lin o s y }))).map Px.packed

/-- KiB in use in a die's half: planes held there, live and ready (R314). -/
def Scanout.stockUsed (sc : Scanout) (die : Nat) : Nat := ((sc.runs.filter (fun r => r.out / 256 = die)).map (fun r => r.kib + r.newKib)).sum

/-- KiB spilled by a die's planes. -/
def Scanout.stockSpilled (sc : Scanout) (die : Nat) : Nat := ((sc.runs.filter (fun r => r.out / 256 = die)).map (fun r => r.spill + r.newSpill)).sum

/-- Space has been freed: runs whose build found none may be tried again (R314). -/
def Scanout.spaceFreed (sc : Scanout) : Scanout := { sc with runs := sc.runs.map (fun r => { r with full := false }) }

/-- The tile that composes an output. -/
def compTile (o : Nat) : Fin 16 := Fin.ofNat 16 (o / 32)

/-- The Stockpot figures in the COMP pages of an output's die (R323). -/
def showStock (o : Nat) (io : Io) (sc : Scanout) : Io :=
  let die := o / 256
  let held := (sc.runs.filter (fun r => r.out / 256 = die)).map (fun r =>
    if r.plane = 5 then 2 else if r.plane = 2 ∨ r.plane = 3 ∨ r.plane = 4 then 1 else 0)
  (List.range 8).foldl (fun (io : Io) i =>
    let t : Fin 16 := Fin.ofNat 16 (8 * die + i)
    let wait := (sc.runs.filter (fun r => decide (r.out / 32 = t.val ∧ r.plane < 2))).length
    let io := io.put (.comp t) Reg.COMP_STOCK_USED (Word.of (sc.stockUsed die))
    let io := io.put (.comp t) Reg.COMP_STOCK_SPILL (Word.of (sc.stockSpilled die))
    io.put (.comp t) Reg.COMP_STOCK_PLANES (Word.of (held.sum + wait * 2 ^ 16))) io

/-- A run at a latch line, when no commit has changed it: a ready plane becomes live, the settle count advances or returns to 0, and a build starts (R313, R315, R316). -/
def runStep (o : Nat) (r : OutRt) (x : Run) (io : Io) (st : Stores) (rt : Routing) : Run × Io :=
  let v := io.live
  let cfg := v.outc o Reg.OUTC_COMP_CFG
  let hot := decide (2 ≤ io.level)
  let x := if x.plane = 2 then { x with plane := 3, image := x.newImage, newImage := [], kib := x.newKib, spill := x.newSpill, newKib := 0, newSpill := 0 }
    else if x.plane = 5 then
      { x with plane := 3, image := x.newImage, newImage := [], kib := x.newKib, spill := x.newSpill, newKib := 0, newSpill := 0 }
    else x
  let paused := hot && decide (x.plane = 1 ∨ x.plane = 4)
  let x := if paused then { x with plane := x.plane - 1, newImage := [], shown := if x.plane = 4 then [] else x.shown } else x
  let io := if paused then io.raise (.comp (compTile o)) 4 else io
  if x.plane = 0 ∨ x.plane = 1 then
    let shown := shownSlots x.members r.shown
    if shown ≠ x.shown then ({ x with settle := 0, shown := shown, plane := 0, newImage := [] }, io)
    else
      let n := sat 16 (x.settle + 1)
      let due := decide (x.plane = 0) && decide (bits cfg 4 4 ≤ n) && bit cfg 1 && !x.full
      if due && hot then ({ x with settle := n }, if n = bits cfg 4 4 then io.raise (.comp (compTile o)) 4 else io)
      else if due then
        ({ x with settle := n, plane := 1, newImage := runImage v st r.lin o (r.shown.filter (fun s => x.members.contains s.layer)) }, io)
      else ({ x with settle := n }, io)
  else
    let now := staticMembers v st rt o x.members
    let slots := shownSlots x.members now
    let x := { x with settle := sat 16 (x.settle + 1) }
    if slots = x.shown ∨ hot ∨ x.full then (x, io)
    else ({ x with plane := 4, shown := slots, newImage := runImage v st r.lin o now, newKib := 0, newSpill := 0 }, io)

/-- The status words of an output's layers and the pages of its runs follow the runs (R299). -/
def showRuns (o : Nat) (io : Io) (sc : Scanout) : Io :=
  let v := io.live
  let runs := sc.runsOf o
  (v.layersOf o).foldl (fun (io : Io) l =>
    let i := runs.findIdx? (fun r => r.members.contains l)
    let r := i.bind (fun n => runs[n]?)
    let flat := (r.map (fun r => decide (3 ≤ r.plane))).getD false
    let io := io.wr (laycAddr l 32) (setBit (io.rd (laycAddr l 32)) 26 flat)
    let io := io.wr (laycAddr l 33) (setBits (io.rd (laycAddr l 33)) 16 4 (i.getD 15))
    io.wr (laycAddr l 35) (Word.of ((r.map Run.settle).getD 0))) io

/-- Step 5 of a latch line: the runs of an output are recomputed; `changed` holds the layers that commits applied there have touched, `hidden` those that step 3 hid (R312, R313, R315, R318). -/
def stockLatch (o : Nat) (r : OutRt) (changed : List Nat) (io : Io) (st : Stores) (sc : Scanout) (rt : Routing) : Io × Scanout :=
  let v := io.live
  let on := bit (v.outc o Reg.OUTC_COMP_CFG) 1
  let new_ := v.runsOf v.layerHidden o
  let kept := fun (x : Run) => new_.contains x.members && !x.members.any changed.contains && (on || decide (x.plane = 0))
  let old := sc.runsOf o
  let lost := (old.filter (fun x => !kept x && decide (2 ≤ x.plane))).map (fun x => if x.plane = 5 then 2 else 1)
  let io := if lost.sum = 0 then io else io.count48 (.comp (compTile o)) Reg.COMP_STOCK_DISCARDS_LO lost.sum
  let (runs, io) := new_.foldl (fun (a : List Run × Io) ms =>
    match old.find? (fun x => decide (x.members = ms) && kept x) with
    | some x =>
      let (y, io) := runStep o r x a.2 st rt
      (a.1 ++ [y], if x.plane = 2 then io.raise (outPage o) 24 else io)
    | none => (a.1 ++ [Run.fresh o ms (shownSlots ms r.shown)], a.2)) ([], io)
  let sc := { sc with runs := sc.runs.filter (fun x => x.out ≠ o) ++ runs }
  let sc := if lost.isEmpty then sc else sc.spaceFreed
  (showStock o (showRuns o io sc) sc, sc)

/-- STOCK_BUILD_DONE: the plane of the run that holds a layer is built, and takes its space (R313, R314). -/
def stockBuilt (o member kib : Nat) (io : Io) (sc : Scanout) : Io × Scanout :=
  match sc.runs.find? (fun x => decide (x.out = o) && x.members.contains member) with
  | none => (io, sc)
  | some x =>
    if !(decide (x.plane = 1) || decide (x.plane = 4)) || decide (2 ≤ io.level) then (io, sc)
    else
      let room := stockHalf - sc.stockUsed (o / 256)
      let here := min kib room
      let spill := kib - here
      let fits := decide (sc.stockSpilled 0 + sc.stockSpilled 1 + spill ≤ stockSpill)
      let pg : PageRef := .comp (compTile o)
      let y : Run := if fits then { x with plane := x.plane + 1, newKib := here, newSpill := spill }
        else { x with plane := x.plane - 1, full := true, newImage := [], shown := if x.plane = 4 then [] else x.shown }
      let sc := { sc with runs := sc.runs.map (fun r => if r.out = o ∧ r.members = x.members then y else r) }
      if !fits then (io.raise pg 3, sc)
      else
        let io := io.count48 pg Reg.COMP_STOCK_BUILDS_LO 1
        (showStock o (if spill = 0 then io else io.raise pg 2) sc, sc)

/-- STOCK_BUILD_DONE (R313, R314). -/
def execStockBuildDone (o : Fin 512) (member : Fin 4096) (kib dt : Nat) (s : State) : Host.Outcome State Fault Refusal :=
  s.run fun d => (d.tick dt).onSc (stockBuilt o member kib)

end Sys2Proof.Machine
end

