-- ==== Sys2Proof/Machine/Owners.lean ====
section
/-! DEFINITION. Ownership (R74, R81), what a commit touches (R42), the state after it (R39, R230, R320), and its permission and quotas (R44 steps 1 and 2, R84 to R86, R224, R309, R365, R391). -/
namespace Sys2Proof.Machine

/-! Owners (R74). -/

/-- Owner of an output: PF0 until it is passed on. -/
def Queues.outOwner (hq : Queues) (o : Nat) : Nat := FMap.get (fun _ => 0) hq.owner o

/-- Owner of an audio output channel. -/
def Queues.audOwner (hq : Queues) (c : Nat) : Nat := FMap.get (fun _ => 0) hq.owner (4 * 65536 + c)

/-- Owner of a flow: the function that claimed it, else PF0 (R185). -/
def Queues.flowOwner (hq : Queues) (egress : Bool) (f : Nat) : Nat := (FMap.find hq.claims (claimKey egress f)).getD 0

/-- The owner of the object that an address belongs to; none where PF0 alone writes it (R81, R309, R365, R391). -/
def Dev.addrOwner (d : Dev) (a : Nat) : Option Nat :=
  match placeOf a with
  | .page (.outc o) off => if off = Reg.OUTC_LID ∨ off = Reg.OUTC_SLATE then none else some (d.hq.outOwner o)
  | .layc l _ => some (d.io.live.layerOwner l)
  | .flow f _ => some (d.hq.flowOwner false f)
  | .audio off => if off < 0x80000 then some (d.hq.audOwner (off / 0x20)) else none
  | .route o _ => some (d.hq.outOwner o)
  | .fast e _ => some (d.hq.flowOwner true e)
  | .egr e _ => some (d.hq.flowOwner true e)
  | _ => none

/-! What a commit touches. -/

/-- The distinct objects of a kind that captured values touch, rising. -/
def touched (pick : Place → Option Nat) (xs : List (Nat × Word)) : List Nat :=
  sortBy (fun a b => decide (a ≤ b)) (xs.filterMap (fun x => pick (placeOf x.1))).eraseDups

/-- Ingress flows touched. -/
def flowsIn (xs : List (Nat × Word)) : List Nat := touched (fun p => match p with
  | .flow f _ => some f
  | _ => none) xs

/-- Layer contexts touched. -/
def layersIn (xs : List (Nat × Word)) : List Nat := touched (fun p => match p with
  | .layc l _ => some l
  | _ => none) xs

/-- Fast-path entries touched. -/
def fastsIn (xs : List (Nat × Word)) : List Nat := touched (fun p => match p with
  | .fast e _ => some e
  | _ => none) xs

/-- Egress entries touched. -/
def egrsIn (xs : List (Nat × Word)) : List Nat := touched (fun p => match p with
  | .egr e _ => some e
  | _ => none) xs

/-- Output channel entries touched. -/
def channelsIn (xs : List (Nat × Word)) : List Nat := touched (fun p => match p with
  | .audio off => if off < 0x80000 then some (off / 0x20) else none
  | _ => none) xs

/-- Alignment groups touched. -/
def groupsIn (xs : List (Nat × Word)) : List Nat := touched (fun p => match p with
  | .audio off => if 0xD4000 ≤ off ∧ off < 0xD8000 then some ((off - 0xD4000) / 0x40) else none
  | _ => none) xs

/-- TDM ports touched. -/
def portsIn (xs : List (Nat × Word)) : List Nat := touched (fun p => match p with
  | .page (.tdmp p) _ => some p.val
  | _ => none) xs

/-- The output to which an address belongs: an OUTC page, a route entry, or the context of a layer bound to it (R42). -/
def View.outputOf (v : View) (a : Nat) : Option Nat :=
  match placeOf a with
  | .page (.outc o) _ => some o.val
  | .route o _ => some o
  | .layc l _ => if v.layerUsed l then some (v.layerOut l) else none
  | _ => none

/-- Outputs that captured values touch, rising. -/
def View.outsIn (v : View) (xs : List (Nat × Word)) : List Nat :=
  sortBy (fun a b => decide (a ≤ b)) (xs.filterMap (fun x => v.outputOf x.1)).eraseDups

/-! The state after a commit (R230, R233, R234, R320). -/

/-- The fast-path status that a view implies: OFF without EN; REF and its TYPE from SOURCE where EN is new; FAST while SOURCE shares timing with REF, else PROMOTED. -/
def View.fastWords (base v : View) (e : Nat) : List (Nat × Word) :=
  if !v.fastEn e then [(fastAddr e 16, setBits (v.fast e 16) 0 2 0)]
  else
    let fresh := !base.fastEn e
    let f := v.fastSrc e
    let ref := if fresh then (List.range 4).map (fun w => (fastAddr e (17 + w), v.flow f (24 + w))) ++ [(fastAddr e 23, Word.of (v.flowType f))] else []
    let w := v.over ref
    let same := fresh || w.shares e f
    (fastAddr e 16, setBits (v.fast e 16) 0 2 (if same then 1 else 2)) :: ref

/-- The status words of the fast-path entries that captured values touch. -/
def View.fastStates (base v : View) (xs : List (Nat × Word)) : List (Nat × Word) := (fastsIn xs).flatMap (base.fastWords v)

/-- The address of a register of an output's page. -/
def outAddr (o off : Nat) : Nat := 0x2000000 + o * 0x1000 + off

/-- The non-Lid contexts of an output, rising (R320). -/
def View.legacyLayers (v : View) (o : Nat) : List Nat := (v.layersOf o).filter (fun l => decide (v.lid o ≠ some l))

/-- The address lies in the legacy block of an output, or is its LEGACY bit's register (R320, R322). -/
def inLegacy (o a : Nat) : Bool := decide (outAddr o 0x400 ≤ a ∧ a < outAddr o 0x480) || decide (a = outAddr o Reg.OUTC_COMP_CFG)

/-- Translation of the legacy block of an output: layer `i` of its four contexts, with slot `i` (R320, R322). -/
def View.legacyLayer (v : View) (st : Stores) (o i l : Nat) : List (Nat × Word) :=
  let r := fun off => v.outc o off
  let at_ := fun w x => (laycAddr l w, Word.of x)
  let g := i - 1
  let on := bit (r Reg.LEG_CTL) i
  let src := if i = 0 then r Reg.LEG_VID_SRC else r (Reg.LEG_GFX_SRC + 16 * g)
  let store := st.known src.toNat
  let a := if i = 0 then bits (r Reg.LEG_VID_ALPHA) 0 8 else bits (r (Reg.LEG_GFX_ALPHA + 16 * g)) 0 8
  let alpha := (a * 131072 + 255) / 510
  let pre := decide (i ≠ 0) && bit (r (Reg.LEG_GFX_ALPHA + 16 * g)) 8
  let hq := bit (r Reg.LEG_CTL) 4
  let set := if hq then 3 else 1
  let taps := if hq then 8 else 4
  let size := match store with
    | some s => s.width + s.height * 2 ^ 16
    | none => 0
  [ at_ 0 (i + b2n pre * 2 ^ 5 + (if i = 0 then 0 else 2) * 2 ^ 6 + bits (v.layer l 0) 8 8 * 2 ^ 8)
  , at_ 1 alpha
  , at_ 2 (if i = 0 then (r Reg.LEG_VID_DST_XY).toNat else (r (Reg.LEG_GFX_XY + 16 * g)).toNat)
  , at_ 3 (if i = 0 then (r Reg.LEG_VID_DST_WH).toNat else size)
  , at_ 4 (if i = 0 then (r Reg.LEG_VID_CROP_XY).toNat else 0)
  , at_ 5 (if i = 0 then (r Reg.LEG_VID_CROP_WH).toNat else 0)
  , at_ 16 ((setBits (v.layer l 16) 0 1 1).toNat)
  , at_ 18 ((setBits (v.layer l 18) 8 1 0).toNat)
  , at_ 19 (set + set * 2 ^ 8 + taps * 2 ^ 16 + taps * 2 ^ 24)
  , at_ 24 0
  , (routeAddr o (16 + 8 * i), Word.of (l + (if !on then 0 else if i = 0 ∧ bit src 31 then 1 else 2) * 2 ^ 16))
  , (routeAddr o (17 + 8 * i), if !on then 0 else if i = 0 ∧ bit src 31 then Word.of (src.toNat % 4096) else src)
  , (routeAddr o (18 + 8 * i), 0) ]

/-- The translation that a capture of an output's legacy block brings: four contexts, and slots 0 to 3 enabled with the others as they are. -/
def View.legacyOf (v : View) (st : Stores) (o : Nat) : List (Nat × Word) :=
  let ls := v.legacyLayers o
  if ls.length ≠ 4 then []
  else (ls.zipIdx.flatMap (fun x => v.legacyLayer st o x.2 x.1)) ++ [(routeAddr o 0, v.route o 0 ||| 15)]

/-- Outputs whose legacy block a commit captures while LEGACY is set in the state after it. -/
def View.legacyOuts (v : View) (xs : List (Nat × Word)) : List Nat :=
  (v.outsIn xs).filter (fun o => v.legacy o && xs.any (fun x => inLegacy o x.1))

/-- What promotion, demotion or a new SOURCE while PROMOTED writes into slot 0 of PROMOTE_OUTPUT (R233, R234). -/
def View.promoteWords (base v : View) (e : Nat) : List (Nat × Word) :=
  let was := base.fastState e
  let now := v.fastState e
  let kind := fun (o k : Nat) => (routeAddr o 16, setBits (v.route o 16) 16 2 k)
  if now = 2 ∧ bit (v.fast e 0) 1 then [kind (v.fastOut e) 1, (routeAddr (v.fastOut e) 17, Word.of (v.fastSrc e))]
  else if was = 2 then [kind (base.fastOut e) 0]
  else []

/-- TYPE, FEED and OUTPUT of an egress entry change only together with VALID 0 to 1: on an entry that stays valid they keep their values (R335). -/
def View.keepEgress (base v : View) (x : Nat × Word) : Nat × Word :=
  match placeOf x.1 with
  | .egr e w =>
    if !(base.egrValid e && v.egrValid e) then x
    else if w = 0 then (x.1, setBits x.2 1 5 (bits (base.egr e 0) 1 5))
    else if w = 24 then (x.1, setBits x.2 0 9 (base.egrOut e))
    else x
  | _ => x

/-- The captured values with what the part writes as part of the same capture: legacy translation, fast-path status, slot 0 of PROMOTE_OUTPUT. -/
def expand (base : View) (st : Stores) (xs : List (Nat × Word)) : List (Nat × Word) :=
  let xs := xs.map (base.keepEgress (base.over xs))
  let v := base.over xs
  let leg := (v.legacyOuts xs).flatMap (v.legacyOf st)
  let v := v.over leg
  let states := base.fastStates v xs
  let v := v.over states
  xs ++ leg ++ states ++ (fastsIn xs).flatMap (base.promoteWords v)

/-! What is judged. -/

/-- A commit in validation: who issued it, what it captured and what the part adds to the capture, and the states before and after it. -/
structure Proposal where
  fn : Nat
  own : List (Nat × Word)
  vals : List (Nat × Word)
  base : View
  v : View
  d : Dev

/-- Captured values that wait for a boundary of their flow: words 24 to 29 of ingress flows, and egress entries (R171, R335). -/
def Dev.flowVals (d : Dev) : List (Nat × Word) := d.sv.flows.flatMap (fun e => e.2.fmt) ++ d.sc.egr.flatMap (fun e => e.2.pending)

/-- The views of the states that are live or pending before a commit, the live one first (R238). -/
def Dev.views (d : Dev) : List View :=
  let one := fun (xs : List (Nat × Word)) (_ : View) => xs
  let steps := (if d.flowVals.isEmpty then [] else [one d.flowVals]) ++ d.com.held.map HeldLayer.over ++ d.com.pend.map (fun p => one p.vals)
  (steps.foldl (fun (a : List View × View) f => let w := a.2.over (f a.2); (a.1 ++ [w], w)) ([d.io.live], d.io.live)).1

/-- The state after every accepted commit. -/
def Dev.after (d : Dev) : View := (d.views.getLast?).getD d.io.live

/-- The proposal that a capture makes. -/
def Dev.proposal (d : Dev) (fn : Nat) (xs : List (Nat × Word)) : Proposal :=
  let base := d.after
  let vals := expand base d.st xs
  { fn := fn, own := xs, vals := vals, base := base, v := base.over vals, d := d }

/-! Step 1: permission (R44, R224, R309, R365). -/

/-- A handle that the function may name: unknown handles are left to step 3. -/
def Stores.mayName (st : Stores) (fn h : Nat) : Bool :=
  match st.known h with
  | some s => decide (s.owner = fn)
  | none => true

/-- A route slot of a view names only what a function owns, and no Lid. -/
def Proposal.slotAllowed (p : Proposal) (o k : Nat) : Option Nat :=
  let v := p.v
  let bad := [false, true].any fun b =>
    let kind := v.slotKind o k b
    (decide (kind = 1) && decide (p.d.hq.flowOwner false (v.slotSrc o k b % 4096) ≠ p.fn))
      || (decide (kind = 2) && !p.d.st.mayName p.fn (v.slotSrc o k b))
  if v.lid o = some (v.slotLayer o k) ∨ p.d.io.live.lid o = some (v.slotLayer o k) then some 0x0217 else if bad then some 0x0218 else none

/-- An output channel entry of a view names only what a function owns. -/
def Proposal.channelAllowed (p : Proposal) (c : Nat) : Option Nat :=
  let v := p.v
  let w5 := v.aud c 5
  let bad := ((tapsOf (v.audWords c) none).filterMap (·.input)).any fun i =>
    match v.binding i with
    | some b => decide (b.kind = 4) || decide (p.d.hq.flowOwner false b.source ≠ p.fn)
    | none => false
  if bad || (bit (v.aud c 0) 3 && decide (p.d.hq.outOwner (bits w5 0 9) ≠ p.fn)) then some 0x0218 else none

/-- Why a captured address is not permitted to a VF. -/
def Proposal.addrAllowed (p : Proposal) (a : Nat) : Option Nat :=
  match p.d.addrOwner a with
  | none => some 0x0217
  | some f =>
    if f ≠ p.fn then some 0x0218
    else
      match placeOf a with
      | .layc l _ =>
        let o := p.v.layerOut l
        if p.v.lid o = some l ∨ p.d.io.live.lid o = some l then some 0x0217 else none
      | .route o w => if 16 ≤ w ∧ w < 144 then p.slotAllowed o ((w - 16) / 8) else none
      | .audio off => p.channelAllowed (off / 0x20)
      | _ => none

/-- Step 1 of R44: PF0 may commit anything. -/
def Proposal.denied (p : Proposal) : Option Nat := if p.fn = 0 then none else p.own.findSome? (fun x => p.addrAllowed x.1)

/-! Step 2: quotas (R84 to R86). -/

/-- Charges credited to a function in a view: jobs of its layers, writes of its ingress flows, write-back of its outputs (R84). Hidden layers release theirs. -/
def Dev.fnCharge (d : Dev) (v : View) (hidden : Nat → Bool) (flat : Nat → List Nat → Bool) (fn : Nat) : Charge :=
  let adm : Adm := { views := [v], final := v, st := d.st, outs := d.io.outsOn, hidden := hidden, flat := flat }
  let slots := d.io.outsOn.foldl (fun (s : Charge) o =>
    (v.enabledSlots o).foldl (fun s k =>
      if v.layerOwner (v.slotLayer o k) = fn then (s.add (adm.guaranteed v o k)).add (adm.reserve v o k) else s) s) Charge.zero
  let writes := Q.sum ((v.flows.filter (fun f => d.hq.flowOwner false f = fn)).map (fun f => (v.flowWrite f).add (Q.nat (v.flowHistory f))))
  let backs := Q.sum ((d.io.outsOn.filter (fun o => decide (d.hq.outOwner o = fn) && v.wbOn o)).map fun o =>
    match d.st.known (v.wbHandle o) with
    | some s => (v.outPixels o).scale (bpp2 (s.format % 16) (s.format / 16 % 4)) 16
    | none => Q.zero)
  { eng := slots.eng, hbm := (slots.hbm.add writes).add backs }

/-- A charge exceeds the bandwidth or the pixel-rate quota of a function; PF0 has none (R85). -/
def Io.overQuota (io : Io) (fn : Nat) (c : Charge) : Option Nat :=
  if fn = 0 then none
  else if !c.hbm.le (Q.nat (io.fn fn Reg.HQ_FN_Q_BW * 1000000)) then some 0x0223
  else if !c.eng.le (Q.nat (io.fn fn Reg.HQ_FN_Q_PIX * 1000000)) then some 0x0224
  else none

/-- The greater of the two charges over the views. -/
def maxCharge (cs : List Charge) : Charge := cs.foldl Charge.max Charge.zero

/-- Layers hidden in the state after a commit: a hidden layer whose context the commit captures comes back (R86). -/
def Dev.hiddenAfter (d : Dev) (vals : List (Nat × Word)) (l : Nat) : Bool :=
  d.io.live.layerHidden l && !(layersIn vals).contains l && !d.com.pend.any (fun p => (layersIn p.vals).contains l)

/-- A run stays flattened in the state after a commit: its plane is live, and no captured value touches a member, its context or its slot (R315). -/
def Dev.flatAfter (d : Dev) (vals : List (Nat × Word)) (o : Nat) (ms : List Nat) : Bool :=
  d.sc.flat o ms && ms.all fun l =>
    !(layersIn vals).contains l &&
    (match d.io.live.slotOf o l with
     | some k => !(slotsCaptured d.io.live o vals).contains k
     | none => false)

/-- Functions whose charges a commit affects: owners of the layers, flows and outputs it touches. -/
def Proposal.fns (p : Proposal) : List Nat :=
  (p.vals.filterMap (fun x =>
    match placeOf x.1 with
    | .route o w => if 16 ≤ w ∧ w < 144 then some (p.v.layerOwner (p.v.slotLayer o ((w - 16) / 8))) else some (p.d.hq.outOwner o)
    | _ => p.d.addrOwner x.1)).eraseDups

/-- The charge that a commit carries for a function: that of the layers, flows and outputs which it touches, in the state after it (R85). -/
def Proposal.carried (p : Proposal) (fn : Nat) : Charge :=
  let v := p.v
  let ls := layersIn p.vals ++ (v.outsIn p.vals).flatMap fun o =>
    let whole := p.vals.any (fun x => match placeOf x.1 with
      | .page (.outc q) _ => decide (q.val = o)
      | _ => false)
    let ks := if whole then v.enabledSlots o else slotsCaptured p.d.io.live o p.vals
    ks.map (v.slotLayer o)
  let untouched := fun l => p.d.hiddenAfter p.vals l || !ls.contains l
  let c := p.d.fnCharge v untouched (fun _ _ => false) fn
  let other := Q.sum ((flowsIn p.vals).map (fun f => (v.flowWrite f).add (Q.nat (v.flowHistory f))) ++ ((v.outsIn p.vals).filter v.wbOn).map v.outPixels)
  let base := p.d.fnCharge v (fun _ => true) (fun _ _ => true) fn
  if other.num = 0 then { eng := c.eng, hbm := c.hbm.sub base.hbm } else c

/-- Step 2 of R44: the quotas of the functions for which the commit carries a charge, over every state that is live or pending. -/
def Proposal.quota (p : Proposal) : Option Nat :=
  (sortBy (fun a b => decide (a ≤ b)) p.fns).findSome? fun f =>
    let mine := p.carried f
    let all := maxCharge ((p.d.views ++ [p.v]).map fun v => p.d.fnCharge v (p.d.hiddenAfter p.vals) (p.d.flatAfter p.vals) f)
    p.d.io.overQuota f { eng := if mine.eng.num = 0 then Q.zero else all.eng, hbm := if mine.hbm.num = 0 then Q.zero else all.hbm }

end Sys2Proof.Machine
end

