-- ==== Sys2Proof/Machine/CheckRoutes.lean ====
section
/-! DEFINITION. Consistency of flow entries (R170), route entries (R224), fast-path entries (R233 to R236) and handles being freed (R208), as step 3 of a commit's validation judges them. -/
namespace Sys2Proof.Machine

/-- A failed check: the code, and `ERR_INFO`, none where no rule lays it out. -/
abbrev Rejection : Type := Nat × Option Nat

/-- `code` with `info` when a condition holds. -/
def fails (bad : Bool) (code info : Nat) : Option Rejection := if bad then some (code, some info) else none

/-- The first failure of two checks. -/
def orElse (a b : Option Rejection) : Option Rejection := match a with
  | some r => some r
  | none => b

/-- The first failure in a list of checks. -/
def firstOf (xs : List (Option Rejection)) : Option Rejection := xs.findSome? id

/-! Flow entries (R166, R168, R170). -/

/-- The match key of a leg: port, version, addresses, UDP port and tag, with what is not compared left out. -/
structure LegKey where
  port : Nat
  ipv6 : Bool
  dst : List Byte
  udp : Nat
  src : Option (List Byte)
  vlan : Option Nat
  deriving DecidableEq, Repr

/-- The keys of a flow's legs. -/
def View.legKeys (v : View) (f : Nat) : List LegKey :=
  let w0 := v.flow f 0
  let leg := fun (b : Bool) => ({
    port := v.flowPort f b, ipv6 := bit w0 6, dst := v.flowAddrBytes f (if b then 12 else 4)
    udp := bits (v.flow f 20) (if b then 16 else 0) 16
    src := if bit w0 7 then some (v.flowAddrBytes f (if b then 16 else 8)) else none
    vlan := if bit w0 8 then some (bits (v.flow f 1) 16 12) else none } : LegKey)
  leg false :: (if v.flowMirror f then [leg true] else [])

/-- Two keys could match one packet. -/
def LegKey.meets (a b : LegKey) : Bool :=
  let free := fun {α : Type} [DecidableEq α] (x y : Option α) => x.isNone || y.isNone || decide (x = y)
  decide (a.port = b.port ∧ a.ipv6 = b.ipv6 ∧ a.dst = b.dst ∧ a.udp = b.udp) && free a.src b.src && free a.vlan b.vlan

/-- Two entries could match one packet (R166). -/
def View.keysMeet (v : View) (f g : Nat) : Bool := (v.legKeys f).any (fun a => (v.legKeys g).any a.meets)

/-- Words 0 to 20 of a flow that only a VALID 0 to 1 changes, with the fields of word 0 and word 2 that change at acceptance left out (R171). -/
def View.flowKey (v : View) (f : Nat) : List Nat :=
  let w0 := v.flow f 0
  [bits w0 1 3, bits w0 5 4, (v.flow f 1).toNat] ++ (List.range 17).map (fun i => (v.flow f (4 + i)).toNat)

/-- The format fields of a flow suit its TYPE (R167, R168). -/
def View.flowFormatOk (v : View) (f : Nat) : Bool :=
  let t := v.flowType f
  let p := v.flowPic f
  let size := decide (16 ≤ p.w ∧ p.w ≤ 8192 ∧ 16 ≤ p.h ∧ p.h ≤ 8192)
  if t = 2 ∨ t = 3 then decide (bits (v.flow f 27) 26 3 ≤ 4)
  else if t = 4 then p.rate.accepted && decide (16 ≤ p.h ∧ p.h ≤ 8192)
  else p.rate.accepted && size && decide (p.sampling ≤ 5) && (decide (t ≠ 5) || decide (p.sampling = 0 ∧ p.depth = 1))

/-- A store serves a flow as STORE_HANDLE or ANC_HANDLE (R170). -/
def Proposal.storeServes (p : Proposal) (f h kind least : Nat) : Bool :=
  match p.d.st.known h with
  | some s => decide (s.owner = p.d.hq.flowOwner false f ∧ s.kind = kind ∧ s.writer = 1) && decide (least ≤ s.slotG) && (decide (kind = 1) || decide (2 ≤ s.slots.length))
  | none => false

/-- The audio input channels of a flow, first and count. -/
def View.flowSpan (v : View) (f : Nat) : Nat × Nat := (v.flowFirstCh f, v.flowChannels f)

/-- Two spans of channels overlap. -/
def overlaps (a b : Nat × Nat) : Bool := decide (0 < a.2 ∧ 0 < b.2 ∧ a.1 < b.1 + b.2 ∧ b.1 < a.1 + a.2)

/-- A fast-path entry in state FAST names a flow as SOURCE or BACKUP. -/
def View.fastNames (v : View) (f : Nat) : Bool :=
  v.fasts.any fun e => decide (v.fastState e = 1) && (decide (v.fastSrc e = f) || decide (v.fastBkp e = some f))

/-- One valid flow entry of the state after the commit, in the order of R170. -/
def Proposal.flowCheck (p : Proposal) (f : Nat) : Option Rejection :=
  let v := p.v
  let before := p.d.io.live
  let t := v.flowType f
  let touchedF := flowsIn p.vals
  let others := v.flows.filter (fun g => g ≠ f)
  let twin := others.find? (fun g => v.keysMeet f g)
  let stored := v.flowStore f
  let n := v.flowChannels f
  let pic := v.flowPic f
  let anc := (v.flow f 29).toNat
  firstOf
    [ match twin with
      | some g => some (0x0610, some (if touchedF.contains g then max f g else f))
      | none => none
    , fails (!p.d.io.portConfigured (v.flowPort f false) || (v.flowMirror f && !p.d.io.portConfigured (v.flowPort f true))) 0x0611 f
    , fails ((stored && decide (1 ≤ t ∧ t ≤ 4)) || (!stored && decide (t = 0 ∨ t = 5) && !v.fastNames f)
        || (decide (n ≠ 0) && decide (t = 0 ∨ t = 1 ∨ t = 4)) || (decide (t = 5) && decide (n ≠ 0 ∧ n ≠ 16))) 0x0612 f
    , fails (!v.flowFormatOk f) 0x0613 f
    , fails ((stored && !p.storeServes f (v.flow f 28).toNat 0 (slotGranules pic.w pic.h pic.sampling pic.depth))
        || (decide (anc ≠ 0) && decide (t = 4 ∨ t = 5) && !p.storeServes f anc 1 0)) 0x0614 f
    , fails (decide (0 < n ∧ 16383 < v.flowFirstCh f + n - 1) || others.any (fun g => overlaps (v.flowSpan f) (v.flowSpan g))
        || (List.range 16).any (fun q => (List.range n).any (fun i => (v.tdmBinds q (v.flowFirstCh f + i)).isSome))) 0x0615 f
    , fails (before.flowValid f && decide (v.flowKey f ≠ before.flowKey f)) 0x0616 f ]

/-- Flow entries that a commit is judged on: those it touches, and those that a fast-path entry it touches has carried (R236). -/
def Proposal.flowsJudged (p : Proposal) : List Nat :=
  let live := p.d.io.live
  let carried := (fastsIn p.vals).flatMap fun e => if live.fastEn e then live.fastSrc e :: (live.fastBkp e).toList else []
  sortBy (fun a b => decide (a ≤ b)) ((flowsIn p.vals) ++ carried).eraseDups

/-- Flows of TYPE 0, 1 and 5 among the valid ones. -/
def View.videoFlows (v : View) : List Nat := v.flows.filter (fun f => decide (v.flowType f = 0 ∨ v.flowType f = 1 ∨ v.flowType f = 5))

/-- The checks of R170. -/
def Proposal.flowChecks (p : Proposal) : Option Rejection :=
  let new_ := p.v.videoFlows.filter (fun f => !p.d.io.live.flowValid f)
  orElse ((p.flowsJudged.filter p.v.flowValid).findSome? p.flowCheck)
    (match new_.getLast? with
     | some f => fails (decide (2048 < p.v.videoFlows.length)) 0x0617 f
     | none => none)

/-! Route entries (R224). -/

/-- A source or a backup of a slot that may not be routed. -/
def Proposal.sourceCheck (p : Proposal) (o k : Nat) (backup : Bool) : Option Rejection :=
  let v := p.v
  let kind := v.slotKind o k backup
  let src := v.slotSrc o k backup
  let info := o + k * 2 ^ 12
  let f := src % 4096
  if kind = 1 then fails (!(v.flowValid f && decide (v.flowType f = 0 ∨ v.flowType f = 5) && v.flowStore f)) 0x0711 info
  else if kind = 2 then
    match p.d.st.known src with
    | none => some (0x0810, some info)
    | some s => if s.freeing then some (0x0813, some info) else fails (decide (s.kind ≠ 0)) 0x0712 info
  else none

/-- One enabled slot: the layer, the source, the backup, the policy. -/
def Proposal.slotCheck (p : Proposal) (o k : Nat) : Option Rejection :=
  let v := p.v
  let l := v.slotLayer o k
  let info := o + k * 2 ^ 12
  let twice := (v.enabledSlots o).any (fun j => decide (j ≠ k ∧ v.slotLayer o j = l))
  let same := decide (v.slotKind o k false = v.slotKind o k true ∧ v.slotKind o k true ≠ 0 ∧ v.slotSrc o k false = v.slotSrc o k true)
  firstOf
    [ fails (!(v.layersOf o).contains l || twice) 0x0710 info
    , p.sourceCheck o k false
    , p.sourceCheck o k true
    , fails ((decide (v.slotLoss o k = 2) && decide (v.slotKind o k true = 0)) || same) 0x0713 info ]

/-- Outputs whose route entry a commit touches. -/
def routesIn (xs : List (Nat × Word)) : List Nat := touched (fun p => match p with
  | .route o _ => some o
  | _ => none) xs

/-- The checks of R224: output by output, slot by slot. -/
def Proposal.routeChecks (p : Proposal) : Option Rejection :=
  (routesIn p.vals).findSome? fun o => (p.v.enabledSlots o).findSome? (p.slotCheck o)

/-! Fast-path entries (R233 to R236). -/

/-- The raster and rate of an output equal the reference format of an entry. -/
def View.rasterIsRef (v : View) (e o : Nat) : Bool :=
  let t := v.timing o
  decide (t.actW = bits (v.ref e 24) 0 14 ∧ t.actH = bits (v.ref e 24) 16 14 ∧ t.scan = bits (v.ref e 25) 6 2 ∧ t.rate = rateOf (v.ref e 26))

/-- PROMOTE_OUTPUT meets the conditions of a promotion (R233). Slot 0 is judged before the promotion writes it. -/
def Proposal.promoteOk (p : Proposal) (e : Nat) : Bool :=
  let v := p.v
  let o := v.fastOut e
  let before := p.base.over p.own
  let was := decide (p.base.fastState e = 2)
  decide (p.d.hq.outOwner o = p.d.hq.flowOwner true e) && p.d.io.outOn o && v.rasterIsRef e o && v.slotEn o 0
    && (was || decide (before.slotKind o 0 false = 0))
    && !v.fasts.any (fun x => decide (x ≠ e ∧ v.fastOut x = o ∧ (bit (v.fast x 0) 1 ∨ v.fastState x = 2)))

/-- A commit itself writes SRC_KIND or SOURCE of slot 0 of an entry's PROMOTE_OUTPUT while the entry is PROMOTED (R234). -/
def Proposal.slotSeized (p : Proposal) (e : Nat) : Bool :=
  let live := p.base
  let o := live.fastOut e
  let base := p.base
  decide (live.fastState e = 2) && p.own.any fun x =>
    (decide (x.1 = routeAddr o 16) && decide (bits x.2 16 2 ≠ bits (base.route o 16) 16 2)) || decide (x.1 = routeAddr o 17 ∧ x.2 ≠ base.route o 17)

/-- The checks on one fast-path entry: sharing, promotion, backup, and FEED other than 0 (R233 to R236, R336). -/
def Proposal.fastCheck (p : Proposal) (e : Nat) : Option Rejection :=
  let v := p.v
  let info := e + 2 ^ 16
  let f := v.fastSrc e
  let t := v.flowType f
  let shares := decide (v.fastState e = 1)
  firstOf
    [ fails (!shares && (!bit (v.fast e 0) 1 || !(decide (t = 0 ∨ t = 5) && v.flowStore f))) 0x0714 info
    , fails ((!shares && !p.promoteOk e) || p.slotSeized e) 0x0715 info
    , match v.fastBkp e with
      | some b => fails (!v.shares e b || decide (b = f)) 0x0713 info
      | none => none
    , fails (decide (v.egrFeed e ≠ 0)) 0x0717 info ]

/-- Entries in state FAST that carry a flow as their SOURCE. -/
def View.carriers (v : View) (f : Nat) : List Nat := v.fasts.filter (fun e => decide (v.fastState e = 1 ∧ v.fastSrc e = f))

/-- Fast-path entries that a commit is judged on: those it touches, those whose egress flow it touches, and those PROMOTED onto an output whose slot 0 it writes. -/
def Proposal.fastsJudged (p : Proposal) : List Nat :=
  let outs := routesIn p.own
  let promoted := p.base.fasts.filter (fun e => decide (p.base.fastState e = 2) && outs.contains (p.base.fastOut e))
  sortBy (fun a b => decide (a ≤ b)) (fastsIn p.vals ++ egrsIn p.vals ++ promoted).eraseDups

/-- The checks of R233 to R236. -/
def Proposal.fastChecks (p : Proposal) : Option Rejection :=
  orElse ((p.fastsJudged.filter p.v.fastEn).findSome? p.fastCheck)
    (((fastsIn p.vals).map p.v.fastSrc).findSome? fun f =>
      let es := p.v.carriers f
      match es.head? with
      | some e => fails (decide (64 < es.length)) 0x0716 (e + 2 ^ 16)
      | none => none)

/-- A commit adds a reference to a handle that is being freed (R208). -/
def Proposal.freeingCheck (p : Proposal) : Option Rejection :=
  (p.d.st.table.filter (fun e => e.2.freeing)).findSome? fun e =>
    let h := e.2.handle e.1
    if (p.v.namers h).all (fun x => (p.base.namers h).contains x) then none else some (0x0813, none)

end Sys2Proof.Machine
end

