-- ==== Sys2Proof/Machine/CheckLayers.lean ====
section
/-! DEFINITION. Consistency of layers: conversion (R248, R255, R257, R261), frame-rate conversion (R272, R274, R276, R278, R286, R294) and composition (R300, R309, R311, R321). -/
namespace Sys2Proof.Machine

/-- A routed layer: output, slot, layer. -/
abbrev Routed : Type := Nat × Nat × Nat

/-- Every layer routed by an enabled slot, in ascending index (R294, R300). -/
def View.routed (v : View) : List Routed :=
  sortBy (fun (a b : Routed) => decide (a.2.2 ≤ b.2.2)) (v.routedOuts.flatMap fun o => (v.enabledSlots o).map fun k => (o, k, v.slotLayer o k))

/-- The pictures of a slot's source and backup. -/
def View.slotPics (v : View) (st : Stores) (o k : Nat) : List Pic := ([false, true].map (v.slotPic st o k)).filterMap id

/-! Conversion (ch. 10). -/

/-- The rules of R248 on sampling, colorimetry and transfer characteristic. -/
def Pic.formatOk (p : Pic) : Bool :=
  !(decide (p.sampling = 4 ∨ p.sampling = 5) && decide (p.color ≠ 3 ∨ (p.tcs ≠ 1 ∧ p.tcs ≠ 2)))
  && !(decide (p.tcs = 1 ∨ p.tcs = 2) && decide (p.color = 0 ∨ p.color = 1))
  && !(decide (p.color = 4) && decide ((p.sampling ≠ 3 ∧ p.sampling ≠ 8) ∨ (p.tcs ≠ 0 ∧ p.tcs ≠ 1)))

/-- The ratio of destination to source lies between 1/8 and 16 (R255). -/
def ratioOk (src dst : Nat) : Bool := decide (src ≤ 8 * dst ∧ dst ≤ 16 * src)

/-- Taps of an axis that the scaler works on: the set is loaded, and H_TAPS or V_TAPS is one of its values and within the MAX of the set (R249, R257). -/
def View.tapsOk (v : View) (l : Nat) (vertical : Bool) : Bool :=
  let w := v.layer l 19
  let most := v.setMax (if vertical then bits w 8 6 else bits w 0 6) vertical
  let n := if vertical then bits w 24 4 else bits w 16 5
  let allowed := if vertical then [0, 1, 2, 4, 6, 8] else [0, 2, 4, 6, 8, 10, 12, 14, 16]
  decide (most ≠ 0) && allowed.contains n && decide (n ≤ most)

/-- The checks of chapter 10 on a layer. -/
def Proposal.convertCheck (p : Proposal) (x : Routed) : Option Rejection :=
  let (o, k, l) := x
  let v := p.v
  let st := p.d.st
  let pics := v.slotPics st o k
  let geos := pics.map (v.geo o l)
  let compressed := [false, true].any (fun b => decide (v.slotKind o k b = 1 ∧ v.flowType (v.slotSrc o k b % 4096) = 1))
  let chroma := bits (v.layer l 16) 1 2
  let need := geos.foldl (fun m g => max m (g.src.w * g.lines chroma)) 0
  let strips := v.stripOk o l
  let charge := (v.slotCharge st o k (v.layerMode l)).eng
  firstOf
    [ fails (compressed || pics.any (fun q => !q.formatOk)) 0x0911 l
    , fails (geos.any (fun g => !(ratioOk g.src.w g.dst.w && ratioOk g.srcH g.dstH))) 0x0912 l
    , fails (geos.any (fun g => (!g.hBypass && !v.tapsOk l false) || (!g.vBypass && !v.tapsOk l true))) 0x0913 l
    , fails (!strips && decide (65536 < need)) 0x0910 (l + sat 20 need * 2 ^ 12)
    , fails (!strips && !charge.le (Q.nat 5000000000)) 0x0914 l
    , fails (strips && (v.strips st o k).isNone) 0x0915 l ]

/-- The checks of chapter 10: layers in ascending index, then the formats of the enabled outputs (R248). -/
def Proposal.convertChecks (p : Proposal) : Option Rejection :=
  orElse (p.v.routed.findSome? p.convertCheck)
    (p.d.io.outsOn.findSome? fun o => fails (!(p.v.outPic o).formatOk) 0x0911 (o + 2 ^ 16))

/-! Frame-rate conversion (ch. 11). -/

/-- A source that modes 1 to 3 cannot take: a host store, or a write-back store without a writer of known rate (R274). -/
def Proposal.badKind (p : Proposal) (o k : Nat) (backup : Bool) : Bool :=
  let v := p.v
  let h := v.slotSrc o k backup
  decide (v.slotKind o k backup = 2) &&
    match p.d.st.known h with
    | some s =>
      decide (s.writer = 0) || (decide (s.writer = 2) &&
        match v.wbWriter h with
        | some w => !p.d.io.written.contains (outAddr w Reg.OUTC_RATE)
        | none => true)
    | none => false

/-- The delay D of a layer for a source exceeds 250,000 µs (R272). -/
def View.tooLate (v : View) (o k l : Nat) (backup : Bool) : Bool :=
  let kind := v.slotKind o k backup
  let r := (v.sourceGrid o k backup).1
  decide (kind = 1 ∨ kind = 2) && decide (r.num ≠ 0) &&
    decide (250000000 * r.num < v.delayFactor l * r.den * 1000000000 + v.layerDelayAdd l * 1000 * r.num)

/-- R274, R276 and R272 on a layer, the primary before the backup (R294). -/
def Proposal.rateCheck (p : Proposal) (x : Routed) : Option Rejection :=
  let (o, k, l) := x
  let v := p.v
  let mode := v.layerMode l
  let w := v.layer l 24
  let on := decide (mode ≠ 0)
  firstOf
    [ fails (on && (p.badKind o k false || p.badKind o k true)) 0x0A10 l
    , fails (bit w 2 && (decide (mode ≠ 3) || !(bit w 3 || bit w 4))) 0x0A12 l
    , fails (on && (v.tooLate o k l false || v.tooLate o k l true)) 0x0A13 l ]

/-- A reader of a ring: its layer, its output, whether it detects cadence, and its place in the pattern. -/
structure Reader where
  layer : Nat
  out : Nat
  cadence : Bool
  ring : RingReader
  deriving DecidableEq, Repr

/-- The readers of a store, in ascending layer index. -/
def View.readers (v : View) (h scan : Nat) : List Reader :=
  (v.routed.filter (fun x => v.slotHandle x.1 x.2.1 false = h ∨ v.slotHandle x.1 x.2.1 true = h)).filterMap fun x =>
    let (o, _, l) := x
    let t := v.timing o
    if t.num = 0 ∨ t.vTotal = 0 then none
    else some
      { layer := l, out := o, cadence := bit (v.layer l 24) 2
        ring := { tm := t, mode := v.layerMode l, k := v.delayFactor l, addNs := v.layerDelayAdd l * 1000
                  fields := decide (v.layerMode l = 3 ∧ scan = 1) } }

/-- Slots that a ring needs for its readers. A reader that detects cadence needs the whole ring of R286's table, and over an interlaced source leaves no room for another group. -/
def ringSum (rs : List Reader) (src : Rate) (phase scan : Nat) : Nat :=
  let n := ringNeed (rs.map (·.ring)) src phase
  match rs.find? (·.cadence) with
  | none => n
  | some c =>
    let group := fun (r : Reader) => (r.ring.mode, r.ring.addNs, r.ring.tm.num, r.ring.tm.den, r.cadence)
    max n (if scan = 1 ∧ rs.any (fun r => decide (group r ≠ group c)) then 7 else 6)

/-- R286 on the ring of one handle. -/
def Proposal.ringCheck (p : Proposal) (i : Nat) (s : Store) : Option Rejection :=
  let v := p.v
  let h := s.handle i
  let scan := s.format / 64 % 4
  let rs := v.readers h scan
  let timed := rs.filter (fun r => decide (r.ring.mode ≠ 0))
  let grid : Rate × Nat := match v.wbWriter h with
    | some w => ((v.timing w).rate, (v.timing w).phase)
    | none => (v.storeRate h, 0)
  if timed.isEmpty ∨ grid.1.num = 0 then none
  else
    let n := ringSum rs grid.1 grid.2 scan
    if n ≤ s.slots.length then none
    else
      let ls := layersIn p.vals
      let os := v.outsIn p.vals
      let mine := timed.filter (fun r => ls.contains r.layer || os.contains r.out)
      let who := ((if mine.isEmpty then timed else mine).head?.map (·.layer)).getD 0
      some (0x0A11, some (who + min 15 n * 2 ^ 12))

/-- Granules that the estimator of a layer in mode 3 reserves: the sum over its jobs of the source columns that each reads, for the greater of source and backup (R262, R278). -/
def View.estimatorGranules (v : View) (st : Stores) (x : Routed) : Nat :=
  let (o, k, l) := x
  if v.layerMode l ≠ 3 then 0
  else
    let n := (v.strips st o k).getD 1
    let one := fun (q : Pic) =>
      let g := v.geo o l q
      ((List.range n).map fun s =>
        let edges := if n = 1 then 0 else if s = 0 ∨ s = n - 1 then 1 else 2
        let cols := min g.src.w (ceilDiv g.src.w n + g.margin (bits (v.layer l 16) 1 2) * edges)
        ceilDiv (3 * cols * g.src.h) 131072).sum
    ((v.slotPics st o k).map one).foldl max 0

/-- R278: live reservations first, then those of the layers that the commit touches. -/
def Proposal.estimatorCheck (p : Proposal) : Option Rejection :=
  let v := p.v
  let os := v.outsIn p.vals
  let ls := layersIn p.vals
  let mine := fun (x : Routed) => ls.contains x.2.2 || os.contains x.1
  let before := p.d.after
  let kept := ((before.routed.filter (fun x => !mine x)).map (before.estimatorGranules p.d.st)).sum
  let r := (v.routed.filter mine).foldl (fun (a : Nat × Option Nat) x =>
    let old := ((before.routed.find? (fun y => y.2.2 = x.2.2)).map (before.estimatorGranules p.d.st)).getD 0
    let n := a.1 + max old (v.estimatorGranules p.d.st x)
    (n, if a.2.isNone ∧ 65536 < n then some x.2.2 else a.2)) (kept, none)
  r.2.map fun l => (0x0A14, some l)

/-- The checks of chapter 11 (R294). -/
def Proposal.rateChecks (p : Proposal) : Option Rejection :=
  firstOf [p.v.routed.findSome? p.rateCheck, p.d.st.table.findSome? (fun e => p.ringCheck e.1 e.2), p.estimatorCheck]

/-! Composition (ch. 12). -/

/-- A rectangle lies wholly inside `w` × `h`. -/
def Rect.inside (r : Rect) (w h : Nat) : Bool := decide (r.x + r.w ≤ w ∧ r.y + r.h ≤ h)

/-- The conditions of R300 on a layer, in the order of its table. -/
def Proposal.layerCheck (p : Proposal) (x : Routed) : Option Rejection :=
  let (o, k, l) := x
  let v := p.v
  let t := v.timing o
  let dst := v.layerDst l
  let lid := decide (v.lid o = some l)
  let twin := !lid && (v.enabledSlots o).any fun j =>
    let m := v.slotLayer o j
    decide (m ≠ l ∧ v.lid o ≠ some m ∧ v.layerZ m = v.layerZ l)
  let size := decide (2 ≤ dst.w ∧ dst.w ≤ 8192 ∧ 2 ≤ dst.h ∧ dst.h ≤ 8192)
  let srcs := (v.slotPics p.d.st o k).all (fun q => (v.layerSrc l q).inside q.w q.h)
  let static_ := fun b => decide (v.slotKind o k b = 1) ||
    (decide (v.slotKind o k b = 2) && ((p.d.st.known (v.slotSrc o k b)).map (fun s => decide (s.writer ≠ 0))).getD false)
  firstOf
    [ fails twin 0x0B15 l
    , fails (!(size && dst.inside t.actW t.actH && srcs)) 0x0B16 l
    , fails (v.layerStatic l && (decide (v.layerMode l ≠ 0) || static_ false || static_ true)) 0x0B17 l
    , fails (bit (v.layer l 0) 5 && decide (bits (v.layer l 0) 6 2 = 0)) 0x0B1C l ]

/-- A route slot holds an AUTH handle, or a source that needs none (R309). -/
def Proposal.authentic (p : Proposal) (o k : Nat) (backup : Bool) : Bool :=
  let kind := p.v.slotKind o k backup
  if kind = 2 then ((p.d.st.known (p.v.slotSrc o k backup)).map (·.auth)).getD false else backup && decide (kind ≠ 1)

/-- The rules of R309 on an output whose Lid is enabled. -/
def Proposal.lidCheck (p : Proposal) (o : Nat) : Option Rejection :=
  let v := p.v
  match v.lid o with
  | none => none
  | some l =>
    let auth := bit (v.outc o Reg.OUTC_LID) 15
    let ok := match v.slotOf o l with
      | some k => !auth || (p.authentic o k false && p.authentic o k true)
      | none => false
    fails (!((v.layersOf o).contains l && decide (v.layerOwner l = 0) && ok && !v.layerStatic l)) 0x0B18 o

/-- The rule of R311 on the slate of an output whose Lid acts by slating. -/
def Proposal.slateCheck (p : Proposal) (o : Nat) : Option Rejection :=
  let v := p.v
  let w := v.outc o Reg.OUTC_LID
  let q := v.outPic o
  let ok := match p.d.st.known (v.outc o Reg.OUTC_SLATE).toNat with
    | some s => decide (s.kind = 0 ∧ s.owner = 0 ∧ s.width = q.w ∧ s.height = q.h ∧ s.format % 64 = q.sampling + q.depth * 16) && s.fence
    | none => false
  fails (bit w 12 && decide (bits w 13 2 = 1) && !ok) 0x0B19 o

/-- A commit captures a legacy output's contexts or slots 0 to 3 other than through the block (R321). -/
def Proposal.legacyOwned (p : Proposal) (o : Nat) : Bool :=
  let live := p.d.io.live
  let base := p.d.after
  (live.legacy o || base.legacy o) &&
    ((layersIn p.own).any (fun l => (live.legacyLayers o).contains l) || (slotsCaptured base o p.own).any (fun k => decide (k < 4)))

/-- The colorimetry of a legacy source: of its flow, or of word 20 of its context (R321). -/
def Proposal.legacyLayoutBad (p : Proposal) (o : Nat) : Bool :=
  let v := p.v
  let st := p.d.st
  let t := v.timing o
  let ctl := v.outc o Reg.LEG_CTL
  let color := (v.outPic o).color
  let pics := (List.range 4).any fun k => bit ctl k && (v.slotPics st o k).any (fun q => decide (q.color ≠ color))
  let gfx := (List.range 3).any fun g =>
    bit ctl (g + 1) &&
      match st.known (v.outc o (Reg.LEG_GFX_SRC + 16 * g)).toNat with
      | some s =>
        let xy := v.outc o (Reg.LEG_GFX_XY + 16 * g)
        let r : Rect := { x := bits xy 0 14, y := bits xy 16 14, w := s.width, h := s.height }
        !(decide (s.kind = 0 ∧ s.format % 64 = 8 ∧ s.writer = 0) && r.inside t.actW t.actH)
      | none => true
  decide ((v.legacyLayers o).length ≠ 4) || gfx || pics

/-- The conditions of R300 on an output's own fields. -/
def Proposal.composeCheck (p : Proposal) (o : Nat) : Option Rejection :=
  let v := p.v
  let w := v.outc o Reg.OUTC_OUT_MATRIX
  firstOf
    [ p.lidCheck o
    , p.slateCheck o
    , fails (p.legacyOwned o) 0x0B1A o
    , fails (v.legacy o && p.legacyLayoutBad o) 0x0B1B o
    , fails (bit w 8 && decide ((v.matrixSet (bits w 0 8)).m.det = 0)) 0x0B1D o ]

/-- The outputs whose fields chapter 12 judges: every one whose page, route or layers the view holds. -/
def View.pagedOuts (v : View) : List Nat :=
  sortBy (fun a b => decide (a ≤ b)) (v.addrs.filterMap fun a =>
    if 0x2000000 ≤ a ∧ a < 0x2200000 then some ((a - 0x2000000) / 0x1000) else none).eraseDups

/-- The checks of chapter 12. -/
def Proposal.composeChecks (p : Proposal) : Option Rejection :=
  orElse (p.v.routed.findSome? p.layerCheck) (p.v.pagedOuts.findSome? p.composeCheck)

end Sys2Proof.Machine
end

