-- ==== Sys2Proof/Machine/CheckOutputs.lean ====
section
/-! DEFINITION. Consistency of outputs and egress flows (R329, R333, R336, R341, R344, R345), of audio (R357, R358, R364, R372, R378) and of TDM ports (R391); the latch guard (R48). -/
namespace Sys2Proof.Machine

/-! Outputs (ch. 13). -/

/-- The raster of an output is one that may run (R329). -/
def View.rasterOk (v : View) (o : Nat) : Bool :=
  let t := v.timing o
  let p := v.outPic o
  let half := t.actH / 2
  let blank := if t.scan = 0 then decide (t.actH + 4 ≤ t.vTotal) else decide (half + 2 ≤ t.field2 ∧ half + 2 ≤ t.vTotal - t.field2)
  t.rate.accepted && blank && decide (1000 * t.num * t.vTotal ≤ t.den * 1000000000) && decide (t.phase * t.num < t.den * 1000000000)
    && !(decide (p.sampling = 0 ∨ p.sampling = 2 ∨ p.sampling = 4) && decide (t.actW % 2 = 1))
    && !(decide (t.scan = 1 ∧ p.sampling = 2) && decide (t.actH % 4 ≠ 0))

/-- The raster is one that carries TYPE 5 (R339). -/
def View.sdiOk (v : View) (o : Nat) : Bool :=
  let t := v.timing o
  let p := v.outPic o
  let among := fun (ws : List Nat) (ms : List Nat) => if t.den = 1001 then ms.contains t.num else ws.contains t.num
  let hd := decide (t.actW = 1920 ∧ t.actH = 1080 ∧ t.vTotal = 1125)
  decide (p.sampling = 0 ∧ p.depth = 1) &&
    ((hd && decide (t.scan = 1) && among [25, 30] [30000])
      || (hd && decide (t.scan = 2) && among [24, 25, 30] [24000, 30000])
      || (hd && decide (t.scan = 0) && among [24, 25, 30, 50, 60] [24000, 30000, 60000])
      || (decide (t.actW = 1280 ∧ t.actH = 720 ∧ t.vTotal = 750 ∧ t.scan = 0) && among [50, 60] [60000]))

/-- Bytes of pixel groups in the longest packet of a TYPE 0 flow from an output (R338). -/
def View.videoBody (v : View) (e : Nat) (p : Pic) : Nat :=
  let g := pgroup p.sampling p.depth
  let n := ceilDiv p.w g.2
  if bit (v.egr e 0) 10 then 1260 else ceilDiv n (ceilDiv n (max (v.egrPayload e / g.1) 1)) * g.1

/-- Bytes of an egress flow's longest packet on the wire, from its destination address to its FCS (R336, R491). -/
def View.packetBytes (v : View) (e : Nat) : Nat :=
  let t := v.egrType e
  let w := v.egr e 27
  let body := if t = 5 then 1376 else if t = 2 ∨ t = 3 then bits w 16 7 * sampleBytes t w * samplesPerPtime w
    else if t = 0 ∧ v.egrFeed e = 1 then v.videoBody e (v.outPic (v.egrOut e)) else v.egrPayload e
  v.wireOverhead e t - 20 + body

/-- The output from which a valid entry takes its raster: OUTPUT with FEED 1 (R334). -/
def Proposal.egrFormatBad (p : Proposal) (e : Nat) : Bool :=
  let v := p.v
  let t := v.egrType e
  let w0 := v.egr e 0
  let q := v.outPic (v.egrOut e)
  let one := decide (v.egrFeed e = 1)
  let long := (v.egrPorts e).any fun n => decide (bits (v.get (regAddr (.mac (Fin.ofNat 128 n)) Reg.MAC_MAXLEN)) 0 14 < v.packetBytes e)
  (one && decide (t = 0) && decide (q.sampling = 8)) || (one && decide (t = 5) && !v.sdiOk (v.egrOut e))
    || (one && bit w0 10 && decide (180 % (pgroup q.sampling q.depth).1 ≠ 0)) || (!bit w0 11 && bit w0 10) || long
    || (decide (t = 1 ∨ t = 4) && decide ((v.egr e 28).toNat = 0))

/-- FEED does not suit TYPE, the fast path or the owner (R336). -/
def Proposal.egrFeedBad (p : Proposal) (e : Nat) : Bool :=
  let v := p.v
  let t := v.egrType e
  let feed := v.egrFeed e
  if feed = 0 then
    !v.fastEn e || (decide (v.fastState e = 1) && decide (v.flowType (v.fastSrc e) ≠ t))
  else if feed = 3 then !(decide (t = 2 ∨ t = 3))
  else (if feed = 1 then !(decide (t = 0 ∨ t = 5)) else decide (t ≠ 4)) || decide (p.d.hq.outOwner (v.egrOut e) ≠ p.d.hq.flowOwner true e)

/-- The conditions of R336 on a valid entry. -/
def Proposal.egrCheck (p : Proposal) (e : Nat) : Option Rejection :=
  let v := p.v
  let info := e + 2 ^ 17
  let w := v.egr e 1
  let legB := bit (v.egr e 0) 7
  let same := fun feed => (v.egrs.filter (fun x => decide (v.egrFeed x = feed ∧ v.egrOut x = v.egrOut e))).length
  firstOf
    [ fails ((v.egrPorts e).any (fun n => !p.d.io.portConfigured n) || (legB && decide (bits w 0 7 = bits w 8 7))) 0x0C11 info
    , fails (p.egrFeedBad e) 0x0C12 info
    , fails (p.egrFormatBad e) 0x0C13 info
    , fails ((decide (v.egrFeed e = 1) && decide (8 < same 1)) || (decide (v.egrFeed e = 2) && decide (2 < same 2))) 0x0C15 info ]

/-- The conditions of R333 on an output that writes back. -/
def Proposal.backCheck (p : Proposal) (o : Nat) : Option Rejection :=
  let v := p.v
  let q := v.outPic o
  let twin := v.pagedOuts.any (fun x => decide (x ≠ o) && v.wbOn x && decide (v.wbHandle x = v.wbHandle o))
  let ok := match p.d.st.known (v.wbHandle o) with
    | some s => !s.freeing && decide (s.kind = 0 ∧ s.writer = 2 ∧ s.owner = p.d.hq.outOwner o ∧ s.width = q.w ∧ s.height = q.h
        ∧ s.format = q.sampling + q.depth * 16 + q.scan * 64 ∧ 2 ≤ s.slots.length)
    | none => false
  fails (v.wbOn o && (!ok || twin)) 0x0C14 o

/-- The condition of R341 on an output that carries ANC. -/
def Proposal.ancCheck (p : Proposal) (o : Nat) : Option Rejection :=
  let v := p.v
  let w := v.outc o Reg.OUTC_ANC_CFG
  let k := bits w 0 4
  fails (bit w 4 && !(v.slotEn o k && decide (v.slotKind o k false = 1))) 0x0C17 o

/-- The conditions of R344 and R345 on a rectangle of an output. -/
def View.loupeBad (v : View) (o r : Nat) : Bool :=
  match v.loupeRect o r with
  | none => false
  | some x =>
    let t := v.timing o
    let s := (v.outPic o).sampling
    let ctl := v.outc o (Reg.OUTC_LPE_CTL + 16 * r)
    !x.inside t.actW t.actH || (decide (s = 0 ∨ s = 2 ∨ s = 4) && decide (x.x % 2 = 1 ∨ x.w % 2 = 1))
      || (decide (s = 2) && decide (x.y % 2 = 1 ∨ x.h % 2 = 1))
      || (decide (r < 7) && decide (bits ctl 1 2 = 2 ∧ bits ctl 8 8 = 0))
      || (decide (r = 7) && decide ((v.loupeMethod o).1 = 0))

/-- The rectangles of an output, lowest first. -/
def Proposal.loupeCheck (p : Proposal) (o : Nat) : Option Rejection :=
  (List.range 8).findSome? fun r => fails (p.v.loupeBad o r) 0x0C16 (o + r * 2 ^ 12)

/-- The checks of chapter 13. -/
def Proposal.scanChecks (p : Proposal) : Option Rejection :=
  firstOf
    [ p.d.io.outsOn.findSome? (fun o => fails (!p.v.rasterOk o) 0x0C10 o)
    , p.v.egrs.findSome? p.egrCheck
    , p.v.pagedOuts.findSome? p.backCheck
    , p.v.pagedOuts.findSome? p.loupeCheck
    , p.v.pagedOuts.findSome? p.ancCheck ]

/-! Audio (ch. 14). -/

/-- A destination of output channels: its kind as R364 numbers it, its index, the channel, its rate and clock, and whether it is 24 bits wide. -/
structure Dest where
  kind : Nat
  index : Nat
  ch : Nat
  fast : Bool
  clock : Nat
  wide : Bool
  deriving DecidableEq, Repr

/-- The destinations of a view: FEED 3 flows, the audio that TYPE 5 flows embed, and transmit slots. -/
def View.dests (v : View) : List Dest :=
  (v.egrs.flatMap fun e =>
    let w := v.egr e 27
    let t := v.egrType e
    if v.egrFeed e = 3 ∨ (v.egrFeed e = 1 ∧ t = 5) then
      (List.range (bits w 16 7)).map fun i =>
        { kind := 2, index := e, ch := bits w 0 14 + i, fast := decide (t ≠ 5) && bit w 24, clock := 0, wide := decide (t ≠ 2) || bit w 25 }
    else []) ++
  ((List.range 16).flatMap fun p =>
    let cfg := v.tdmp p Reg.TDMP_CFG
    (maskBits (v.tdmp p Reg.TDMP_TX_MASK)).map fun s =>
      { kind := 3, index := p, ch := bits (v.tdmp p Reg.TDMP_TX_BASE) 0 14 + s, fast := bit cfg 3, clock := v.tdmClock p, wide := bit cfg 11 })

/-- A destination's channel is enabled at its rate and clock, and a FEED 3 flow's owner owns it (R364). -/
def Proposal.destOk (p : Proposal) (x : Dest) : Bool :=
  let v := p.v
  v.audOn x.ch && decide (v.audFast x.ch = x.fast ∧ v.audClock x.ch = x.clock)
    && (decide (x.kind ≠ 2) || decide (v.egrFeed x.index ≠ 3) || decide (p.d.hq.audOwner x.ch = p.d.hq.flowOwner true x.index))

/-- A channel's entry meets the conditions of R378 but for its partner's. -/
def View.throughAlone (v : View) (dests : List Dest) (c : Nat) : Bool :=
  let w0 := v.aud c 0
  let w1 := v.aud c 1
  let i := bits w1 0 14
  v.audOn c && bit w0 4 && decide (bits w0 1 2 = 0) && !bit w0 3 && decide (bits w1 16 16 = 0x4000) && !bit w1 15 && decide (i % 2 = c % 2) &&
    match v.binding i with
    | some b =>
      decide (b.clock = v.audClock c ∧ b.fast = v.audFast c)
        && (!b.l24 || (dests.filter (fun x => x.ch = c)).all (·.wide))
    | none => true

/-- A channel with TRANSPARENT set meets every condition of R378. -/
def View.through (v : View) (dests : List Dest) (c : Nat) : Bool :=
  let mate := if c % 2 = 0 then c + 1 else c - 1
  let i := bits (v.aud c 1) 0 14
  v.throughAlone dests c && v.throughAlone dests mate && decide (bits (v.aud mate 1) 0 14 = if i % 2 = 0 then i + 1 else i - 1)

/-- The conditions of R364 on an enabled output channel. -/
def Proposal.channelCheck (p : Proposal) (dests : List Dest) (c : Nat) : Option Rejection :=
  let v := p.v
  let w0 := v.aud c 0
  let w5 := v.aud c 5
  let unbound := (tapsOf (v.audWords c) none).any fun t =>
    match t.input with
    | some i => (v.binding i).isNone
    | none => false
  let o := bits w5 0 9
  firstOf
    [ fails unbound 0x0D10 c
    , fails (!v.groupOn (v.audGroup c)) 0x0D13 c
    , fails (bit w0 4 && !v.through dests c) 0x0D14 c
    , fails (bit w0 3 && (decide (bits w0 1 2 ≠ 0) || !p.d.io.outOn o || !v.slotEn o (bits w5 12 4))) 0x0D15 c ]

/-- The enabled alignment groups, rising. -/
def View.groupsOn (v : View) : List Nat := (v.entries 0x2AD4000 0x40 0 256).filter v.groupOn

/-- The checks of R364, R357 and R358: channels, groups, egress flows, then the limit on ASRC channels. -/
def Proposal.audioChecks (p : Proposal) : Option Rejection :=
  let v := p.v
  let dests := v.dests
  let badDest := (dests.filter (fun x => x.kind = 2)).find? (fun x => !p.destOk x)
  let odd := fun (t : Nat) (w : Word) => (decide (t = 3) && decide (bits w 16 7 % 2 = 1)) || (decide (t = 5) && bit w 24)
  firstOf
    [ v.audChannels.findSome? (p.channelCheck dests)
    , v.groupsOn.findSome? fun g => fails (!decide (v.minDelay g ≤ v.groupDelay g ∧ v.groupDelay g ≤ 160000)) 0x0D13 (g + 2 ^ 14)
    , badDest.map fun x => (0x0D11, some (x.index + 2 * 2 ^ 14))
    , v.egrs.findSome? fun e => fails (odd (v.egrType e) (v.egr e 27)) 0x0D16 (e + 2 * 2 ^ 14)
    , (v.flows.find? (fun f => odd (v.flowType f) (v.flow f 27))).map fun _ => (0x0D16, none)
    , if 2048 < (v.asrcPairs v.binding (fun c => (p.d.aud.out c).follow)).length then some (0x0D12, none) else none ]

/-! TDM ports (ch. 15). -/

/-- The conditions of R391 on a port. -/
def Proposal.portCheck (p : Proposal) (q : Nat) : Option Rejection :=
  let v := p.v
  let info := q + 3 * 2 ^ 14
  let rx := maskBits (v.tdmp q Reg.TDMP_RX_MASK)
  let tx := maskBits (v.tdmp q Reg.TDMP_TX_MASK)
  let slots := tdmSlots (v.tdmp q Reg.TDMP_CFG)
  let high := fun (m : List Nat) (base : Nat) => match m.getLast? with
    | some s => decide (slots ≤ s ∨ 16383 < base + s)
    | none => false
  let chans := rx.map (fun s => bits (v.tdmp q Reg.TDMP_RX_BASE) 0 14 + s)
  let shared := chans.any fun i => (List.range 16).any (fun x => decide (x ≠ q) && (v.tdmBinds x i).isSome)
  let withFlow := chans.any fun i => v.flows.any (fun f => (v.flowBinds f i).isSome)
  firstOf
    [ fails (high rx (bits (v.tdmp q Reg.TDMP_RX_BASE) 0 14) || high tx (bits (v.tdmp q Reg.TDMP_TX_BASE) 0 14)) 0x0E12 info
    , fails shared 0x0E11 info
    , fails withFlow 0x0615 info
    , fails ((v.dests.filter (fun x => decide (x.kind = 3 ∧ x.index = q))).any (fun x => !p.destOk x)) 0x0D11 info ]

/-- The checks of chapter 15. -/
def Proposal.tdmChecks (p : Proposal) : Option Rejection := (List.range 16).findSome? p.portCheck

/-! Steps 3 and 4 of R44. -/

/-- Step 3: consistency by the rules of each chapter, in the order of the classes of R55 (DESIGN CHOICE: no rule orders the chapters). -/
def Proposal.inconsistent (p : Proposal) : Option Rejection :=
  firstOf [p.flowChecks, p.routeChecks, p.fastChecks, p.freeingCheck, p.convertChecks, p.rateChecks, p.composeChecks, p.scanChecks, p.audioChecks, p.tdmChecks]

/-- Step 4: the latch guard of every enabled output is less than its blanking lines (R48, R492). -/
def Proposal.guardBad (p : Proposal) : Option Rejection :=
  p.d.io.outsOn.findSome? fun o =>
    fails (!decide (bits (p.v.outc o Reg.OUTC_LATCH_GUARD) 0 4 < (p.v.timing o).blankLines)) 0x0118 o

end Sys2Proof.Machine
end

