-- ==== Sys2Proof/Machine/Apply.lean ====
section
/-! DEFINITION. What a commit does when it becomes live: on an output (R42, R48, R86, R285, R302, R309, R311, R345), on a fast-path entry that is promoted or demoted (R233, R234), and on ingress and egress flows (R171, R335). -/
namespace Sys2Proof.Machine

/-! Values that belong to an output (R42). -/

/-- The output to whose boundary a captured value is tied: its own, or PROMOTE_OUTPUT of an entry that is or becomes PROMOTED (R42, R233, R234). -/
def boundTo (base v : View) (a : Nat) : Option Nat :=
  match placeOf a with
  | .fast e _ => if v.fastState e = 2 then some (v.fastOut e) else if base.fastState e = 2 then some (base.fastOut e) else none
  | _ => v.outputOf a

/-- SHADOW_STAT.SEQ of the pages in which a commit became live (R34). -/
def Io.showSeq (io : Io) (seq : Nat) (xs : List (Nat × Word)) : Io :=
  ((xs.filterMap (fun x => match placeOf x.1 with
    | .page p _ => some p
    | _ => none)).eraseDups).foldl (fun (io : Io) p => io.setFld p Reg.SHADOW_STAT 16 16 (seq % 65536)) io

/-! Hidden layers (R86, R87, R299). -/

/-- Change a function's count of hidden layers (R84). -/
def Io.addHidden (io : Io) (fn : Nat) (up : Bool) : Io :=
  let n := io.fn fn Reg.HQ_FN_HIDDEN
  io.setFn fn Reg.HQ_FN_HIDDEN (if up then n + 1 else n - 1)

/-- A hidden layer returns (R86). -/
def Io.unhide (io : Io) (l : Nat) : Io :=
  let w := io.rd (laycAddr l 32)
  if bit w 23 then (io.wr (laycAddr l 32) (setBits w 23 3 0)).addHidden (bits w 16 6) false else io

/-- The layer contexts of an output show whether they are its Lid (R299, R309). -/
def Io.showLid (io : Io) (o : Nat) : Io :=
  let v := io.live
  (v.layersOf o).foldl (fun (io : Io) l => io.wr (laycAddr l 32) (setBit (io.rd (laycAddr l 32)) 22 (decide (v.lid o = some l)))) io

/-! Frame-rate stages and linear light (R285, R302). -/

/-- Source, mode, delay and geometry of a layer, on which its frame-rate stage depends (R285). -/
def View.frcWords (v : View) (o l : Nat) : List Word :=
  let slot := match v.slotOf o l with
    | some k => [v.route o (16 + 8 * k), v.route o (17 + 8 * k), v.route o (18 + 8 * k), v.get (slotStat o k) &&& 7]
    | none => []
  [2, 3, 4, 5, 24, 25].map (v.layer l) ++ slot ++ [v.outc o Reg.OUTC_RATE, v.outc o Reg.OUTC_PHASE]

/-- Stages whose layer has changed start afresh (R285). -/
def Scanout.frcRestart (sc : Scanout) (was now : View) (o : Nat) : Scanout :=
  { sc with frcs := sc.frcs.filter (fun f => decide (f.out ≠ o) || decide (was.frcWords o f.layer = now.frcWords o f.layer)) }

/-- The background and COLOUR values that a commit captured are converted afresh; the others keep what they were converted to (R302). -/
def relinear (v : View) (o : Nat) (xs : List (Nat × Word)) (slots : List Nat) (lin : FMap Nat) : FMap Nat :=
  let ground := xs.any (fun x => [Reg.OUTC_BG, Reg.LEG_BG, Reg.OUTC_COMP_CFG].any (fun off => decide (x.1 = outAddr o off)))
  let kept := fun k => if k = 0 then !ground else !slots.contains ((k - 1) / 2)
  if lin.isEmpty then lin
  else FMap.keep kept lin |> fun m => (linearOf v o).foldl (fun m e => if (FMap.find m e.1).isSome then m else FMap.insert m e.1 e.2) m

/-! A commit on an output (R48). -/

/-- OUTC_APPLY_SEQ, FRAME, TIME and the log of applications: the ring's next entry follows that of the last application (R48). -/
def Io.applyLog (io : Io) (o seq frame time : Nat) : Io :=
  let pg := outPage o
  let last := io.reg pg Reg.OUTC_APPLY_SEQ
  let entry := fun k => Reg.OUTC_APPLY_LOG + 8 * k
  let next := match (List.range 16).find? (fun k => decide (io.reg pg (entry k) = last ∧ last ≠ 0)) with
    | some k => (k + 1) % 16
    | none => 0
  let io := (io.put pg (entry next) (Word.of seq)).put pg (entry next + 4) (Word.of frame)
  ((io.put pg Reg.OUTC_APPLY_SEQ (Word.of seq)).putWide pg Reg.OUTC_APPLY_FRAME_LO frame).putWide pg Reg.OUTC_APPLY_TIME_LO time

/-- A fast-path entry is promoted, demoted or ended together with its PROMOTE_OUTPUT, whose next frame is `frame` (R233, R234). -/
def Dev.promote (d : Dev) (e frame : Nat) (xs : List (Nat × Word)) : Dev :=
  let was := d.io.live.fastState e
  let now := bits ((d.io.live.over xs).fast e 16) 0 2
  let d := if was = 2 ∧ now ≠ 2 then
      let (io, sc) := flushFlow d.macKey e 131072 d.io d.aud d.sc
      { d with io := io, sc := sc }
    else d
  let io := d.io.makeLive (xs.filter (fun x => x.1 ≠ fastAddr e 16))
  let v := io.live
  let ts := v.frameTs e frame
  let r := d.rt.fp e
  let old := r.carried
  let r := if was ≠ 2 ∧ now = 2 then
      { r with carried := none, turning := some (old, ts), held := [], heldAt := none, released := old.isNone, announced := true, silent := false, presentAt := none }
    else if was = 2 ∧ now = 1 then
      { r with carried := some (v.fastSrc e), turning := some (none, ts), held := [], heldAt := none, released := true, announced := true, silent := false, presentAt := none }
    else if now = 0 then { FpRt.fresh with changes := r.changes }
    else r
  let w := setBits (setBits (setBit (io.fpw e 16) 2 false) 0 2 now) 16 12 (v.fastSrc e)
  let io := io.setFpw e 16 (setBit w 3 (!r.changes.isEmpty))
  let io := if was = now then io else io.setFpw e 21 (Word.of (sat 32 ((io.fpw e 21).toNat + 1)))
  let rt := d.rt.setFp e r
  let io := match old with
    | some f => showFast f io rt
    | none => io
  let io := match r.carried with
    | some f => showFast f io rt
    | none => io
  let io := if was ≠ 2 ∧ now = 2 then (io.routLog e true 0 6).raise .rout 3 else if was = 2 ∧ now = 1 then (io.routLog e true 0 7).raise .rout 4 else io
  { d with io := io.showFpCount, rt := rt }

/-- Captured values become live on an output whose next frame is `frame`, at `time`. -/
def Dev.liveOn (d : Dev) (o frame : Nat) (xs : List (Nat × Word)) : Dev :=
  let was := d.io.live
  let slots := slotsCaptured was o xs
  let plain := xs.filter (fun x => match placeOf x.1 with
    | .fast _ _ => false
    | _ => true)
  let io := d.io.makeLive plain
  let io := (layersIn plain).foldl Io.unhide io
  let io := io.showLid o
  let sc := (d.sc.frcRestart was io.live o).relearn o (fun _ => true)
  let sc := match FMap.find sc.outs o with
    | some r => { sc with outs := FMap.insert sc.outs o { r with lin := relinear io.live o xs slots r.lin } }
    | none => sc
  let com := { d.com with
    held := d.com.held.map (fun h => { h with vals := h.vals.filter (fun x => !xs.any (fun y => y.1 = x.1)) })
    marked := d.com.marked.filter (fun m => !(layersIn plain).contains m.1) }
  let d : Dev := { d with io := io, sc := sc, com := com }
  (fastsIn xs).foldl (fun (d : Dev) e => d.promote e frame (xs.filter (fun x => match placeOf x.1 with
    | .fast q _ => decide (q = e)
    | _ => false))) d

/-- A commit applies to an output: what it captured there becomes live, and the output reports it (R48, R311). -/
def Dev.applyOutput (d : Dev) (o seq fn acceptedAt frame time : Nat) (xs : List (Nat × Word)) : Dev :=
  let d := d.liveOn o frame xs
  let d := d.onIo fun io => (io.applyLog o seq frame time).showSeq seq xs
  match d.outRt o with
  | some r => if fn = 0 && xs.any (fun x => x.1 = outAddr o Reg.OUTC_LID) then d.setOut o { r with lidAt := some acceptedAt } else d
  | none => d

/-- Frame count and boundary that an output shows (R48, R54). -/
def Io.frozenFrame (io : Io) (o : Nat) : Nat × Nat := (io.wide (outPage o) Reg.OUTC_FRAME_CNT_LO, io.wide (outPage o) Reg.OUTC_BOUNDARY_LO)

/-- Change an accepted commit; when its last output has applied it, that is announced. -/
def Dev.updPend (d : Dev) (seq : Nat) (f : Pend → Pend) : Dev :=
  match d.com.pend.find? (fun p => p.seq = seq) with
  | none => d
  | some p =>
    let p' := f p
    let d : Dev := { d with com := { d.com with pend := d.com.pend.map (fun x => if x.seq = seq then p' else x) } }
    if (!p.outs.isEmpty || p.waitT) && p'.outs.isEmpty && !p'.waitT then d.outputsDone p' else d

/-- Show PENDING and SALVO_ARMED of an output (R48), and APPLY_PENDING of its page. -/
def Dev.showCommitStat (d : Dev) (o : Nat) : Dev :=
  let mine := d.com.pend.filter (fun p => p.outs.contains o)
  d.onIo fun io =>
    (io.setFlag (outPage o) Reg.OUTC_COMMIT_STAT 0 (!mine.isEmpty)).setFlag (outPage o) Reg.OUTC_COMMIT_STAT 6 (mine.any (fun p => p.salvo.isSome))

/-- The values of an accepted commit that are tied to an output. -/
def Dev.valsOn (d : Dev) (p : Pend) (o : Nat) : List (Nat × Word) :=
  let v := d.io.live.over p.vals
  p.vals.filter (fun x => boundTo d.io.live v x.1 = some o)

/-- An accepted commit applies to an output that `frame` follows, but for the values in `kept`. -/
def Dev.applyPend (d : Dev) (o frame time : Nat) (kept : List Nat) (p : Pend) : Dev :=
  let xs := d.valsOn p o
  let d := d.applyOutput o p.seq p.fn p.acceptedAt frame time (xs.filter (fun x => !kept.contains x.1))
  d.updPend p.seq (fun p => { p with vals := p.vals.filter (fun x => !xs.contains x), outs := p.outs.filter (· ≠ o), lastFrame := frame })

/-- Pending commits of an output that is disabled apply at once, with the frozen frame count (R54). -/
def Dev.applyFrozen (d : Dev) (o : Nat) : Dev :=
  let held := d.com.held.filter (fun h => h.out = o)
  let (frame, time) := d.io.frozenFrame o
  let d := held.foldl (fun (d : Dev) h =>
    (d.liveOn o frame (h.over d.io.live)).onIo (fun io => io.wr (laycAddr h.layer 32) (setBit (io.rd (laycAddr h.layer 32)) 27 false))) d
  let d : Dev := { d with com := { d.com with held := d.com.held.filter (fun h => h.out ≠ o) } }
  let d := (d.com.pend.filter (fun p => p.outs.contains o)).foldl (fun (d : Dev) p => d.applyPend o frame time [] p) d
  (d.onIo fun io => io.setFld (outPage o) Reg.OUTC_COMMIT_STAT 1 4 0).showCommitStat o

/-! Flows (R171, R187, R335). -/

/-- The values of an ingress flow in a capture. -/
def flowPart (f : Nat) (xs : List (Nat × Word)) : List (Nat × Word) := xs.filter (fun x => match placeOf x.1 with
  | .flow g _ => decide (g = f)
  | _ => false)

/-- Words 24 to 29, which wait for the flow's frame boundary. -/
def lateWord (a : Nat) : Bool := match placeOf a with
  | .flow _ off => decide (0x60 ≤ off ∧ off < 0x78)
  | _ => false

/-- Captured words of an ingress flow: VALID decides what becomes live at acceptance (R171). -/
def Dev.flowCaptured (d : Dev) (f : Nat) (xs : List (Nat × Word)) : Dev :=
  let mine := flowPart f xs
  let was := d.io.live.flowValid f
  let now := (d.io.live.over mine).flowValid f
  if was && !now then
    let d := d.flowOff f
    d.onIo (fun io => io.makeLive mine)
  else if !was && now then
    d.watching fun d =>
      let old := d.io.live.members
      let io := (d.io.makeLive mine).setFlowState f 1
      let io := io.setFs f 32 (setBits (io.fs f 32) 3 2 0)
      let sv := { d.sv with flows := FMap.insert d.sv.flows f (newFlowRt io.now) }
      ({ d with io := io, sv := membershipChange old io.live.members io sv } : Dev).asrcs
  else if was then
    let old := d.io.live.members
    let io := d.io.makeLive (mine.filter (fun x => !lateWord x.1))
    let late := mine.filter (fun x => lateWord x.1)
    let sv := d.sv.upd f (fun r => { r with fmt := r.fmt.filter (fun y => !late.any (fun x => x.1 = y.1)) ++ late })
    { d with io := io, sv := membershipChange old io.live.members io sv }
  else d.onIo (fun io => io.makeLive mine)

/-- Captured words of an egress flow: a new flow waits for its source, a valid one takes them up at its next frame or packet (R335). VALID 0 is live at acceptance (R42). -/
def Dev.egressCaptured (d : Dev) (e : Nat) (xs : List (Nat × Word)) : Dev :=
  let mine := xs.filter (fun x => match placeOf x.1 with
    | .egr g _ => decide (g = e)
    | _ => false)
  let v := d.io.live
  let after := v.over mine
  if !v.egrValid e then
    let io := d.io.makeLive mine
    if after.egrValid e then
      let io := io.setEgrState e 2
      let r := if after.egrFeed e = 3 then audioStart io.live e io.now EgrRt.fresh else EgrRt.fresh
      { d with io := io, sc := d.sc.setEgr e r }
    else { d with io := io }
  else if !after.egrValid e then
    let r := d.sc.egrRt e
    let (io, sc) := egressStop e d.io (d.sc.setEgr e { r with pending := r.pending ++ mine })
    { d with io := io, sc := sc }
  else
    let r := d.sc.egrRt e
    let sc := d.sc.setEgr e { r with pending := r.pending.filter (fun y => !mine.any (fun x => x.1 = y.1)) ++ mine }
    let idle := if v.egrFeed e = 0 ∧ v.fastState e ≠ 2 then decide (v.fastState e = 0) else
      match v.frameOut e with
      | some o => (FMap.find sc.outs o).isNone
      | none => false
    if idle then
      let (io, sc) := egressPending e d.io sc
      { d with io := io, sc := sc }
    else { d with sc := sc }

end Sys2Proof.Machine
end

