-- ==== Sys2Proof/Machine/Commits.lean ====
section
/-! DEFINITION. Commits (R39 to R45, R51, R72, R322): capture, validation step by step, rejection, acceptance, and what acceptance sets going. -/
namespace Sys2Proof.Machine

/-! Capture (R39, R43, R44). -/

/-- The activation instant that TOP_SALVO holds, and whether its nanoseconds are out of range (R43, R56). -/
def Io.salvoTime (io : Io) : Nat × Bool :=
  let ns := (io.reg .top Reg.TOP_SALVO_NS).toNat
  (((io.reg .top (Reg.TOP_SALVO_NS + 4)).toNat + 2 ^ 32 * io.fld .top (Reg.TOP_SALVO_NS + 8) 0 16) * 1000000000 + ns, decide (999999999 < ns))

/-- A commit enters validation with what its function has dirtied; a dry run captures nothing (R39, R43). -/
def Dev.enqueue (d : Dev) (fn : Nat) (src : Option (Nat × Nat)) (salvo : Option (Nat × Bool)) (dry : Bool) : Dev :=
  let r : CommitReq := { fn := fn, src := src, salvo := salvo.map (·.1), badTime := (salvo.map (·.2)).getD false, dry := dry, vals := if dry then [] else d.io.dirtyOf fn }
  ({ d with io := if dry then d.io else d.io.captured fn, com := { d.com with queue := d.com.queue ++ [r] } } : Dev).showValidating

/-- GO, with SALVO and DRY_RUN: refused outside operation (R93), and recorded as COMMIT_BUSY during validation (R45). -/
def Dev.go (d : Dev) (salvo dry : Bool) : Dev :=
  if !d.io.ready then d.onIo (fun io => io.recordOpen .top 0x0319)
  else if !d.com.queue.isEmpty then d.onIo (fun io => io.recordErr .top 0x0110 0)
  else d.enqueue 0 none (if salvo then some d.io.salvoTime else none) dry

/-- A write of TOP_COMMIT (R43). -/
def Dev.commitWrite (d : Dev) (v : Word) : Dev :=
  let d' := d.onIo (fun io => io.regWrite 0 .top Reg.TOP_COMMIT v)
  if d.io.accepts .top Reg.TOP_COMMIT v && bit v 0 then d'.go (bit v 1) (bit v 2) else d'

/-- COMMIT_GO (R43, R44): GO alone. -/
def execCommitGo (s : State) : Host.Outcome State Fault Refusal := s.run fun d => d.commitWrite 1

/-- COMMIT_SALVO (R43, R51): GO with SALVO. -/
def execCommitSalvo (s : State) : Host.Outcome State Fault Refusal := s.run fun d => d.commitWrite 3

/-- COMMIT_DRY_RUN (R43): GO with DRY_RUN. -/
def execCommitDryRun (salvo : Bool) (s : State) : Host.Outcome State Fault Refusal := s.run fun d => d.commitWrite (if salvo then 7 else 5)

/-- A write of LEG_UPDATE: GO acts as TOP_COMMIT.GO written by PF0 (R322). -/
def Dev.legWrite (d : Dev) (o : Nat) (v : Word) : Dev :=
  let d' := d.onIo (fun io => io.regWrite 0 (outPage o) Reg.LEG_UPDATE v)
  if d.io.accepts (outPage o) Reg.LEG_UPDATE v && bit v 0 then d'.go false false else d'

/-- LEG_UPDATE (R322). -/
def execLegUpdate (o : Fin 512) (v : Word) (s : State) : Host.Outcome State Fault Refusal := s.run fun d => d.legWrite o v

/-- `CMD_COMMIT` (R72). -/
def commitCommand (c : Cmd) (d : Dev) : Dev :=
  if c.strays [3, 0xFFFFFFFF, 0xFFFFFFFF, 0xFFFF] then d.complete c.q c.tag (Reply.rejected 0x0213)
  else
    let t := ((c.p 2).toNat + 2 ^ 32 * bits (c.p 3) 0 16) * 1000000000 + (c.p 1).toNat
    d.enqueue c.fn (some (c.q, c.tag)) (if bit (c.p 0) 0 then some (t, decide (999999999 < (c.p 1).toNat)) else none) (bit (c.p 0) 1)

/-- CMD_COMMIT (R72). -/
def execCmdCommit (q : Fin 316) (tag : BitVec 16) (s : State) : Host.Outcome State Fault Refusal :=
  s.run fun d => d.command 0x01 q tag.toNat commitCommand

/-! Validation (R44). -/

/-- How validation ends: the jobs of the state after the commit with their engines, or status, code and detail. -/
inductive Verdict where
  | pass (jobs : List Job)
  | fail (status code : Nat) (info : Option Nat)

/-- What admission judges with the commit (R21, R238). -/
def Proposal.adm (p : Proposal) : Adm :=
  { views := p.d.views ++ [p.v], final := p.v, st := p.d.st, outs := p.d.io.outsOn, hidden := p.d.hiddenAfter p.vals, flat := p.d.flatAfter p.vals }

/-- The outputs that captured values are tied to, rising. -/
def Proposal.outs (p : Proposal) : List Nat :=
  sortBy (fun a b => decide (a ≤ b)) (p.vals.filterMap (fun x => boundTo p.base p.v x.1)).eraseDups

/-- Fast-path entries that switch on their own reference grid: EN before or after, and no promotion (R231, R237). -/
def Proposal.switches (p : Proposal) : List Nat :=
  (fastsIn p.vals).filter fun e => (boundTo p.base p.v (fastAddr e 0)).isNone && (p.base.fastEn e || p.v.fastEn e)

/-- Output channels that change: those captured, and the enabled channels of captured groups (R366). -/
def Proposal.channels (p : Proposal) : List Nat :=
  let gs := groupsIn p.vals
  sortBy (fun a b => decide (a ≤ b)) (channelsIn p.vals ++ p.v.audChannels.filter (fun c => gs.contains (p.v.audGroup c))).eraseDups

/-- The latch line before an output's target boundary has begun (R51). -/
def View.outLate (v : View) (o t now : Nat) : Bool :=
  let tm := v.timing o
  let n := tm.rate.frameFrom tm.phase t
  decide (n = 0) || tm.lineBegun (n - 1) (tm.latchLine (bits (v.outc o Reg.OUTC_LATCH_GUARD) 0 4)) now

/-- What is too late for a salvo, lowest kind and index first (R51, R237, R366, R392, R492). -/
def Proposal.tooLate (p : Proposal) (t : Nat) : Option Rejection :=
  let now := p.d.io.now
  let live := p.d.io.live
  let audio := decide (t < now + 500000)
  let pick := fun (k : Nat) (x : Option Nat) => x.map (fun i => ((0x0111, some (i + k * 2 ^ 14)) : Rejection))
  firstOf
    [ pick 0 ((p.outs.filter p.d.io.outOn).find? (fun o => live.outLate o t now))
    , pick 1 (p.switches.find? (fun e => decide ((p.v.fpRate e).boundary 0 (p.v.switchFrame e t) < now)))
    , pick 2 (if audio then p.channels.head? else none)
    , if audio && p.channels.isEmpty && !(groupsIn p.vals).isEmpty then some (0x0111, none) else none
    , pick 3 (if audio then (portsIn p.vals).head? else none) ]

/-- Step 6: the salvo's instant, the limit on salvos, the backlog, and what is too late (R44, R45, R51). -/
def Proposal.timing (p : Proposal) (r : CommitReq) : Option Rejection :=
  let now := p.d.io.now
  let backlog := fails (decide (256 ≤ p.d.com.pend.length)) 0x0113 0
  match r.salvo with
  | none => backlog
  | some t =>
    firstOf
      [ fails r.badTime 0x0115 0
      , fails (decide (now + 60000000000 < t)) 0x0112 0
      , fails (!p.outs.any p.d.io.outOn && decide (t < now)) 0x0116 0
      , fails (decide (64 ≤ (p.d.com.pend.filter (fun q => q.salvo.isSome)).length)) 0x0114 0
      , backlog
      , p.tooLate t ]

/-- Validation in the order of R44, stopping at the first failure. A commit that captures nothing is accepted (R45). -/
def Proposal.judge (p : Proposal) (r : CommitReq) : Verdict :=
  if p.own.isEmpty && !(r.salvo.isSome && r.badTime) then .pass p.d.sc.jobs
  else match p.denied with
  | some code => .fail 7 code none
  | none =>
    match p.quota with
    | some code => .fail 8 code none
    | none =>
      let early := orElse (orElse p.inconsistent p.guardBad) (p.adm.judge.map (fun x => (x.1, some x.2)))
      match early with
      | some x => .fail 5 x.1 x.2
      | none =>
        let jobs := distribute p.d.io.engines p.d.sc.jobs p.adm.jobs
        match unplaced jobs with
        | some j => .fail 5 0x0916 (some j.layer)
        | none =>
          match p.timing r with
          | some x => .fail 5 x.1 x.2
          | none => .pass jobs

/-- TOP_COMMIT_STAT of a register commit (R43). -/
def Io.showVerdict (io : Io) (code : Option Nat) : Io :=
  let io := (io.setFlag .top Reg.TOP_COMMIT_STAT 1 code.isNone).setFlag .top Reg.TOP_COMMIT_STAT 2 code.isSome
  match code with
  | some c => io.setFld .top Reg.TOP_COMMIT_STAT 16 16 c
  | none => io

/-- A rejection: its code and detail, event 2033, the captured shadows discarded, and the command's completion (R39, R44). A dry run only reports (R43). -/
def Dev.reject (d : Dev) (r : CommitReq) (status code : Nat) (info : Option Nat) : Dev :=
  let d := d.onIo (fun io => if r.src.isNone then io.showVerdict (some code) else io)
  let d := if r.dry then d
    else d.onIo fun io =>
      let io := match info with
        | some i => io.recordErr .top code i
        | none => io.recordOpen .top code
      (io.raise .top 3).discard (r.vals.map (·.1))
  d.reply r.src { status := status, code := code, hi := 0, lo := 0 }

/-! Acceptance (R42, R45). -/

/-- Clean shadows of words that the part itself writes with a capture follow them (R233, R320). -/
def Io.follow (io : Io) (xs : List (Nat × Word)) : Io :=
  xs.foldl (fun (io : Io) x =>
    match FMap.find io.shadow x.1 with
    | some s => if s.dirty then io else { io with shadow := FMap.insert io.shadow x.1 { s with val := x.2 } }
    | none => io) io

/-- Captured words of a fast-path entry that is OFF and stays OFF are live at once; a change waits for its switch frame, REF being set for a new flow (R230 to R232, R235). -/
def Dev.fastCaptured (d : Dev) (e at_ seq : Nat) (base v : View) (xs : List (Nat × Word)) : Dev :=
  let mine := xs.filter (fun x => match placeOf x.1 with
    | .fast q w => decide (q = e ∧ w ≠ 16)
    | _ => false)
  if !base.fastEn e && !v.fastEn e then d.onIo (fun io => io.makeLive mine)
  else
    let ref := fun (a : Nat) => decide (fastAddr e 17 ≤ a ∧ a < fastAddr e 24)
    let io := d.io.makeLive (mine.filter (fun x => ref x.1))
    let src := v.fastSrc e
    let (flow, backup) := if !v.fastEn e then (none, false)
      else
        match v.fastBkp e with
        | some b => if io.flowLost src && io.flowPresent b then (some b, true) else (some src, false)
        | none => (some src, false)
    let (io, rt) := fpAccept e { seq := some seq, frame := v.switchFrame e at_, flow := flow, backup := backup, vals := mine.filter (fun x => !ref x.1) } io d.rt
    { d with io := io, rt := rt }

/-- Changes of output channels begin at their change instant (R366). -/
def Dev.channelsCaptured (d : Dev) (p : Proposal) (at_ seq : Nat) : Dev :=
  { d with aud := p.channels.foldl (fun (a : Audio) c =>
      let words := p.vals.filterMap fun x => if audAddr c 0 ≤ x.1 ∧ x.1 < audAddr (c + 1) 0 then some ((x.1 - audAddr c 0) / 4, x.2) else none
      audAccept c { at_ := at_, seq := some seq, words := words, follow := none } a) d.aud }

/-- Masks and bases of TDM ports wait for their frame sync (R392). -/
def Dev.portsCaptured (d : Dev) (p : Proposal) (at_ seq : Nat) : Dev :=
  (portsIn p.vals).foldl (fun (d : Dev) q =>
    d.onTdm (masksCaptured q at_ (some seq) (p.vals.filter (fun x => match placeOf x.1 with
      | .page (.tdmp k) _ => decide (k.val = q)
      | _ => false)))) d

/-- The kinds of captured state (R42): what is tied to an output, to a boundary of its own, or to nothing. -/
inductive Kind where
  | output (o : Nat)
  | flow | fast | egress | channel | group | port | plain
  deriving DecidableEq, Repr

/-- The kind of a captured address. -/
def Proposal.kind (p : Proposal) (a : Nat) : Kind :=
  match boundTo p.base p.v a with
  | some o => .output o
  | none =>
    match placeOf a with
    | .flow _ _ => .flow
    | .fast _ _ => .fast
    | .egr _ _ => .egress
    | .audio off => if off < 0x80000 then .channel else if 0xD4000 ≤ off ∧ off < 0xD8000 then .group else .plain
    | .page (.tdmp _) _ => .port
    | _ => .plain

/-- Captured values of an output that is disabled, or that a salvo holds until its instant: they apply with the frozen frame count (R42, R54). -/
def Dev.applyOff (d : Dev) (seq fn acceptedAt : Nat) (xs : List (Nat × Word)) (outOf : Nat → Option Nat) : Dev :=
  let outs := sortBy (fun a b => decide (a ≤ b)) (xs.filterMap (fun x => outOf x.1)).eraseDups
  outs.foldl (fun (d : Dev) o =>
    let (frame, time) := d.io.frozenFrame o
    d.applyOutput o seq fn acceptedAt frame time (xs.filter (fun x => outOf x.1 = some o))) d

/-- The jobs of the state after a commit are placed; jobs that end with it run until their latch line (R263, R265). -/
def Dev.placeJobs (d : Dev) (jobs : List Job) : Dev :=
  let js := jobs ++ d.sc.jobs.filter (fun j => !jobs.any j.same)
  { d with sc := { d.sc with jobs := js }, io := d.io.showJobs d.io.engines js }

/-- A commit is accepted: its sequence number, and what it captured becomes live or waits for its boundary (R42, R45). -/
def Dev.accept (d : Dev) (r : CommitReq) (p : Proposal) (jobs : List Job) : Dev :=
  let seq := ((d.io.reg .top Reg.TOP_COMMIT_SEQ).toNat + 1) % 2 ^ 32
  let now := d.io.now
  let at_ := r.salvo.getD now
  let of := fun (f : Kind → Bool) => p.vals.filter (fun x => f (p.kind x.1))
  let on := fun (k : Kind) => match k with
    | .output o => d.io.outOn o
    | _ => false
  let off := fun (k : Kind) => match k with
    | .output o => !d.io.outOn o
    | _ => false
  let outs := p.outs.filter d.io.outOn
  let d := (d.onIo fun io =>
    let io := (io.put .top Reg.TOP_COMMIT_SEQ (Word.of seq)).putWide .top Reg.TOP_COMMIT_TIME_LO io.ns64
    let io := (if r.src.isNone then io.showVerdict none else io).raise .top 2
    let io := io.follow (p.vals.drop p.own.length)
    (io.makeLive (of (fun k => decide (k = .plain)))).showSeq seq (of (fun k => decide (k = .plain)))).past r.src
  let d := (flowsIn p.vals).foldl (fun (d : Dev) f => d.flowCaptured f p.vals) d
  let d := (egrsIn p.vals).foldl (fun (d : Dev) e => d.egressCaptured e p.vals) d
  let d := ((fastsIn p.vals).filter (fun e => (boundTo p.base p.v (fastAddr e 0)).isNone)).foldl (fun (d : Dev) e => d.fastCaptured e at_ seq p.base p.v p.vals) d
  let d := (d.channelsCaptured p at_ seq).portsCaptured p at_ seq
  let rest := of off ++ of (fun k => decide (k = .group))
  let wait := decide (now < at_) && !rest.isEmpty
  let outOf := fun a => match p.kind a with
    | .output o => some o
    | _ => none
  let d := if wait then d else (d.onIo (fun io => io.makeLive (of (fun k => decide (k = .group))))).applyOff seq r.fn now (of off) outOf
  let frame := match (p.outs.filter (fun o => !d.io.outOn o)).getLast? with
    | some o => (d.io.frozenFrame o).1
    | none => 0
  let pend : Pend :=
    { seq := seq, fn := r.fn, src := r.src, salvo := r.salvo, acceptedAt := now
      vals := of on ++ of (fun k => decide (k = .fast ∨ k = .channel ∨ k = .port)) ++ (if wait then rest else [])
      outs := outs, fasts := p.switches, waitT := wait, deferred := false, lastFrame := frame, named := !p.outs.isEmpty }
  let d : Dev := { d with com := { d.com with pend := d.com.pend ++ [pend] } }
  let promoted := (fastsIn p.vals).filter (fun e => match boundTo p.base p.v (fastAddr e 0) with
    | some o => outs.contains o
    | none => false)
  let d := d.onIo fun io => promoted.foldl (fun (io : Io) e => io.setFpw e 16 (setBit (io.fpw e 16) 3 true)) io
  let d := (outs.foldl Dev.showCommitStat d).placeJobs jobs
  if outs.isEmpty && !wait then d.outputsDone pend else d

/-- Validation of the first commit in the queue ends (R44). -/
def Dev.validationEnds (d : Dev) : Dev :=
  match d.com.queue with
  | [] => d
  | r :: rest =>
    let d : Dev := { d with com := { d.com with queue := rest } }
    let xs := if r.dry then d.io.dirtyOf r.fn else r.vals
    let p := d.proposal r.fn xs
    let d := match p.judge r with
      | .fail status code info => d.reject r status code info
      | .pass jobs =>
        if r.dry then (d.onIo (fun io => if r.src.isNone then io.showVerdict none else io)).reply r.src (Reply.done 0 0)
        else d.accept r p jobs
    d.showValidating.showPend

/-- COMMIT_VALIDATION_END (R44, R45). -/
def execCommitValidationEnd (dt : Nat) (s : State) : Host.Outcome State Fault Refusal := s.settled fun d => (d.tick dt).validationEnds

/-! Instants of accepted commits (R42, R231, R366). -/

/-- The instants of pending salvos that have come: their values for disabled outputs and groups become live (R42, R366). -/
def Dev.salvosDue (d : Dev) : Dev :=
  (d.com.pend.filter (fun p => p.waitT && decide (p.salvo.getD 0 ≤ d.io.now))).foldl (fun (d : Dev) p =>
    let v := d.io.live.over p.vals
    let outOf := fun a => match boundTo d.io.live v a with
      | some o => if p.outs.contains o then none else some o
      | none => none
    let group := fun (a : Nat) => match placeOf a with
      | .audio off => decide (0xD4000 ≤ off)
      | _ => false
    let mine := p.vals.filter (fun x => (outOf x.1).isSome)
    let d := (d.onIo (fun io => io.makeLive (p.vals.filter (fun x => group x.1)))).applyOff p.seq p.fn p.acceptedAt mine outOf
    let frame := match (mine.filterMap (fun x => outOf x.1)).getLast? with
      | some o => (d.io.frozenFrame o).1
      | none => p.lastFrame
    d.updPend p.seq (fun p => { p with waitT := false, lastFrame := if p.outs.isEmpty then frame else p.lastFrame
                                       vals := p.vals.filter (fun x => !mine.contains x && !group x.1) })) d

/-- SALVO_ACTIVATION (R42). -/
def execSalvoActivation (dt : Nat) (s : State) : Host.Outcome State Fault Refusal := s.settled fun d => (d.tick dt).salvosDue

/-- AUDIO_CHANGE_POINT (R366): a group that a salvo sets changes at the same instant. -/
def execAudioChangePoint (ch : Fin 16384) (dt : Nat) (s : State) : Host.Outcome State Fault Refusal :=
  s.settled fun d => ((d.tick dt).salvosDue.onAud (changePoint ch)).asrcs

/-- The commit that made a change of a fast-path entry no longer waits for the entry (R232). -/
def Dev.fastReached (d : Dev) (e : Nat) (seq : Option Nat) : Dev :=
  match seq with
  | some n =>
    if (d.rt.fp e).changes.any (fun c => c.seq = some n) then d
    else { d with com := { d.com with pend := d.com.pend.map (fun p => if p.seq = n then { p with fasts := p.fasts.filter (· ≠ e) } else p) } }
  | none => d

/-- At a switch frame the entry changes its flow; one that takes up a lost flow sends nothing (R231, R232, R235). -/
def Dev.fastSwitch (d : Dev) (e : Nat) : Dev :=
  let (c, io, rt) := fpSwitch e d.io d.rt
  let d : Dev := { d with io := io, rt := rt }
  match c with
  | none => d
  | some c =>
    let d := d.fastReached e c.seq
    match c.flow with
    | some f =>
      if c.seq.isSome && d.io.flowLost f then
        { d with io := (d.io.routLog e true 0 8).raise .rout 5, rt := d.rt.setFp e { d.rt.fp e with silent := true } }
      else d
    | none => d

/-- FP_SWITCH (R231, R232). -/
def execFpSwitch (e : Fin 4096) (dt : Nat) (s : State) : Host.Outcome State Fault Refusal := s.settled fun d => (d.tick dt).fastSwitch e

end Sys2Proof.Machine
end

