-- ==== Sys2Proof/Machine/Latch.lean ====
section
/-! DEFINITION. The latch line of an output (R46 to R50, R318) and its frame boundary (R327, R331, R332): commits with their deferral, slots, hidden layers (R27, R86), Lid trips (R311), jobs (R265), downgrades (R289, R410). -/
namespace Sys2Proof.Machine

/-! Step 1: commits (R46, R47, R49). -/

/-- A layer's source or backup is a handle, or a flow with a store, whose fence has not signalled (R49, R204). -/
def Dev.unready (d : Dev) (v : View) (o l : Nat) : Bool :=
  match v.slotOf o l with
  | some k => [false, true].any fun b => ((d.st.known (v.slotHandle o k b)).map (fun s => !s.fence)).getD false
  | none => false

/-- Layers held back whose fence has signalled take their committed state (R49). -/
def Dev.releaseHeld (d : Dev) (o frame : Nat) : Dev × List Nat :=
  (d.com.held.filter (fun h => h.out = o)).foldl (fun (x : Dev × List Nat) h =>
    let (d, done) := x
    let xs := h.over d.io.live
    if d.unready (d.io.live.over xs) o h.layer then x
    else
      let d := d.liveOn o frame xs
      let d := d.onIo fun io => io.wr (laycAddr h.layer 32) (setBit (io.rd (laycAddr h.layer 32)) 27 false)
      ({ d with com := { d.com with held := d.com.held.filter (fun x => x.layer ≠ h.layer) } }, h.layer :: done)) (d, [])

/-- The accepted commits that an output takes up before a boundary: single commits, and salvos whose instant is at or before it (R46, R51). -/
def Dev.due (d : Dev) (o time : Nat) (salvosOnly : Bool) : List Pend :=
  d.com.pend.filter fun p => p.outs.contains o && (match p.salvo with
    | some t => decide (t ≤ time)
    | none => !salvosOnly)

/-- The addresses of a layer and its route slot, which stay as they are while it is held back (R49). -/
def heldAddr (o l k a : Nat) : Bool :=
  match placeOf a with
  | .layc m off => decide (m = l ∧ off < 0x80)
  | .route q w => decide (q = o ∧ 16 + 8 * k ≤ w ∧ w < 24 + 8 * k)
  | _ => false

/-- Captured values of a layer that is held back, and of its slot, wait with it (R49). -/
def Dev.keepBack (d : Dev) (o l k : Nat) (xs : List (Nat × Word)) : Dev :=
  let mine := xs.filter (fun x => heldAddr o l k x.1)
  let old := ((d.com.held.filter (fun h => h.layer = l)).flatMap (·.vals)).filter (fun x => !mine.any (fun y => y.1 = x.1))
  let held := d.com.held.filter (fun h => h.layer ≠ l) ++ [{ out := o, layer := l, slot := k, vals := old ++ mine }]
  { d with com := { d.com with held := held } }

/-- A layer whose fence is unsignalled at the limit of deferral keeps its previous live state (R49). -/
def Dev.holdLayer (d : Dev) (o l k : Nat) (xs : List (Nat × Word)) : Dev :=
  (d.keepBack o l k xs).onIo fun io => ((io.wr (laycAddr l 32) (setBit (io.rd (laycAddr l 32)) 27 true)).put .top Reg.ERR_INFO (Word.of l)).raise .top 6

/-- What step 1 of a latch line gives: the part, the layers whose state has changed, and the slots that commits captured. -/
structure Applied where
  d : Dev
  layers : List Nat
  slots : List Nat

/-- The frame that follows, and its boundary, in a view (R327). -/
def View.nextBoundary (v : View) (o : Nat) (r : OutRt) : Nat × Nat :=
  let n := nextFrame v o r
  (n, (v.timing o).lineStart n 0)

/-- Step 1: deferred, or applied in sequence order with unready layers held back (R47 to R50). The fences tested are those of the handles that captured route slots name (DEDUCED, log 23). -/
def Dev.applyDue (d : Dev) (o : Nat) (r : OutRt) (salvosOnly : Bool) : Applied :=
  let was := d.io.live
  let (d, released) := d.releaseHeld o (nextFrame was o r)
  let freed := released.filterMap (fun l => d.io.live.slotOf o l)
  let due := d.due o (was.nextBoundary o r).2 salvosOnly
  let xs := due.flatMap (fun p => d.valsOn p o)
  let after := d.io.live.over xs
  let slots := slotsCaptured d.io.live o xs
  let layers := (layersIn xs ++ slots.map (after.slotLayer o) ++ slots.map (d.io.live.slotLayer o)).eraseDups
  if due.isEmpty then { d := d, layers := released, slots := freed }
  else
    let named := (slots.map (after.slotLayer o) ++ slots.map (d.io.live.slotLayer o)).eraseDups
    let bad := named.filter (d.unready after o)
    let still := layers.filter (fun l => d.com.held.any (fun h => h.layer = l) && !bad.contains l)
    let n := d.io.fld (outPage o) Reg.OUTC_COMMIT_STAT 2 3
    if !bad.isEmpty ∧ n < d.io.fld .top Reg.TOP_COMMIT_DEFER_MAX 0 3 then
      let io := (d.io.setFlag (outPage o) Reg.OUTC_COMMIT_STAT 1 true).setFld (outPage o) Reg.OUTC_COMMIT_STAT 2 3 (n + 1)
      let pend := d.com.pend.map (fun p => if due.any (fun q => q.seq = p.seq) then { p with deferred := true } else p)
      { d := { d with io := io.raise .top 5, com := { d.com with pend := pend } }, layers := released, slots := freed }
    else
      let (frame, time) := after.nextBoundary o r
      let pairs := bad.filterMap (fun l => (after.slotOf o l).map (fun k => (l, k)))
      let waits := still.filterMap (fun l => (after.slotOf o l).map (fun k => (l, k)))
      let kept := (xs.map (·.1)).filter (fun a => (pairs ++ waits).any (fun x => heldAddr o x.1 x.2 a))
      let ens := pairs.map (fun x => (x.2, d.io.live.slotEn o x.2))
      let d := due.foldl (fun (d : Dev) p => d.applyPend o frame time kept p) d
      let d := d.onIo fun io => ens.foldl (fun (io : Io) e => io.wr (routeAddr o 0) (setBit (io.rd (routeAddr o 0)) e.1 e.2)) io
      let d := waits.foldl (fun (d : Dev) x => d.keepBack o x.1 x.2 xs) d
      let d := pairs.foldl (fun (d : Dev) x => d.holdLayer o x.1 x.2 xs) d
      let d := d.onIo fun io =>
        (io.setFld (outPage o) Reg.OUTC_COMMIT_STAT 1 4 0).setFlag (outPage o) Reg.OUTC_COMMIT_STAT 5 (!bad.isEmpty)
      { d := d.showCommitStat o, layers := (released ++ layers.filter (fun l => !bad.contains l && !still.contains l)).eraseDups
        slots := (freed ++ slots.filter (fun k => !(pairs ++ waits).any (fun x => x.2 = k))).eraseDups }

/-! Step 3: hidden layers (R27, R86, R87, R319). -/

/-- Layers in the rank of R86: ascending priority, the higher index first; never the Lid, a static layer or one that releases no charge (R319). -/
def Dev.ranked (d : Dev) (mine : Nat → Bool) : List Nat :=
  let v := d.io.live
  let may := fun l =>
    let o := v.layerOut l
    mine l && !v.layerHidden l && !d.com.marked.any (fun m => m.1 = l) && decide (v.lid o ≠ some l) && !v.layerStatic l && d.io.outOn o &&
      (match v.slotOf o l with
       | some k =>
         let c := v.slotCharge d.st o k (v.layerMode l)
         v.slotWorks o k && decide (c.eng.num ≠ 0 ∨ c.hbm.num ≠ 0)
       | none => false)
  sortBy (fun a b => decide (v.layerPriority a < v.layerPriority b) || (decide (v.layerPriority a = v.layerPriority b) && decide (b ≤ a))) (v.layers.filter may)

/-- Mark layers in their rank while a cause stands. -/
def markWhile (cause : List Nat → Option Nat) : List Nat → List (Nat × Nat) → List (Nat × Nat)
  | [], ms => ms
  | l :: ls, ms =>
    match cause (ms.map (·.1)) with
    | some c => markWhile cause ls (ms ++ [(l, c)])
    | none => ms

/-- Layers that show nothing or are marked to. -/
def Dev.gone (d : Dev) (ms : List Nat) (l : Nat) : Bool := d.io.live.layerHidden l || ms.contains l || d.com.marked.any (fun m => m.1 = l)

/-- The quota that a function's live charge exceeds once the layers in `ms` are hidden: cause 0 bandwidth, 1 pixel rate (R85, R87). -/
def Dev.overCause (d : Dev) (fn : Nat) (ms : List Nat) : Option Nat :=
  (d.io.overQuota fn (d.fnCharge d.io.live (d.gone ms) d.sc.flat fn)).map (fun code => if code = 0x0223 then 0 else 1)

/-- OVER_RATE of a function follows its live charge, and UNMET ends with it (R84, R86). -/
def Dev.showRate (d : Dev) (fn : Nat) : Dev :=
  if fn = 0 then d
  else
    let much := (d.io.overQuota fn (d.fnCharge d.io.live d.io.live.layerHidden d.sc.flat fn)).isSome
    d.onIo fun io =>
      let w := Word.of (io.fn fn Reg.HQ_FN_STAT)
      io.setFn fn Reg.HQ_FN_STAT (setBit (setBit w 3 much) 4 (bit w 4 && much)).toNat

/-- Functions whose quota was cut are ranked at the first latch line of an output of theirs (R86). -/
def Dev.rankCuts (d : Dev) (o : Nat) : Dev :=
  (d.com.cuts.filter (fun f => d.hq.outOwner o = f)).foldl (fun (d : Dev) f =>
    let ms := markWhile (d.overCause f) (d.ranked (fun l => decide (d.io.live.layerOwner l = f))) []
    let d : Dev := { d with com := { d.com with marked := d.com.marked ++ ms, cuts := d.com.cuts.filter (· ≠ f) } }
    if (d.overCause f []).isSome then
      (d.onIo fun io => (io.setFn f Reg.HQ_FN_STAT (setBit (Word.of (io.fn f Reg.HQ_FN_STAT)) 4 true).toNat).raise .hq 6)
    else d) d

/-- Capacity falls short once the layers in `ms` are hidden: budgets 1 and 2, or a job without an engine (R27). -/
def Dev.shortWithout (d : Dev) (ms : List Nat) : Option Nat :=
  let a := { d.liveAdm with hidden := d.gone ms }
  let jobs := a.jobs
  if a.short (distribute d.io.engines (d.sc.jobs.filter (fun j => jobs.any j.same)) jobs) then some 2 else none

/-- While capacity falls short, layers of every function are ranked (R27). -/
def Dev.rankShed (d : Dev) : Dev :=
  if !d.com.shed then d
  else
    let ms := markWhile d.shortWithout (d.ranked (fun _ => true)) []
    { d with com := { d.com with marked := d.com.marked ++ ms, shed := false } }

/-- A marked layer is hidden at its own output's latch line: its log entry, its notice and source 2004 (R86, R87). -/
def Dev.hide (d : Dev) (frame l cause : Nat) : Dev :=
  let w := d.io.rd (laycAddr l 32)
  let fn := bits w 16 6
  let io := (d.io.wr (laycAddr l 32) (setBits (setBit w 23 true) 24 2 cause)).addHidden fn true
  let io := io.logTo .hq 0x50 0x100 64 2 [Word.of (l + fn * 2 ^ 16 + cause * 2 ^ 24), Word.of frame]
  let d : Dev := { d with io := io, com := { d.com with marked := d.com.marked.filter (fun m => m.1 ≠ l) } }
  (d.notice fn (if cause = 2 then 0x021C else 0x0219) l).onIo (fun io => io.raise .hq 5)

/-- Step 3. -/
def Dev.hideLayers (d : Dev) (o frame : Nat) : Dev × List Nat :=
  let d := (d.rankCuts o).rankShed
  let mine := d.com.marked.filter (fun m => d.io.live.layerOut m.1 = o)
  (mine.foldl (fun (d : Dev) m => d.hide frame m.1 m.2) d, mine.map (·.1))

/-! Step 4: Lid trips (R311). -/

/-- Mismatches reported since the last latch line are acted on, and a PF0 commit that captured OUTC_LID and was accepted after the report clears the trip. -/
def lidStep (o : Nat) (io : Io) (r : OutRt) : Io × OutRt :=
  let pg := outPage o
  let action := io.fld pg Reg.OUTC_LID 13 2
  let tripped := io.flag pg Reg.OUTC_LID_STAT 0
  let io := if tripped && r.tripAt.isSome && decide (io.acted o = 0) && decide (action = 1 ∨ action = 2) then
      (io.setFld pg Reg.OUTC_LID_STAT 1 2 action).raise pg (21 + action)
    else io
  let cleared := match r.tripAt, r.lidAt with
    | some t, some a => decide (t ≤ a)
    | none, some _ => true
    | _, none => false
  if (tripped || decide (io.acted o ≠ 0)) && cleared then (io.setFld pg Reg.OUTC_LID_STAT 0 3 0, { r with tripAt := none }) else (io, r)

/-! Jobs (R263 to R265, R426). -/

/-- The jobs of the state after every accepted commit. -/
def Dev.jobsAfter (d : Dev) : List Job :=
  let vals := d.com.pend.flatMap (·.vals)
  let a : Adm := { views := [d.after], final := d.after, st := d.st, outs := d.io.outsOn, hidden := d.hiddenAfter vals, flat := d.flatAfter vals }
  a.jobs

/-- The jobs of an output follow its state: those of no state leave, new ones and those without an engine are placed where one has room. -/
def Dev.rehome (d : Dev) (o : Nat) : Dev :=
  let es := d.io.engines
  let live := d.liveAdm.jobs
  let want := live ++ d.jobsAfter
  let kept := d.sc.jobs.filter (fun j => decide (j.out ≠ o) || want.any j.same)
  let home := kept.filter (fun j => j.target.isSome)
  let rest := kept.filter (fun j => j.target.isNone) ++ live.filter (fun j => decide (j.out = o) && !kept.any j.same)
  let js := if rest.isEmpty then home else placeAll es (boundFigure (home ++ rest)) (byCharge rest) home
  { d with sc := { d.sc with jobs := js } }

/-- Jobs of an output that are to move do so: each counts, and raises JOB_MOVED on the new engine's page (R265). -/
def Dev.moveJobs (d : Dev) (o : Nat) : Dev :=
  let movers := d.sc.jobs.filter (fun j => decide (j.out = o) && j.moveTo.isSome)
  let io := movers.foldl (fun (io : Io) j =>
    let io := io.put .top Reg.TOP_DIST_MOVES (Word.of (sat 32 ((io.reg .top Reg.TOP_DIST_MOVES).toNat + 1)))
    match j.moveTo.bind io.physical with
    | some e => io.raise (.prsm e) 4
    | none => io) d.io
  let jobs := d.sc.jobs.map (fun j => if j.out = o ∧ j.moveTo.isSome then { j with engine := j.moveTo, moveTo := none } else j)
  { d with io := io.showJobs io.engines jobs, sc := { d.sc with jobs := jobs } }

/-! Heat (R289, R410). -/

/-- At SHED2 the mode-3 layers of a DEGRADABLE output run as mode 2; a resumed stage begins its fields afresh (R289). -/
def frcHeat (o : Nat) (io : Io) (sc : Scanout) : Io × Scanout :=
  let pg := outPage o
  let v := io.live
  let on := decide (3 ≤ io.level) && io.flag pg Reg.OUTC_FRC_CTL 0
  let was := io.flag pg Reg.OUTC_FRC_STAT 0
  let three := (v.visibleSlots o).filter (fun k => v.layerMode (v.slotLayer o k) = 3)
  let io := (io.setFlag pg Reg.OUTC_FRC_STAT 0 on).setFld pg Reg.OUTC_FRC_STAT 8 5 (if on then three.length else 0)
  let io := if on && !was then io.raise pg 18 else if was && !on then io.raise pg 19 else io
  (io, { sc with frcs := sc.frcs.map fun f =>
    if f.out ≠ o then f else { f with mode := io.stageMode o f.layer, fields := if was && !on then [] else f.fields } })

/-- A PREVIEW output is held while the level is SHED1 or above (R410). -/
def heatHold (o : Nat) (io : Io) (r : OutRt) : Io × OutRt :=
  let hold := decide (2 ≤ io.level) && io.flag (outPage o) Reg.OUTC_THRM_CTL 0
  (io.setFlag (outPage o) Reg.OUTC_THRM_STAT 0 hold, { r with held := hold })

/-! The latch line (R318). -/

/-- The Loupe checks no rectangle of a frame that was slated or stopped, though the trip clears at its latch line: it checks the next frame afresh (R311, R346). -/
def Scanout.unchecked (sc : Scanout) (o : Nat) : Scanout :=
  { sc with loupe := { sc.loupe with done := (List.range 8).map (rectKey o) ++ sc.loupe.done } }

/-- The five steps of R318 in their order. -/
def Dev.latchSteps (d : Dev) (o : Nat) (r : OutRt) (salvosOnly : Bool) : Dev :=
  let a := d.applyDue o r salvosOnly
  let was := a.d.io.live
  let (io, rt) := evalSlots o a.slots a.d.io a.d.st a.d.rt
  let d : Dev := { a.d with io := io, rt := rt, sc := a.d.sc.frcRestart was io.live o }
  let (d, hidden) := d.hideLayers o (d.io.live.nextBoundary o r).1
  match d.outRt o with
  | none => d
  | some r =>
    let acted := d.io.acted o
    let (io, r) := lidStep o d.io r
    let d := ({ d with io := io } : Dev).setOut o r
    let d := if acted ≠ 0 ∧ io.acted o = 0 then { d with sc := d.sc.unchecked o } else d
    d.onSc (fun io sc => stockLatch o r (a.layers ++ hidden) io d.st sc d.rt)

/-- The latch line of the frame in progress has come: every active line has been composed, and its start has passed (R46, R328). -/
def OutRt.atLatch (r : OutRt) (io : Io) (o : Nat) : Option Nat :=
  let t := r.tm.lineStart r.frame (r.tm.latchLine (io.fld (outPage o) Reg.OUTC_LATCH_GUARD 0 4))
  if r.inFrame && !r.latched && decide (r.line = r.tm.actH) && decide (t ≤ r.clock io) then some t else none

/-- LATCH_LINE of an output. -/
def Dev.latchLine (d : Dev) (o : Nat) : Dev :=
  match d.outRt o with
  | none => d
  | some r =>
    match r.atLatch d.io o with
    | none => d
    | some t =>
      if !d.io.outAlive o then d
      else
        let d := d.onSc (loupeAll o t)
        match d.outRt o with
        | none => d
        | some r =>
          let d := d.latchSteps o r false
          let d := (d.rehome o).moveJobs o
          let d := (d.onLar (fun x => x.outMoves d.sc.jobs o)).onSc (frcHeat o)
          let d := match d.outRt o with
            | some r =>
              let (io, r) := heatHold o d.io r
              ({ d with io := io } : Dev).setOut o { r with latched := true }
            | none => d
          d.showRate (d.hq.outOwner o)

/-- LATCH_LINE (R318). -/
def execLatchLine (o : Fin 512) (dt : Nat) (s : State) : Host.Outcome State Fault Refusal := s.settled fun d => (d.tick dt).latchLine o

/-! Frame boundaries (R327, R331, R332). -/

/-- An enable that waits for the first frame of an output completes with the frame's count (R75). -/
def Dev.enabledDone (d : Dev) (o n : Nat) : Dev :=
  (d.hq.waiting.filter (fun w => decide (w.kind = 0 ∧ w.index = o) && w.enable)).foldl (fun (d : Dev) w => d.complete w.q w.tag (Reply.done 0 (n % 2 ^ 32))) d

/-- The steps of R318 before the frame that ends a wait, for salvos whose target boundary is at or before its boundary: after a step of the time base where such a salvo is pending (R332), and after an enable, where no latch line precedes the frame (R51, R226; DEDUCED, log 24). -/
def Dev.waitSteps (d : Dev) (o : Nat) (r : OutRt) : Dev :=
  let (_, time) := d.io.live.nextBoundary o r
  if r.resync && (d.due o time true).isEmpty then d else d.latchSteps o r true

/-- The compositor and the packetizer of an output's tile accept new frames (R53, R323, R349). -/
def Io.tileRuns (io : Io) (o : Nat) : Bool := io.running (.comp (compTile o)) && io.running (.scan (compTile o))

/-- FRAME_BOUNDARY of a running output: after a step of the time base it waits for the stepped grid (R332); else its next frame begins when its boundary has come. -/
def Dev.frameBoundary (d : Dev) (o : Nat) : Dev :=
  match d.outRt o with
  | none => d
  | some r =>
    if !d.io.running (outPage o) ∨ !d.io.tileRuns o ∨ (r.inFrame ∧ !r.over d.io) then d
    else if r.inFrame ∧ r.resync then
      let d := d.onSc (loupeAll o d.io.now)
      match d.outRt o with
      | some r => (d.onIo (fun io => io.put (outPage o) Reg.OUTC_SCAN_STAT 2)).setOut o { r with inFrame := false, notBefore := d.io.now, shift := 0 }
      | none => d
    else
      let (_, time) := d.io.live.nextBoundary o r
      if r.clock d.io < time then d
      else
        let d := if r.inFrame then d else d.waitSteps o r
        match d.outRt o with
        | none => d
        | some r =>
          let n := nextFrame d.io.live o r
          let d := if r.resync then
              d.onIo fun io => (io.addSat (outPage o) Reg.OUTC_RESYNC 0 16 1).raise (outPage o) 25
            else d
          (d.startFrame o n r).enabledDone o n

/-- FRAME_BOUNDARY (R327). -/
def execFrameBoundary (o : Fin 512) (dt : Nat) (s : State) : Host.Outcome State Fault Refusal := s.settled fun d => (d.tick dt).frameBoundary o

end Sys2Proof.Machine
end

