-- ==== Sys2Proof/Machine/Holdings.lean ====
section
/-! DEFINITION. What a function holds: layer contexts are allocated and freed (R295 to R297), and ownership passes (R74, R81). -/
namespace Sys2Proof.Machine

/-! Layer contexts (R295 to R297). -/

/-- Change a function's count of layer contexts; PF0 has no quota block (R84). -/
def Io.addLayers (io : Io) (fn : Nat) (up : Bool) : Io :=
  let n := io.fn fn Reg.HQ_FN_U_LAYERS
  io.setFn fn Reg.HQ_FN_U_LAYERS (if up then n + 1 else n - 1)

/-- The address lies in the context of a layer. -/
def inLayer (l a : Nat) : Bool := decide (laycAddr l 0 ≤ a ∧ a < laycAddr l 64)

/-- Both views of a context take their reset values (R296, R297). -/
def Io.clearLayer (io : Io) (l : Nat) : Io :=
  { io with regs := io.regs.filter (fun e => !inLayer l e.1) }.discardWhere (inLayer l)

/-- A context is allocated to an output for a function: its words are reset and its status words filled in (R296, R299). -/
def Io.takeLayer (io : Io) (fn o l : Nat) : Io :=
  ((io.clearLayer l).wr (laycAddr l 32) (Word.of (o + 2 ^ 15 + fn * 2 ^ 16))).addLayers fn true

/-- `CMD_LAYER_ALLOC`: the cases of R296 in the order of its table. -/
def layerAllocCommand (c : Cmd) (d : Dev) : Dev :=
  let o := bits (c.p 0) 0 9
  let any := bit (c.p 0) 15
  let v := d.io.live
  if c.strays [0x0FFF81FF] then d.complete c.q c.tag (Reply.rejected 0x0213)
  else if c.fn ≠ 0 ∧ d.hq.outOwner o ≠ c.fn then d.complete c.q c.tag (Reply.denied 0x0218)
  else if 16 ≤ (v.layersOf o).length then d.complete c.q c.tag (Reply.rejected 0x0B10)
  else if !any ∧ v.layerUsed (bits (c.p 0) 16 12) then d.complete c.q c.tag (Reply.rejected 0x0B11)
  else
    match (if any then (List.range 4096).find? (fun l => !v.layerUsed l) else some (bits (c.p 0) 16 12)) with
    | none => d.complete c.q c.tag (Reply.rejected 0x0B12)
    | some l =>
      if c.fn ≠ 0 ∧ d.io.fn c.fn Reg.HQ_FN_U_LAYERS + 1 > d.io.fn c.fn Reg.HQ_FN_Q_LAYERS then d.complete c.q c.tag (Reply.quota 0x0221)
      else (d.onIo (fun io => io.takeLayer c.fn o l)).complete c.q c.tag (Reply.done 0 l)

/-- CMD_LAYER_ALLOC (R296). -/
def execCmdLayerAlloc (q : Fin 316) (tag : BitVec 16) (s : State) : Host.Outcome State Fault Refusal :=
  s.run fun d => d.command 0x20 q tag.toNat layerAllocCommand

/-- A view names a layer in OUTC_LID of its output (R297). -/
def View.lidNames (v : View) (l : Nat) : Bool := decide (v.lid (v.layerOut l) = some l)

/-- A view names a layer in an enabled route slot of its output, or as the Lid (R297). -/
def View.namesLayer (v : View) (l : Nat) : Bool := (v.slotOf (v.layerOut l) l).isSome || v.lidNames l

/-- A context leaves the pool's use: both views reset, values that accepted commits hold for it dropped, its quota credited, its references retired (R297). -/
def Dev.freeLayer (d : Dev) (l : Nat) : Dev :=
  let w := d.io.rd (laycAddr l 32)
  let fn := bits w 16 6
  let io := if bit w 23 then d.io.addHidden fn false else d.io
  let keep := fun (xs : List (Nat × Word)) => xs.filter (fun x => !inLayer l x.1)
  let com := { d.com with
    pend := d.com.pend.map (fun p => { p with vals := keep p.vals })
    queue := d.com.queue.map (fun r => { r with vals := keep r.vals })
    marked := d.com.marked.filter (fun m => m.1 ≠ l) }
  { d with io := (io.clearLayer l).addLayers fn false, com := com }

/-- `CMD_LAYER_FREE` (R297). -/
def layerFreeCommand (c : Cmd) (d : Dev) : Dev :=
  let l := bits (c.p 0) 0 12
  let v := d.io.live
  let o := v.layerOut l
  if c.strays [0xFFF] ∨ (c.fn = 0 ∧ !v.layerUsed l) then d.complete c.q c.tag (Reply.rejected 0x0213)
  else if c.fn ≠ 0 ∧ (!v.layerUsed l ∨ v.layerOwner l ≠ c.fn) then d.complete c.q c.tag (Reply.denied 0x0218)
  else if d.states.any (fun w => w.namesLayer l) then d.complete c.q c.tag (Reply.rejected 0x0B14)
  else if d.io.outOn o ∧ (v.layersOf o).length < 3 then d.complete c.q c.tag (Reply.rejected 0x0B13)
  else (d.freeLayer l).complete c.q c.tag (Reply.done 0 0)

/-- CMD_LAYER_FREE (R297). -/
def execCmdLayerFree (q : Fin 316) (tag : BitVec 16) (s : State) : Host.Outcome State Fault Refusal :=
  s.settled fun d => d.command 0x21 q tag.toNat layerFreeCommand

/-! Ownership (R74). -/

/-- How many objects a kind of `CMD_SET_OWNER` has. -/
def ownerLimit (kind : Nat) : Nat :=
  if kind = 0 then 512 else if kind ≤ 3 then 4096 else if kind = 4 then 16384 else 65536

/-- The object that a kind and an index name has an owner to pass; an unallocated context or handle has none. -/
def Dev.owned (d : Dev) (kind i : Nat) : Bool :=
  if kind = 1 then d.io.live.layerUsed i else if kind = 5 then (FMap.find d.st.table i).isSome else true

/-- Owner of the object that a kind of R74 and an index name. -/
def Dev.ownerOf (d : Dev) (kind i : Nat) : Nat :=
  if kind = 0 then d.hq.outOwner i
  else if kind = 1 then d.io.live.layerOwner i
  else if kind = 2 then d.hq.flowOwner false i
  else if kind = 3 then d.hq.flowOwner true i
  else if kind = 4 then d.hq.audOwner i
  else ((FMap.find d.st.table i).map (fun s => s.owner)).getD 0

/-- A layer context passes, and with it its place in the counts of layers and of hidden layers (R74, R84). -/
def Io.passLayer (io : Io) (l old fn : Nat) : Io :=
  let w := io.rd (laycAddr l 32)
  let io := ((io.wr (laycAddr l 32) (setBits w 16 6 fn)).addLayers old false).addLayers fn true
  if bit w 23 then (io.addHidden old false).addHidden fn true else io

/-- One object passes to a function, and its use with it (R74). -/
def Dev.pass (d : Dev) (kind fn i : Nat) : Dev :=
  let old := d.ownerOf kind i
  if !d.owned kind i ∨ (old = fn ∧ kind ≠ 2 ∧ kind ≠ 3) then d
  else if kind = 0 then { d with hq := { d.hq with owner := FMap.set (fun _ => 0) d.hq.owner i fn } }
  else if kind = 1 then d.onIo (fun io => io.passLayer i old fn)
  else if kind = 4 then { d with hq := { d.hq with owner := FMap.set (fun _ => 0) d.hq.owner (4 * 65536 + i) fn } }
  else if kind = 5 then
    let st := d.st.modify i (fun s => { s with owner := fn })
    { d with st := st, io := (d.io.showHeld st old).showHeld st fn }
  else
    let key := claimKey (decide (kind = 3)) i
    let io := if (FMap.find d.hq.claims key).isSome then d.io.addFlows old false else d.io
    { d with io := io.addFlows fn true, hq := { d.hq with claims := FMap.insert d.hq.claims key fn } }

/-- The objects of a range pass one by one. -/
def Dev.passAll (d : Dev) (kind fn first : Nat) : Nat → Dev
  | 0 => d
  | n + 1 => (d.passAll kind fn first n).pass kind fn (first + n)

/-- The first quota, in the order of R84, that a function's use exceeds (R74, R85). -/
def Dev.useRefusal (d : Dev) (fn : Nat) : Option Nat :=
  if d.st.heldBy fn > 16 * d.io.fn fn Reg.HQ_FN_Q_HBM then some 0x0220
  else if d.io.fn fn Reg.HQ_FN_U_LAYERS > d.io.fn fn Reg.HQ_FN_Q_LAYERS then some 0x0221
  else if d.io.fn fn Reg.HQ_FN_U_FLOWS > d.io.fn fn Reg.HQ_FN_Q_FLOWS then some 0x0222
  else d.io.overQuota fn (d.fnCharge d.io.live d.io.live.layerHidden d.sc.flat fn)

/-- The former owners learn that their objects were withdrawn; what RESULT_LO of the notice holds is open (R74). -/
def Dev.withdrawn (d : Dev) (fns : List Nat) : Dev :=
  fns.foldl (fun (d : Dev) f => (d.notice f 0x021A (d.io.freeNat 32)).onIo Io.took) d

/-- `CMD_SET_OWNER`: all or none over its range (R74, R297). -/
def setOwnerCommand (c : Cmd) (d : Dev) : Dev :=
  let kind := bits (c.p 0) 0 4
  let fn := bits (c.p 0) 16 6
  let first := (c.p 1).toNat
  let n := (c.p 2).toNat
  if c.strays [0x003F000F, 0xFFFFFFFF, 0xFFFFFFFF] ∨ 5 < kind ∨ n = 0 ∨ ownerLimit kind < first + n then d.complete c.q c.tag (Reply.rejected 0x0213)
  else
    let range := (List.range n).map (first + ·)
    if kind = 1 ∧ fn ≠ 0 ∧ range.any (fun l => d.io.live.layerUsed l && d.states.any (fun v => v.lidNames l)) then
      d.complete c.q c.tag (Reply.rejected 0x0B18)
    else
      let lost := ((range.filter (d.owned kind)).map (d.ownerOf kind)).eraseDups.filter (· ≠ fn)
      let e := d.passAll kind fn first n
      match (if fn = 0 then none else e.useRefusal fn) with
      | some code => d.complete c.q c.tag (Reply.quota code)
      | none => (((lost ++ [fn]).foldl Dev.showRate e).withdrawn lost).complete c.q c.tag (Reply.done 0 0)

/-- CMD_SET_OWNER (R74). -/
def execCmdSetOwner (q : Fin 316) (tag : BitVec 16) (s : State) : Host.Outcome State Fault Refusal :=
  s.run fun d => d.command 0x08 q tag.toNat setOwnerCommand

end Sys2Proof.Machine
end

