-- ==== Sys2Proof/Machine/Blocks.lean ====
section
/-! DEFINITION. Blocks are enabled, drained, disabled and reset through PAGE_CTL (R34, R35, R53, R54, R490): when an enable is refused, and what each block does then. -/
namespace Sys2Proof.Machine

/-! PAGE_CTL (R34). Its bits as stored: ENABLE, a drain under R490, a reset in progress. -/

/-- Pages without a drain point: once the part is READY they are never off (R217, R348, R417, R418, R436, R453, R472, and R241 for ROUT). -/
def neverOff : PageRef → Bool
  | .thrm | .pwr | .lard | .nvs | .keys | .fstr | .hbmc _ | .loup | .rout => true
  | _ => false

/-- A drain of the page's block runs. -/
def Io.draining (io : Io) (p : PageRef) : Bool := (FMap.find io.drains (pageBase p)).isSome

/-- ENABLE of a page. -/
def Io.enabled (io : Io) (p : PageRef) : Bool := io.flag p Reg.PAGE_CTL 0

/-- A drain under R490 has ended, and the block waits for a write of PAGE_CTL. -/
def Io.drainedIdle (io : Io) (p : PageRef) : Bool := decide (io.stateOf p = 3) && !io.draining p

/-- The page's lane is the lowest of a configured port: its PCS_CFG is written, and no page of the quad claims the lane (R32, R111). -/
def Io.servesPort (io : Io) (p : Fin 128) : Bool := io.written.contains (regAddr (.pcs p) Reg.PCS_CFG) && io.quadAdmits p (io.speedOf p)

/-- The physical engine of a slot's pages. -/
def engineOf : PageRef → Option Nat
  | .prsm e | .frc e => some e
  | _ => none

/-! Checks of an enable (R7, R38, R54, R111, R295, R329, R387, R425). -/

/-- The live transmit slots of a TDM port lead to channels that are enabled at its rate and clock (R364, R387). -/
def View.tdmDestOk (v : View) (q : Nat) : Bool :=
  let cfg := v.tdmp q Reg.TDMP_CFG
  (maskBits (v.tdmp q Reg.TDMP_TX_MASK)).all fun s =>
    let c := bits (v.tdmp q Reg.TDMP_TX_BASE) 0 14 + s
    v.audOn c && decide (v.audFast c = bit cfg 3 ∧ v.audClock c = v.tdmClock q)

/-- What the owning chapter checks of a block before its enable, with the code it gives, 0 for none of its own. -/
def Io.blockRefusal (io : Io) (p : PageRef) : Option Nat :=
  let v := io.live
  match p with
  | .pcs l => if io.quadAdmits l (io.speedOf l) then none else some 0
  | .mac l => if io.servesPort l then none else some 0
  | .msec l => if io.servesPort l then none else some 0
  | .outc o =>
    if (v.layersOf o).length < 2 then some 0x0B13
    else if !v.rasterOk o then some 0x0C10
    else if (v.timing o).blankLines ≤ bits (v.outc o Reg.OUTC_LATCH_GUARD) 0 4 then some 0x0118
    else none
  | .tdmp q => if !tdmFormatOk (v.tdmp q Reg.TDMP_CFG) then some 0x0E10 else if !v.tdmDestOk q then some 0x0D11 else none
  | _ => none

/-- Why an enable of a block is refused: the reason, in the order 3, 1, 2, 5, 4, 0 of R38, and the owning chapter's code or 0. -/
def Io.enableRefusal (io : Io) (p : PageRef) : Option (Nat × Nat) :=
  if !io.powered p then some (3, 0)
  else if io.flag p Reg.PAGE_LOCK 0 then some (1, 0)
  else if (engineOf p).any (fun e => decide (io.pstate_ e = 5)) then some (2, 0)
  else if io.draining p then some (5, 0)
  else if !io.definedAll p then some (4, 0)
  else (io.blockRefusal p).map (fun code => (0, code))

/-- A refused enable is recorded: a TDM port records its own code (R387), every other page REG_WRITE_IGNORED (R38). -/
def Io.enableRefused (io : Io) (p : PageRef) (reason code : Nat) : Io :=
  match p with
  | .tdmp _ => if code = 0 then io.ignored p Reg.PAGE_CTL reason else io.recordErr p code (Reg.PAGE_CTL + reason * 2 ^ 14)
  | _ => io.ignored p Reg.PAGE_CTL reason

/-! What an enable does. -/

/-- Pending salvos that hold values for an output take effect at a boundary of it once it is enabled (R42, R51). -/
def Dev.salvosJoin (d : Dev) (o : Nat) : Dev :=
  let join := fun (p : Pend) =>
    if p.waitT && !p.outs.contains o && !(d.valsOn p o).isEmpty then { p with outs := sortBy (fun a b => decide (a ≤ b)) (o :: p.outs) } else p
  ({ d with com := { d.com with pend := d.com.pend.map join } } : Dev).showCommitStat o

/-- An output is enabled: WAITING until its first boundary at least 1 ms later, and its jobs are placed (R263, R331). -/
def Dev.startOutput (d : Dev) (o : Nat) : Dev :=
  let d := d.salvosJoin o
  let io := d.io.put (outPage o) Reg.OUTC_SCAN_STAT 2
  let d := (({ d with io := io } : Dev).setOut o (OutRt.fresh io.live o (io.now + 1000000))).rehome o
  (d.onIo (fun io => io.showJobs io.engines d.sc.jobs)).checkCapacity.showRate (d.hq.outOwner o)

/-- A retired engine is enabled: it becomes SPARE once its test passes (R425). -/
def Lar.startEngine (x : Lar) (e : Nat) : Lar :=
  if x.io.pstate_ e = 6 then
    let io := (x.io.setFld .lard (pstatReg e) 0 3 2).setState (prsmPage e) 1 |>.setState (frcPage e) 1
    { x with io := io, ld := { x.ld with enabling := x.ld.enabling ++ [e] } }
  else { x with io := x.io.setEngine e (x.io.pstate_ e) }

/-- A block enters RUNNING, and does what its chapter says it does then (R119, R120, R154, R331, R399, R425). -/
def Dev.startBlock (d : Dev) (p : PageRef) : Dev :=
  let d := d.onIo (fun io => (io.put p Reg.PAGE_CTL 1).setState p 2)
  match p with
  | .lane l => d.links (laneEnabled l)
  | .pcs l => d.onIo (fun io => io.pcsEnabled l)
  | .ptp => d.onPtp ptpEnabled
  | .tdmp q => d.onTdm (tdmEnabled q)
  | .asrc => d.asrcs
  | .outc o => d.startOutput o
  | .prsm e => d.onLar (fun x => x.startEngine e)
  | .frc e => d.onIo (fun io => io.setState p (io.stateOf (.prsm e)))
  | _ => d

/-! What the stop of intake does (R53 step 1, R54). -/

/-- Disabling a LANE page turns its transmitter and receiver off, and its port goes OFF (R122, R132). -/
def laneDisabled (l : Fin 128) (io : Io) (ser : Ser) : Io × Ser :=
  let (io, ser) := eyeEnd l true io ser
  let io := ((io.setFlag (.lane l) Reg.LANE_STAT 3 false).setFlag (.lane l) Reg.LANE_STAT 4 false).setFlag (.lane l) Reg.LANE_STAT 1 false
  match io.portOfLane l with
  | some p => loseLink p 7 (if io.pcsOn p then 1 else 0) io ser
  | none => (io, ser)

/-- Disabling a PCS page takes its port OFF (R119, R122). -/
def pcsDisabled (p : Fin 128) (io : Io) (ser : Ser) : Io × Ser :=
  let (io, ser) := eyeAbortAll (io.portLanes p) io ser
  loseLink p 7 0 io ser

/-- AUDM stops: every output channel ramps to 0 over 1 ms, and changes in progress are abandoned (R381). -/
def Audio.stop (a : Audio) (now : Nat) : Audio :=
  { a with fading := some now, outs := a.outs.map (fun e => (e.1, { e.2 with phase := 0, ramp := none, doing := none })) }

/-- The jobs of a logical engine go to others (R265): each moves at its output's next latch line. While `runs` is set its engine serves those that find a place until then. -/
def evictJobs (es : List Engine) (l : Nat) (runs : Bool) (js : List Job) : List Job :=
  let placed := placeAll es (boundFigure js) ((byCharge (js.filter (fun j => j.target = some l))).map (fun j => { j with moveTo := none }))
    (js.filter (fun j => j.target ≠ some l))
  js.map fun j =>
    if j.target ≠ some l then j
    else
      let place := (placed.find? j.same).bind (·.engine)
      { j with engine := if j.engine = some l ∧ (!runs ∨ place.isNone) then none else j.engine, moveTo := place }

/-- A logical engine gives up its jobs. -/
def Dev.evict (d : Dev) (l : Nat) (runs : Bool) : Dev :=
  let es := d.io.engines.filter (fun e => e.1 ≠ l)
  let js := evictJobs es l runs d.sc.jobs
  { d with sc := { d.sc with jobs := js }, io := d.io.showJobs es js }

/-- Disabling an engine: a spare takes over its logical ID; without one its jobs move to other engines (R265, R425). -/
def Dev.stopEngine (d : Dev) (e : Nat) : Dev :=
  let st := d.io.pstate_ e
  let x : Lar := { io := d.io, ld := d.lard, nv := d.nvs }
  if st = 0 then
    match d.io.logicalOf e with
    | none => d
    | some l =>
      let alone := !d.lard.swaps.any (fun w => decide (w.from_ / 9 = e / 9)) && (x.choose (e / 9)).isNone
      let d := d.onLar (fun x => (x.ask d.sc.jobs l 2).show)
      if alone then (d.evict l true).checkCapacity else d
  else if st = 3 then
    match d.lard.swaps.find? (fun w => w.dest = e) with
    | some w => d.onLar (fun x => { x with ld := { x.ld with waiting := x.ld.waiting ++ [(w.logical, 2)] } })
    | none => d
  else if st = 4 then
    d.onLar (fun x => { x with ld := { x.ld with swaps := x.ld.swaps.map (fun (w : Swap) => if w.from_ = e then { w with why := 2 } else w) } })
  else d

/-- A block stops accepting new work (R53 step 1); pending commits of an output that is disabled apply at this instant (R54). -/
def Dev.stopIntake (d : Dev) (p : PageRef) : Dev :=
  match p with
  | .lane l => d.links (laneDisabled l)
  | .pcs l => d.links (pcsDisabled l)
  | .ptp => d.onIo (fun io => io.setPtpState 0)
  | .outc o => d.applyFrozen o
  | .prsm e => d.stopEngine e
  | _ => d

/-- AUDM ramps down at a disable, a reset and a drain alike (R381, R490). -/
def Dev.fade (d : Dev) (p : PageRef) : Dev :=
  match p with
  | .audm => if d.aud.fading.isSome then d else { d with aud := d.aud.stop d.io.now }
  | _ => d

/-- A drain begins: BUSY, STATE DRAINING, PAGE_CTL as given (R53, R490). -/
def Dev.beginDrain (d : Dev) (p : PageRef) (ctl : Nat) : Dev :=
  let fresh := !d.io.draining p
  let d := d.onIo fun io =>
    let io := ((io.put p Reg.PAGE_CTL (Word.of ctl)).setState p 3).setFlag p Reg.PAGE_STAT 0 true
    if fresh then io.drainFrom (pageBase p) else io
  (if ctl = 3 then d else d.stopIntake p).fade p

/-! The end of a drain (R53, R54). -/

/-- No output of a tile is within a frame. -/
def Dev.tileQuiet (d : Dev) (t : Nat) : Bool :=
  (d.sc.outs.filter (fun e => decide (e.1 / 32 = t))).all (fun e => !e.2.inFrame || e.2.over d.io)

/-- In-flight work of a block has reached its drain point (R148, R181, R265, R291, R323, R331, R349, R381, R382, R399). -/
def Dev.atDrainPoint (d : Dev) (p : PageRef) : Bool :=
  let faded := match d.aud.fading with
    | some t => decide (t + 1000000 ≤ d.io.now)
    | none => true
  match p with
  | .outc o => (match d.outRt o with
    | some r => !r.inFrame || r.over d.io
    | none => true)
  | .comp t => d.tileQuiet t
  | .scan t => d.tileQuiet t
  | .audm => faded
  | .asrc => faded
  | .prsm e => decide (d.io.pstate_ e ≠ 3 ∧ d.io.pstate_ e ≠ 4) && (match d.io.logicalOf e with
    | some l => !d.lard.swapping l && !d.sc.jobs.any (fun j => decide (j.engine = some l))
    | none => true)
  | .frc e => !d.io.draining (.prsm e)
  | _ => true

/-- Frame periods, in nanoseconds, of the outputs among `os` that are enabled or draining. -/
def Dev.periods (d : Dev) (os : List Nat) : List Nat :=
  (os.filter (fun o => (d.outRt o).isSome)).map (fun o => (d.io.live.timing o).rate.period.ceil)

/-- The drain bound: one frame of the slowest output that the block serves, 2 ms for a block that serves none (R53). -/
def Dev.drainBound (d : Dev) (p : PageRef) : Nat :=
  let tile := fun (t : Nat) => (List.range 32).map (32 * t + ·)
  let served := match p with
    | .outc o => [o.val]
    | .comp t => tile t
    | .scan t => tile t
    | .prsm e | .frc e => (match d.io.logicalOf e with
      | some l => outsOf d.sc.jobs l
      | none => [])
    | _ => []
  match (d.periods served).max? with
  | some n => n
  | none => 2000000

/-- An output has reached its drain point: it sends nothing more, its FILLING write-back slot is FREE again, its slots are IDLE, its jobs and runs end (R263, R314, R331, R429). -/
def Dev.outputStopped (d : Dev) (o : Nat) : Dev :=
  match d.outRt o with
  | none => d
  | some r =>
    let d := d.onSc (loupeAll o d.io.now)
    let d := (d.io.live.framesOf o).foldl (fun (d : Dev) e => d.onSc (silent e)) d
    let (io, rt) := (List.range 16).foldl (fun (x : Io × Routing) k => idleSlot o k x.1 x.2) (d.io, d.rt)
    let st := (d.st.retireOut o).dropBack r.wb
    let jobs := d.sc.jobs.filter (fun j => j.out ≠ o)
    let sc := { d.sc with
      outs := FMap.erase d.sc.outs o, runs := d.sc.runs.filter (fun x => x.out ≠ o), frcs := d.sc.frcs.filter (fun f => f.out ≠ o), jobs := jobs }.spaceFreed
    let io := ((io.put (outPage o) Reg.OUTC_SCAN_STAT 0).put (outPage o) Reg.OUTC_FRC_STAT 0).put (outPage o) Reg.OUTC_THRM_STAT 0
    let io := (showStock o io sc).showJobs io.engines jobs
    let d : Dev := { d with io := io, st := st, rt := rt, sc := sc }
    (d.onLar (fun x => x.outMoves jobs o)).showRate (d.hq.outOwner o)

/-- The outputs of a tile whose compositor or packetizer has drained show nothing until a frame begins again. -/
def Dev.tileStopped (d : Dev) (t : Nat) : Dev :=
  (d.sc.outs.filter (fun e => decide (e.1 / 32 = t))).foldl (fun (d : Dev) e =>
    let d := (d.io.live.framesOf e.1).foldl (fun (d : Dev) f => d.onSc (silent f)) d
    let st := (d.st.retireOut e.1).dropBack e.2.wb
    ({ d with st := st } : Dev).setOut e.1 { e.2 with inFrame := false, wb := none, shown := [], notBefore := max e.2.notBefore d.io.now }) d

/-- Frames being assembled by a tile's Sieve are discarded (R189). -/
def Dev.sieveStopped (d : Dev) (t : Nat) : Dev :=
  (d.sv.flows.filter (fun e => decide ((d.io.live.flowTile e.1).val = t))).foldl (fun (d : Dev) e =>
    let (io, st) := e.2.frames.foldl (fun (x : Io × Stores) a => frameDrop e.1 a x.1 x.2) (d.io, d.st)
    { d with io := io, st := st, sv := d.sv.upd e.1 (fun r => { r with frames := [] }) }) d

/-- A disabled engine is RETIRED; what still ran on it has no engine (R265, R425). -/
def Dev.engineStopped (d : Dev) (e : Nat) : Dev :=
  let d := if d.io.pstate_ e = 4 then
      d.onLar fun x => ((x.ld.swaps.filter (fun w => w.from_ = e)).foldl (fun (x : Lar) w => x.swapEnds { w with why := 2 }) x).show
    else d
  if d.io.pstate_ e = 5 ∨ d.io.pstate_ e = 6 then d
  else
    let off := fun (x : Lar) => ({ x with io := x.io.setEngine e 6
                                          ld := { x.ld with testing := x.ld.testing.filter (· ≠ e), enabling := x.ld.enabling.filter (· ≠ e) } } : Lar).show
    match d.io.logicalOf e with
    | none => d.onLar off
    | some l =>
      let d := d.evict l false
      (d.onLar (fun x => off { x with io := (x.io.unmapEngine e).unmapLogical l
                                      ld := { x.ld with waiting := x.ld.waiting.filter (fun w => w.1 ≠ l) } })).checkCapacity

/-- What a block does at its drain point. -/
def Dev.stopBlock (d : Dev) (p : PageRef) (disabled : Bool) : Dev :=
  match p with
  | .outc o => d.outputStopped o
  | .comp t => d.tileStopped t
  | .scan t => d.tileStopped t
  | .siev t => d.sieveStopped t
  | .tdmp q => d.onTdm (tdmStopped q)
  | .audm => { d with aud := { d.aud with fading := none } }
  | .asrc => d.asrcs
  | .prsm e => if disabled then d.engineStopped e else d
  | _ => d

/-- The pages that the object of an enable or disable command stands for, in the order of the enable (R75). -/
def Io.objectPages (io : Io) (kind i : Nat) : List PageRef :=
  if kind = 0 then [.outc (Fin.ofNat 512 i)]
  else if kind = 1 then
    (io.portLanes i).map (fun l => .lane (laneIx l)) ++ [.pcs (laneIx i), .mac (laneIx i), .msec (laneIx i)]
  else if kind = 2 then [prsmPage i, frcPage i]
  else [.tdmp (Fin.ofNat 16 i)]

/-- The page is off: not enabled, and nothing of it drains. -/
def Io.pageOff (io : Io) (p : PageRef) : Bool := !io.enabled p && !io.draining p

/-- RESULT_LO of an enable or disable: the frame count of an output (R75). -/
def Io.objectCount (io : Io) (kind i : Nat) : Nat := if kind = 0 then (io.frozenFrame i).1 % 2 ^ 32 else 0

/-- Disables whose object is off complete (R75). -/
def Dev.disablesDone (d : Dev) : Dev :=
  (d.hq.waiting.filter (fun w => !w.enable && (d.io.objectPages w.kind w.index).all d.io.pageOff)).foldl (fun (d : Dev) w =>
    d.complete w.q w.tag { status := 0, code := w.code, hi := 0, lo := d.io.objectCount w.kind w.index }) d

/-- Enables that wait on a block that is stopped are cancelled (R53 step 3). -/
def Dev.cancelEnables (d : Dev) (p : PageRef) : Dev :=
  (d.hq.waiting.filter (fun w => w.enable && (d.io.objectPages w.kind w.index).contains p)).foldl (fun (d : Dev) w =>
    d.complete w.q w.tag { status := 3, code := 0, hi := 0, lo := 0 }) d

/-- Block-specific registers return to their reset values (R53 step 4); the lane's analog status, which follows what the lane sees, stays as it is. -/
def Dev.resetRegs (d : Dev) (p : PageRef) : Dev :=
  match p with
  | .lane l => d.onIo fun io => (io.resetBlock p).put p Reg.LANE_STAT (io.reg (.lane l) Reg.LANE_STAT)
  | .hq =>
    let mine := d.hq.live.filter (fun c => !c.past)
    let d := mine.foldl (fun (d : Dev) c => d.cancel c.q c.tag 3) d
    { d with io := d.io.resetBlock p, hq := { d.hq with pairs := [], cmds := d.hq.cmds.map (fun c => { c with silent := true }) } }
  | _ => d.onIo (fun io => io.resetBlock p)

/-- The state in which a block that is off stands: the slot of an engine reads SPARE (R35, R422). -/
def offState : PageRef → Nat
  | .prsm _ | .frc _ => 7
  | _ => 0

/-- The page takes its state after a drain: OFF with IDLE, or the state of a drain under R490 that has ended (R53, R490). -/
def Dev.closeDrain (d : Dev) (p : PageRef) : Dev :=
  let ctl := d.io.reg p Reg.PAGE_CTL
  let d := d.onIo (fun io => io.drained (pageBase p))
  if bit ctl 0 then d.onIo (fun io => (io.setFlag p Reg.PAGE_STAT 0 false).raise p 1)
  else
    let d := if bit ctl 2 then (d.onIo (fun io => io.setState p 4)).resetRegs p else d
    d.onIo fun io => (((io.put p Reg.PAGE_CTL 0).setFlag p Reg.PAGE_STAT 0 false).setState p (offState p)).raise p 1

/-- A drain of a page's block ends (R53, R54). With an engine's PRSM page the FRC page of its slot ends too (R291). -/
def Dev.endDrain (d : Dev) (p : PageRef) : Dev :=
  let off := !d.io.enabled p
  let d := ((d.cancelEnables p).stopBlock p off).closeDrain p
  let d := match p with
    | .prsm e => if d.io.draining (.frc e) then d.closeDrain (.frc e) else d
    | _ => d
  d.disablesDone

/-- Work still in flight at the bound is discarded, and the code is recorded (R54, R492). -/
def Dev.forceDrain (d : Dev) (p : PageRef) : Dev :=
  let d := d.onIo (fun io => (io.recordErr p (codeForced p) 0).raise .top 8)
  let hq := { d.hq with waiting := d.hq.waiting.map (fun w =>
    if !w.enable ∧ (d.io.objectPages w.kind w.index).contains p then { w with code := codeForced p } else w) }
  { d with hq := hq }.endDrain p

/-! A write of PAGE_CTL (R34, R38, R53, R54, R490). -/

/-- The write of ENABLE 1: the checks, then the block starts; a drain under R490 that has ended is over. -/
def Dev.enableWrite (d : Dev) (p : PageRef) (drain : Bool) : Dev :=
  if d.io.drainedIdle p ∧ !d.io.flag p Reg.PAGE_LOCK 0 then d.startBlock p
  else if d.io.enabled p ∧ !d.io.draining p ∧ d.io.stateOf p ≠ 0 ∧ !d.io.flag p Reg.PAGE_LOCK 0 then
    if drain ∧ d.io.running p then d.beginDrain p 3 else d
  else
    match d.io.enableRefusal p with
    | some (reason, code) => d.onIo (fun io => io.enableRefused p reason code)
    | none => d.startBlock p

/-- The write of ENABLE 0, with RESET or without. -/
def Dev.disableWrite (d : Dev) (p : PageRef) (reset : Bool) : Dev :=
  if d.io.flag p Reg.PAGE_LOCK 0 then d.onIo (fun io => io.ignored p Reg.PAGE_CTL 1)
  else if neverOff p ∧ d.io.ready then d.onIo (fun io => io.ignored p Reg.PAGE_CTL 0)
  else if d.io.draining p then
    let was := d.io.enabled p
    let d := d.onIo (fun io => io.put p Reg.PAGE_CTL (Word.of (if reset ∨ io.flag p Reg.PAGE_CTL 2 then 4 else 0)))
    if was then d.stopIntake p else d
  else if reset then (d.beginDrain p 4)
  else if d.io.drainedIdle p then
    let d := (d.stopIntake p).onIo (fun io => (io.put p Reg.PAGE_CTL 0).setState p (offState p))
    (match engineOf p with
     | some e => d.engineStopped e
     | none => d).disablesDone
  else if d.io.enabled p then d.beginDrain p 0
  else d

/-- A write of PAGE_CTL of a page whose block has power, or asks for it. -/
def Dev.pageCtl (d : Dev) (p : PageRef) (v : Word) : Dev :=
  if bit v 2 then d.disableWrite p true
  else if bit v 0 then d.enableWrite p (bit v 1)
  else d.disableWrite p false

/-- PAGE_ENABLE (R34). -/
def execPageEnable (p : PageRef) (s : State) : Host.Outcome State Fault Refusal := s.settled fun d => d.pageCtl p 1

/-- PAGE_DISABLE (R53). -/
def execPageDisable (p : PageRef) (s : State) : Host.Outcome State Fault Refusal := s.settled fun d => d.pageCtl p 0

/-- PAGE_DRAIN (R490): DRAIN is set, and ENABLE stays as it is. -/
def execPageDrain (p : PageRef) (s : State) : Host.Outcome State Fault Refusal :=
  s.settled fun d => d.pageCtl p (if d.io.enabled p then 3 else 2)

/-- PAGE_RESET (R53). -/
def execPageReset (p : PageRef) (s : State) : Host.Outcome State Fault Refusal := s.settled fun d => d.pageCtl p 4

/-- The drain of a page's block has reached its drain point, or that of a queue pair its end (R53, R60). -/
def Dev.drainEnds (d : Dev) : DrainRef → Dev
  | .page p => if d.io.draining p ∧ d.atDrainPoint p then d.endDrain p else d
  | .pair q tags => if (d.hq.pair q).draining then d.onHq (pairDrained q (tags.map BitVec.toNat)) else d

/-- DRAIN_END (R53). -/
def execDrainEnd (r : DrainRef) (dt : Nat) (s : State) : Host.Outcome State Fault Refusal := s.settled fun d => (d.tick dt).drainEnds r

/-- The drain bound has passed with work still in flight (R54, R60). -/
def Dev.drainForced (d : Dev) : DrainRef → Dev
  | .page p => if d.io.drainOver (pageBase p) (d.drainBound p) then d.forceDrain p else d
  | .pair q tags =>
    if (d.hq.pair q).draining ∧ d.io.drainOver (2 ^ 32 + q) 2000000 then
      (d.onIo (fun io => (io.recordErr .hq (codeForced .hq) q).raise .top 8)).onHq (pairDrained q (tags.map BitVec.toNat))
    else d

/-- DRAIN_FORCED (R54). -/
def execDrainForced (r : DrainRef) (dt : Nat) (s : State) : Host.Outcome State Fault Refusal := s.settled fun d => (d.tick dt).drainForced r

/-! CMD_ENABLE and CMD_DISABLE (R75). -/

/-- How many objects a kind has. -/
def objectLimit (kind : Nat) : Nat := if kind = 0 then 512 else if kind = 1 then 128 else if kind = 2 then 144 else 16

/-- The parameters and the permission of an enable or disable, then what it does. -/
def objectCommand (f : Cmd → Nat → Nat → Dev → Dev) (c : Cmd) (d : Dev) : Dev :=
  let kind := bits (c.p 0) 0 4
  let i := bits (c.p 0) 16 16
  if c.strays [0xFFFF000F] ∨ 3 < kind ∨ objectLimit kind ≤ i then d.complete c.q c.tag (Reply.rejected 0x0213)
  else if c.fn ≠ 0 ∧ kind ≠ 0 then d.complete c.q c.tag (Reply.denied 0x0217)
  else if c.fn ≠ 0 ∧ d.hq.outOwner i ≠ c.fn then d.complete c.q c.tag (Reply.denied 0x0218)
  else f c kind i d

/-- The page needs nothing done to be enabled: it is, and no drain holds it. -/
def Io.pageOn (io : Io) (p : PageRef) : Bool := io.enabled p && !io.draining p && !io.drainedIdle p

/-- A command that a page's checks refuse: recorded as for the write, and completed with the code (R75). -/
def Dev.objectRefused (d : Dev) (c : Cmd) (p : PageRef) (reason code : Nat) : Dev :=
  (d.onIo (fun io => io.enableRefused p reason code)).complete c.q c.tag (Reply.rejected (if code = 0 then codeIgnored p else code))

/-- `CMD_ENABLE`: an output waits for its first frame, a retired engine for its test (R75). -/
def enableObject (c : Cmd) (kind i : Nat) (d : Dev) : Dev :=
  let pages := (d.io.objectPages kind i).filter (fun p => !d.io.pageOn p)
  if pages.isEmpty then d.complete c.q c.tag (Reply.done 0 (d.io.objectCount kind i))
  else
    let refusal := fun p => if d.io.drainedIdle p && !d.io.flag p Reg.PAGE_LOCK 0 then none else d.io.enableRefusal p
    match pages.findSome? (fun p => (refusal p).map (fun r => (p, r))) with
    | some (p, reason, code) => d.objectRefused c p reason code
    | none =>
      let d := pages.foldl Dev.startBlock d
      if kind = 0 ∨ (kind = 2 ∧ d.io.stateOf (prsmPage i) = 1) then
        let w : Waiting := { q := c.q, tag := c.tag, kind := kind, index := i, enable := true, code := 0 }
        ({ d with hq := { d.hq with waiting := d.hq.waiting ++ [w] } } : Dev).past (some (c.q, c.tag))
      else d.complete c.q c.tag (Reply.done 0 0)

/-- CMD_ENABLE (R75). -/
def execCmdEnable (q : Fin 316) (tag : BitVec 16) (s : State) : Host.Outcome State Fault Refusal :=
  s.settled fun d => d.command 0x09 q tag.toNat (objectCommand enableObject)

/-- `CMD_DISABLE`: the pages in the reverse order; it completes when all are off (R75). -/
def disableObject (c : Cmd) (kind i : Nat) (d : Dev) : Dev :=
  let pages := (d.io.objectPages kind i).reverse
  if pages.all d.io.pageOff then d.complete c.q c.tag (Reply.done 0 (d.io.objectCount kind i))
  else
    match pages.find? (fun p => d.io.flag p Reg.PAGE_LOCK 0) with
    | some p => d.objectRefused c p 1 0
    | none =>
      let w : Waiting := { q := c.q, tag := c.tag, kind := kind, index := i, enable := false, code := 0 }
      let d := ({ d with hq := { d.hq with waiting := d.hq.waiting ++ [w] } } : Dev).past (some (c.q, c.tag))
      (pages.foldl (fun (d : Dev) p => d.disableWrite p false) d).disablesDone

/-- CMD_DISABLE (R75). -/
def execCmdDisable (q : Fin 316) (tag : BitVec 16) (s : State) : Host.Outcome State Fault Refusal :=
  s.settled fun d => d.command 0x0A q tag.toNat (objectCommand disableObject)

end Sys2Proof.Machine
end

