-- ==== Sys2Proof/Machine/Header.lean ====
section
/-! DEFINITION. The common page header beside PAGE_CTL (R33, R34, R37, R38), the event-to-vector map and MSI-X (R79), and their commands. -/
namespace Sys2Proof.Machine

/-- A write of EVT_EN: the sources of the page follow (R37). -/
def Io.evtEnable (io : Io) (p : PageRef) (v : Word) : Io := (io.put p Reg.EVT_EN v).refresh p

/-- A write of EVT_PEND clears the bits written as 1 (R37). -/
def Io.evtClear (io : Io) (p : PageRef) (v : Word) : Io :=
  (io.put p Reg.EVT_PEND (io.reg p Reg.EVT_PEND &&& ~~~v)).refresh p

/-- A write of EVT_FORCE latches bits as though their events had occurred, unless FORCE_LOCK makes the register ignore it (R34, R38). -/
def Io.evtForce (io : Io) (p : PageRef) (v : Word) : Io :=
  if io.flag p Reg.PAGE_LOCK 2 then io.ignored p Reg.EVT_FORCE 1
  else (io.put p Reg.EVT_PEND (io.reg p Reg.EVT_PEND ||| v)).refresh p

/-- ERR_CODE.CLR clears CODE, COUNT and ERR_INFO (R34). -/
def Io.errClear (io : Io) (p : PageRef) : Io := (io.put p Reg.ERR_CODE 0).put p Reg.ERR_INFO 0

/-- A write of PAGE_LOCK: STICKY makes the register ignore all writes until the next device-level reset (R34, R38). -/
def Io.lockWrite (io : Io) (p : PageRef) (v : Word) : Io :=
  if io.flag p Reg.PAGE_LOCK 31 then io.ignored p Reg.PAGE_LOCK 1
  else io.put p Reg.PAGE_LOCK (v &&& 0x80000007)

/-- A write of an entry of the event-to-vector map: VECTOR and EN are stored, and EN set on a pending source is a rising edge (R79). -/
def Io.mapWrite (io : Io) (s : Nat) (v : Word) : Io :=
  let old := io.rd (evtMapAddr s)
  let io' := io.wr (evtMapAddr s) ((v &&& 0x000107FF) ||| (old &&& 0x01000000))
  let io' := if bit v 16 ∧ !bit old 16 ∧ io.srcPending s then io'.edge s else io'
  let was := bits old 0 11
  if bit old 16 ∧ !io'.vectorHeld was then { io' with pba := io'.pba.filter (fun k => k ≠ was) } else io'

/-- MSI-X vectors of a function (R59, R79). -/
def vectorsOf (fn : Nat) : Nat := if fn = 0 then 2048 else 64

/-- A vector is unmasked: one message goes when its pending bit is still set (R79). -/
def Io.unmask (io : Io) (fn vec : Nat) : Io :=
  let k := fn * 2048 + vec
  if vectorsOf fn ≤ vec then io
  else
    let io := { io with unmasked := if io.unmasked.contains k then io.unmasked else k :: io.unmasked }
    if io.pba.contains k then { io with pba := io.pba.filter (fun x => x ≠ k) }.emit (.msix fn vec) else io

/-- ERR_CODE_CLR (R34). -/
def execErrCodeClr (p : PageRef) (s : State) : Host.Outcome State Fault Refusal := s.run fun d => d.onIo (fun io => io.errClear p)

/-- EVT_FORCE (R34). -/
def execEvtForce (p : PageRef) (v : Word) (s : State) : Host.Outcome State Fault Refusal :=
  s.run fun d => d.onIo (fun io => io.evtForce p v)

/-- EVT_PEND_CLEAR (R37). -/
def execEvtPendClear (p : PageRef) (v : Word) (s : State) : Host.Outcome State Fault Refusal :=
  s.run fun d => d.onIo (fun io => io.evtClear p v)

/-- PAGE_LOCK_STICKY (R34): the lock bits given are written with STICKY. -/
def execPageLockSticky (p : PageRef) (locks : Fin 8) (s : State) : Host.Outcome State Fault Refusal :=
  s.run fun d => d.onIo (fun io => io.lockWrite p (Word.of (locks.val + 2 ^ 31)))

/-- EVT_MAP_WRITE (R79). -/
def execEvtMapWrite (src : Fin 2048) (v : Word) (s : State) : Host.Outcome State Fault Refusal :=
  s.run fun d => d.onIo (fun io => io.mapWrite src v)

/-- MSIX_UNMASK (R79). -/
def execMsixUnmask (fn : Fin 64) (vec : Fin 2048) (s : State) : Host.Outcome State Fault Refusal :=
  s.run fun d => d.onIo (fun io => io.unmask fn vec)

end Sys2Proof.Machine
end

