-- ==== Sys2Proof/Machine/Tables.lean ====
section
/-! DEFINITION. The words of the table windows (R28, R38, R40, R41): what each word stores, the stated ranges of its fields, and when a write to it is ignored. -/
namespace Sys2Proof.Machine

/-- A word of a table: the bits it stores, and the stated ranges of its fields. -/
structure TabWord where
  mask : Nat
  flds : List FieldRange
  deriving DecidableEq, Repr

/-- A word whose fields have no stated range below that of their bits. -/
def TabWord.plain (mask : Nat) : TabWord := { mask := mask, flds := [] }

/-- Every field of the value lies within its stated range. -/
def TabWord.admits (w : TabWord) (v : Word) : Bool := w.flds.all (fun f => f.admits v)

/-- The stored part of a value: reserved bits are dropped (R6). -/
def TabWord.keep (w : TabWord) (v : Word) : Word := v &&& Word.of w.mask

/-- Words 0 to 31 of a layer context (R249, R272, R298). -/
def laycWord (w : Nat) : TabWord :=
  if w = 0 then ⟨0xFFFF, [⟨6, 2, [(0, 2)]⟩]⟩
  else if w = 1 then ⟨0x1FFFF, [⟨0, 17, [(0, 0x10000)]⟩]⟩
  else if w = 2 then ⟨0x3FFF3FFF, [⟨0, 14, [(0, 8191)]⟩, ⟨16, 14, [(0, 8191)]⟩]⟩
  else if w = 3 then ⟨0x3FFF3FFF, [⟨0, 14, [(2, 8192)]⟩, ⟨16, 14, [(2, 8192)]⟩]⟩
  else if w = 4 ∨ w = 5 then .plain 0x3FFF3FFF
  else if w = 16 then .plain 0x1F
  else if w = 17 then .plain 0x01FF01FF
  else if w = 18 then .plain 0x1FF
  else if w = 19 then .plain 0x0F1F3F3F
  else if w = 20 then ⟨0x1FF, [⟨0, 4, [(0, 4)]⟩, ⟨4, 4, [(0, 3)]⟩]⟩
  else if w = 24 then ⟨0x13F1F, [⟨8, 6, [(0, 32)]⟩]⟩
  else if w = 25 then .plain 0xFFFF
  else if w = 26 then ⟨0x0FFF7FFF, [⟨8, 7, [(0, 100)]⟩]⟩
  else .plain 0

/-- Words 0 to 31 of an ingress flow entry (R167, R168, R247). -/
def flowWord (w : Nat) : TabWord :=
  if w = 0 then ⟨0x000F0FFF, [⟨1, 3, [(0, 5)]⟩]⟩
  else if w = 1 then ⟨0x0FFF7F7F, [⟨16, 12, [(0, 4094)]⟩]⟩
  else if w = 2 then ⟨0x7FFF, [⟨0, 15, [(0, 20000)]⟩]⟩
  else if w = 3 then .plain 0
  else if w ≤ 20 ∨ w = 22 then .plain 0xFFFFFFFF
  else if w = 21 then .plain 0x7F
  else if w = 23 then .plain 0
  else if w = 24 then ⟨0x3FFF3FFF, [⟨0, 14, [(16, 8192)]⟩, ⟨16, 14, [(16, 8192)]⟩]⟩
  else if w = 25 then
    ⟨0x000FFFFF, [⟨0, 4, [(0, 5)]⟩, ⟨6, 2, [(0, 2)]⟩, ⟨8, 4, [(0, 4)]⟩, ⟨12, 4, [(0, 3)]⟩, ⟨18, 2, [(0, 2)]⟩]⟩
  else if w = 26 then .plain 0x8003FFFF
  else if w = 27 then ⟨0x1F7F3FFF, [⟨16, 7, [(0, 64)]⟩, ⟨26, 3, [(0, 4)]⟩]⟩
  else if w = 28 ∨ w = 29 then .plain 0xFFFFFFFF
  else .plain 0

/-- The words of a route entry (R222). -/
def routeWord (w : Nat) : TabWord :=
  if w = 0 then .plain 0xFFFF
  else if w < 16 then .plain 0
  else if w % 8 = 0 then ⟨0x007F0FFF, [⟨20, 2, [(0, 2)]⟩]⟩
  else if w % 8 = 1 ∨ w % 8 = 2 then .plain 0xFFFFFFFF
  else .plain 0

/-- Words 0 to 7 of a fast-path entry (R229). -/
def fastWord (w : Nat) : TabWord :=
  if w = 0 then .plain 0xF
  else if w = 1 ∨ w = 2 then .plain 0xFFF
  else if w = 3 then .plain 0x1FF
  else .plain 0

/-- Words 0 to 31 of an egress entry (R334). -/
def egrWord (w : Nat) : TabWord :=
  if w = 0 then ⟨0x1FFF, [⟨1, 3, [(0, 5)]⟩]⟩
  else if w = 1 then ⟨0x7FFF7F7F, [⟨16, 12, [(0, 4094)]⟩]⟩
  else if w = 2 then .plain 0xFFFFFF3F
  else if w ≤ 20 ∨ w = 22 ∨ w = 26 ∨ w = 28 then .plain 0xFFFFFFFF
  else if w = 21 ∨ w = 23 then .plain 0xFFFF
  else if w = 24 then ⟨0x3FFF01FF, [⟨16, 14, [(0, 0), (256, 8952)]⟩]⟩
  else if w = 25 then .plain 0x7F
  else if w = 27 then flowWord 27
  else .plain 0

/-- The words of an output channel entry (R362). -/
def channelWord (w : Nat) : TabWord :=
  if w = 0 then ⟨0x001FFFFF, [⟨16, 5, [(0, 16)]⟩]⟩
  else if w ≤ 4 then .plain 0xFFFFBFFF
  else if w = 5 then .plain 0x003FF1FF
  else .plain 0

/-- Words 0 to 7 of an alignment group (R371). -/
def groupWord (w : Nat) : TabWord :=
  if w = 0 then .plain 1
  else if w = 1 then .plain 0x3FFFF
  else if w = 2 then ⟨0xFFFF, [⟨0, 16, [(0, 60000)]⟩]⟩
  else .plain 0

/-- A word of a LUT: word 0 holds DOMAIN beside its point (R304). -/
def lutWord (w : Nat) : TabWord :=
  if w = 0 then ⟨0xC003FFFF, [⟨30, 2, [(0, 2)]⟩]⟩ else .plain 0x3FFFF

/-- A word of a coefficient set (R256): H_MAX is even, and V_MAX one of its values. -/
def coefWord (w : Nat) : TabWord :=
  if w < 0x300 then .plain 0xFFFFFFFF
  else if w = 0x300 then
    ⟨0xF1F, [⟨0, 5, (List.range 8).map (fun i => (2 * i + 2, 2 * i + 2))⟩, ⟨8, 4, [(1, 2), (4, 4), (6, 6), (8, 8)]⟩]⟩
  else .plain 0

/-- A word of a matrix set (R253). -/
def matrixWord (w : Nat) : TabWord :=
  if w < 3 then .plain 0x7FFFF
  else if w < 12 then .plain 0xFFFFF
  else if w < 15 then .plain 0x7FFFF
  else .plain 0

/-- A listen entry (R183): its range of ports relates two fields of one word. -/
def listenOk (w : Nat) (v : Word) : Bool :=
  if w = 0 then decide (bits v 16 8 ≤ (if bit v 1 then 128 else 32))
  else if w = 1 then decide (bits v 0 16 ≤ bits v 16 16)
  else true

/-- The stored bits of a word of a listen entry (R183). -/
def listenMask (w : Nat) : Nat := if w = 0 then 0x00FF0707 else if w ≤ 5 then 0xFFFFFFFF else 0

/-! LUT RAM (R28, R41, R253, R256, R304). -/

/-- What a place of the LUT RAM window holds. -/
inductive LutPlace where
  | pre (set_ w : Nat)
  | post (bank w : Nat)
  | coef (set_ w : Nat)
  | matrix (set_ w : Nat)
  | reserved
  deriving DecidableEq, Repr

/-- The place of an offset in the LUT RAM window (R253, R256, R304). -/
def lutPlace (off : Nat) : LutPlace :=
  if off < 0x100000 then .pre (off / 0x1000) (off % 0x1000 / 4)
  else if off < 0x500000 then .post ((off - 0x100000) / 0x1000) (off % 0x1000 / 4)
  else if off < 0x580000 then .reserved
  else if off < 0x5C0000 then .coef ((off - 0x580000) / 0x1000) (off % 0x1000 / 4)
  else if off < 0x5C4000 then .matrix ((off - 0x5C0000) / 0x40) (off % 0x40 / 4)
  else .reserved

/-- A layer's route slots of a view, with the pictures they hold: the scaler works on an axis that some picture does not bypass (R41, R255). -/
def View.scales (v : View) (st : Stores) (l : Nat) (vertical : Bool) : Bool :=
  let o := v.layerOut l
  (v.enabledSlots o).any fun k =>
    decide (v.slotLayer o k = l) &&
    [false, true].any fun b =>
      match v.slotPic st o k b with
      | some p => if vertical then !(v.geo o l p).vBypass else !(v.geo o l p).hBypass
      | none => false

/-- A view references a set or bank of the LUT RAM (R41). -/
def View.usesLut (v : View) (st : Stores) : LutPlace → Bool
  | .pre p _ => v.layers.any (fun l => bit (v.layer l 18) 8 && decide (bits (v.layer l 18) 0 8 = p))
  | .post i _ =>
    let o := i / 2
    let w := v.outc o Reg.OUTC_POST_LUT
    bit w 1 && !v.legacy o && decide (bits w 0 1 = i % 2)
  | .coef s _ => v.layers.any fun l =>
      let w := v.layer l 19
      (decide (bits w 0 6 = s) && v.scales st l false) || (decide (bits w 8 6 = s) && v.scales st l true)
  | .matrix m _ =>
    v.layers.any (fun l =>
      let w := v.layer l 17
      (bit w 8 && decide (bits w 0 8 = m)) || (bit w 24 && decide (bits w 16 8 = m)))
    || (v.entries 0x2000000 0x1000 (Reg.OUTC_OUT_MATRIX / 4) 512).any fun o =>
      let w := v.outc o Reg.OUTC_OUT_MATRIX
      bit w 8 && decide (bits w 0 8 = m)
  | .reserved => false

/-- A set is referenced by a live or a pending layer or output (R41). -/
def Dev.lutBusy (d : Dev) (p : LutPlace) : Bool := d.views.any (fun v => v.usesLut d.st p)

/-- The table word of a place, with AREA and WHERE of its error record (R38); none where nothing is written. -/
def LutPlace.word : LutPlace → Option (TabWord × Nat × Nat)
  | .pre p w => some (lutWord w, 0, p)
  | .post i w => some (lutWord w, 1, i)
  | .coef s w => if s < 8 then none else some (coefWord w, 2, s)
  | .matrix m w => some (matrixWord w, 3, m)
  | .reserved => none

/-- A write to the LUT RAM (R38, R41, R257, R304): the built-in sets and reserved words ignore it without record. -/
def Dev.lutWrite (d : Dev) (off : Nat) (v : Word) : Dev :=
  match (lutPlace off).word with
  | none => d
  | some (w, area, entry) =>
    if w.mask = 0 then d
    else if d.lutBusy (lutPlace off) then d.onIo (fun io => io.tableIgnored 2 area entry 6)
    else if !w.admits v then d.onIo (fun io => io.tableIgnored 2 area entry 0)
    else d.onIo (fun io => io.wr (0x2400000 + off) (w.keep v))

/-! Shadowed words of the tables. -/

/-- The table word at a place whose words are shadowed, and TABLE, AREA and WHERE of its error record; none for status words and reserved offsets. -/
def tableWord : Place → Option (TabWord × Nat × Nat × Nat)
  | .layc l off => if off < 0x80 then some (laycWord (off / 4), 0, 0, l) else none
  | .flow f off => if off < 0x80 then some (flowWord (off / 4), 1, 0, f) else none
  | .audio off =>
    if off < 0x80000 then some (channelWord (off % 0x20 / 4), 3, 0, off / 0x20)
    else if 0xD0000 ≤ off ∧ off < 0xD4000 then some (.plain 0xBFFF, 3, 1, (off - 0xD0000) / 4)
    else if 0xD4000 ≤ off ∧ off < 0xD8000 ∧ off % 0x40 < 0x20 then some (groupWord (off % 0x40 / 4), 3, 2, (off - 0xD4000) / 0x40)
    else none
  | _ => none

/-- The unit of a table window has power: the audio tables lie in the audio domain (R14, R17). -/
def Io.tableOn (io : Io) : Place → Bool
  | .audio _ => io.powered .audm
  | _ => true

/-- Why a write to a shadowed table word is ignored (R38). -/
def Io.tableReason (io : Io) (p : Place) (w : TabWord) (v : Word) : Option Nat :=
  if !io.tableOn p then some 3 else if w.admits v then none else some 0

/-- The shadow of a table word takes a value; a reserved word holds nothing (R6, R39). -/
def Io.tableStore (io : Io) (fn a : Nat) (w : TabWord) (v : Word) : Io :=
  if w.mask = 0 then io else io.shadowWr fn a (w.keep v)

/-- A write to a shadowed table window by PF0 (R38, R39). -/
def Io.tableWrite (io : Io) (a : Nat) (v : Word) : Io :=
  match tableWord (placeOf a) with
  | none => io
  | some (w, table, area, entry) =>
    match io.tableReason (placeOf a) w v with
    | some reason => io.tableIgnored table area entry reason
    | none => io.tableStore 0 a w v

end Sys2Proof.Machine
end

