-- ==== Sys2Proof/Machine/BusWrite.lean ====
section
/-! DEFINITION. A register write over the bus (R5, R28 to R30, R38): by PF0 to any page or table window, by a VF to its view of BAR0 (R82). -/
namespace Sys2Proof.Machine

/-! Writes that a rule of their chapter restricts beside the table of the page. -/

/-- A write checked in the order of R38, with a restriction to a time when the unit is idle (`busy`) and a range of its own (`bad`). -/
def Io.guarded (io : Io) (p : PageRef) (off : Nat) (v : Word) (busy bad : Bool) : Io :=
  match rowAt p off with
  | none => io
  | some r =>
    if !io.powered p then io.ignored p off 3
    else if io.flag p Reg.PAGE_LOCK 1 then io.ignored p off 1
    else if busy then io.ignored p off 2
    else if bad || !r.flds.all (fun f => f.admits v) then io.ignored p off 0
    else io.store 0 p r off v

/-- A write to a word of a page that its chapter lays out as a table: locked, range-checked, then stored or shadowed. -/
def Io.wordWrite (io : Io) (p : PageRef) (off a : Nat) (w : TabWord) (v : Word) : Io :=
  if !io.powered p then io.ignored p off 3
  else if io.flag p Reg.PAGE_LOCK 1 then io.ignored p off 1
  else if !w.admits v then io.ignored p off 0
  else io.tableStore 0 a w v

/-- A write to a word of a listen entry (R183). -/
def Io.listenWrite (io : Io) (t : Fin 16) (off : Nat) (v : Word) : Io :=
  let w := off % 0x40 / 4
  if listenMask w = 0 then io
  else if !io.powered (.siev t) then io.ignored (.siev t) off 3
  else if io.flag (.siev t) Reg.PAGE_LOCK 1 then io.ignored (.siev t) off 1
  else if !listenOk w v then io.ignored (.siev t) off 0
  else io.put (.siev t) off (v &&& Word.of (listenMask w))

/-- A write to the SIEV pages (R183, R189). -/
def Io.sievWrite (io : Io) (t : Fin 16) (off : Nat) (v : Word) : Io :=
  let on := io.flag (.siev t) Reg.SIEV_PUNT_CFG 0
  if 0x1000 ≤ off then (if off < 0x1400 then io.listenWrite t off v else io)
  else if off = Reg.SIEV_CNT_CLR then io.clearWrite (.siev t) off v (fun io => io.sievClear t)
  else if off = Reg.SIEV_PUNT_CFG then io.guarded (.siev t) off v on (bit v 0 && !decide (4 ≤ bits v 1 4 ∧ bits v 1 4 ≤ 12))
  else if off = Reg.SIEV_PUNT_BASE_LO ∨ off = Reg.SIEV_PUNT_BASE_HI then io.guarded (.siev t) off v on false
  else io.regWrite 0 (.siev t) off v

/-- A write to the ROUT pages: the windows address the entries that the selectors hold (R240). -/
def Io.routWrite (io : Io) (off : Nat) (v : Word) : Io :=
  if 0x1000 ≤ off ∧ off < 0x1240 then
    let w := (off - 0x1000) / 4
    io.wordWrite .rout off (routeAddr (io.fld .rout Reg.ROUT_WIN_SEL 0 9) w) (routeWord w) v
  else if 0x2000 ≤ off ∧ off < 0x2020 then
    let w := (off - 0x2000) / 4
    io.wordWrite .rout off (fastAddr (io.fld .rout Reg.ROUT_FP_SEL 0 12) w) (fastWord w) v
  else if off = Reg.ROUT_CNT_CLR then io.clearWrite .rout off v (fun io => io.clearFrom .rout Reg.ROUT_FP_LATE_LO 4)
  else io.regWrite 0 .rout off v

/-- A write to a SCAN page: the window addresses the egress entry that the selector holds (R335, R349). -/
def Io.scanWrite (io : Io) (t : Fin 16) (off : Nat) (v : Word) : Io :=
  if 0x400 ≤ off ∧ off < 0x480 then
    let w := (off - 0x400) / 4
    io.wordWrite (.scan t) off (egrAddr (io.fld (.scan t) Reg.SCAN_EGR_SEL 0 12) w) (egrWord w) v
  else if off = Reg.SCAN_CNT_CLR then io.clearWrite (.scan t) off v (fun io => io.clearFrom (.scan t) Reg.SCAN_PKTS_TX_LO 8)
  else if off = Reg.SCAN_HTX_CFG ∨ off = Reg.SCAN_HTX_BASE_LO ∨ off = Reg.SCAN_HTX_BASE_HI then
    io.guarded (.scan t) off v (io.flag (.scan t) Reg.SCAN_HTX_CFG 0) false
  else io.regWrite 0 (.scan t) off v

/-- The greatest value of a quota (R84). -/
def quotaLimit (r : Nat) : Option Nat :=
  if r = Reg.HQ_FN_Q_HBM then some 147456 else if r = Reg.HQ_FN_Q_LAYERS then some 4096
  else if r = Reg.HQ_FN_Q_FLOWS then some 8192 else if r = Reg.HQ_FN_Q_BW then some 3301376
  else if r = Reg.HQ_FN_Q_PIX then some 640000 else if r = Reg.HQ_FN_Q_INFLIGHT then some 960 else none

/-- PF0 writes a quota (R84): a rate quota below the live charge is enforced from the next latch lines on (R86). -/
def Dev.quotaWrite (d : Dev) (f r : Nat) (v : Word) : Dev :=
  match quotaLimit r with
  | none => d
  | some top =>
    if d.io.flag .hq Reg.PAGE_LOCK 1 then d.onIo (fun io => io.ignored .hq (fnReg f r) 1)
    else if top < v.toNat then d.onIo (fun io => io.ignored .hq (fnReg f r) 0)
    else
      let d := d.onIo (fun io => io.setFn f r v.toNat)
      if r = Reg.HQ_FN_Q_BW ∨ r = Reg.HQ_FN_Q_PIX then
        let d := d.showRate f
        if (d.overCause f []).isSome ∧ !d.com.cuts.contains f then { d with com := { d.com with cuts := d.com.cuts ++ [f] } } else d
      else d

/-- A write to the HQ pages: quota blocks and contexts (R59, R84). -/
def Dev.hqWrite (d : Dev) (off : Nat) (v : Word) : Dev :=
  if 0x1080 ≤ off ∧ off < 0x3000 then d.quotaWrite ((off - 0x1000) / 0x80) (off % 0x80) v
  else if 0x4000 ≤ off ∧ off < 0x4000 + 316 * 0x40 then d.onHq (qpWrite 0 ((off - 0x4000) / 0x40) (off % 0x40) v)
  else d

/-- A write to the PTP page (R156, R157). -/
def Dev.ptpWrite (d : Dev) (off : Nat) (v : Word) : Dev :=
  if off = Reg.PTP_CTL then (d.onPtp (ptpSourceWrite v)).stepped d.io.now 0
  else if off = Reg.PTP_SET_CTL then
    let e := if bit v 0 then (d.onIo Io.ptpSet).stepped d.io.now 0 else d
    if bit v 1 then e.onPtp ppsArm else e
  else d.onIo (fun io => io.regWrite 0 .ptp off v)

/-- A write to a MSEC page (R160 to R162). -/
def Dev.msecWrite (d : Dev) (p : Fin 128) (off : Nat) (v : Word) : Dev :=
  if off = Reg.MSEC_TX_AN then d.onIo (fun io => io.txAnWrite p v)
  else if 0x200 ≤ off ∧ off < 0x480 then d.onIo (fun io => io.saWrite (fun k => (d.macKey k).isSome) p off v)
  else if off = Reg.MSEC_CNT_CLR then d.onIo (fun io => io.clearWrite (.msec p) off v (fun io => io.msecClear p))
  else d.onIo (fun io => io.regWrite 0 (.msec p) off v)

/-- A write to an OUTC page (R306, R322, R326, R345). -/
def Dev.outcWrite (d : Dev) (o : Fin 512) (off : Nat) (v : Word) : Dev :=
  if off = Reg.LEG_UPDATE then d.legWrite o v
  else if off = Reg.OUTC_LPE_RELEARN then d.onSc (loupeRelearn o v)
  else d.onIo (fun io => io.regWrite 0 (.outc o) off v)

/-- A write to the LARD page (R436). -/
def Dev.lardWrite (d : Dev) (off : Nat) (v : Word) : Dev :=
  if off = Reg.LARD_CTL then d.lardCtl v
  else if off = Reg.LARD_MAP_QUERY then d.onLar (fun x => x.mapQuery v)
  else if off = Reg.LARD_WEAR_SEL then d.wearSel v
  else if off = Reg.LARD_SWAP then d.onLar (fun x => x.swapWrite d.sc.jobs v)
  else d.onIo (fun io => io.regWrite 0 .lard off v)

/-- A write to the PWR page (R416, R418). -/
def Dev.pwrWrite (d : Dev) (off : Nat) (v : Word) : Dev :=
  if off = Reg.PWR_TILE_OFF then d.onPower (pwrTileOffWrite v)
  else if Reg.PWR_OFF ≤ off ∧ off < Reg.PWR_OFF + 12 then d.onPower (pwrOffWrite ((off - Reg.PWR_OFF) / 4) v)
  else d.onIo (fun io => io.regWrite 0 .pwr off v)

/-- A write to the FW page (R95, R100, R106). -/
def Dev.fwWrite (d : Dev) (off : Nat) (v : Word) : Dev :=
  if off = Reg.FW_CTL ∧ d.io.accepts .fw off v ∧ bit v 0 then d.loadWrite
  else if off = Reg.FW_SEC_COMMIT ∧ d.io.accepts .fw off v then d.secCommit v
  else d.onIo (fun io => io.regWrite 0 .fw off v)

/-- A write of a counter-clear register whose counters are `n` words from `lo` on. -/
def Dev.clears (d : Dev) (p : PageRef) (off lo n : Nat) (v : Word) : Dev :=
  d.onIo (fun io => io.clearWrite p off v (fun io => io.clearFrom p lo n))

/-- A write to a block-specific register of a page. -/
def Dev.blockWrite (d : Dev) (p : PageRef) (off : Nat) (v : Word) : Dev :=
  let plain := d.onIo (fun io => io.regWrite 0 p off v)
  match p with
  | .top => if off = Reg.TOP_COMMIT then d.commitWrite v else plain
  | .hq => d.hqWrite off v
  | .evt => plain
  | .fw => d.fwWrite off v
  | .pcie => plain
  | .lane l => d.links (laneWrite l off v)
  | .pcs l => d.links (pcsWrite l off v)
  | .mac l => if off = Reg.MAC_CNT_CLR then d.onIo (fun io => io.clearWrite p off v (fun io => io.macClear l)) else plain
  | .msec l => d.msecWrite l off v
  | .ptp => d.ptpWrite off v
  | .siev t => d.onIo (fun io => io.sievWrite t off v)
  | .rout => d.onIo (fun io => io.routWrite off v)
  | .fstr =>
    if off = Reg.FSTR_QUERY then d.fstrQuery v
    else if off = Reg.FSTR_MAP_QUERY then d.mapQueryWrite v
    else if off = Reg.FSTR_CNT_CLR then d.clears p off 0x80 6 v
    else plain
  | .hbmc _ => if off = Reg.HBMC_CNT_CLR then d.clears p off Reg.HBMC_CORR_LO 4 v else plain
  | .prsm _ => if off = Reg.PRSM_CNT_CLR then d.clears p off Reg.PRSM_JOBS_DONE_LO 6 v else plain
  | .frc e =>
    if off = Reg.FRC_JOB_SEL then d.onIo (fun io => frcJobSel e v io d.sc)
    else if off = Reg.FRC_CNT_CLR then d.clears p off Reg.FRC_PICTURES_LO 16 v
    else plain
  | .comp _ => if off = Reg.COMP_CNT_CLR then d.clears p off Reg.COMP_UNDERRUN_LO 6 v else plain
  | .scan t => d.onIo (fun io => io.scanWrite t off v)
  | .outc o => d.outcWrite o off v
  | .loup => if off = Reg.LOUP_CNT_CLR then d.clears p off Reg.LOUP_CHECKS_LO 4 v else plain
  | .audm => if off = Reg.AUDM_CNT_CLR then d.clears p off Reg.AUDM_UNDERRUN_SAMPLES_LO 10 v else plain
  | .asrc => if off = Reg.ASRC_CNT_CLR then d.clears p off Reg.ASRC_UNLOCKS_LO 2 v else plain
  | .tdmp q =>
    if off = Reg.TDMP_CTL then d.onTdm (tdmCtlWrite q v)
    else if off = Reg.TDMP_CNT_CLR then d.clears p off Reg.TDMP_FRAMES_LO 12 v
    else plain
  | .thrm => d.onIo (fun io => io.thrmWrite off v)
  | .pwr => d.pwrWrite off v
  | .lard => d.lardWrite off v
  | .nvs =>
    if off = Reg.NVS_WIN_CTL then d.winCtl v
    else if off = Reg.NVS_CNT_CLR then d.clears p off Reg.NVS_CORR_LO 8 v
    else plain
  | .keys => if off = Reg.KEYS_SLOT_QUERY then d.onIo (fun io => keysQuery v d.st.authNames io d.keys) else plain

/-- A write to the common header of a page (R33, R34, R37). -/
def Dev.headerWrite (d : Dev) (p : PageRef) (off : Nat) (v : Word) : Dev :=
  if off = Reg.PAGE_CTL then d.pageCtl p v
  else if off = Reg.EVT_EN then d.onIo (fun io => io.evtEnable p v)
  else if off = Reg.EVT_PEND then d.onIo (fun io => io.evtClear p v)
  else if off = Reg.EVT_FORCE then d.onIo (fun io => io.evtForce p v)
  else if off = Reg.ERR_CODE then (if bit v 31 then d.onIo (fun io => io.errClear p) else d)
  else if off = Reg.PAGE_LOCK then d.onIo (fun io => io.lockWrite p v)
  else d

/-- A write by PF0 at an address of its BAR0 (R28 to R31). -/
def Dev.busWrite (d : Dev) (a : Nat) (v : Word) : Dev :=
  match placeOf a with
  | .page p off => if off < 0x40 then d.headerWrite p off v else d.blockWrite p off v
  | .evtMap s => d.onIo (fun io => io.mapWrite s v)
  | .nvsWin off => d.onNv (fun x => x.window off (some (wordBytes v)) 4)
  | .lut off => d.lutWrite off v
  | .layc _ _ => d.onIo (fun io => io.tableWrite a v)
  | .flow _ _ => d.onIo (fun io => io.tableWrite a v)
  | .audio _ => d.onIo (fun io => io.tableWrite a v)
  | .route _ _ => d
  | .fast _ _ => d
  | .egr _ _ => d
  | .reserved => d

/-- A write by a VF in its 1 MiB view: its queue pair contexts, and nothing else (R30, R82). -/
def Dev.vfWrite (d : Dev) (fn a : Nat) (v : Word) : Dev :=
  if 0x1000 ≤ a ∧ a < 0x1100 then d.onHq (qpWrite fn (qOf fn ((a - 0x1000) / 0x40)) (a % 0x40) v)
  else if a < 0x100000 then d.onIo (fun io => io.badWrite fn)
  else d

/-- REG_WRITE (R38, R82): registers are words, so an address that is no multiple of four names none. -/
def execRegWrite (fn : Fin 64) (addr : BitVec 26) (v : Word) (s : State) : Host.Outcome State Fault Refusal :=
  s.settled fun d =>
    let a := addr.toNat
    if a % 4 ≠ 0 then d else if fn = 0 then d.busWrite a v else d.vfWrite fn a v

end Sys2Proof.Machine
end

