-- ==== Sys2Proof/Machine/BusRead.lean ====
section
/-! DEFINITION. A register read over the bus (R4, R5, R16, R17, R28 to R30, R40, R82): figures that follow from the state, snapshots of wide values, and the reads of a VF. -/
namespace Sys2Proof.Machine

/-! The header (R33 to R36). -/

/-- PAGE_CAP.EVT_COUNT: event bits in use, from the chapters' event tables (R34). -/
def evtCount : PageRef → Nat
  | .top => 10 | .hq => 8 | .evt => 2 | .fw => 8 | .pcie => 4 | .lane _ => 10 | .pcs _ => 9 | .mac _ => 6
  | .msec _ => 8 | .ptp => 9 | .siev _ => 14 | .rout => 7 | .fstr => 7 | .hbmc _ => 8 | .prsm _ => 5 | .frc _ => 6
  | .comp _ => 6 | .scan _ => 3 | .loup => 2 | .audm => 8 | .asrc => 5 | .tdmp _ => 9 | .thrm => 7 | .pwr => 4
  | .lard => 12 | .nvs => 10 | .keys => 6 | .outc _ => 27

/-- PAGE_CAP.HAS_SHADOW: the page holds RWS registers, ROUT and SCAN in their windows (R240, R349). -/
def hasShadow : PageRef → Bool
  | .rout => true | .scan _ => true | p => (rowsOf p).any (fun r => r.shadowed)

/-- The page to which a shadowed address belongs (R34). -/
def shadowPage : Nat → PageRef → Bool := fun a p =>
  match placeOf a, p with
  | .page q _, p => decide (q = p)
  | .route _ _, .rout => true
  | .fast _ _, .rout => true
  | .egr _ _, .scan _ => true
  | _, _ => false

/-- PAGE_CAP (R34). -/
def pageCapOf (p : PageRef) : Nat :=
  let open_ := Config.pageCap (pageType p)
  open_ % 2 ^ 16 + b2n (hasShadow p) * 2 ^ 16 + b2n (open_.testBit 17) * 2 ^ 17
    + b2n (decide (pageType p = 0x1C)) * 2 ^ 18 + evtCount p * 2 ^ 24

/-- Commands that wait on a page's block (R34, R75). -/
def Queues.queuedOn (hq : Queues) (p : PageRef) : Nat :=
  (hq.waiting.filter fun w =>
    match w.kind, p with
    | 0, .outc o => decide (w.index = o.val)
    | 1, .pcs l => decide (w.index = l.val)
    | 1, .mac l => decide (w.index = l.val)
    | 1, .msec l => decide (w.index = l.val)
    | 1, .lane l => decide (w.index = l.val)
    | 2, .prsm e => decide (w.index = e.val)
    | 2, .frc e => decide (w.index = e.val)
    | 3, .tdmp q => decide (w.index = q.val)
    | _, _ => false).length

/-- Some output of a tile is in a frame. -/
def Dev.tileInFrame (d : Dev) (t : Nat) : Bool := d.sc.outs.any (fun e => decide (e.1 / 32 = t) && e.2.inFrame)

/-- Work is in flight in a block (R34). -/
def Dev.atWork (d : Dev) (p : PageRef) : Bool :=
  match p with
  | .outc o => d.sc.outs.any (fun e => decide (e.1 = o.val) && e.2.inFrame)
  | .comp t => d.tileInFrame t
  | .scan t => d.tileInFrame t
  | .prsm e => d.sc.jobs.any (fun j => j.engine.isSome && decide (j.engine = d.io.logicalOf e))
  | .frc e => d.sc.jobs.any (fun j => j.engine.isSome && decide (j.engine = d.io.logicalOf e))
  | .hq => !d.hq.live.isEmpty
  | .top => !d.com.queue.isEmpty || !d.com.pend.isEmpty
  | .nvs => d.nvs.running.isSome
  | .keys => d.io.flag .keys Reg.KEYS_LC_STAT 3
  | _ => false

/-- A word of the common header (R33, R34): each figure follows from the state. -/
def Dev.headerWord (d : Dev) (p : PageRef) (off : Nat) : Word :=
  if off = Reg.PAGE_ID then Word.of (pageType p + pageHome p * 2 ^ 8 + pageInstance p * 2 ^ 16)
  else if off = Reg.PAGE_VER then 0x00B00100
  else if off = Reg.PAGE_CAP then Word.of (pageCapOf p)
  else if off = Reg.PAGE_STAT then
    Word.of (b2n (d.io.busy p || d.io.draining p || d.atWork p) + d.io.shownState p * 2
      + b2n (decide (d.io.fld p Reg.ERR_CODE 0 16 ≠ 0)) * 2 ^ 4
      + b2n (decide (d.io.fld p Reg.PAGE_LOCK 0 3 ≠ 0)) * 2 ^ 5 + sat 8 (d.hq.queuedOn p) * 2 ^ 8)
  else if off = Reg.SHADOW_STAT then
    let dirty := d.io.shadow.any (fun e => e.2.dirty && shadowPage e.1 p)
    let pend := d.com.pend.any (fun c => c.vals.any (fun x => shadowPage x.1 p))
    Word.of (b2n dirty + b2n pend * 2 + d.io.fld p Reg.SHADOW_STAT 16 16 * 2 ^ 16)
  else d.io.reg p off

/-! Figures of the blocks. -/

/-- The live view as the charges report it: a downgraded layer counts in the mode in which it runs (R290). -/
def Dev.reported (d : Dev) : View :=
  let v := d.io.live
  { v with get := fun a =>
      match placeOf a with
      | .layc l off =>
        if off = 0x60 ∧ v.layerMode l = 3 ∧ v.layerUsed l ∧ d.io.flag (outPage (v.layerOut l)) Reg.OUTC_FRC_STAT 0 then setBits (v.get a) 0 2 2
        else v.get a
      | _ => v.get a }

/-- The live charges (R25, R290). -/
def Dev.usage (d : Dev) : Adm := { d.liveAdm with views := [d.reported], final := d.reported }

/-- A charge in millions per second, rounded down. -/
def Q.mega (q : Q) : Nat := (q.scale 1 1000000).floor

/-- The live rate of motion-compensated output pixels (R25). -/
def Adm.motionRate (a : Adm) : Q :=
  let v := a.final
  Q.sum (a.outs.map fun o => Q.sum ((List.range 16).map fun k =>
    let l := v.slotLayer o k
    if a.counts v o k ∧ v.layerMode l = 3 then pixelRate ((v.layerDst l).w * (v.layerDst l).h) (v.timing o).rate else Q.zero))

/-- The charges of the TOP page (R25). -/
def Dev.topUsed (d : Dev) (off : Nat) : Nat :=
  let a := d.usage
  if off = Reg.TOP_ADM_ENG_USED then (a.slots a.guaranteed).eng.mega
  else if off = Reg.TOP_ADM_HBM_USED then ((a.slots a.guaranteed).hbm.add a.traffic).mega
  else if off = Reg.TOP_ADM_RSV_ENG_USED then (a.slots a.reserve).eng.mega
  else if off = Reg.TOP_ADM_RSV_HBM_USED then (a.slots a.reserve).hbm.mega
  else if off = Reg.TOP_ADM_PKTBUF_USED then (a.fastLoad.scale 1 1024).floor
  else a.motionRate.mega

/-- The live charge of a function (R84, R290). -/
def Dev.fnUsed (d : Dev) (fn : Nat) : Charge := d.fnCharge d.reported d.io.live.layerHidden d.sc.flat fn

/-- OVER_COUNT: use of memory, layers, flows or commands in flight above its quota (R84). -/
def Io.overCount (io : Io) (fn : Nat) : Bool :=
  [(Reg.HQ_FN_U_HBM, Reg.HQ_FN_Q_HBM), (Reg.HQ_FN_U_LAYERS, Reg.HQ_FN_Q_LAYERS), (Reg.HQ_FN_U_FLOWS, Reg.HQ_FN_Q_FLOWS),
    (Reg.HQ_FN_U_INFLIGHT, Reg.HQ_FN_Q_INFLIGHT)].any (fun x => decide (io.fn fn x.2 < io.fn fn x.1))

/-- A register of a function's quota block (R84). -/
def Dev.quotaWord (d : Dev) (fn r : Nat) : Word :=
  if r = Reg.HQ_FN_U_BW then Word.of (d.fnUsed fn).hbm.mega
  else if r = Reg.HQ_FN_U_PIX then Word.of (d.fnUsed fn).eng.mega
  else if r = Reg.HQ_FN_STAT then setBit (Word.of (d.io.fn fn r)) 2 (d.io.overCount fn)
  else Word.of (d.io.fn fn r)

/-- The raster line that an output carries now (R326, R328). -/
def OutRt.rasterNow (r : OutRt) (io : Io) : Nat :=
  let t := r.tm
  min (t.vTotal - 1) ((r.clock io - t.phase) * t.num * t.vTotal / (t.den * 1000000000) - r.frame * t.vTotal)

/-- OUTC_LINE (R326). -/
def Dev.lineWord (d : Dev) (o : Nat) : Word :=
  match d.outRt o with
  | some r =>
    if r.inFrame then
      let y := r.rasterNow d.io
      Word.of (y % 2 ^ 14 + b2n (decide (r.tm.scan ≠ 0 ∧ r.tm.field2 ≤ y)) * 2 ^ 16)
    else 0
  | none => 0

/-- OUTC_COMP_STAT (R306). -/
def Dev.compStat (d : Dev) (o : Nat) : Word :=
  let v := d.io.live
  let ls := v.layersOf o
  let runs := d.sc.runs.filter (fun r => r.out = o)
  Word.of (ls.length + (v.enabledSlots o).length * 2 ^ 5 + (ls.filter v.layerHidden).length * 2 ^ 10 + runs.length * 2 ^ 15
    + (runs.filter (fun r => decide (3 ≤ r.plane))).length * 2 ^ 19 + b2n (v.lid o).isSome * 2 ^ 23)

/-- OUTC_LAYERS (R306): bound contexts in ascending order, two per word. -/
def View.layersWord (v : View) (o i : Nat) : Word :=
  let one := fun k =>
    match (v.layersOf o)[k]? with
    | some l => l + 2 ^ 15
    | none => 0
  Word.of (one (2 * i) + one (2 * i + 1) * 2 ^ 16)

/-- Rectangle 7 of an output: XY, WH and the EN bit of CTL of the live Lid (R345). -/
def View.lidRect (v : View) (o i : Nat) : Word :=
  match v.lid o with
  | none => 0
  | some l =>
    let r := v.layerDst l
    if i = 0 then Word.of (r.x + r.y * 2 ^ 16) else if i = 1 then Word.of (r.w + r.h * 2 ^ 16) else if i = 2 then 1 else 0

/-- A register of an OUTC page that follows from the state; the others as stored (R306, R326, R345). -/
def Dev.outcWord (d : Dev) (o : Fin 512) (off : Nat) : Word :=
  let v := d.io.live
  if off = Reg.OUTC_LINE then d.lineWord o
  else if off = Reg.OUTC_COMP_STAT then d.compStat o
  else if Reg.OUTC_LAYERS ≤ off ∧ off < Reg.OUTC_LAYERS + 32 then v.layersWord o ((off - Reg.OUTC_LAYERS) / 4)
  else if off = Reg.OUTC_LPE_STAT then let m := v.loupeMethod o; Word.of (m.1 + m.2 * 2 ^ 16)
  else if 0x270 ≤ off ∧ off < 0x280 then v.lidRect o ((off - 0x270) / 4)
  else if 0xA70 ≤ off ∧ off < 0xA80 then v.lidRect o ((off - 0xA70) / 4)
  else d.io.reg (.outc o) off

/-- A register of the AUDM page that follows from the state (R381). -/
def Dev.audmWord (d : Dev) (off : Nat) : Word :=
  let v := d.io.live
  if off = Reg.AUDM_STAT then
    let flows := (v.flows.filter (fun f => decide (v.flowType f = 2 ∨ v.flowType f = 3 ∨ v.flowType f = 5))).map v.flowChannels
    let ports := d.tdm.ports.map (fun x => (x.2.rx.filter (fun s => s.2.ch.isSome)).length)
    Word.of (v.audChannels.length + (flows.sum + ports.sum) * 2 ^ 16)
  else if off = Reg.AUDM_GROUPS_LOST then
    Word.of ((List.range 256).filter (fun g => v.groupOn g && !bit (d.io.rd (groupAddr g 8)) 0)).length
  else if off = Reg.AUDM_HIST_BW then Word.of (v.historyCharge / 1000)
  else d.io.reg .audm off

/-- A block-specific register of a page, before shadows and open values. -/
def Dev.blockWord (d : Dev) (p : PageRef) (off : Nat) : Word :=
  match p with
  | .top => if Reg.TOP_ADM_ENG_USED ≤ off ∧ off ≤ Reg.TOP_ADM_MC_USED then Word.of (d.topUsed off) else d.io.reg p off
  | .hq => if 0x1080 ≤ off ∧ off < 0x3000 then d.quotaWord ((off - 0x1000) / 0x80) (off % 0x80) else d.io.reg p off
  | .outc o => d.outcWord o off
  | .audm => d.audmWord off
  | .rout => if off = Reg.ROUT_OFF_PRIMARY then Word.of d.io.offPrimary else d.io.reg p off
  | .comp t =>
    if off = Reg.COMP_LOAD then Word.of ((Q.sum ((d.io.outsOn.filter (fun o => decide (o / 32 = t.val))).map d.io.live.outPixels)).mega % 2 ^ 16)
    else d.io.reg p off
  | .loup =>
    if off = Reg.LOUP_STAT then
      let ms := d.io.outsOn.map (fun o => (d.io.live.loupeMethod o).1)
      Word.of ((ms.filter (fun m => decide (m = 1))).length + (ms.filter (fun m => decide (2 ≤ m))).length * 2 ^ 16)
    else d.io.reg p off
  | .ptp =>
    if off = Reg.PTP_TIME_NS then Word.of (d.io.now % 1000000000)
    else if off = Reg.PTP_TIME_SEC_LO then Word.of (d.io.now / 1000000000)
    else if off = Reg.PTP_TIME_SEC_HI then Word.of (d.io.now / 1000000000 / 2 ^ 32 % 2 ^ 16)
    else if off = Reg.PTP_TIME64_LO then Word.of d.io.now
    else if off = Reg.PTP_TIME64_HI then Word.of (d.io.now / 2 ^ 32)
    else d.io.reg p off
  | _ => d.io.reg p off

/-! Where an address leads. -/

/-- The address behind a BAR0 address, and whether the live view is asked: windows lead to the entries that their selectors hold, and offset plus 0x800 of a shadowed register to its live value (R5, R40, R240, R349). -/
def Io.target (io : Io) (a : Nat) : Nat × Bool :=
  match placeOf a with
  | .page .rout off =>
    let o := io.fld .rout Reg.ROUT_WIN_SEL 0 9
    let e := io.fld .rout Reg.ROUT_FP_SEL 0 12
    let r := off % 0x800
    let live := decide (0x800 ≤ off % 0x1000)
    if off / 0x1000 = 1 then
      if r < 0x240 then (routeAddr o (r / 4), live)
      else if 0x300 ≤ r ∧ r < 0x340 then (routeAddr o (r / 4), true)
      else (a, false)
    else if off / 0x1000 = 2 then
      if r < 0x20 ∨ (0x40 ≤ r ∧ r < 0x5C) then (fastAddr e (r / 4), live) else (a, false)
    else (a, false)
  | .page (.scan t) off =>
    let r := off % 0x800
    if 0x400 ≤ r ∧ r < 0x500 then (egrAddr (io.fld (.scan t) Reg.SCAN_EGR_SEL 0 12) ((r - 0x400) / 4), decide (0x800 ≤ off)) else (a, false)
  | .page p off =>
    if 0x800 ≤ off ∧ ((rowAt p (off - 0x800)).map (fun r => r.shadowed)).getD false then (a - 0x800, true) else (a, false)
  | .layc _ _ => (a, io.flag .top Reg.TOP_VIEW_SEL 0)
  | .flow _ _ => (a, io.flag .top Reg.TOP_VIEW_SEL 0)
  | .audio _ => (a, io.flag .top Reg.TOP_VIEW_SEL 0)
  | _ => (a, false)

/-- A word of a table or a shadowed register in the view asked for. -/
def Io.viewRd (io : Io) (a : Nat) (live : Bool) : Word := if live then io.rd a else io.shadowRd a

/-- The status word of an input channel: its binder follows the bindings (R380). -/
def Dev.inputWord (d : Dev) (i a : Nat) : Word :=
  match boundNow i d.io d.tdm with
  | some b => Word.of (b.kind + b2n (bit (d.io.rd a) 4) * 2 ^ 4 + b2n b.fast * 2 ^ 5 + b2n b.l24 * 2 ^ 6 + b.source % 2 ^ 12 * 2 ^ 8)
  | none => 0

/-- A word of the audio tables (R361, R371, R380). -/
def Dev.audioWord (d : Dev) (off a : Nat) (live : Bool) : Word :=
  if !d.io.powered .audm then 0
  else if 0xC0000 ≤ off ∧ off < 0xD0000 then d.inputWord ((off - 0xC0000) / 4) a
  else if 0xD4000 ≤ off ∧ off < 0xD8000 ∧ off % 0x40 = 0x20 then
    setBits (d.io.rd a) 8 8 (sat 8 (d.io.live.groupMembers ((off - 0xD4000) / 0x40)).length)
  else d.io.viewRd a live

/-- A word of a built-in coefficient set, its taps and its maxima (R256, R257). -/
def Dev.builtinWord (d : Dev) (s w : Nat) : Word :=
  let c := fun vertical phase k => unsigned 16 (Config.builtinCoef s vertical phase k)
  if w < 0x200 then Word.of (c false (w / 8) (2 * (w % 8)) + c false (w / 8) (2 * (w % 8) + 1) * 2 ^ 16)
  else if w < 0x300 then
    let u := w - 0x200
    Word.of (c true (u / 4) (2 * (u % 4)) + c true (u / 4) (2 * (u % 4) + 1) * 2 ^ 16)
  else if w = 0x300 then Word.of (d.io.live.setMax s false + d.io.live.setMax s true * 2 ^ 8)
  else 0

/-- The present value of a word behind an address, as PF0 reads it. -/
def Dev.word (d : Dev) (a : Nat) (live : Bool) : Word :=
  match placeOf a with
  | .page p off =>
    if off < 0x40 then d.headerWord p off
    else if !d.io.powered p then 0
    else
      match rowAt p off with
      | some r => if r.shadowed then d.io.viewRd a live else d.io.rd a
      | none => d.blockWord p off
  | .lut off =>
    match lutPlace off with
    | .coef s w => if s < 8 then d.builtinWord s w else d.io.rd a
    | _ => d.io.rd a
  | .audio off => d.audioWord off a live
  | .evtMap _ => d.io.rd a
  | .layc _ _ => d.io.viewRd a live
  | .flow _ _ => d.io.viewRd a live
  | .route _ _ => d.io.viewRd a live
  | .fast _ _ => d.io.viewRd a live
  | .egr _ _ => d.io.viewRd a live
  | .nvsWin _ => 0
  | .reserved => 0

/-! Values that the manual leaves open, or that measure what no command tells. -/

/-- The bits of a register that read as a free value, and the greatest value of the field they form, when it has one. -/
def openBits (p : PageRef) (off : Nat) : Option (Nat × Nat × Nat) :=
  match p with
  | .hbmc _ =>
    if off = Reg.HBMC_BW_RD ∨ off = Reg.HBMC_BW_WR then some (0, 32, 0xFFFFFFFF)
    else if off = Reg.HBMC_SCRUB_STAT then some (0, 10, 1000)
    else none
  | .prsm _ => if off = Reg.PRSM_BUSY then some (0, 10, 1000) else none
  | .pwr => if off = Reg.PWR_EST then some (0, 16, 0xFFFF) else none
  | .pcs _ => if Reg.PCS_BLK_ERR_LO ≤ off ∧ off ≤ Reg.PCS_FEC_SYM_HI then (if off % 8 = 0 then some (0, 32, 0xFFFFFFFF) else some (0, 16, 0xFFFF)) else none
  | .hq => if 0x1080 ≤ off ∧ off < 0x3000 ∧ off % 0x80 = Reg.HQ_FN_STAT then some (0, 1, 1) else none
  | .outc _ => if off = 0x278 ∨ off = 0xA78 then some (1, 2, 2) else none
  | _ => none

/-- The open bits at an address: EVT_RAW of every page besides those of `openBits`, and PRESENT of a bound input channel (R34, R380). -/
def Dev.openAt (d : Dev) (a : Nat) : Option (Nat × Nat × Nat) :=
  match placeOf a with
  | .page p off => if off = Reg.EVT_RAW then some (0, 32, 0xFFFFFFFF) else if 0x40 ≤ off ∧ d.io.powered p then openBits p off else none
  | .audio off =>
    if 0xC0000 ≤ off ∧ off < 0xD0000 ∧ d.io.powered .audm ∧ (boundNow ((off - 0xC0000) / 4) d.io d.tdm).isSome then some (3, 1, 1) else none
  | _ => none

/-- A word with its open bits filled by a free value. -/
def Io.filled (io : Io) (w : Word) (lo len top : Nat) : Word := setBits w lo len (io.freeNat 32 % (top + 1))

/-! Wide values (R4, R16). -/

/-- Values wider than 32 bits that the part keeps in a page: where they begin, words of each, and how many follow one another. -/
def wideIn : PageRef → List (Nat × Nat × Nat)
  | .top => [(Reg.TOP_COMMIT_TIME_LO, 2, 1)]
  | .outc _ => [(Reg.OUTC_APPLY_FRAME_LO, 2, 2), (Reg.OUTC_FRAME_CNT_LO, 2, 2)]
  | .lane _ => [(Reg.LANE_PARTNER_TS_LO, 2, 1), (Reg.LANE_PRBS_ERR_LO, 2, 2)]
  | .pcs _ => [(Reg.PCS_LINK_TS_LO, 2, 1), (Reg.PCS_BLK_ERR_LO, 2, 4), (Reg.PCS_AN_LP_LO, 2, 1)]
  | .mac _ => [(Reg.MAC_RX_FRAMES_LO, 2, 12)]
  | .ptp => [(Reg.PTP_GM_ID_LO, 2, 1), (Reg.PTP_TIME_NS, 3, 1), (Reg.PTP_TIME64_LO, 2, 1)]
  | .msec _ => [(Reg.MSEC_IN_OK_LO, 2, 8)]
  | .siev _ => [(Reg.SIEV_UNMATCHED_LO, 2, 9)]
  | .fstr => [(Reg.FSTR_AP_DROP_LO, 2, 3)]
  | .hbmc _ => [(Reg.HBMC_CORR_LO, 2, 2)]
  | .rout => [(Reg.ROUT_FP_LATE_LO, 2, 2)]
  | .prsm _ => [(Reg.PRSM_JOBS_DONE_LO, 2, 3)]
  | .frc _ => [(Reg.FRC_JOB_TAU_LO, 2, 2), (Reg.FRC_PICTURES_LO, 2, 8)]
  | .comp _ => [(Reg.COMP_UNDERRUN_LO, 2, 3)]
  | .scan _ => [(Reg.SCAN_PKTS_TX_LO, 2, 4)]
  | .loup => [(Reg.LOUP_CHECKS_LO, 2, 2)]
  | .audm => [(Reg.AUDM_UNDERRUN_SAMPLES_LO, 2, 5)]
  | .asrc => [(Reg.ASRC_UNLOCKS_LO, 2, 1)]
  | .tdmp _ => [(Reg.TDMP_LAST_SYNC_LO, 2, 1), (Reg.TDMP_FRAMES_LO, 2, 6)]
  | .thrm => [(Reg.THRM_FAULT_LO, 2, 1)]
  | .lard => [(Reg.LARD_IST_LAST_LO, 2, 1)]
  | .nvs => [(Reg.NVS_CORR_LO, 2, 4)]
  | .hq => [] | .evt => [] | .fw => [] | .pcie => [] | .pwr => [] | .keys => []

/-- The word of a wide value that an offset holds, with the number of its words. -/
def wideAt (off : Nat) (xs : List (Nat × Nat × Nat)) : Option (Nat × Nat) :=
  (xs.find? (fun x => decide (x.1 ≤ off ∧ off < x.1 + 4 * x.2.1 * x.2.2))).map (fun x => ((off - x.1) / 4 % x.2.1, x.2.1))

/-- The word of a wide value behind an address: index and number of words (R16). -/
def wideOf (a : Nat) : Option (Nat × Nat) :=
  match placeOf a with
  | .page p off => wideAt off (wideIn p)
  | .flow _ off => wideAt off [(0x84, 2, 3), (0xB4, 2, 1)]
  | .egr _ w => wideAt (4 * w) [(0x84, 2, 2)]
  | .audio off =>
    if 0xD4000 ≤ off ∧ off < 0xD8000 then wideAt (off % 0x40) [(0x28, 2, 1)]
    else if 0xE0000 ≤ off ∧ off < 0xF0000 then wideAt (off % 0x20) [(0xC, 2, 1)]
    else none
  | _ => none

/-- A present value with its open bits. -/
def Dev.present (d : Dev) (a : Nat) (live : Bool) : Word × Dev :=
  match d.openAt a with
  | some (lo, len, top) => (d.io.filled (d.word a live) lo len top, d.onIo Io.took)
  | none => (d.word a live, d)

/-- The snapshot of the higher words of a wide value whose lowest word is read (R16). -/
def Dev.snapshot (d : Dev) (a : Nat) (live : Bool) (n : Nat) : Dev :=
  (List.range (n - 1)).foldl (fun (d : Dev) i =>
    let r := d.present (a + 4 * (i + 1)) live
    r.2.onIo (fun io => { io with snap := FMap.insert io.snap (a + 4 * (i + 1)) r.1 })) d

/-- A read of the word behind an address (R16). -/
def Dev.readAt (d : Dev) (a : Nat) (live : Bool) : Word × Dev :=
  match wideOf a with
  | some (0, n) => (d.snapshot a live n).present a live
  | some (_, _) =>
    match FMap.find d.io.snap a with
    | some w => (w, d)
    | none => d.present a live
  | none => d.present a live

/-- The data of a read leave on the interface. -/
def Dev.answer (_d : Dev) (r : Word × Dev) : Dev := r.2.onIo (fun io => io.emit (.readData r.1))

/-- A read by PF0 of a register or table word, the direct window of the store and the random number register included (R28, R443, R471). -/
def Dev.busRead (d : Dev) (a : Nat) : Dev :=
  match placeOf a with
  | .nvsWin off => d.onNv (fun x => x.window off none 4)
  | _ =>
    if a = regAddr .keys Reg.KEYS_RNG then d.onIo (fun io => rngRead io d.keys)
    else d.answer (d.readAt (d.io.target a).1 (d.io.target a).2)

/-- A word of the VF page (R82): type, instance, version and capabilities, `HQ_VF_ID` and the copy of HQ_FN_STAT; no rule says what its other header words hold. -/
def Dev.vfPageWord (d : Dev) (fn off : Nat) : Word × Dev :=
  if off = Reg.PAGE_ID then (Word.of (pageType .hq + 0xFF * 2 ^ 8 + fn * 2 ^ 16), d)
  else if off = Reg.PAGE_VER ∨ off = Reg.PAGE_CAP then (d.headerWord .hq off, d)
  else if off < 0x40 ∧ [Reg.PAGE_CTL, Reg.PAGE_STAT, Reg.EVT_RAW, Reg.EVT_EN, Reg.EVT_PEND, Reg.ERR_CODE, Reg.ERR_INFO, Reg.SHADOW_STAT, Reg.PAGE_LOCK].contains off then
    (Word.of (d.io.freeNat 32), d.onIo Io.took)
  else if off = 0x40 then (Word.of fn, d)
  else if off = 0x44 then d.readAt (regAddr .hq (fnReg fn Reg.HQ_FN_STAT)) false
  else (0, d)

/-- A read by a VF in its 1 MiB view (R30, R82). -/
def Dev.vfRead (d : Dev) (fn a : Nat) : Dev :=
  if a < 0x1000 then d.answer (d.vfPageWord fn a)
  else if a < 0x1100 then d.answer (d.readAt (regAddr .hq (qpReg (qOf fn ((a - 0x1000) / 0x40)) (a % 0x40))) false)
  else if 0x2000 ≤ a ∧ a < 0x2080 then d.answer (d.readAt (regAddr .hq (fnReg fn (a - 0x2000))) false)
  else if 0x10000 ≤ a ∧ a < 0x20000 then
    let o := (a - 0x10000) / 0x80
    if d.hq.outOwner o = fn then d.answer (d.readAt (regAddr (outPage o) (a % 0x80)) false) else d.answer (0, d)
  else d.answer (0, d)

/-- COHERENT_SNAPSHOT_READ (R16): a read at an address; an address that is no multiple of four names no register and reads 0. -/
def execCoherentSnapshotRead (fn : Fin 64) (addr : BitVec 26) (s : State) : Host.Outcome State Fault Refusal :=
  s.run fun d =>
    let a := addr.toNat
    if a % 4 ≠ 0 then d.answer (0, d) else if fn = 0 then d.busRead a else d.vfRead fn a

end Sys2Proof.Machine
end

