-- ==== Sys2Proof/Machine/Failures.lean ====
section
/-! DEFINITION. Failures in service: an engine that reports an error (R428, R429), an uncorrectable SRAM error (R432), and the end of a retired engine's test (R425). -/
namespace Sys2Proof.Machine

/-- The layers of a frame in progress whose lines a failing logical engine was preparing: each shows no line beyond the engine's lead, which lies between 0 and 4 lines past the next one (R266, R428). -/
def Dev.withhold (d : Dev) (l o : Nat) : Dev :=
  match d.outRt o with
  | none => d
  | some r =>
    if !r.inFrame then d
    else
      let mine := ((d.sc.jobs.filter (fun j => decide (j.out = o ∧ j.engine = some l))).map (·.layer)).eraseDups
      mine.foldl (fun (d : Dev) layer =>
        let from_ := r.line + d.io.freeNat 32 % 5
        match d.outRt o with
        | some r => (d.setOut o { r with withheld := (layer, from_) :: r.withheld }).onIo Io.took
        | none => d) d

/-- An engine reports an error: the rest of its lines in the frames in progress is withheld, a spare takes over, or its jobs go to other engines (R27, R265, R428, R429). -/
def Dev.engineFails (d : Dev) (e : Nat) : Dev :=
  let (x, hit, lost) := ({ io := d.io, ld := d.lard, nv := d.nvs } : Lar).engineFailed d.sc.jobs e
  let d := match hit with
    | some (l, outs) => outs.foldl (fun d o => d.withhold l o) (d.onLar (fun _ => x))
    | none => d.onLar (fun _ => x)
  match lost with
  | some l => (d.evict l false).checkCapacity
  | none => d

/-- ENGINE_FAILED (R428). -/
def execEngineFailed (e : Fin 144) (dt : Nat) (s : State) : Host.Outcome State Fault Refusal :=
  s.settled fun d => (d.tick dt).engineFails e

/-! Uncorrectable SRAM errors (R432). -/

/-- The plane of the run that holds a layer is discarded: the run is composed uncached from its slots, and rebuilt under the Stockpot rules. -/
def Dev.planeLost (d : Dev) (o layer : Nat) : Dev :=
  match d.sc.runs.find? (fun (x : Run) => decide (x.out = o ∧ 1 ≤ x.plane) && x.members.contains layer) with
  | none => d
  | some x =>
    let n := if x.plane = 5 then 2 else if 2 ≤ x.plane then 1 else 0
    let xs := staticMembers d.io.live d.st d.rt o x.members
    let flat := decide (3 ≤ x.plane)
    let y : Run := { Run.fresh o x.members (if flat then shownSlots x.members xs else x.shown) with settle := x.settle }
    let sc := { d.sc with runs := d.sc.runs.map (fun (r : Run) => if r.out = o ∧ r.members = x.members then y else r) }.spaceFreed
    let io := if n = 0 then d.io else d.io.count48 (.comp (compTile o)) Reg.COMP_STOCK_DISCARDS_LO n
    let d : Dev := { d with io := showStock o (showRuns o io sc) sc, sc := sc }
    match d.outRt o with
    | none => d
    | some r =>
      let shows := xs.filter (fun s => r.shown.any (fun t => t.layer = s.layer))
      if r.inFrame ∧ flat then
        ({ d with st := d.st.take o shows } : Dev).setOut o
          { r with shown := r.shown.filter (fun t => !shows.any (fun s => s.layer = t.layer)) ++ shows }
      else d

/-- The packet of a flow that holds the word is dropped: it counts as a packet that the fast path drops (R178). -/
def Dev.packetLost (d : Dev) (f : Nat) : Dev :=
  let d := d.onSv (fastDrop f)
  match (fpReaders f d.rt).find? (fun e => !(d.rt.fp e).held.isEmpty && decide ((d.rt.fp e).carried = some f)) with
  | none => d
  | some e =>
    let r := d.rt.fp e
    { d with rt := d.rt.setFp e { r with held := r.held.drop 1, heldAt := if r.held.length ≤ 1 then none else r.heldAt } }

/-- A sample of an input channel's history is gone (R373). -/
def Audio.sampleLost (a : Audio) (ch back : Nat) : Audio :=
  { a with hist := FMap.erase a.hist (sampleKey ch ((a.inp ch).newest - back)) }

/-- An uncorrectable SRAM error, by the array in which it stands. Tables are restored from Woride's copy, and the output shows its previous live state meanwhile: neither the live registers nor what outputs show from them changes. -/
def Dev.sramError (d : Dev) (site : SramSite) : Dev :=
  let d := d.onIo (fun io => io.recordOpen .lard 0x1014)
  match site with
  | .line e => d.engineFails e
  | .stockpot o l => d.planeLost o l
  | .packet f => d.packetLost f
  | .table _ => d
  | .core k => d.onLar (fun x => x.coreFails k)
  | .audio ch back => { d with aud := d.aud.sampleLost ch back }

/-- SRAM_UNCORR (R432). -/
def execSramUncorr (site : SramSite) (dt : Nat) (s : State) : Host.Outcome State Fault Refusal :=
  s.settled fun d => (d.tick dt).sramError site

/-! The test of a retired engine (R425). -/

/-- The test that enabling a retired engine started has ended, and the commands that wait for it complete (R75). -/
def Dev.retiredTested (d : Dev) (e : Nat) (pass : Bool) : Dev :=
  if !d.lard.enabling.contains e then d
  else
    let d := d.onLar (fun x => x.retiredDone e pass)
    (d.hq.waiting.filter (fun w => w.enable && decide (w.kind = 2 ∧ w.index = e))).foldl (fun (d : Dev) w =>
      d.complete w.q w.tag (if pass then Reply.done 0 0 else Reply.rejected 0x1013)) d

/-- RETIRED_ENGINE_TEST_DONE (R425). -/
def execRetiredEngineTestDone (e : Fin 144) (pass : Bool) (dt : Nat) (s : State) : Host.Outcome State Fault Refusal :=
  s.run fun d => (d.tick dt).retiredTested e pass

end Sys2Proof.Machine
end

