-- ==== Sys2Proof/Machine/ShadowCmds.lean ====
section
/-! DEFINITION. `CMD_SHADOW_WRITE` and `CMD_SHADOW_READ` (R73, R242, R335, R362). -/
namespace Sys2Proof.Machine

/-- The object that KIND and INDEX name exists (R73, R242, R335). -/
def shadowObject (kind i : Nat) : Bool :=
  if kind = 0 then decide (i < 512)
  else if kind = 1 then decide (i < 4096)
  else if kind = 2 then decide (i < 8192)
  else if kind = 3 then decide (i < 16384)
  else if kind = 4 then decide (i < 512 ∨ (4096 ≤ i ∧ i < 8192))
  else false

/-- Owner of the object that KIND and INDEX name (R74, R185, R242, R335). -/
def Dev.shadowOwner (d : Dev) (kind i : Nat) : Nat :=
  if kind = 0 then d.hq.outOwner i
  else if kind = 1 then d.io.live.layerOwner i
  else if kind = 2 then d.hq.flowOwner (decide (4096 ≤ i)) (i % 4096)
  else if kind = 3 then d.hq.audOwner i
  else if i < 512 then d.hq.outOwner i else d.hq.flowOwner true (i % 4096)

/-- The address of an object's word at an offset, and how many bytes of the object are shadowed. -/
def shadowAddr (kind i off : Nat) : Nat × Nat :=
  if kind = 0 then (regAddr (outPage i) off, 0x800)
  else if kind = 1 then (laycAddr i (off / 4), 0x80)
  else if kind = 2 then (if i < 4096 then flowAddr i (off / 4) else egrAddr (i - 4096) (off / 4), 0x80)
  else if kind = 3 then (audAddr i (off / 4), 0x20)
  else if i < 512 then (routeAddr i (off / 4), 0x240)
  else (fastAddr (i - 4096) (off / 4), 0x20)

/-- The table word of an object at an offset. -/
def shadowWord (kind i off : Nat) : TabWord :=
  let w := off / 4
  if kind = 1 then laycWord w
  else if kind = 2 then (if i < 4096 then flowWord w else egrWord w)
  else if kind = 3 then channelWord w
  else if i < 512 then routeWord w else fastWord w

/-- The code of REG_WRITE_IGNORED where the register write would have been recorded: TOP for a table window, else the page (R38). -/
def shadowCode (kind i : Nat) : Nat := if kind = 4 then 0x0701 else if kind = 2 ∧ 4096 ≤ i then 0x0C01 else 0x0101

/-- Why a pair is refused: `BAD_PARAM` for a field that is not shadowed, else the code of the register write (R73). -/
def Io.pairRefusal (io : Io) (kind i off : Nat) (v : Word) : Option Nat :=
  if kind = 0 then
    match rowAt (outPage i) off with
    | some r => if r.shadowed then (io.writeReason (outPage i) r v).map (fun _ => codeIgnored (outPage i)) else some 0x0213
    | none => some 0x0213
  else
    let at_ := shadowAddr kind i off
    if at_.2 ≤ off then some 0x0213
    else if kind = 4 ∧ io.flag .rout Reg.PAGE_LOCK 1 then some (shadowCode kind i)
    else if (io.tableReason (placeOf at_.1) (shadowWord kind i off) v).isSome then some (shadowCode kind i)
    else none

/-- A pair lands in the shadow for the issuing function (R39). -/
def Io.pairStore (io : Io) (fn kind i off : Nat) (v : Word) : Io :=
  if kind = 0 then
    match rowAt (outPage i) off with
    | some r => io.store fn (outPage i) r off v
    | none => io
  else io.tableStore fn (shadowAddr kind i off).1 (shadowWord kind i off) v

/-- The pairs of a command: offset and value. -/
def Cmd.pairs (c : Cmd) : List (Nat × Word) :=
  (List.range (bits (c.p 0) 4 4)).map fun k => ((c.p (2 * k + 1)).toNat, c.p (2 * k + 2))

/-- An offset word is [11:0] and 4-byte aligned. -/
def offsetOk (off : Nat) : Bool := decide (off < 0x1000 ∧ off % 4 = 0)

/-- `CMD_SHADOW_WRITE`: parameters, then ownership, then the pairs, all or none (R73). -/
def shadowWriteCommand (c : Cmd) (d : Dev) : Dev :=
  let kind := bits (c.p 0) 0 4
  let n := bits (c.p 0) 4 4
  let i := bits (c.p 0) 8 24
  if n = 0 ∨ 6 < n ∨ !shadowObject kind i ∨ c.pairs.any (fun x => !offsetOk x.1) then d.complete c.q c.tag (Reply.rejected 0x0213)
  else if c.fn ≠ 0 ∧ d.shadowOwner kind i ≠ c.fn then d.complete c.q c.tag (Reply.denied 0x0218)
  else
    match c.pairs.findSome? (fun x => d.io.pairRefusal kind i x.1 x.2) with
    | some code => d.complete c.q c.tag (Reply.rejected code)
    | none =>
      (d.onIo (fun io => c.pairs.foldl (fun io x => io.pairStore c.fn kind i x.1 x.2) io)).complete c.q c.tag (Reply.done 0 0)

/-- CMD_SHADOW_WRITE (R73). -/
def execCmdShadowWrite (q : Fin 316) (tag : BitVec 16) (s : State) : Host.Outcome State Fault Refusal :=
  s.run fun d => d.command 0x03 q tag.toNat shadowWriteCommand

/-- The bytes of an object that can be read: its whole entry, or the words of the ROUT pages (R240, R242). -/
def readable (kind i off : Nat) : Bool :=
  if kind = 0 then true
  else if kind = 1 ∨ kind = 2 then decide (off < 0x100)
  else if kind = 3 then decide (off < 0x20)
  else if i < 512 then decide (off < 0x240 ∨ (0x300 ≤ off ∧ off < 0x340))
  else decide (off < 0x20 ∨ (0x40 ≤ off ∧ off < 0x5C))

/-- The value of an object's word: of an OUTC page as PF0 reads it there, of the shadowed words in the view that LIVE asks for (R73). -/
def Dev.objectRead (d : Dev) (kind i off : Nat) (live : Bool) : Word × Dev :=
  if kind = 0 then
    let t := d.io.target (regAddr (outPage i) off)
    d.readAt t.1 (t.2 || live)
  else d.readAt (shadowAddr kind i off).1 live

/-- `CMD_SHADOW_READ` (R73): the value in RESULT_LO. -/
def shadowReadCommand (c : Cmd) (d : Dev) : Dev :=
  let kind := bits (c.p 0) 0 4
  let i := bits (c.p 0) 8 24
  let off := (c.p 1).toNat
  if bits (c.p 0) 4 4 ≠ 1 ∨ !shadowObject kind i ∨ !offsetOk off ∨ 1 < (c.p 2).toNat ∨ !readable kind i off then
    d.complete c.q c.tag (Reply.rejected 0x0213)
  else if c.fn ≠ 0 ∧ d.shadowOwner kind i ≠ c.fn then d.complete c.q c.tag (Reply.denied 0x0218)
  else
    let r := d.objectRead kind i off (bit (c.p 2) 0)
    r.2.complete c.q c.tag (Reply.done 0 r.1.toNat)

/-- CMD_SHADOW_READ (R73). -/
def execCmdShadowRead (q : Fin 316) (tag : BitVec 16) (s : State) : Host.Outcome State Fault Refusal :=
  s.run fun d => d.command 0x04 q tag.toNat shadowReadCommand

end Sys2Proof.Machine
end

