-- ==== Sys2Proof/Machine/Dispatch.lean ====
section
/-! DEFINITION. The dispatch: one arm per constructor of Instr. -/
namespace Sys2Proof.Machine

def exec (i : Instr) (s : State) : Host.Outcome State Fault Refusal :=
  match i with
  | .regWrite fn addr v => Sys2Proof.Machine.execRegWrite fn addr v s
  | .pageEnable p => Sys2Proof.Machine.execPageEnable p s
  | .pageDisable p => Sys2Proof.Machine.execPageDisable p s
  | .pageDrain p => Sys2Proof.Machine.execPageDrain p s
  | .pageReset p => Sys2Proof.Machine.execPageReset p s
  | .drainEnd r dt => Sys2Proof.Machine.execDrainEnd r dt s
  | .drainForced r dt => Sys2Proof.Machine.execDrainForced r dt s
  | .errCodeClr p => Sys2Proof.Machine.execErrCodeClr p s
  | .evtForce p v => Sys2Proof.Machine.execEvtForce p v s
  | .evtPendClear p v => Sys2Proof.Machine.execEvtPendClear p v s
  | .pageLockSticky p locks => Sys2Proof.Machine.execPageLockSticky p locks s
  | .evtMapWrite src v => Sys2Proof.Machine.execEvtMapWrite src v s
  | .msixUnmask fn vec => Sys2Proof.Machine.execMsixUnmask fn vec s
  | .commitGo => Sys2Proof.Machine.execCommitGo s
  | .commitSalvo => Sys2Proof.Machine.execCommitSalvo s
  | .commitDryRun salvo => Sys2Proof.Machine.execCommitDryRun salvo s
  | .commitValidationEnd dt => Sys2Proof.Machine.execCommitValidationEnd dt s
  | .latchLine o dt => Sys2Proof.Machine.execLatchLine o dt s
  | .frameBoundary o dt => Sys2Proof.Machine.execFrameBoundary o dt s
  | .rasterLine o late bad dt => Sys2Proof.Machine.execRasterLine o late bad dt s
  | .packetTx e dt => Sys2Proof.Machine.execPacketTx e dt s
  | .loupeResult o r dt => Sys2Proof.Machine.execLoupeResult o r dt s
  | .outcLpeRelearn o v => Sys2Proof.Machine.execOutcLpeRelearn o v s
  | .legUpdate o v => Sys2Proof.Machine.execLegUpdate o v s
  | .sqDoorbell q v => Sys2Proof.Machine.execSqDoorbell q v s
  | .cqDoorbell q v => Sys2Proof.Machine.execCqDoorbell q v s
  | .qpEnable q v byVf => Sys2Proof.Machine.execQpEnable q v byVf s
  | .qpDisable q v byVf => Sys2Proof.Machine.execQpDisable q v byVf s
  | .commandFetch q entry dt => Sys2Proof.Machine.execCommandFetch q entry dt s
  | .commandTimeout q tag dt => Sys2Proof.Machine.execCommandTimeout q tag dt s
  | .coalesceTimeout q dt => Sys2Proof.Machine.execCoalesceTimeout q dt s
  | .cmdNop q tag => Sys2Proof.Machine.execCmdNop q tag s
  | .cmdCommit q tag => Sys2Proof.Machine.execCmdCommit q tag s
  | .cmdAbort q tag => Sys2Proof.Machine.execCmdAbort q tag s
  | .cmdShadowWrite q tag => Sys2Proof.Machine.execCmdShadowWrite q tag s
  | .cmdShadowRead q tag => Sys2Proof.Machine.execCmdShadowRead q tag s
  | .cmdSetOwner q tag => Sys2Proof.Machine.execCmdSetOwner q tag s
  | .cmdEnable q tag => Sys2Proof.Machine.execCmdEnable q tag s
  | .cmdDisable q tag => Sys2Proof.Machine.execCmdDisable q tag s
  | .cmdFsAlloc q tag => Sys2Proof.Machine.execCmdFsAlloc q tag s
  | .cmdFree q tag => Sys2Proof.Machine.execCmdFree q tag s
  | .cmdFsMap q tag => Sys2Proof.Machine.execCmdFsMap q tag s
  | .cmdFence q tag => Sys2Proof.Machine.execCmdFence q tag s
  | .cmdLayerAlloc q tag => Sys2Proof.Machine.execCmdLayerAlloc q tag s
  | .cmdLayerFree q tag => Sys2Proof.Machine.execCmdLayerFree q tag s
  | .cmdFlowClaim q tag => Sys2Proof.Machine.execCmdFlowClaim q tag s
  | .cmdFlowRelease q tag => Sys2Proof.Machine.execCmdFlowRelease q tag s
  | .cmdNvRead q tag => Sys2Proof.Machine.execCmdNvRead q tag s
  | .cmdNvWrite q tag data => Sys2Proof.Machine.execCmdNvWrite q tag data s
  | .cmdKeyWrite q tag => Sys2Proof.Machine.execCmdKeyWrite q tag s
  | .cmdLifecycle q tag => Sys2Proof.Machine.execCmdLifecycle q tag s
  | .cmdFwLoad q tag => Sys2Proof.Machine.execCmdFwLoad q tag s
  | .fwLoad => Sys2Proof.Machine.execFwLoad s
  | .fwImageFetched image dt => Sys2Proof.Machine.execFwImageFetched image dt s
  | .fwVerifyDone dt => Sys2Proof.Machine.execFwVerifyDone dt s
  | .fwSecCommit v => Sys2Proof.Machine.execFwSecCommit v s
  | .powerOnReset => Sys2Proof.Machine.execPowerOnReset s
  | .perstAssert => Sys2Proof.Machine.execPerstAssert s
  | .hotReset => Sys2Proof.Machine.execHotReset s
  | .pf0Flr => Sys2Proof.Machine.execPf0Flr s
  | .vfFlr fn => Sys2Proof.Machine.execVfFlr fn s
  | .bootRomStart mv entropy dt => Sys2Proof.Machine.execBootRomStart mv entropy dt s
  | .hbmTrainingDone failed dt => Sys2Proof.Machine.execHbmTrainingDone failed dt s
  | .worideStart dt => Sys2Proof.Machine.execWorideStart dt s
  | .spareSelfTestDone failed dt => Sys2Proof.Machine.execSpareSelfTestDone failed dt s
  | .fwTileUp t dt => Sys2Proof.Machine.execFwTileUp t dt s
  | .activeSelfTestDone t failed dt => Sys2Proof.Machine.execActiveSelfTestDone t failed dt s
  | .fwReady dt => Sys2Proof.Machine.execFwReady dt s
  | .fwHeartbeatTick dt => Sys2Proof.Machine.execFwHeartbeatTick dt s
  | .fwHeartbeatLost dt => Sys2Proof.Machine.execFwHeartbeatLost dt s
  | .partnerArrived l dt => Sys2Proof.Machine.execPartnerArrived l dt s
  | .partnerDeparted l dt => Sys2Proof.Machine.execPartnerDeparted l dt s
  | .pcsStagePass p ob dt => Sys2Proof.Machine.execPcsStagePass p ob dt s
  | .stageTimeout p ob dt => Sys2Proof.Machine.execStageTimeout p ob dt s
  | .cdrLockLost p dt => Sys2Proof.Machine.execCdrLockLost p dt s
  | .blockLockLoss p dt => Sys2Proof.Machine.execBlockLockLoss p dt s
  | .amLockLoss p dt => Sys2Proof.Machine.execAmLockLoss p dt s
  | .fecLoss p dt => Sys2Proof.Machine.execFecLoss p dt s
  | .pllLockLost q dt => Sys2Proof.Machine.execPllLockLost q dt s
  | .sparePllResume q dt => Sys2Proof.Machine.execSparePllResume q dt s
  | .laneRefLost k dt => Sys2Proof.Machine.execLaneRefLost k dt s
  | .adaptLimit l dt => Sys2Proof.Machine.execAdaptLimit l dt s
  | .laneEqRestart l => Sys2Proof.Machine.execLaneEqRestart l s
  | .eqAdaptFreeze l st => Sys2Proof.Machine.execEqAdaptFreeze l st s
  | .txSleep l on => Sys2Proof.Machine.execTxSleep l on s
  | .rxSleep l on => Sys2Proof.Machine.execRxSleep l on s
  | .wakeDone l rx dt => Sys2Proof.Machine.execWakeDone l rx dt s
  | .prbsInject l => Sys2Proof.Machine.execPrbsInject l s
  | .prbsClear l => Sys2Proof.Machine.execPrbsClear l s
  | .prbsCheckerLock l inverted dt => Sys2Proof.Machine.execPrbsCheckerLock l inverted dt s
  | .prbsLockLost l errs dt => Sys2Proof.Machine.execPrbsLockLost l errs dt s
  | .eyeScanStart l => Sys2Proof.Machine.execEyeScanStart l s
  | .eyeScanAbort l => Sys2Proof.Machine.execEyeScanAbort l s
  | .eyeScanDone l dt => Sys2Proof.Machine.execEyeScanDone l dt s
  | .pcsCntClr p => Sys2Proof.Machine.execPcsCntClr p s
  | .pcsAnRestart p => Sys2Proof.Machine.execPcsAnRestart p s
  | .anFail p training failed dt => Sys2Proof.Machine.execAnFail p training failed dt s
  | .macRxFrame p bytes trunc phy dt => Sys2Proof.Machine.execMacRxFrame p bytes trunc phy dt s
  | .frameDiscard f dt => Sys2Proof.Machine.execFrameDiscard f dt s
  | .mirrorSeqLost f dt => Sys2Proof.Machine.execMirrorSeqLost f dt s
  | .mirrorSkew f dt => Sys2Proof.Machine.execMirrorSkew f dt s
  | .legLost f legB dt => Sys2Proof.Machine.execLegLost f legB dt s
  | .seenReport t k dt => Sys2Proof.Machine.execSeenReport t k dt s
  | .membershipReport p k dt => Sys2Proof.Machine.execMembershipReport p k dt s
  | .sievCntClr t => Sys2Proof.Machine.execSievCntClr t s
  | .fpSwitch e dt => Sys2Proof.Machine.execFpSwitch e dt s
  | .fpHoldTimeout e dt => Sys2Proof.Machine.execFpHoldTimeout e dt s
  | .fpRevert e dt => Sys2Proof.Machine.execFpRevert e dt s
  | .routCntClr => Sys2Proof.Machine.execRoutCntClr s
  | .apWrite fn addr bytes => Sys2Proof.Machine.execApWrite fn addr bytes s
  | .fstrQuery v => Sys2Proof.Machine.execFstrQuery v s
  | .fstrMapQuery v => Sys2Proof.Machine.execFstrMapQuery v s
  | .fstrCntClr => Sys2Proof.Machine.execFstrCntClr s
  | .hbmScrub k errs dt => Sys2Proof.Machine.execHbmScrub k errs dt s
  | .pchLost k c dt => Sys2Proof.Machine.execPchLost k c dt s
  | .refresh2x k celsius dt => Sys2Proof.Machine.execRefresh2x k celsius dt s
  | .hbmcCntClr k => Sys2Proof.Machine.execHbmcCntClr k s
  | .prsmCntClr e => Sys2Proof.Machine.execPrsmCntClr e s
  | .estimationDone o l dt => Sys2Proof.Machine.execEstimationDone o l dt s
  | .frcJobSel e v => Sys2Proof.Machine.execFrcJobSel e v s
  | .frcCntClr e => Sys2Proof.Machine.execFrcCntClr e s
  | .stockBuildDone o member kib dt => Sys2Proof.Machine.execStockBuildDone o member kib dt s
  | .compCntClr t => Sys2Proof.Machine.execCompCntClr t s
  | .htxSend t slot dt => Sys2Proof.Machine.execHtxSend t slot dt s
  | .scanCntClr t => Sys2Proof.Machine.execScanCntClr t s
  | .loupCntClr => Sys2Proof.Machine.execLoupCntClr s
  | .macCntClr p => Sys2Proof.Machine.execMacCntClr p s
  | .msecCntClr p => Sys2Proof.Machine.execMsecCntClr p s
  | .msecTxAnWrite p v => Sys2Proof.Machine.execMsecTxAnWrite p v s
  | .ptpMessage p m dt => Sys2Proof.Machine.execPtpMessage p m dt s
  | .ptpLocked dt => Sys2Proof.Machine.execPtpLocked dt s
  | .announceTimeout onBackup dt => Sys2Proof.Machine.execAnnounceTimeout onBackup dt s
  | .ppsPulse dt => Sys2Proof.Machine.execPpsPulse dt s
  | .ref10mPresent dt => Sys2Proof.Machine.execRef10mPresent dt s
  | .refLost tenMhz dt => Sys2Proof.Machine.execRefLost tenMhz dt s
  | .ptpSet => Sys2Proof.Machine.execPtpSet s
  | .ppsArm => Sys2Proof.Machine.execPpsArm s
  | .ptpSourceWrite v => Sys2Proof.Machine.execPtpSourceWrite v s
  | .audioSample ch dt => Sys2Proof.Machine.execAudioSample ch dt s
  | .alignRegained g dt => Sys2Proof.Machine.execAlignRegained g dt s
  | .audioChangePoint ch dt => Sys2Proof.Machine.execAudioChangePoint ch dt s
  | .zcTimeout ch dt => Sys2Proof.Machine.execZcTimeout ch dt s
  | .nonpcmMarkClear ch dt => Sys2Proof.Machine.execNonpcmMarkClear ch dt s
  | .asrcLocked a dt => Sys2Proof.Machine.execAsrcLocked a dt s
  | .asrcRange a dev dt => Sys2Proof.Machine.execAsrcRange a dev dt s
  | .audmCntClr => Sys2Proof.Machine.execAudmCntClr s
  | .asrcCntClr => Sys2Proof.Machine.execAsrcCntClr s
  | .tdmFrameSync p off din dt => Sys2Proof.Machine.execTdmFrameSync p off din dt s
  | .tdmpRestart p => Sys2Proof.Machine.execTdmpRestart p s
  | .clockLost p cause dt => Sys2Proof.Machine.execClockLost p cause dt s
  | .clockRestored p dt => Sys2Proof.Machine.execClockRestored p dt s
  | .tdmRateMeasure p ppm hz dt => Sys2Proof.Machine.execTdmRateMeasure p ppm hz dt s
  | .slotZcTimeout p tx slot dt => Sys2Proof.Machine.execSlotZcTimeout p tx slot dt s
  | .tdmpCntClr p => Sys2Proof.Machine.execTdmpCntClr p s
  | .thermalEvaluate xs dt => Sys2Proof.Machine.execThermalEvaluate xs dt s
  | .levelDown dt => Sys2Proof.Machine.execLevelDown dt s
  | .sensorRecovered c dt => Sys2Proof.Machine.execSensorRecovered c dt s
  | .thrmHardTrip late dt => Sys2Proof.Machine.execThrmHardTrip late dt s
  | .pwrOffWrite k v => Sys2Proof.Machine.execPwrOffWrite k v s
  | .pwrTileOffWrite v => Sys2Proof.Machine.execPwrTileOffWrite v s
  | .domainOn d dt => Sys2Proof.Machine.execDomainOn d dt s
  | .domainOff d dt => Sys2Proof.Machine.execDomainOff d dt s
  | .lardSwap v => Sys2Proof.Machine.execLardSwap v s
  | .engineFailed e dt => Sys2Proof.Machine.execEngineFailed e dt s
  | .istStep dt => Sys2Proof.Machine.execIstStep dt s
  | .istNow => Sys2Proof.Machine.execIstNow s
  | .istTestDone e pass dt => Sys2Proof.Machine.execIstTestDone e pass dt s
  | .retiredEngineTestDone e pass dt => Sys2Proof.Machine.execRetiredEngineTestDone e pass dt s
  | .coreTakeover k dt => Sys2Proof.Machine.execCoreTakeover k dt s
  | .sramUncorr site dt => Sys2Proof.Machine.execSramUncorr site dt s
  | .sramRepaired location dt => Sys2Proof.Machine.execSramRepaired location dt s
  | .pktbufRepaired location dt => Sys2Proof.Machine.execPktbufRepaired location dt s
  | .mapWriteFail dt => Sys2Proof.Machine.execMapWriteFail dt s
  | .wearHourTick dt => Sys2Proof.Machine.execWearHourTick dt s
  | .lardMapQuery v => Sys2Proof.Machine.execLardMapQuery v s
  | .lardWearSel v => Sys2Proof.Machine.execLardWearSel v s
  | .nvPageWriteDone replaced dt => Sys2Proof.Machine.execNvPageWriteDone replaced dt s
  | .nvWindowWrite off bytes => Sys2Proof.Machine.execNvWindowWrite off bytes s
  | .nvWindowRead off len => Sys2Proof.Machine.execNvWindowRead off len s
  | .nvsFlush => Sys2Proof.Machine.execNvsFlush s
  | .nvWindowIdle dt => Sys2Proof.Machine.execNvWindowIdle dt s
  | .nvsWinTimeout dt => Sys2Proof.Machine.execNvsWinTimeout dt s
  | .nvsScrub findings dt => Sys2Proof.Machine.execNvsScrub findings dt s
  | .nvsCntClr => Sys2Proof.Machine.execNvsCntClr s
  | .powerLoss mv holdup dt => Sys2Proof.Machine.execPowerLoss mv holdup dt s
  | .keysRngRead => Sys2Proof.Machine.execKeysRngRead s
  | .keysSlotQuery v => Sys2Proof.Machine.execKeysSlotQuery v s
  | .entropyFail dt => Sys2Proof.Machine.execEntropyFail dt s
  | .entropyRetest pass dt => Sys2Proof.Machine.execEntropyRetest pass dt s
  | .salvoActivation dt => Sys2Proof.Machine.execSalvoActivation dt s
  | .pcieLinkUp dt => Sys2Proof.Machine.execPcieLinkUp dt s
  | .delayRequestTx dt => Sys2Proof.Machine.execDelayRequestTx dt s
  | .asrcWithinRange a dev dt => Sys2Proof.Machine.execAsrcWithinRange a dev dt s
  | .laneRefRestored k dt => Sys2Proof.Machine.execLaneRefRestored k dt s
  | .fuseBlowDone dt => Sys2Proof.Machine.execFuseBlowDone dt s
  | .apRead fn addr len bad => Sys2Proof.Machine.execApRead fn addr len bad s
  | .coherentSnapshotRead fn addr => Sys2Proof.Machine.execCoherentSnapshotRead fn addr s

end Sys2Proof.Machine
end

