-- ==== Sys2Proof/Safety.lean ====
section
/-! DEFINITION. The terms in which claims are stated: a safe state, a command that runs, and what an operation leaves alone. -/
namespace Sys2Proof.Machine

/-- HBM lists no byte that an unlisted address reads as, in rising order of address. -/
def Stores.wf (st : Stores) : Bool := FMap.wf (fun _ => (0 : Byte)) st.hbm

/-- The non-volatile cells list no byte that an unlisted address reads as, in rising order of address. -/
def Nvs.wf (n : Nvs) : Bool := FMap.wf (fun _ => (0 : Byte)) n.cells

/-- A machine whose addressed memories are in canonical form. -/
def State.Safe (s : State) : Prop := s.dev.st.wf = true ∧ s.dev.nvs.wf = true

/-- The command runs on `s`: it answers a next state, leaves the waiting commands alone, and what `P` says holds of the part before and after. -/
def Runs (c : Instr) (s : State) (P : Dev → Dev → Prop) : Prop :=
  ∃ t, exec c s = .next t ∧ t.pending = s.pending ∧ P s.dev t.dev

/-- The address lies in the EVT page or in the event-to-vector map, which follow the events of every page (R37, R79, R80). -/
def eventPlace (a : Nat) : Bool :=
  match placeOf a with
  | .page .evt _ => true
  | .evtMap _ => true
  | _ => false

/-- The address is that of a register of page `p` whose offset is in `offs`. -/
def within (p : PageRef) (offs : List Nat) (a : Nat) : Bool := offs.any fun off => decide (a = regAddr p off)

/-- Registers, shadows and time are as before, but for the live values at addresses in `T`; the interfaces only take more items. -/
structure Io.Same (T : Nat → Bool) (io io' : Io) : Prop where
  rd : ∀ a, T a = false → io'.rd a = io.rd a
  now : io'.now = io.now
  up : io'.up = io.up
  shadow : io'.shadow = io.shadow
  written : io'.written = io.written
  snap : io'.snap = io.snap
  drains : io'.drains = io.drains
  unmasked : io'.unmasked = io.unmasked
  out : ∃ xs, io'.out = xs ++ io.out

/-- The part is as before, but for what an operation on `Io` alone changes within `T`. -/
def Dev.SameIo (T : Nat → Bool) (d d' : Dev) : Prop := d' = { d with io := d'.io } ∧ Io.Same T d.io d'.io

/-! The terms of single statements. -/

/-- The words of a run of registers. -/
def wordsFrom (lo n : Nat) : List Nat := (List.range n).map (fun i => lo + 4 * i)

/-- The page of a counter-clear command, its clear register and the counters it clears (R136, R149, R162, R189, R217, R219, R240, R267,
R291, R323, R349, R350, R381, R382, R400, R453). -/
def clearedBy : Instr → Option (PageRef × Nat × List Nat)
  | .pcsCntClr p => some (.pcs p, Reg.PCS_CNT_CLR, Reg.PCS_LINK_CNT :: wordsFrom Reg.PCS_BLK_ERR_LO 8)
  | .macCntClr p => some (.mac p, Reg.MAC_CNT_CLR, wordsFrom Reg.MAC_RX_FRAMES_LO 24)
  | .msecCntClr p => some (.msec p, Reg.MSEC_CNT_CLR, wordsFrom Reg.MSEC_IN_OK_LO 16)
  | .sievCntClr t => some (.siev t, Reg.SIEV_CNT_CLR, wordsFrom Reg.SIEV_UNMATCHED_LO 18)
  | .routCntClr => some (.rout, Reg.ROUT_CNT_CLR, wordsFrom Reg.ROUT_FP_LATE_LO 4)
  | .fstrCntClr => some (.fstr, Reg.FSTR_CNT_CLR, wordsFrom Reg.FSTR_AP_DROP_LO 6)
  | .hbmcCntClr k => some (.hbmc k, Reg.HBMC_CNT_CLR, wordsFrom Reg.HBMC_CORR_LO 4)
  | .prsmCntClr e => some (.prsm e, Reg.PRSM_CNT_CLR, wordsFrom Reg.PRSM_JOBS_DONE_LO 6)
  | .frcCntClr e => some (.frc e, Reg.FRC_CNT_CLR, wordsFrom Reg.FRC_PICTURES_LO 16)
  | .compCntClr t => some (.comp t, Reg.COMP_CNT_CLR, wordsFrom Reg.COMP_UNDERRUN_LO 6)
  | .scanCntClr t => some (.scan t, Reg.SCAN_CNT_CLR, wordsFrom Reg.SCAN_PKTS_TX_LO 8)
  | .loupCntClr => some (.loup, Reg.LOUP_CNT_CLR, wordsFrom Reg.LOUP_CHECKS_LO 4)
  | .audmCntClr => some (.audm, Reg.AUDM_CNT_CLR, wordsFrom Reg.AUDM_UNDERRUN_SAMPLES_LO 10)
  | .asrcCntClr => some (.asrc, Reg.ASRC_CNT_CLR, wordsFrom Reg.ASRC_UNLOCKS_LO 2)
  | .tdmpCntClr p => some (.tdmp p, Reg.TDMP_CNT_CLR, wordsFrom Reg.TDMP_FRAMES_LO 12)
  | .nvsCntClr => some (.nvs, Reg.NVS_CNT_CLR, wordsFrom Reg.NVS_CORR_LO 8)
  | _ => none

/-- What the loss of an up link shows: no link, its cause, its count, its time and its event (R122). -/
abbrev Io.showsLoss (p : Fin 128) (cause dt : Nat) (io io' : Io) : Prop :=
  io'.flag (.pcs p) Reg.PCS_STAT 4 = false ∧ io'.fld (.pcs p) Reg.PCS_STAT 5 3 = cause
    ∧ io'.fld (.pcs p) Reg.PCS_LINK_CNT 16 16 = sat 16 (io.fld (.pcs p) Reg.PCS_LINK_CNT 16 16 + 1)
    ∧ io'.wide (.pcs p) Reg.PCS_LINK_TS_LO = (io.now + dt) % 2 ^ 64 ∧ io'.flag (.pcs p) Reg.EVT_PEND 3 = true

/-- An item of the part's interfaces is the completion entry of a command with the given reply (R63). -/
def isEntry (q tag : Nat) (r : Reply) : Out → Bool
  | .completion p w0 w1 w2 _ => decide (p = q ∧ bits w0 0 16 = tag ∧ bits w0 16 4 = r.status ∧ w1 = Word.of (r.code % 2 ^ 16 + r.hi % 2 ^ 16 * 2 ^ 16) ∧ w2 = Word.of r.lo)
  | _ => false

/-- Among what the part has put on its interfaces since is the completion entry of the command with the given reply. -/
def Io.answers (io io' : Io) (q tag : Nat) (r : Reply) : Bool := (io'.out.take (io'.out.length - io.out.length)).any (isEntry q tag r)

/-- The command has left flight with its completion entry (R64). -/
abbrev Dev.finishes (q : Fin 316) (tag : BitVec 16) (r : Reply) (d d' : Dev) : Prop :=
  d'.hq.cmd q tag.toNat = none ∧ d.io.answers d'.io q tag.toNat r = true

/-- A command in flight that will leave a completion entry has the opcode of its row, its turn has come, its function may issue it, and the part is READY and completes commands (R69, R71, R93). -/
abbrev Dev.begins (d : Dev) (op : Nat) (q : Fin 316) (tag : BitVec 16) (c : Cmd) : Prop :=
  d.hq.cmd q tag.toNat = some c ∧ c.op = op ∧ d.hq.mayStart c = true ∧ c.silent = false ∧ d.io.halted = false ∧ d.io.ready = true
    ∧ (c.fn = 0 ∨ pf0Opcodes.contains op = false)

/-- The completion a command ends with when it is done, with its two results. -/
abbrev done (hi lo : Nat) : Reply := Reply.done hi lo

/-- A completion with a status alone. -/
abbrev endsWith (status : Nat) : Reply := { status := status, code := 0, hi := 0, lo := 0 }

/-- Among what the part has put on its interfaces since is the item. -/
def Io.puts (io io' : Io) (x : Out) : Bool := (io'.out.take (io'.out.length - io.out.length)).contains x

/-- Nothing waits in the store or runs there (R447). -/
abbrev Nvs.idle (n : Nvs) : Prop := n.jobs = [] ∧ n.running = none ∧ n.buffer = none ∧ n.flushing = []

/-- What a device-level reset leaves: registers at their reset values but for the cause and the trip log, nothing in shadows, queues, commits
and stores, and the fuses and the non-volatile cells' pages as they were (R89, R90). -/
abbrev Dev.wiped (cause : Nat) (d d' : Dev) : Prop :=
  d'.io.reg .fw Reg.FW_RESET_CAUSE = Word.of cause
    ∧ (∀ a, a ≠ regAddr .fw Reg.FW_RESET_CAUSE → a ≠ regAddr .thrm Reg.THRM_TRIP_LOG → d'.io.rd a = resetVal a)
    ∧ d'.io.shadow = [] ∧ d'.hq = Queues.reset ∧ d'.com = Commits.reset ∧ d'.st = Stores.reset ∧ d'.sv = Sieve.reset ∧ d'.sc = Scanout.reset
    ∧ d'.nvs.jobs = [] ∧ d'.nvs.running = none ∧ (d.nvs.running = none → d'.nvs.cells = d.nvs.cells)
    ∧ d'.boot.secMin = d.boot.secMin ∧ d'.keys.blank = d.keys.blank ∧ d'.keys.retired = d.keys.retired ∧ d'.keys.slots = []

/-- What the Larder acts on (ch. 17). -/
abbrev Dev.lar (d : Dev) : Lar := { io := d.io, ld := d.lard, nv := d.nvs }

/-- State of a Muard core (R421). -/
abbrev Io.coreState (io : Io) (k : Nat) : Nat := io.fld .lard (Reg.LARD_CORE + 4 * k) 0 2

/-- A register that a write only stores: no rule of its page gives the write an effect of its own. -/
def plainReg (p : PageRef) (off : Nat) : Bool :=
  match p with
  | .outc _ => decide (off ≠ Reg.LEG_UPDATE ∧ off ≠ Reg.OUTC_LPE_RELEARN)
  | .mac _ => decide (off ≠ Reg.MAC_CNT_CLR)
  | .hbmc _ => decide (off ≠ Reg.HBMC_CNT_CLR)
  | .prsm _ => decide (off ≠ Reg.PRSM_CNT_CLR)
  | .comp _ => decide (off ≠ Reg.COMP_CNT_CLR)
  | .loup => decide (off ≠ Reg.LOUP_CNT_CLR)
  | .audm => decide (off ≠ Reg.AUDM_CNT_CLR)
  | .asrc => decide (off ≠ Reg.ASRC_CNT_CLR)
  | _ => false

/-- The page's block stands as R35 says while it drains: DRAINING and BUSY, with its PAGE_CTL and the start of the drain kept. -/
abbrev Io.drainsAs (p : PageRef) (ctl : Nat) (io io' : Io) : Prop :=
  io'.reg p Reg.PAGE_CTL = Word.of ctl ∧ io'.stateOf p = 3 ∧ io'.busy p = true ∧ FMap.find io'.drains (pageBase p) = some io.up

/-- Status and code with which validation fails, none where it passes (R44). -/
def Verdict.failure : Verdict → Option (Nat × Nat)
  | .pass _ => none
  | .fail status code _ => some (status, code)

/-- How validation of the first commit in the queue ends after `dt` (R44). -/
def Dev.verdict (d : Dev) (r : CommitReq) (rest : List CommitReq) (dt : Nat) : Verdict :=
  (({ d.tick dt with com := { d.com with queue := rest } } : Dev).proposal r.fn (if r.dry then d.io.dirtyOf r.fn else r.vals)).judge r

/-- The address is that of a shadowed register of an enabled output. -/
def Io.waitsOnOutput (io : Io) (a : Nat) : Bool :=
  match placeOf a with
  | .page (.outc o) off => io.outOn o && ((rowAt (.outc o) off).map (fun r => r.shadowed)).getD false
  | _ => false

/-- The counter of the first condition under which the MAC drops a frame, in the order of R147; none for a frame that it passes. -/
def Io.rxDrop (io : Io) (p : Fin 128) (bs : List Byte) (trunc phy : Bool) : Option Nat :=
  let n := bs.length
  ([ (trunc, Reg.MAC_RX_TRUNC_LO), (phy, Reg.MAC_RX_PHY_ERR_LO), (decide (n < 64), Reg.MAC_RX_RUNT_LO)
   , (decide (io.fld (.mac p) Reg.MAC_MAXLEN 0 14 < n), Reg.MAC_RX_OVERSIZE_LO)
   , (decide (leAt bs (n - 4) 4 ≠ crc32 (bs.take (n - 4))), Reg.MAC_RX_FCS_ERR_LO)
   , (decide (beAt bs 12 2 = 0x8808), Reg.MAC_RX_PAUSE_LO), (!io.macFilter p (beAt bs 0 6), Reg.MAC_RX_FILTERED_LO) ].find? (·.1)).map (·.2)

/-- `n` steps one after the other, as long as each answers a next state. -/
def State.steps : Nat → State → Host.Outcome State Fault Refusal
  | 0, s => .next s
  | n + 1, s =>
    match step s with
    | .next t => State.steps n t
    | r => r

/-- The commands whose operand lists must have the shape that the spec gives them: without it they are no command. -/
def listShaped : Instr → Bool
  | .commandFetch _ _ _ | .cmdNvWrite _ _ _ | .apWrite _ _ _ | .apRead _ _ _ _ | .htxSend _ _ _ | .tdmFrameSync _ _ _ _ | .thermalEvaluate _ _
  | .nvWindowWrite _ _ | .nvWindowRead _ _ => true
  | _ => false

/-- For a command that acts within one unit: the part before it with the components of that unit taken from the part after it. None for a command
that reaches further. -/
def unitOf : Instr → Option (Dev → Dev → Dev)
  | .errCodeClr _ | .evtForce _ _ | .evtPendClear _ _ | .pageLockSticky _ _ | .evtMapWrite _ _ | .msixUnmask _ _ | .macCntClr _ | .msecCntClr _ | .sievCntClr _
  | .routCntClr | .fstrCntClr | .hbmcCntClr _ | .prsmCntClr _ | .frcCntClr _ | .compCntClr _ | .scanCntClr _ | .loupCntClr | .audmCntClr | .asrcCntClr
  | .tdmpCntClr _ | .nvsCntClr | .fstrQuery _ | .fstrMapQuery _ | .refresh2x _ _ _ | .adaptLimit _ _ | .eqAdaptFreeze _ _ | .anFail _ _ _ _ | .msecTxAnWrite _ _
  | .frcJobSel _ _ | .keysRngRead | .keysSlotQuery _ => some fun d d' => { d with io := d'.io }
  | .pcsCntClr _ | .prbsInject _ | .prbsClear _ | .prbsCheckerLock _ _ _ | .prbsLockLost _ _ _ | .eyeScanStart _ | .eyeScanAbort _ | .eyeScanDone _ _
  | .laneRefRestored _ _ => some fun d d' => { d with io := d'.io, ser := d'.ser }
  | .ptpLocked _ | .announceTimeout _ _ | .ref10mPresent _ | .refLost _ _ | .ppsArm | .delayRequestTx _ => some fun d d' => { d with io := d'.io, ptp := d'.ptp }
  | .mirrorSkew _ _ | .seenReport _ _ _ | .membershipReport _ _ _ => some fun d d' => { d with io := d'.io, sv := d'.sv }
  | .fpRevert _ _ => some fun d d' => { d with io := d'.io, rt := d'.rt }
  | .fpHoldTimeout _ _ => some fun d d' => { d with io := d'.io, sc := d'.sc, rt := d'.rt }
  | .apWrite _ _ _ => some fun d d' => { d with io := d'.io, st := d'.st }
  | .sqDoorbell _ _ | .cqDoorbell _ _ | .qpEnable _ _ _ | .qpDisable _ _ _ | .coalesceTimeout _ _ => some fun d d' => { d with io := d'.io, hq := d'.hq }
  | .alignRegained _ _ | .nonpcmMarkClear _ _ | .asrcLocked _ _ | .asrcRange _ _ _ | .asrcWithinRange _ _ _ => some fun d d' => { d with io := d'.io, aud := d'.aud }
  | .packetTx _ _ | .htxSend _ _ _ | .loupeResult _ _ _ | .outcLpeRelearn _ _ | .stockBuildDone _ _ _ _ => some fun d d' => { d with io := d'.io, sc := d'.sc }
  | .sensorRecovered _ _ => some fun d d' => { d with io := d'.io, therm := d'.therm }
  | .pwrOffWrite _ _ | .pwrTileOffWrite _ => some fun d d' => { d with io := d'.io, power := d'.power }
  | .entropyFail _ | .entropyRetest _ _ => some fun d d' => { d with io := d'.io, keys := d'.keys }
  | .nvWindowWrite _ _ | .nvWindowRead _ _ | .nvWindowIdle _ | .nvsWinTimeout _ | .nvsFlush | .powerLoss _ _ _ | .istStep _ | .istTestDone _ _ _ | .coreTakeover _ _
  | .sramRepaired _ _ | .pktbufRepaired _ _ | .mapWriteFail _ | .wearHourTick _ | .lardMapQuery _ | .lardSwap _ =>
    some fun d d' => { d with io := d'.io, nvs := d'.nvs, keys := d'.keys, hq := d'.hq, lard := d'.lard }
  | _ => none

end Sys2Proof.Machine
end

