-- ==== Sys2Proof/Certificates/Slice0/Obligations.lean ====
section
/-! DEFINITION. The statements for the provers: what the commands of the block do, what each leaves alone, and what every step keeps. -/
open Sys2Proof Sys2Proof.Machine

/-- A step on a state with a command waiting is that command's meaning on the state with the queue's rest. -/
def Obligations.StepRunsFront : Prop :=
  ∀ (s : State) (c : Instr), Machine.step { s with pending := c :: s.pending } = exec c s

/-- On an empty queue a step lets one 2 ns period of the time base pass, and nothing else (the model's choice, log 1). -/
def Obligations.EmptyQueueTicks : Prop :=
  ∀ s : State, s.pending = [] →
    ∃ t, Machine.step s = .next t ∧ t.pending = [] ∧ t.dev.io.now = s.dev.io.now + 2 ∧ t.dev.io.up = s.dev.io.up + 2
      ∧ t.dev = { s.dev with io := { s.dev.io with now := t.dev.io.now, up := t.dev.io.up } }

/-- Every command whose operands have their shape runs to a next state and leaves the waiting commands alone; one of the commands with operand lists that lack their
shape is no command and stops by name, changing nothing. -/
def Obligations.EveryCommandRuns : Prop :=
  ∀ (c : Instr) (s : State), (c.wellFormed = true → Runs c s fun _ _ => True) ∧ (listShaped c = true → c.wellFormed = false → exec c s = .fault .illFormed)

/-- Commands that wait run first in, first out: after one step for each of them the queue holds what stood behind them. -/
def Obligations.QueueDrainsInOrder : Prop :=
  ∀ (cs rest : List Instr) (s : State), (∀ c ∈ cs, c.wellFormed = true) →
    (∃ t, State.steps cs.length { s with pending := cs ++ rest } = .next t ∧ t.pending = rest)
    ∧ ∀ (c : Instr) (t : State), exec c { s with pending := cs ++ rest } = .next t →
        State.steps (cs.length + 1) { s with pending := c :: (cs ++ rest) } = State.steps cs.length t

/-- After reset no command waits, the addressed memories are canonical and empty, nothing is allocated, and registers of every kind of page hold the values of the
spec's tables. -/
def Obligations.ResetLeavesStatedValues : Prop :=
  State.reset.pending = [] ∧ State.reset.Safe ∧ State.reset.dev.st.table = [] ∧ State.reset.dev.hq.cmds = [] ∧ State.reset.dev.com.pend = []
  ∧ (∀ i off, State.reset.dev.st.byte i off = 0)
  ∧ (let io := State.reset.dev.io
     io.reg .fstr 0x40 = 0x00220000 ∧ io.reg .fstr 0x44 = 0x00220000 ∧ io.reg .fstr Reg.FSTR_LOW_WATER = 0x4000
      ∧ ∀ t : Fin 16, io.reg (.siev t) Reg.SIEV_CFG = 0x00A20064 ∧ io.reg (.siev t) Reg.SIEV_SEEN_CFG = 0x000103E8 ∧ io.reg (.siev t) Reg.SIEV_PUNT_CFG = 0x700)

/-- Every step keeps the addressed memories in canonical form: strictly rising addresses, and nothing listed that an unlisted address reads as. -/
def Obligations.MemoriesStayCanonical : Prop :=
  ∀ s t : State, s.Safe → Machine.step s = .next t → t.Safe

/-- A one-time fuse never clears, and only FUSE_BLOW_DONE changes a fuse: not a reset, not a power-on, no other command (R100, R466, R469). -/
def Obligations.FusesNeverClear : Prop :=
  ∀ (c : Instr) (s t : State), exec c s = .next t →
    (s.dev.keys.blank = true → t.dev.keys.blank = true) ∧ (s.dev.keys.retired = true → t.dev.keys.retired = true)
    ∧ ((∀ dt, c ≠ .fuseBlowDone dt) →
        t.dev.keys.blank = s.dev.keys.blank ∧ t.dev.keys.retired = s.dev.keys.retired ∧ t.dev.boot.secMin = s.dev.boot.secMin)

/-- A command that acts within one unit leaves the state of every other unit, and the memories of every other unit, as it was; no command but a step of the queue
changes what waits. -/
def Obligations.UnitsKeepToThemselves : Prop :=
  ∀ (c : Instr) (s t : State), exec c s = .next t →
    t.pending = s.pending ∧ ∀ only, unitOf c = some only → t.dev = only s.dev t.dev

/-- A write outside its range to TOP_ADM_ENG_RSV (0 to 128,000) or TOP_ADM_HBM_RSV (0 to 660,000) is ignored, recorded in ERR_CODE and ERR_INFO, and raises the TOP
page's error event (R26). -/
def Obligations.ReservesKeepTheirRange : Prop :=
  ∀ (addr : BitVec 26) (v : Word) (s : State),
    (addr.toNat = regAddr .top Reg.TOP_ADM_ENG_RSV ∧ 128000 < v.toNat) ∨ (addr.toNat = regAddr .top Reg.TOP_ADM_HBM_RSV ∧ 660000 < v.toNat) →
    Runs (.regWrite 0 addr v) s fun d d' =>
      d'.io.rd addr.toNat = d.io.rd addr.toNat ∧ d'.io.shadow = d.io.shadow
        ∧ d'.io.fld .top Reg.ERR_CODE 0 16 = codeIgnored .top ∧ d'.io.fld .top Reg.ERR_CODE 16 8 = sat 8 (d.io.fld .top Reg.ERR_CODE 16 8 + 1)
        ∧ d'.io.fld .top Reg.ERR_INFO 0 14 = addr.toNat ∧ (d.io.flag .top Reg.PAGE_LOCK 1 = false → d'.io.fld .top Reg.ERR_INFO 14 4 = 0)
        ∧ d'.io.flag .top Reg.EVT_PEND 0 = true

/-- The Loupe cannot be turned off: from READY onwards a write of ENABLE 0 or RESET to its PAGE_CTL is ignored and recorded with reason 0 (R348); with CTL_LOCK set
it is recorded with reason 1 instead (R38). -/
def Obligations.TheLoupeStaysOn : Prop :=
  ∀ (c : Instr) (s : State), c = .pageDisable .loup ∨ c = .pageReset .loup → s.dev.io.ready = true →
    Runs c s fun d d' =>
      d'.io.reg .loup Reg.PAGE_CTL = d.io.reg .loup Reg.PAGE_CTL ∧ d'.io.stateOf .loup = d.io.stateOf .loup ∧ d'.io.drains = d.io.drains
        ∧ d'.io.fld .loup Reg.ERR_CODE 0 16 = codeIgnored .loup ∧ d'.io.flag .loup Reg.EVT_PEND 0 = true
        ∧ d'.io.reg .loup Reg.ERR_INFO = Word.of (Reg.PAGE_CTL + b2n (d.io.flag .loup Reg.PAGE_LOCK 0) * 2 ^ 14)

/-- A stage that exceeds its maximum is recorded with its number and raises STAGE_TIMEOUT, and the port restarts at CDR_LOCK, cold, however often that happens;
where the measured skew exceeds 200 ns, 0x0413 is recorded and DESKEW_FAIL raised in addition (R121). -/
def Obligations.StageTimeoutsRestart : Prop :=
  ∀ (p : Fin 128) (ob : StageObs) (dt : Nat) (s : State), 3 ≤ s.dev.io.stage p → s.dev.io.stage p ≤ 8 →
    let inOrder := s.dev.io.flag (.pcs p) Reg.PCS_CFG 8 = true ∨ orderOf (lanesOfSpeed (s.dev.io.speedOf p)) ob.order = straightOrder (lanesOfSpeed (s.dev.io.speedOf p))
    Runs (.stageTimeout p ob dt) s fun d d' =>
      d'.io.stage p = 3 ∧ d'.ser.warm = d.ser.warm.erase p ∧ d'.io.flag (.pcs p) Reg.EVT_PEND 4 = true
        ∧ (d.io.stage p ≠ 7 ∨ (ob.skew.val ≤ 20000 ∧ inOrder) →
            d'.io.fld (.pcs p) Reg.ERR_CODE 0 16 = 0x0412 ∧ d'.io.reg (.pcs p) Reg.ERR_INFO = Word.of (d.io.stage p)
              ∧ d'.io.fld (.pcs p) Reg.ERR_CODE 16 8 = sat 8 (d.io.fld (.pcs p) Reg.ERR_CODE 16 8 + 1))
        ∧ (d.io.stage p = 7 → 20000 < ob.skew.val → d'.io.flag (.pcs p) Reg.EVT_PEND 5 = true
            ∧ (inOrder → d'.io.fld (.pcs p) Reg.ERR_CODE 0 16 = 0x0413 ∧ d'.io.fld (.pcs p) Reg.ERR_CODE 16 8 = sat 8 (d.io.fld (.pcs p) Reg.ERR_CODE 16 8 + 2)))

/-- ERR_CODE_CLR clears CODE, COUNT and ERR_INFO of the page and changes nothing else (R34). A counter-clear command brings every counter of its page to 0 and
changes nothing else, while the page has power and CFG_LOCK is clear; with CFG_LOCK set it changes no counter and leaves a record with reason 1, and without
power one with reason 3 (R38). PAGE_LOCK_STICKY stores the lock bits with STICKY; while STICKY is set a write is ignored with reason 1 (R34, R38). -/
def Obligations.ClearsAndLocksAct : Prop :=
  (∀ (p : PageRef) (s : State), Runs (.errCodeClr p) s fun d d' =>
    d'.io.reg p Reg.ERR_CODE = 0 ∧ d'.io.reg p Reg.ERR_INFO = 0 ∧ Dev.SameIo (within p [Reg.ERR_CODE, Reg.ERR_INFO]) d d')
  ∧ (∀ (c : Instr) (p : PageRef) (clr : Nat) (offs : List Nat) (s : State), clearedBy c = some (p, clr, offs) →
    (s.dev.io.powered p = true → s.dev.io.flag p Reg.PAGE_LOCK 1 = false → Runs c s fun d d' =>
      (∀ off ∈ offs, d'.io.reg p off = 0) ∧ Dev.SameIo (within p offs) d d')
    ∧ (s.dev.io.powered p = true → s.dev.io.flag p Reg.PAGE_LOCK 1 = true → Runs c s fun d d' =>
      d' = d.onIo (fun io => io.ignored p clr 1) ∧ ∀ off ∈ offs, d'.io.reg p off = d.io.reg p off)
    ∧ (s.dev.io.powered p = false → Runs c s fun d d' =>
      d' = d.onIo (fun io => io.ignored p clr 3) ∧ ∀ off ∈ offs, d'.io.reg p off = d.io.reg p off))
  ∧ (∀ (p : PageRef) (locks : Fin 8) (s : State),
    (s.dev.io.flag p Reg.PAGE_LOCK 31 = false → Runs (.pageLockSticky p locks) s fun d d' =>
      d'.io.fld p Reg.PAGE_LOCK 0 3 = locks.val ∧ d'.io.flag p Reg.PAGE_LOCK 31 = true ∧ Dev.SameIo (within p [Reg.PAGE_LOCK]) d d')
    ∧ (s.dev.io.flag p Reg.PAGE_LOCK 31 = true → Runs (.pageLockSticky p locks) s fun d d' =>
      d'.io.reg p Reg.PAGE_LOCK = d.io.reg p Reg.PAGE_LOCK ∧ d'.io.fld p Reg.ERR_CODE 0 16 = codeIgnored p
        ∧ d'.io.reg p Reg.ERR_INFO = Word.of (Reg.PAGE_LOCK + 2 ^ 14)))

/-- EVT_PEND_CLEAR clears the bits written as 1 and keeps the others (R37); EVT_FORCE sets the bits written as 1 unless FORCE_LOCK is set, and then leaves a record
instead (R34, R38). Each changes only its page's event words, the EVT page and the map. After a write of EVT_PEND or EVT_FORCE every source that the page feeds
is pending exactly while some enabled pending bit of a page that feeds it is set (R37, R80). EVT_MAP_WRITE stores VECTOR and EN and keeps PEND, and EN set on a
pending source sends one message on an unmasked vector (R79). MSIX_UNMASK of a vector of the function sends one message exactly when its pending bit is set, and
clears the bit (R79). -/
def Obligations.EventsLatchAndSend : Prop :=
  (∀ (p : PageRef) (v : Word) (s : State),
    (Runs (.evtPendClear p v) s fun d d' =>
      d'.io.reg p Reg.EVT_PEND = d.io.reg p Reg.EVT_PEND &&& ~~~v
        ∧ Dev.SameIo (fun a => within p [Reg.EVT_PEND] a || eventPlace a) d d')
    ∧ (s.dev.io.flag p Reg.PAGE_LOCK 2 = false → Runs (.evtForce p v) s fun d d' =>
      d'.io.reg p Reg.EVT_PEND = d.io.reg p Reg.EVT_PEND ||| v
        ∧ Dev.SameIo (fun a => within p [Reg.EVT_PEND] a || eventPlace a) d d')
    ∧ (s.dev.io.flag p Reg.PAGE_LOCK 2 = true → Runs (.evtForce p v) s fun d d' =>
      d'.io.reg p Reg.EVT_PEND = setBit (d.io.reg p Reg.EVT_PEND) 0 true
        ∧ d'.io.fld p Reg.ERR_CODE 0 16 = codeIgnored p ∧ d'.io.reg p Reg.ERR_INFO = Word.of (Reg.EVT_FORCE + 2 ^ 14)
        ∧ Dev.SameIo (fun a => within p [Reg.EVT_PEND, Reg.ERR_CODE, Reg.ERR_INFO] a || eventPlace a) d d'))
  ∧ (∀ (p : PageRef) (v : Word) (s : State),
    (Runs (.evtPendClear p v) s fun _ d' => ∀ n ∈ pageSources p, d'.io.srcPending n = d'.io.sourceLevel p n)
    ∧ (Runs (.evtForce p v) s fun _ d' => s.dev.io.flag p Reg.PAGE_LOCK 2 = false → ∀ n ∈ pageSources p, d'.io.srcPending n = d'.io.sourceLevel p n))
  ∧ ((∀ (n : Fin 2048) (v : Word) (s : State), Runs (.evtMapWrite n v) s fun d d' =>
    let a := evtMapAddr n
    d'.io.rd a = (v &&& 0x000107FF) ||| (d.io.rd a &&& 0x01000000)
      ∧ (bit v 16 = true → bit (d.io.rd a) 16 = false → d.io.srcPending n = true → d.io.unmasked.contains (bits v 0 11) = true →
          d'.io.out = Out.msix 0 (bits v 0 11) :: d.io.out)
      ∧ (bit v 16 = false → d'.io.out = d.io.out)
      ∧ Dev.SameIo (fun x => decide (x = a)) d d')
  ∧ ∀ (fn : Fin 64) (vec : Fin 2048) (s : State), vec.val < vectorsOf fn.val → Runs (.msixUnmask fn vec) s fun d d' =>
    let k := fn.val * 2048 + vec.val
    d'.io.unmasked.contains k = true ∧ d'.io.pba.contains k = false
      ∧ d'.io.out = (if d.io.pba.contains k then [Out.msix fn vec] else []) ++ d.io.out
      ∧ (∀ a, d'.io.rd a = d.io.rd a))

/-- A register write that passes the checks of R38 is stored in its writable bits, into the shadow of a shadowed register and else live; a write that fails one
changes no register and is recorded with its reason (R5, R38, R39). A VF's write outside its contexts is ignored and counted (R82). -/
def Obligations.WritesStoreOrAreRecorded : Prop :=
  ∀ (p : PageRef) (off reason : Nat) (r : Row) (fn : Fin 64) (addr : BitVec 26) (v : Word) (s : State),
    (addr.toNat = regAddr p off → off % 4 = 0 → 0x40 ≤ off → plainReg p off = true → rowAt p off = some r →
      (s.dev.io.writeReason p r v = none → Runs (.regWrite 0 addr v) s fun d d' =>
        (r.shadowed = false → d'.io.rd addr.toNat = (v &&& Word.of r.wmask) ||| (d.io.rd addr.toNat &&& ~~~(Word.of r.wmask)))
          ∧ (r.shadowed = true → d'.io.rd addr.toNat = d.io.rd addr.toNat
              ∧ FMap.find d'.io.shadow addr.toNat = some { val := (v &&& Word.of r.wmask) ||| (d.io.shadowRd addr.toNat &&& ~~~(Word.of r.wmask)), writer := 0, dirty := true }))
      ∧ (s.dev.io.writeReason p r v = some reason → Runs (.regWrite 0 addr v) s fun d d' =>
        d'.io.rd addr.toNat = d.io.rd addr.toNat ∧ d'.io.shadow = d.io.shadow ∧ d'.io.fld p Reg.ERR_CODE 0 16 = codeIgnored p
          ∧ d'.io.reg p Reg.ERR_INFO = Word.of (off % 2 ^ 14 + reason * 2 ^ 14) ∧ d'.io.flag p Reg.EVT_PEND 0 = true))
    ∧ (fn ≠ 0 → addr.toNat % 4 = 0 → addr.toNat < 0x100000 → addr.toNat < 0x1000 ∨ 0x1100 ≤ addr.toNat → Runs (.regWrite fn addr v) s fun d d' =>
      d'.io.fn fn Reg.HQ_FN_BAD_WRITES = sat 32 (d.io.fn fn Reg.HQ_FN_BAD_WRITES + 1) ∧ d'.io.shadow = d.io.shadow ∧ d'.io.flag .hq Reg.EVT_PEND 3 = true)

/-- A read of the lowest word of a wide value returns it and keeps the higher word of the same instant, which the next read of that word returns: a counter of a
MAC, and the 64-bit time (R16). -/
def Obligations.WideReadsAreCoherent : Prop :=
  ∀ (m : Fin 128) (i : Fin 12) (w : Word) (addr : BitVec 26) (s : State),
    (s.dev.io.powered (.mac m) = true →
      (addr.toNat = regAddr (.mac m) (Reg.MAC_RX_FRAMES_LO + 8 * i) → Runs (.coherentSnapshotRead 0 addr) s fun d d' =>
        d'.io.out = .readData (d.io.reg (.mac m) (Reg.MAC_RX_FRAMES_LO + 8 * i)) :: d.io.out
          ∧ FMap.find d'.io.snap (addr.toNat + 4) = some (d.io.reg (.mac m) (Reg.MAC_RX_FRAMES_LO + 8 * i + 4)) ∧ d'.io.regs = d.io.regs)
      ∧ (addr.toNat = regAddr (.mac m) (Reg.MAC_RX_FRAMES_LO + 8 * i + 4) → FMap.find s.dev.io.snap addr.toNat = some w →
        Runs (.coherentSnapshotRead 0 addr) s fun d d' => d'.io.out = .readData w :: d.io.out ∧ d'.io.snap = d.io.snap))
    ∧ (s.dev.io.powered .ptp = true → addr.toNat = regAddr .ptp Reg.PTP_TIME64_LO → Runs (.coherentSnapshotRead 0 addr) s fun d d' =>
      d'.io.out = .readData (Word.of d.io.now) :: d.io.out ∧ FMap.find d'.io.snap (addr.toNat + 4) = some (Word.of (d.io.now / 2 ^ 32)))

/-- PAGE_CTL: an enable that a check refuses is recorded with its reason, and one that passes makes the block RUNNING; a disable, a drain and a reset begin the
drain; with CTL_LOCK set the write is ignored with reason 1, and a block that is never off ignores a disable (R34, R35, R38, R53, R490). At its drain point a
block's drain ends: with ENABLE kept it is idle, and else it is OFF with its event, with its registers at their reset values where RESET was set; at the drain
bound it ends likewise, with event 8 of the TOP page (R53, R54, R490). A draining pair ends with its tags. -/
def Obligations.BlocksStartAndDrain : Prop :=
  (∀ (p : PageRef) (reason : Nat) (s : State),
    (s.dev.io.drainedIdle p = false → s.dev.io.enabled p = false →
      (s.dev.io.enableRefusal p = some (reason, 0) → Runs (.pageEnable p) s fun d d' =>
        d'.io.stateOf p = d.io.stateOf p ∧ d'.io.enabled p = false ∧ d'.io.fld p Reg.ERR_CODE 0 16 = codeIgnored p
          ∧ d'.io.reg p Reg.ERR_INFO = Word.of (Reg.PAGE_CTL + reason * 2 ^ 14))
      ∧ (s.dev.io.enableRefusal p = none → engineOf p = none → Runs (.pageEnable p) s fun _ d' =>
        d'.io.reg p Reg.PAGE_CTL = 1 ∧ d'.io.stateOf p = 2))
    ∧ (s.dev.io.flag p Reg.PAGE_LOCK 0 = false → neverOff p = false → s.dev.io.draining p = false → engineOf p = none →
      (∀ x ∈ s.dev.com.pend, ∀ v ∈ x.vals, v.1 < pageBase p ∨ pageBase p + 0x40 ≤ v.1) →
      (s.dev.io.enabled p = true → s.dev.io.drainedIdle p = false → Runs (.pageDisable p) s fun d d' => d.io.drainsAs p 0 d'.io)
      ∧ (s.dev.io.enabled p = true → s.dev.io.stateOf p = 2 → Runs (.pageDrain p) s fun d d' => d.io.drainsAs p 3 d'.io)
      ∧ Runs (.pageReset p) s (fun d d' => d.io.drainsAs p 4 d'.io))
    ∧ (s.dev.io.flag p Reg.PAGE_LOCK 0 = true →
      Runs (.pageDisable p) s (fun d d' => d'.io.stateOf p = d.io.stateOf p ∧ d'.io.fld p Reg.ERR_CODE 0 16 = codeIgnored p ∧ d'.io.reg p Reg.ERR_INFO = Word.of (Reg.PAGE_CTL + 2 ^ 14))
      ∧ Runs (.pageReset p) s (fun d d' => d'.io.stateOf p = d.io.stateOf p ∧ d'.io.fld p Reg.ERR_CODE 0 16 = codeIgnored p ∧ d'.io.reg p Reg.ERR_INFO = Word.of (Reg.PAGE_CTL + 2 ^ 14)))
    ∧ (s.dev.io.flag p Reg.PAGE_LOCK 0 = false → neverOff p = true → s.dev.io.ready = true → Runs (.pageDisable p) s fun d d' =>
      d'.io.stateOf p = d.io.stateOf p ∧ d'.io.reg p Reg.PAGE_CTL = d.io.reg p Reg.PAGE_CTL ∧ d'.io.fld p Reg.ERR_CODE 0 16 = codeIgnored p))
  ∧ (∀ (p : PageRef) (q : Fin 316) (tags : List (BitVec 16)) (dt : Nat) (s : State),
    (s.dev.io.draining p = true → engineOf p = none → (s.dev.io.drains.map Prod.fst).Pairwise (· < ·) →
      (s.dev.tick dt).atDrainPoint p = true → Runs (.drainEnd (.page p) dt) s fun d d' =>
        d'.io.draining p = false ∧ d'.io.busy p = false ∧ d'.io.flag p Reg.EVT_PEND 1 = true
          ∧ d'.io.stateOf p = (if d.io.enabled p then d.io.stateOf p else 0) ∧ (d.io.enabled p = false → d'.io.reg p Reg.PAGE_CTL = 0))
    ∧ (s.dev.io.draining p = true → engineOf p = none → (s.dev.io.drains.map Prod.fst).Pairwise (· < ·) →
      s.dev.io.drainOver (pageBase p) (s.dev.drainBound p) = true → Runs (.drainForced (.page p) dt) s fun d d' =>
        d'.io.draining p = false ∧ d'.io.busy p = false ∧ d'.io.flag p Reg.EVT_PEND 0 = true ∧ d'.io.flag .top Reg.EVT_PEND 8 = true
          ∧ d'.io.stateOf p = (if d.io.enabled p then d.io.stateOf p else 0))
    ∧ ((s.dev.hq.pair q).draining = true →
      Runs (.drainEnd (.pair q tags) dt) s (fun _ d' => (d'.hq.pair q).draining = false)
      ∧ (s.dev.io.drainOver (2 ^ 32 + q) 2000000 = true → Runs (.drainForced (.pair q tags) dt) s fun _ d' =>
        (d'.hq.pair q).draining = false ∧ d'.io.flag .top Reg.EVT_PEND 8 = true)))

/-- A port that passes its stage enters the next stage that its mode has; a port that reaches LINK_UP shows its link up, counts it, keeps the time and raises the
event (R119, R143). A loss on an enabled port that is past the stage concerned returns it to the stage R122 names, with the cause where its link was up. -/
def Obligations.LinksComeAndGo : Prop :=
  (∀ (p : Fin 128) (ob : StageObs) (dt : Nat) (s : State), stagePasses (s.dev.io.tick dt) s.dev.ser p ob = true →
    Runs (.pcsStagePass p ob dt) s fun d d' =>
      d'.io.stage p = d.io.nextStage p (d.io.stage p)
        ∧ (d.io.nextStage p (d.io.stage p) = 9 → d'.io.flag (.pcs p) Reg.PCS_STAT 4 = true
            ∧ d'.io.fld (.pcs p) Reg.PCS_LINK_CNT 0 16 = sat 16 (d.io.fld (.pcs p) Reg.PCS_LINK_CNT 0 16 + 1)
            ∧ d'.io.wide (.pcs p) Reg.PCS_LINK_TS_LO = (d.io.now + dt) % 2 ^ 64
            ∧ d'.io.flag (.pcs p) Reg.EVT_PEND 2 = true))
  ∧ (∀ (p : Fin 128) (dt : Nat) (s : State),
    (s.dev.io.pastStage p 3 = true → Runs (.cdrLockLost p dt) s fun d d' =>
      d'.io.stage p = 3 ∧ (d.io.stage p = 9 → d.io.showsLoss p 2 dt d'.io))
    ∧ (s.dev.io.pastStage p 5 = true → Runs (.blockLockLoss p dt) s fun d d' =>
      d'.io.stage p = 5 ∧ (d.io.stage p = 9 → d.io.showsLoss p 3 dt d'.io))
    ∧ (s.dev.io.pastStage p 6 = true → s.dev.io.hasStage p 6 = true → Runs (.amLockLoss p dt) s fun d d' =>
      d'.io.stage p = 6 ∧ (d.io.stage p = 9 → d.io.showsLoss p 4 dt d'.io))
    ∧ (s.dev.io.pastStage p 8 = true → s.dev.io.fecOf p ≠ 0 → Runs (.fecLoss p dt) s fun d d' =>
      d'.io.stage p = 5 ∧ (d.io.stage p = 9 → d.io.showsLoss p 5 dt d'.io)))

/-- A partner is declared arrived or departed on an enabled lane without loopback: LANE_STAT shows it, the count and the time are kept, the event is raised, and
SD_AUTO_WAKE wakes a receiver (R124, R125). LANE_SLEEP takes the bit written; a transmitter or a receiver sleeps at once, and wakes at its wake point (R125). A
transmitter whose port has auto-negotiation or link training enabled is not put to sleep, and the write is recorded (R126). -/
def Obligations.PartnersAndSleep : Prop :=
  (∀ (l : Fin 128) (dt : Nat) (s : State), s.dev.io.watches l = true →
    (s.dev.ser.present.contains l.val = false → Runs (.partnerArrived l dt) s fun d d' =>
      d'.ser.present = l.val :: d.ser.present ∧ d'.io.flag (.lane l) Reg.LANE_STAT 0 = true
        ∧ d'.io.fld (.lane l) Reg.LANE_PARTNER_CNT 0 16 = sat 16 (d.io.fld (.lane l) Reg.LANE_PARTNER_CNT 0 16 + 1)
        ∧ d'.io.wide (.lane l) Reg.LANE_PARTNER_TS_LO = (d.io.now + dt) % 2 ^ 64
        ∧ d'.io.flag (.lane l) Reg.EVT_PEND 2 = true
        ∧ d'.io.flag (.lane l) Reg.LANE_SLEEP 1 = (d.io.flag (.lane l) Reg.LANE_SLEEP 1 && !d.io.flag (.lane l) Reg.LANE_CFG 8))
    ∧ (s.dev.ser.present.contains l.val = true → Runs (.partnerDeparted l dt) s fun d d' =>
      d'.ser.present = d.ser.present.erase l.val ∧ d'.io.flag (.lane l) Reg.LANE_STAT 0 = false
        ∧ d'.io.fld (.lane l) Reg.LANE_PARTNER_CNT 16 16 = sat 16 (d.io.fld (.lane l) Reg.LANE_PARTNER_CNT 16 16 + 1)
        ∧ d'.io.wide (.lane l) Reg.LANE_PARTNER_TS_LO = (d.io.now + dt) % 2 ^ 64
        ∧ d'.io.flag (.lane l) Reg.EVT_PEND 3 = true))
  ∧ (∀ (l : Fin 128) (on : Bool) (dt : Nat) (s : State),
    (s.dev.io.accepts (.lane l) Reg.LANE_SLEEP (setBit (s.dev.io.reg (.lane l) Reg.LANE_SLEEP) 0 on) = true →
      (on = false ∨ s.dev.io.anOnLane l = false → Runs (.txSleep l on) s fun _ d' =>
        d'.io.flag (.lane l) Reg.LANE_SLEEP 0 = on ∧ (on = true → d'.io.flag (.lane l) Reg.LANE_STAT 3 = false))
      ∧ (on = true → s.dev.io.anOnLane l = true → Runs (.txSleep l on) s fun d d' =>
        d'.io.flag (.lane l) Reg.LANE_SLEEP 0 = d.io.flag (.lane l) Reg.LANE_SLEEP 0
          ∧ d'.io.fld (.lane l) Reg.ERR_CODE 0 16 = 0x0401 ∧ d'.io.reg (.lane l) Reg.ERR_INFO = Word.of Reg.LANE_SLEEP))
    ∧ (s.dev.io.accepts (.lane l) Reg.LANE_SLEEP (setBit (s.dev.io.reg (.lane l) Reg.LANE_SLEEP) 1 on) = true →
      (s.dev.io.flag (.lane l) Reg.LANE_SLEEP 0 = false ∨ s.dev.io.anOnLane l = false) → Runs (.rxSleep l on) s fun _ d' =>
        d'.io.flag (.lane l) Reg.LANE_SLEEP 1 = on ∧ (on = true → d'.io.flag (.lane l) Reg.LANE_STAT 4 = false))
    ∧ (s.dev.io.isOff (.lane l) = false → s.dev.io.powered (.lane l) = true →
      (s.dev.io.flag (.lane l) Reg.LANE_SLEEP 1 = false → s.dev.io.flag (.lane l) Reg.LANE_STAT 4 = false → Runs (.wakeDone l true dt) s fun _ d' =>
        d'.io.flag (.lane l) Reg.LANE_STAT 4 = true ∧ d'.io.flag (.lane l) Reg.EVT_PEND 9 = true)
      ∧ (s.dev.io.flag (.lane l) Reg.LANE_SLEEP 0 = false → s.dev.io.flag (.lane l) Reg.LANE_STAT 3 = false →
        s.dev.io.flag (.lane l) Reg.LANE_STAT 6 = true → Runs (.wakeDone l false dt) s fun _ d' =>
          d'.io.flag (.lane l) Reg.LANE_STAT 3 = true ∧ d'.io.flag (.lane l) Reg.EVT_PEND 9 = true)))

/-- A quad PLL or a lane reference that is lost takes the lock and the transmitters of its quads' lanes away; the spare PLL and the reference's return bring the
quad back (R112, R135). -/
def Obligations.LocksFollowClocks : Prop :=
  ∀ (q : Fin 32) (k : Fin 4) (dt : Nat) (s : State),
  (s.dev.io.flag (.lane (laneIx (4 * q))) Reg.LANE_STAT 6 = true →
    Runs (.pllLockLost q dt) s fun d d' => d'.ser.pllLost = q.val :: d.ser.pllLost
      ∧ ∀ l ∈ quadLanes q, d'.io.flag (.lane (laneIx l)) Reg.LANE_STAT 6 = false ∧ d'.io.flag (.lane (laneIx l)) Reg.LANE_STAT 3 = false
        ∧ d'.io.flag (.lane (laneIx l)) Reg.EVT_PEND 5 = true)
  ∧ (s.dev.ser.pllLost.contains q.val = true →
      s.dev.io.flag (.lane (laneIx (4 * q))) Reg.LANE_STAT 7 = false → s.dev.boot.badPll.contains q.val = false →
      s.dev.ser.refLost.contains (q.val / 8) = false →
      Runs (.sparePllResume q dt) s fun d d' => d'.ser.pllLost = d.ser.pllLost.erase q.val)
  ∧ (s.dev.ser.refLost.contains k.val = false →
      Runs (.laneRefLost k dt) s fun d d' => d'.ser.refLost = k.val :: d.ser.refLost
        ∧ ∀ q ∈ refQuads k, d.io.flag (.lane (laneIx (4 * q))) Reg.LANE_STAT 6 = true →
          ∀ l ∈ quadLanes q, d'.io.flag (.lane (laneIx l)) Reg.LANE_STAT 6 = false)
  ∧ (s.dev.ser.refLost.contains k.val = true →
      Runs (.laneRefRestored k dt) s fun d d' => d'.ser.refLost = d.ser.refLost.erase k.val
        ∧ ∀ q ∈ refQuads k, d.ser.pllLost.contains q = false → d.io.flag .fw Reg.FW_STAT (16 + q / 2) = true →
          ∀ l ∈ quadLanes q, d'.io.flag (.lane (laneIx l)) Reg.LANE_STAT 6 = true)

/-- The equaliser: an advisory limit raises its event and nothing else (R115), a cleared adapt bit stays clear and leaves the other stages' bits (R116), and RESTART
takes the link down with cause 2 and brings the port to CDR_LOCK, cold (R117). Auto-negotiation: RESTART with auto-negotiation enabled takes the port to AN_LT
with its status cleared (R146); a failed attempt is counted, recorded under the code of its cause, and shown (R145). -/
def Obligations.EqualisersAndNegotiation : Prop :=
  (∀ (l p : Fin 128) (st : EqStage) (dt : Nat) (s : State),
    (s.dev.io.isOff (.lane l) = false → s.dev.io.fld (.lane l) Reg.LANE_EQ_CTL 0 5 ≠ 0 → Runs (.adaptLimit l dt) s fun d d' =>
      d'.io.flag (.lane l) Reg.EVT_PEND 8 = true
        ∧ Dev.SameIo (fun a => within (.lane l) [Reg.EVT_PEND] a || eventPlace a) (d.tick dt) d')
    ∧ (s.dev.io.accepts (.lane l) Reg.LANE_EQ_CTL (setBit (s.dev.io.reg (.lane l) Reg.LANE_EQ_CTL) (eqStageIx st) false) = true →
      Runs (.eqAdaptFreeze l st) s fun d d' =>
        d'.io.flag (.lane l) Reg.LANE_EQ_CTL (eqStageIx st) = false
          ∧ ∀ i < 5, i ≠ eqStageIx st → d'.io.flag (.lane l) Reg.LANE_EQ_CTL i = d.io.flag (.lane l) Reg.LANE_EQ_CTL i)
    ∧ (s.dev.io.accepts (.lane l) Reg.LANE_EQ_CTL (setBit (s.dev.io.reg (.lane l) Reg.LANE_EQ_CTL) 8 true) = true →
      s.dev.io.portOfLane l = some p.val → 3 ≤ s.dev.io.stage p → Runs (.laneEqRestart l) s fun d d' =>
        d'.io.stage p = 3 ∧ d'.io.flag (.lane l) Reg.LANE_STAT 5 = false ∧ d'.ser.warm = d.ser.warm.erase p.val
          ∧ (d.io.stage p = 9 → d.io.showsLoss p 2 0 d'.io)))
  ∧ (∀ (p : Fin 128) (training : Bool) (failed : Fin 16) (dt : Nat) (s : State),
    (s.dev.io.accepts (.pcs p) Reg.PCS_AN_CTL (setBit (s.dev.io.reg (.pcs p) Reg.PCS_AN_CTL) 2 true) = true →
      s.dev.io.flag (.pcs p) Reg.PCS_AN_CTL 0 = true → s.dev.io.pcsOn p = true → 2 ≤ s.dev.io.stage p → Runs (.pcsAnRestart p) s fun d d' =>
        d'.io.stage p = 2 ∧ d'.io.flag (.pcs p) Reg.PCS_AN_STAT 0 = false ∧ (d.io.stage p = 9 → d.io.showsLoss p 2 0 d'.io))
    ∧ (s.dev.io.stage p = 2 → Runs (.anFail p training failed dt) s fun d d' =>
        d'.io.fld (.pcs p) Reg.PCS_AN_STAT 8 8 = sat 8 (d.io.fld (.pcs p) Reg.PCS_AN_STAT 8 8 + 1)
          ∧ d'.io.fld (.pcs p) Reg.PCS_AN_STAT 0 2 = 0 ∧ d'.io.flag (.pcs p) Reg.EVT_PEND 8 = true
          ∧ d'.io.fld (.pcs p) Reg.ERR_CODE 0 16 = (if training then 0x0417 else 0x0416)
          ∧ (training = true → d'.io.reg (.pcs p) Reg.PCS_LT_STAT = Word.of (failed.val * 16))))

/-- The PRBS checker locks and loses lock as R129 says; CLEAR zeroes the counters and the losses (R134), and an injected bit error is counted by a checker that
near-end loopback feeds (R129, R130). An eye scan starts unless R132 refuses it, and ends with all its points or aborted with those it has (R131, R132). -/
def Obligations.LaneTestsRun : Prop :=
  (∀ (l : Fin 128) (inverted : Bool) (errs dt : Nat) (s : State),
    (s.dev.io.flag (.lane l) Reg.LANE_PRBS_CTL 12 = true → s.dev.io.flag (.lane l) Reg.LANE_STAT 4 = true →
      (inverted = false ∨ s.dev.io.flag (.lane l) Reg.LANE_PRBS_CTL 13 = true) → FMap.find s.dev.ser.prbsSince l = none →
      Runs (.prbsCheckerLock l inverted dt) s fun d d' =>
        d'.io.flag (.lane l) Reg.LANE_PRBS_STAT 0 = true ∧ d'.io.flag (.lane l) Reg.LANE_PRBS_STAT 1 = inverted
          ∧ FMap.find d'.ser.prbsSince l = some (d.io.up + dt))
    ∧ ((FMap.find s.dev.ser.prbsSince l).isSome = true → 256 < errs → Runs (.prbsLockLost l errs dt) s fun d d' =>
        d'.io.flag (.lane l) Reg.LANE_PRBS_STAT 0 = false
          ∧ d'.io.fld (.lane l) Reg.LANE_PRBS_STAT 8 8 = sat 8 (d.io.fld (.lane l) Reg.LANE_PRBS_STAT 8 8 + 1)
          ∧ d'.io.flag (.lane l) Reg.EVT_PEND 6 = true)
    ∧ (s.dev.io.accepts (.lane l) Reg.LANE_PRBS_CTL (setBit (s.dev.io.reg (.lane l) Reg.LANE_PRBS_CTL) 17 true) = true →
      s.dev.io.nrz l = false → s.dev.io.flag (.lane l) Reg.LANE_PRBS_CTL 16 = false → Runs (.prbsClear l) s fun _ d' =>
        d'.io.wide (.lane l) Reg.LANE_PRBS_ERR_LO = 0 ∧ d'.io.wide (.lane l) Reg.LANE_PRBS_BITS_LO = 0
          ∧ d'.io.fld (.lane l) Reg.LANE_PRBS_STAT 8 8 = 0)
    ∧ (s.dev.io.accepts (.lane l) Reg.LANE_PRBS_CTL (setBit (s.dev.io.reg (.lane l) Reg.LANE_PRBS_CTL) 16 true) = true →
      s.dev.io.nrz l = false → s.dev.io.flag (.lane l) Reg.LANE_PRBS_CTL 17 = false → s.dev.io.flag (.lane l) Reg.LANE_PRBS_CTL 4 = true →
      s.dev.io.flag (.lane l) Reg.LANE_PRBS_CTL 12 = true → s.dev.io.fld (.lane l) Reg.LANE_CFG 4 2 = 1 →
      (FMap.find s.dev.ser.prbsSince l).isSome = true → s.dev.io.wide (.lane l) Reg.LANE_PRBS_BITS_LO < 2 ^ 48 - 1 →
      Runs (.prbsInject l) s fun d d' =>
        d'.io.wide (.lane l) Reg.LANE_PRBS_ERR_LO = min (2 ^ 48 - 1) (d.io.wide (.lane l) Reg.LANE_PRBS_ERR_LO + 1)))
  ∧ (∀ (l : Fin 128) (t dt : Nat) (s : State),
    (s.dev.io.powered (.lane l) = true → s.dev.io.flag (.lane l) Reg.PAGE_LOCK 1 = false → s.dev.io.flag (.lane l) Reg.LANE_EYE_STAT 0 = false →
      (s.dev.io.eyeRefused l = false → Runs (.eyeScanStart l) s fun d d' =>
        d'.io.reg (.lane l) Reg.LANE_EYE_STAT = 1 ∧ FMap.find d'.ser.eyeSince l = some d.io.up)
      ∧ (s.dev.io.eyeRefused l = true → Runs (.eyeScanStart l) s fun d d' =>
        d'.io.reg (.lane l) Reg.LANE_EYE_STAT = d.io.reg (.lane l) Reg.LANE_EYE_STAT ∧ d'.ser = d.ser
          ∧ d'.io.fld (.lane l) Reg.ERR_CODE 0 16 = 0x0411))
    ∧ (FMap.find s.dev.ser.eyeSince l = some t → (s.dev.io.eyeGrid l).length ≤ (s.dev.io.tick dt).eyePoints l t →
      Runs (.eyeScanDone l dt) s fun d d' =>
        d'.io.reg (.lane l) Reg.LANE_EYE_STAT = Word.of (2 + (d.io.eyeGrid l).length * 16) ∧ d'.io.flag (.lane l) Reg.EVT_PEND 7 = true)
    ∧ (FMap.find s.dev.ser.eyeSince l = some t →
      s.dev.io.accepts (.lane l) Reg.LANE_EYE_CTL (s.dev.io.reg (.lane l) Reg.LANE_EYE_CTL) = true → Runs (.eyeScanAbort l) s fun d d' =>
        d'.io.reg (.lane l) Reg.LANE_EYE_STAT = Word.of (4 + min (d.io.eyeGrid l).length (d.io.eyePoints l t) * 16)
          ∧ d'.io.flag (.lane l) Reg.EVT_PEND 7 = true))

/-- A doorbell of a running pair moves its ring: SQ_TAIL takes a value that covers no more than the free slots, CQ_HEAD one that consumes no more than what was
written, and the slots are free again (R65). A doorbell of a pair that is not enabled is ignored and recorded (R66). EN 0 to 1 starts a pair with its heads,
tails and phase reset; EN 1 to 0 begins its drain; a write that changes a ring size while EN is 1 is ignored, recorded for PF0 and counted for a VF (R60). -/
def Obligations.RingsAndPairs : Prop :=
  (∀ (q : Fin 316) (v : Word) (s : State),
    (s.dev.io.qpOn q = true →
      (v.toNat < s.dev.io.sqSize q →
        (v.toNat + s.dev.io.sqSize q - s.dev.io.qpn q Reg.HQ_QP_SQ_TAIL) % s.dev.io.sqSize q + s.dev.io.sqWaiting q < s.dev.io.sqSize q →
        Runs (.sqDoorbell q v) s fun d d' => d'.io.qpn q Reg.HQ_QP_SQ_TAIL = v.toNat ∧ d'.io.qpn q Reg.HQ_QP_SQ_HEAD = d.io.qpn q Reg.HQ_QP_SQ_HEAD ∧ d'.hq = d.hq)
      ∧ (v.toNat < s.dev.io.cqSize q →
        (v.toNat + s.dev.io.cqSize q - s.dev.io.qpn q Reg.HQ_QP_CQ_HEAD) % s.dev.io.cqSize q ≤ (s.dev.hq.pair q).used →
        Runs (.cqDoorbell q v) s fun d d' => d'.io.qpn q Reg.HQ_QP_CQ_HEAD = v.toNat
          ∧ (d'.hq.pair q).used = (d.hq.pair q).used - (v.toNat + d.io.cqSize q - d.io.qpn q Reg.HQ_QP_CQ_HEAD) % d.io.cqSize q))
    ∧ (s.dev.io.qpOn q = false →
      Runs (.sqDoorbell q v) s (fun d d' => d'.hq = d.hq ∧ d'.io.qpn q Reg.HQ_QP_SQ_TAIL = d.io.qpn q Reg.HQ_QP_SQ_TAIL
        ∧ d'.io.flag .hq (qpReg q Reg.HQ_QP_STAT) 1 = true ∧ d'.io.fld .hq Reg.ERR_CODE 0 16 = 0x0210 ∧ d'.io.reg .hq Reg.ERR_INFO = Word.of q)
      ∧ Runs (.cqDoorbell q v) s (fun d d' => d'.hq = d.hq ∧ d'.io.qpn q Reg.HQ_QP_CQ_HEAD = d.io.qpn q Reg.HQ_QP_CQ_HEAD
        ∧ d'.io.flag .hq (qpReg q Reg.HQ_QP_STAT) 1 = true ∧ d'.io.fld .hq Reg.ERR_CODE 0 16 = 0x0210 ∧ d'.io.reg .hq Reg.ERR_INFO = Word.of (q + 2 ^ 9))))
  ∧ (∀ (q : Fin 316) (v : Word) (byVf : Bool) (s : State), s.dev.io.flag .hq Reg.PAGE_LOCK 1 = false →
    (qpCfgOk q (setBit v 0 true) = true → s.dev.io.qpOn q = false → (s.dev.hq.pair q).draining = false → Runs (.qpEnable q v byVf) s fun _ d' =>
      d'.io.qp q Reg.HQ_QP_CFG = Word.of ((setBit v 0 true).toNat % 2 ^ 23) ∧ d'.io.flag .hq (qpReg q Reg.HQ_QP_STAT) 0 = true
        ∧ d'.hq.pair q = PairRt.fresh ∧ ∀ off ∈ [Reg.HQ_QP_SQ_HEAD, Reg.HQ_QP_SQ_TAIL, Reg.HQ_QP_CQ_TAIL, Reg.HQ_QP_CQ_HEAD], d'.io.qp q off = 0)
    ∧ (qpCfgOk q (setBit v 0 false) = true → s.dev.io.qpOn q = true → bits v 1 10 = bits (s.dev.io.qp q Reg.HQ_QP_CFG) 1 10 →
      Runs (.qpDisable q v byVf) s fun d d' =>
        d'.io.qpOn q = false ∧ d'.io.flag .hq (qpReg q Reg.HQ_QP_STAT) 0 = false ∧ (d'.hq.pair q).draining = true
          ∧ FMap.find d'.io.drains (2 ^ 32 + q) = some d.io.up)
    ∧ (s.dev.io.qpOn q = true → bits v 1 10 ≠ bits (s.dev.io.qp q Reg.HQ_QP_CFG) 1 10 →
      Runs (.qpDisable q v byVf) s fun d d' =>
        d'.io.qp q Reg.HQ_QP_CFG = d.io.qp q Reg.HQ_QP_CFG ∧ d'.hq = d.hq
          ∧ (contextWriter q byVf = 0 → d'.io.fld .hq Reg.ERR_CODE 0 16 = 0x0201 ∧ d'.io.reg .hq Reg.ERR_INFO = Word.of (qpReg q Reg.HQ_QP_CFG % 2 ^ 14 + 2 * 2 ^ 14))
          ∧ (contextWriter q byVf ≠ 0 → d'.io.fn (qFn q) Reg.HQ_FN_BAD_WRITES = sat 32 (d.io.fn (qFn q) Reg.HQ_FN_BAD_WRITES + 1))))

/-- A fetch that the part may make takes the entry at the head into flight, and the head moves on (R67, R68). An unknown opcode and a reserved bit complete at once
as REJECTED, a tag in use likewise with the first command left in flight (R62, R68); a ring that cannot be read stops the pair (R66). TIMEOUT ends a command
before its commit point, with the status of its own, and one past it stays in flight (R61, R76). The coalescing time of a pair ends in one message for its
unreported completions (R70). -/
def Obligations.EntriesAreFetchedAndTimed : Prop :=
  (∀ (q : Fin 316) (ws : List Word) (dt : Nat) (s : State), s.dev.boot.link = true → mayFetch q s.dev.io s.dev.hq s.dev.boot.woride = true →
    ws.length = 16 →
    (let w0 := (ws[0]?).getD 0
     let tag := BitVec.ofNat 16 (bits w0 16 16)
     (s.dev.hq.cmd q tag.toNat = none → bits w0 9 7 = 0 → bits ((ws[1]?).getD 0) 24 8 = 0 → tag.toNat ≠ 0xFFFF → opcodes.contains (bits w0 0 8) = true →
        Runs (.commandFetch q (some ws) dt) s fun d d' =>
          d'.hq.cmds = d.hq.cmds ++ [{ q := q, tag := tag.toNat, fn := qFn q, words := ws, since := d.io.up + dt, past := fetchCommits.contains (bits w0 0 8), begun := false, silent := false }]
            ∧ d'.io.qpn q Reg.HQ_QP_SQ_HEAD = (d.io.qpn q Reg.HQ_QP_SQ_HEAD + 1) % d.io.sqSize q ∧ d'.io.out = d.io.out)
     ∧ (s.dev.hq.cmd q tag.toNat = none → opcodes.contains (bits w0 0 8) = false → s.dev.io.halted = false →
        Runs (.commandFetch q (some ws) dt) s (Dev.finishes q tag (Reply.rejected 0x0212)))
     ∧ ((s.dev.hq.cmd q tag.toNat).isSome = true → Runs (.commandFetch q (some ws) dt) s fun d d' =>
          d'.hq.cmds = d.hq.cmds ∧ d.io.answers d'.io q tag.toNat (Reply.rejected 0x0214) = true))
    ∧ Runs (.commandFetch q none dt) s (fun d d' =>
        (d'.hq.pair q).stopped = true ∧ d'.io.flag .hq (qpReg q Reg.HQ_QP_STAT) 2 = true ∧ d'.io.flag .hq (qpReg q Reg.HQ_QP_STAT) 0 = false
          ∧ d'.io.fld .hq Reg.ERR_CODE 0 16 = 0x021B ∧ (∀ c ∈ d'.hq.cmds, c.q = q → c.silent = true)
          ∧ d'.io.qpn q Reg.HQ_QP_SQ_HEAD = d.io.qpn q Reg.HQ_QP_SQ_HEAD))
  ∧ (∀ (q : Fin 316) (tag : BitVec 16) (c : Cmd) (t dt : Nat) (s : State),
    (s.dev.hq.cmd q tag.toNat = some c → c.since + c.timeout ≤ s.dev.io.up + dt → s.dev.io.halted = false → c.silent = false → c.past = false →
      Runs (.commandTimeout q tag dt) s (Dev.finishes q tag (endsWith 6)))
    ∧ (s.dev.hq.cmd q tag.toNat = some c → c.past = true → s.dev.com.pend = [] → (∀ e ∈ s.dev.st.table, e.2.freeing = false) →
      Runs (.commandTimeout q tag dt) s fun d d' => d'.hq = d.hq)
    ∧ ((s.dev.hq.pair q).armed = false → 0 < (s.dev.hq.pair q).unreported → (s.dev.hq.pair q).since = some t →
      bits (s.dev.io.qp q Reg.HQ_QP_COAL) 16 16 ≠ 0 → t + 1000 * bits (s.dev.io.qp q Reg.HQ_QP_COAL) 16 16 ≤ s.dev.io.up + dt →
      bit (s.dev.io.qp q Reg.HQ_QP_CFG) 22 = true →
      s.dev.io.unmasked.contains (qFn q * 2048 + bits (s.dev.io.qp q Reg.HQ_QP_CFG) 11 11) = true → Runs (.coalesceTimeout q dt) s fun d d' =>
        d'.io.out = .msix (qFn q) (bits (d.io.qp q Reg.HQ_QP_CFG) 11 11) :: d.io.out
          ∧ (d'.hq.pair q).unreported = 0 ∧ (d'.hq.pair q).armed = true ∧ d'.hq.cmds = d.hq.cmds))

/-- NOP completes DONE (R71). COMMIT enters validation with what its function has dirtied, the captured shadows clean, and stays in flight (R39, R72); ABORT of a
command before its commit point completes both, the target ABORTED, and past it completes with the status of R76. -/
def Obligations.PlainCommandsRun : Prop :=
  ∀ (q p : Fin 316) (tag other : BitVec 16) (c x : Cmd) (s : State),
    (s.dev.begins 0x00 q tag c → Runs (.cmdNop q tag) s (Dev.finishes q tag (done 0 0)))
    ∧ (s.dev.begins 0x01 q tag c → c.strays [3, 0xFFFFFFFF, 0xFFFFFFFF, 0xFFFF] = false → bits (c.p 0) 0 2 = 0 → Runs (.cmdCommit q tag) s fun d d' =>
        d'.com.queue = d.com.queue ++ [{ fn := c.fn, src := some (c.q, c.tag), salvo := none, badTime := false, dry := false, vals := d.io.dirtyOf c.fn }]
          ∧ d'.io.dirtyOf c.fn = [] ∧ d'.io.flag .top Reg.TOP_COMMIT_STAT 0 = true ∧ (d'.hq.cmd q tag.toNat).isSome = true ∧ d'.io.out = d.io.out)
    ∧ (s.dev.begins 0x02 q tag c → c.strays [0x3FFFFF] = false → (c.fn = 0 ∨ bits (c.p 0) 16 6 < 4) → p.val = qOf c.fn (bits (c.p 0) 16 6) →
        other.toNat = bits (c.p 0) 0 16 → s.dev.hq.cmd p other.toNat = some x → x.silent = false → x.op ≠ 0x02 → (p, other) ≠ (q, tag) →
        (x.past = false → Runs (.cmdAbort q tag) s fun d d' => Dev.finishes q tag (done 0 0) d d' ∧ Dev.finishes p other (endsWith 2) d d')
        ∧ (x.past = true → Runs (.cmdAbort q tag) s (Dev.finishes q tag (endsWith 4))))

/-- SHADOW_WRITE of an existing object that its issuer may name, with offsets on words and no pair refused, lands every pair in the shadow, and completes DONE; a
refused pair changes no shadow and completes REJECTED with its code (R73). SHADOW_READ of a shadowed word of a layer context answers the live value with LIVE 1,
and the shadow with LIVE 0, in RESULT_LO (R73). -/
def Obligations.ShadowCommandsRun : Prop :=
  (∀ (q : Fin 316) (tag : BitVec 16) (c : Cmd) (code : Nat) (s : State), s.dev.begins 0x03 q tag c →
    let kind := bits (c.p 0) 0 4
    let i := bits (c.p 0) 8 24
    1 ≤ bits (c.p 0) 4 4 → bits (c.p 0) 4 4 ≤ 6 → shadowObject kind i = true → (c.pairs.all fun x => offsetOk x.1) = true →
    (c.fn = 0 ∨ s.dev.shadowOwner kind i = c.fn) →
    (c.pairs.findSome? (fun x => s.dev.io.pairRefusal kind i x.1 x.2) = none → Runs (.cmdShadowWrite q tag) s fun d d' =>
      Dev.finishes q tag (done 0 0) d d' ∧ d'.io.shadow = (c.pairs.foldl (fun io x => io.pairStore c.fn kind i x.1 x.2) d.io).shadow)
    ∧ (c.pairs.findSome? (fun x => s.dev.io.pairRefusal kind i x.1 x.2) = some code → Runs (.cmdShadowWrite q tag) s fun d d' =>
      Dev.finishes q tag (Reply.rejected code) d d' ∧ d'.io.shadow = d.io.shadow))
  ∧ (∀ (q : Fin 316) (tag : BitVec 16) (c : Cmd) (s : State), s.dev.begins 0x04 q tag c →
    let i := bits (c.p 0) 8 24
    let off := (c.p 1).toNat
    bits (c.p 0) 0 4 = 1 → bits (c.p 0) 4 4 = 1 → i < 4096 → off < 0x80 → off % 4 = 0 → (c.p 2).toNat ≤ 1 →
    (c.fn = 0 ∨ s.dev.io.live.layerOwner i = c.fn) →
    ((c.p 2).toNat = 1 → Runs (.cmdShadowRead q tag) s (Dev.finishes q tag (done 0 (s.dev.io.rd (laycAddr i (off / 4))).toNat)))
    ∧ ((c.p 2).toNat = 0 → Runs (.cmdShadowRead q tag) s (Dev.finishes q tag (done 0 (s.dev.io.shadowRd (laycAddr i (off / 4))).toNat))))

/-- SET_OWNER over a range makes the named function the owner of every object of it that has one; a function over a quota with them gets none of them (R74, R85).
LAYER_ALLOC of an unused context to an output with fewer than sixteen binds it to the output, for the issuer, with its words at their reset values (R296).
LAYER_FREE returns a context that no state names to the pool (R297). -/
def Obligations.LayersHaveOwners : Prop :=
  (∀ (q : Fin 316) (tag : BitVec 16) (c : Cmd) (code : Nat) (s : State), s.dev.begins 0x08 q tag c →
    let kind := bits (c.p 0) 0 4
    let fn := bits (c.p 0) 16 6
    let first := (c.p 1).toNat
    let n := (c.p 2).toNat
    c.strays [0x003F000F, 0xFFFFFFFF, 0xFFFFFFFF] = false → kind ≤ 5 → 0 < n → first + n ≤ ownerLimit kind →
    (kind ≠ 1 ∨ fn = 0 ∨ ∀ k < n, s.dev.io.live.layerUsed (first + k) = false ∨ (s.dev.states.any fun v => v.lidNames (first + k)) = false) →
    ((fn = 0 ∨ (s.dev.passAll kind fn first n).useRefusal fn = none) → Runs (.cmdSetOwner q tag) s fun d d' =>
      Dev.finishes q tag (done 0 0) d d' ∧ ∀ k < n, d.owned kind (first + k) = true → d'.ownerOf kind (first + k) = fn)
    ∧ (fn ≠ 0 → (s.dev.passAll kind fn first n).useRefusal fn = some code → Runs (.cmdSetOwner q tag) s fun d d' =>
      Dev.finishes q tag (Reply.quota code) d d' ∧ ∀ k < n, d'.ownerOf kind (first + k) = d.ownerOf kind (first + k)))
  ∧ (∀ (q : Fin 316) (tag : BitVec 16) (c : Cmd) (s : State),
    (s.dev.begins 0x20 q tag c → c.strays [0x0FFF81FF] = false → bit (c.p 0) 15 = false →
      (c.fn = 0 ∨ (s.dev.hq.outOwner (bits (c.p 0) 0 9) = c.fn ∧ s.dev.io.fn c.fn Reg.HQ_FN_U_LAYERS < s.dev.io.fn c.fn Reg.HQ_FN_Q_LAYERS)) →
      (s.dev.io.live.layersOf (bits (c.p 0) 0 9)).length < 16 → s.dev.io.live.layerUsed (bits (c.p 0) 16 12) = false → c.fn < 64 →
      Runs (.cmdLayerAlloc q tag) s fun d d' =>
        let l := bits (c.p 0) 16 12
        Dev.finishes q tag (done 0 l) d d' ∧ d'.io.live.layerUsed l = true ∧ d'.io.live.layerOut l = bits (c.p 0) 0 9
          ∧ d'.io.live.layerOwner l = c.fn ∧ (∀ w < 32, d'.io.rd (laycAddr l w) = 0) ∧ (∀ w < 32, FMap.find d'.io.shadow (laycAddr l w) = none)
          ∧ (c.fn ≠ 0 → d.io.fn c.fn Reg.HQ_FN_U_LAYERS < 2 ^ 32 - 1 → d'.io.fn c.fn Reg.HQ_FN_U_LAYERS = d.io.fn c.fn Reg.HQ_FN_U_LAYERS + 1))
    ∧ (s.dev.begins 0x21 q tag c → c.strays [0xFFF] = false → s.dev.io.live.layerUsed (bits (c.p 0) 0 12) = true →
      (c.fn = 0 ∨ s.dev.io.live.layerOwner (bits (c.p 0) 0 12) = c.fn) →
      (s.dev.states.any fun v => v.namesLayer (bits (c.p 0) 0 12)) = false →
      (s.dev.io.outOn (s.dev.io.live.layerOut (bits (c.p 0) 0 12)) = false ∨ 3 ≤ (s.dev.io.live.layersOf (s.dev.io.live.layerOut (bits (c.p 0) 0 12))).length) →
      Runs (.cmdLayerFree q tag) s fun d d' =>
        Dev.finishes q tag (done 0 0) d d' ∧ d'.io.live.layerUsed (bits (c.p 0) 0 12) = false
          ∧ ∀ w < 32, d'.io.rd (laycAddr (bits (c.p 0) 0 12) w) = 0))

/-- FLOW_CLAIM of an entry that no function uses claims it for the issuer with its shadow zeroed (R185); FLOW_RELEASE of an entry that no state names gives it up
(R186). -/
def Obligations.FlowsAreClaimed : Prop :=
  ∀ (q : Fin 316) (tag : BitVec 16) (c : Cmd) (owner : Nat) (s : State),
    (s.dev.begins 0x30 q tag c → c.strays [0x7FFF, 0xFFFFF] = false → bit (c.p 0) 12 = false → bit (c.p 0) 14 = false →
      (c.fn = 0 ∨ s.dev.io.fn c.fn Reg.HQ_FN_U_FLOWS < s.dev.io.fn c.fn Reg.HQ_FN_Q_FLOWS) →
      (FMap.find s.dev.hq.claims (claimKey (bit (c.p 0) 13) (bits (c.p 0) 0 12))).isNone = true → Runs (.cmdFlowClaim q tag) s fun d d' =>
        Dev.finishes q tag (done 0 (bits (c.p 0) 0 12)) d d'
          ∧ FMap.find d'.hq.claims (claimKey (bit (c.p 0) 13) (bits (c.p 0) 0 12)) = some c.fn
          ∧ ∀ w ∈ entryWords (bit (c.p 0) 13), d'.io.shadowRd (entryAddr (bit (c.p 0) 13) (bits (c.p 0) 0 12) w) = 0)
    ∧ (s.dev.begins 0x31 q tag c → c.strays [0x2FFF] = false → FMap.find s.dev.hq.claims (claimKey (bit (c.p 0) 13) (bits (c.p 0) 0 12)) = some owner →
      (c.fn = 0 ∨ owner = c.fn) →
      (s.dev.states.any fun v => if bit (c.p 0) 13 then v.namesEgress (bits (c.p 0) 0 12) else v.namesFlow (bits (c.p 0) 0 12)) = false →
      Runs (.cmdFlowRelease q tag) s fun d d' =>
        Dev.finishes q tag (done 0 0) d d' ∧ FMap.find d'.hq.claims (claimKey (bit (c.p 0) 13) (bits (c.p 0) 0 12)) = none
          ∧ (bit (c.p 0) 13 = false → d'.io.live.flowValid (bits (c.p 0) 0 12) = false)
          ∧ (bit (c.p 0) 13 = true → d'.io.live.egrValid (bits (c.p 0) 0 12) = false))

/-- CMD_ENABLE starts every page of its object that its checks admit; the object of a TDM port or an Ethernet port is then done (R75). CMD_DISABLE of an object with
no page locked leaves no page of it enabled (R75). -/
def Obligations.ObjectsEnableAndDisable : Prop :=
  ∀ (q : Fin 316) (tag : BitVec 16) (c : Cmd) (s : State), c.strays [0xFFFF000F] = false → bits (c.p 0) 0 4 ≤ 3 →
    let kind := bits (c.p 0) 0 4
    let i := bits (c.p 0) 16 16
    i < objectLimit kind → (c.fn = 0 ∨ (kind = 0 ∧ s.dev.hq.outOwner i = c.fn)) →
    (s.dev.begins 0x09 q tag c → (∀ p ∈ s.dev.io.objectPages kind i, s.dev.io.enableRefusal p = none) → Runs (.cmdEnable q tag) s fun d d' =>
      (∀ p ∈ d.io.objectPages kind i, d'.io.enabled p = true ∧ (d.io.pageOn p = false → kind ≠ 2 → d'.io.running p = true))
        ∧ (kind = 0 → d.io.pageOn (outPage i) = false → d'.io.reg (outPage i) Reg.OUTC_SCAN_STAT = 2)
        ∧ (kind ≠ 0 → kind ≠ 2 → Dev.finishes q tag (done 0 0) d d'))
    ∧ (s.dev.begins 0x0A q tag c → (∀ p ∈ s.dev.io.objectPages kind i, s.dev.io.flag p Reg.PAGE_LOCK 0 = false) → Runs (.cmdDisable q tag) s fun d d' =>
      (∀ p ∈ d.io.objectPages kind i, d'.io.enabled p = false)
        ∧ ((∀ p ∈ d.io.objectPages kind i, d.io.pageOff p = true) → Dev.finishes q tag (done 0 (d.io.objectCount kind i)) d d'))

/-- FS_ALLOC takes the lowest free index and its granules, and answers the handle (R197 to R199). FREE makes a handle FREEING, with its mappings gone; it is
retired, with the next generation for its index, once nothing refers to it (R208). -/
def Obligations.StoresComeAndGo : Prop :=
  ∀ (q : Fin 316) (tag : BitVec 16) (c : Cmd) (i : Nat) (st : Store) (s : State),
    (s.dev.begins 0x10 q tag c → c.strays ([0x01FF01F7] ++ if bits (c.p 0) 4 2 = 0 then [0x3FFF3FFF, 0xFF] else []) = false →
      fsFormatOk (c.p 0) (c.p 1) (c.p 2) = true →
      (c.fn = 0 ∨ (bit (c.p 0) 8 = false
        ∧ (s.dev.st.heldBy c.fn + bits (c.p 0) 0 3 * fsSlotG (c.p 0) (c.p 1) (c.p 2)) * 64 ≤ s.dev.io.fn c.fn Reg.HQ_FN_Q_HBM * 1024)) →
      bits (c.p 0) 0 3 * fsSlotG (c.p 0) (c.p 1) (c.p 2) ≤ (s.dev.io.reg .fstr Reg.FSTR_GRAN_FREE).toNat →
      freeIndex s.dev.st.table 65535 1 = some i → Runs (.cmdFsAlloc q tag) s fun d d' =>
        let x := newStore c.fn (d.st.genOf i) (c.p 0) (c.p 1) (c.p 2) d.st.clock
        Dev.finishes q tag (done (fsSlotG (c.p 0) (c.p 1) (c.p 2)) (x.handle i)) d d' ∧ FMap.find d'.st.table i = some x
          ∧ (d'.io.reg .fstr Reg.FSTR_GRAN_FREE).toNat = (d.io.reg .fstr Reg.FSTR_GRAN_FREE).toNat - x.granules
          ∧ ∀ j, j ≠ i → FMap.find d'.st.table j = FMap.find d.st.table j)
    ∧ (s.dev.begins 0x11 q tag c → s.dev.st.known (c.p 0).toNat = some st → (c.fn = 0 ∨ st.owner = c.fn) → st.freeing = false →
      Runs (.cmdFree q tag) s fun d d' =>
        let j := (c.p 0).toNat % 65536
        (∀ e ∈ d'.st.maps, e.2.1 ≠ (c.p 0).toNat)
          ∧ (if (FMap.find d'.st.table j).isSome then (d'.st.known (c.p 0).toNat).map (fun x => (x.freeing, x.waiter)) = some (true, some (q.val, tag.toNat))
             else Dev.finishes q tag (done 0 0) d d' ∧ d'.st.genOf j = nextGen st.gen))

/-- FS_MAP maps a run of free aperture slots of the issuer onto a handle, one after another 16 MiB apart; with UNMAP it releases the run (R210). FENCE: PUBLISH
makes a FILLING slot of a host-written store NEWEST and signals the fence; PIN holds a published slot and answers its number and count; UNPIN gives up one pin
(R200, R204, R206). -/
def Obligations.AperturesAndFences : Prop :=
  (∀ (q : Fin 316) (tag : BitVec 16) (c : Cmd) (st : Store) (s : State), s.dev.begins 0x12 q tag c →
    c.strays [0xFFFFFFFF, 0x00FF8FFF, 0xFFFFFF, 3] = false → 1 ≤ bits (c.p 1) 16 8 → bits (c.p 1) 16 8 ≤ 64 → bit (c.p 1) 15 = false →
    bits (c.p 1) 0 12 + bits (c.p 1) 16 8 ≤ apSlots c.fn →
    let a := bits (c.p 1) 0 12
    let n := bits (c.p 1) 16 8
    (bit (c.p 3) 1 = false → s.dev.st.known (c.p 0).toNat = some st → (c.fn = 0 ∨ st.owner = c.fn) → st.freeing = false →
      s.dev.st.apFree c.fn a n = true → bits (c.p 2) 0 24 + 256 * (n - 1) < st.granules → Runs (.cmdFsMap q tag) s fun d d' =>
        Dev.finishes q tag (done 0 a) d d'
          ∧ ∀ j < n, FMap.find d'.st.maps (c.fn * 4096 + a + j) = some ((c.p 0).toNat, bits (c.p 2) 0 24 + 256 * j, bit (c.p 3) 0))
    ∧ (bit (c.p 3) 1 = true → Runs (.cmdFsMap q tag) s fun d d' =>
        Dev.finishes q tag (done 0 a) d d' ∧ ∀ j < n, FMap.find d'.st.maps (c.fn * 4096 + a + j) = none))
  ∧ (∀ (q : Fin 316) (tag : BitVec 16) (c : Cmd) (st : Store) (x : Slot) (s : State), s.dev.begins 0x13 q tag c →
    let i := (c.p 0).toNat % 65536
    let k := bits (c.p 1) 4 3
    c.strays [0xFFFFFFFF, 0x73] = false → s.dev.st.known (c.p 0).toNat = some st → (c.fn = 0 ∨ st.owner = c.fn) → st.freeing = false → k < st.slots.length →
    st.slots[k]? = some x → k ≠ 7 →
    (bits (c.p 1) 0 2 = 0 → st.writer = 0 → x.state = 1 → st.auth = false → Runs (.cmdFence q tag) s fun d d' =>
      Dev.finishes q tag (done 0 0) d d' ∧ ((FMap.find d'.st.table i).bind Store.newest) = some k
        ∧ (FMap.find d'.st.table i).map (fun s => (s.fence, s.published)) = some (true, sat 32 (st.published + 1)))
    ∧ (bits (c.p 1) 0 2 = 1 → 2 ≤ x.state → st.pins.length < 8 → Runs (.cmdFence q tag) s fun d d' =>
      Dev.finishes q tag (done k x.count) d d' ∧ (FMap.find d'.st.table i).map (fun s => s.pins) = some ((c.fn, k) :: st.pins))
    ∧ (bits (c.p 1) 0 2 = 2 → st.pins.contains (c.fn, k) = true → Runs (.cmdFence q tag) s fun d d' =>
      Dev.finishes q tag (done 0 0) d d' ∧ (FMap.find d'.st.table i).map (fun s => s.pins) = some (st.pins.erase (c.fn, k))))

/-- An aperture write that may land makes its slot FILLING and is read back, and leaves every other byte of every handle; any other write is dropped, counted and
recorded, and leaves memory (R211). An aperture read answers the handle's bytes, and zeros where the aperture maps nothing (R209). FSTR_QUERY snapshots what the
part holds of a handle index into the query words: an unallocated index shows its number and generation alone. FSTR_MAP_QUERY snapshots an aperture slot's
handle, granule offset and WRITE, or zeros (R217, R218). -/
def Obligations.ApertureTraffic : Prop :=
  (∀ (fn : Fin 64) (addr len i k off : Nat) (b : Byte) (bytes : List Byte) (x : Slot) (g : Store) (s : State),
    let n := (b :: bytes).length
    (s.dev.st.apLands fn addr n = some (i, k, off) → FMap.find s.dev.st.table i = some g → g.slots[k]? = some x → s.dev.st.wf = true →
      Runs (.apWrite fn addr (b :: bytes)) s fun d d' =>
        d'.st.bytes i off n = b :: bytes
        ∧ (∀ j o, (∀ m < n, hbmKey j o ≠ hbmKey i (off + m)) → d'.st.byte j o = d.st.byte j o)
        ∧ ((FMap.find d'.st.table i).bind (fun g => g.slots[k]?)) = some { x with state := 1 } ∧ d'.io = d.io)
    ∧ (s.dev.st.apLands fn addr n = none → Runs (.apWrite fn addr (b :: bytes)) s fun d d' =>
        d'.st.hbm = d.st.hbm ∧ d'.st.table = d.st.table
        ∧ d'.io.wide .fstr 0x80 = sat 48 (d.io.wide .fstr 0x80 + 1) ∧ d'.io.fld .fstr Reg.ERR_CODE 0 16 = 0x0819
        ∧ d'.io.reg .fstr Reg.ERR_INFO = Word.of (addr / 2 ^ 24 % 2 ^ 12 + fn.val * 2 ^ 12)
        ∧ (d.st.dropAt = none → d'.io.flag .fstr Reg.EVT_PEND 2 = true))
    ∧ (0 < len → Runs (.apRead fn addr len none) s fun d d' =>
        d' = d.onIo (fun io => io.emit (.readBytes (d.st.apBytes fn addr len) (d.st.apPoisoned fn addr len)))
        ∧ (d.st.maps = [] → d.st.apBytes fn addr len = List.replicate len 0)))
  ∧ (∀ (v : Word) (g : Store) (h off : Nat) (w : Bool) (s : State),
    (s.dev.io.accepts .fstr Reg.FSTR_QUERY v = true →
      (FMap.find s.dev.st.table (bits v 0 16) = none → Runs (.fstrQuery v) s fun d d' =>
        d'.io.reg .fstr Reg.FSTR_QUERY_DATA = Word.of (bits v 0 16 + d.st.genOf (bits v 0 16) * 2 ^ 16)
          ∧ ∀ j < 6, d'.io.reg .fstr (Reg.FSTR_QUERY_DATA + 4 * (j + 1)) = 0)
      ∧ (FMap.find s.dev.st.table (bits v 0 16) = some g → g.gen < 2 ^ 15 → g.owner < 64 → g.kind < 4 → g.writer < 4 → g.slots.length < 8 →
          Runs (.fstrQuery v) s fun d d' =>
            d'.io.flag .fstr Reg.FSTR_QUERY_DATA 31 = true ∧ d'.io.fld .fstr Reg.FSTR_QUERY_DATA 16 15 = g.gen
              ∧ d'.io.fld .fstr (Reg.FSTR_QUERY_DATA + 4) 0 6 = g.owner ∧ d'.io.fld .fstr (Reg.FSTR_QUERY_DATA + 4) 12 3 = g.slots.length
              ∧ d'.io.flag .fstr (Reg.FSTR_QUERY_DATA + 4) 16 = g.fence ∧ d'.io.flag .fstr (Reg.FSTR_QUERY_DATA + 4) 17 = g.freeing
              ∧ d'.io.fld .fstr (Reg.FSTR_QUERY_DATA + 8) 16 16 = sat 16 (d.refs (bits v 0 16) g)
              ∧ d'.io.reg .fstr (Reg.FSTR_QUERY_DATA + 24) = Word.of g.published ∧ d'.st = d.st))
    ∧ (s.dev.io.accepts .fstr Reg.FSTR_MAP_QUERY v = true →
      (FMap.find s.dev.st.maps (bits v 12 6 * 4096 + bits v 0 12) = some (h, off, w) → Runs (.fstrMapQuery v) s fun d d' =>
        d'.io.reg .fstr Reg.FSTR_MAP_DATA0 = Word.of h ∧ d'.io.reg .fstr Reg.FSTR_MAP_DATA1 = Word.of (off + b2n w * 2 ^ 24) ∧ d'.st = d.st)
      ∧ (FMap.find s.dev.st.maps (bits v 12 6 * 4096 + bits v 0 12) = none → Runs (.fstrMapQuery v) s fun d d' =>
        d'.io.reg .fstr Reg.FSTR_MAP_DATA0 = 0 ∧ d'.io.reg .fstr Reg.FSTR_MAP_DATA1 = 0 ∧ d'.st = d.st)))

/-- A scrub pass is counted with the correctable errors that it meets (R212, R219); an uncorrectable error is counted, poisons its blocks and raises ECC_UNCORR, and
the data stand (R213). A pseudo-channel that fails whole is recorded once and takes 25,792 MB/s from the floor (R215). A stack above 85 °C doubles its refresh
rate until it is below 80 °C (R216). -/
def Obligations.StacksScrubAndFail : Prop :=
  ∀ (k : Fin 4) (c : Fin 32) (e : HbmError) (celsius dt : Nat) (s : State), s.dev.io.trained k = true →
    (Runs (.hbmScrub k [] dt) s fun d d' =>
      d'.io.fld (.hbmc k) Reg.HBMC_SCRUB_STAT 16 16 = sat 16 (d.io.fld (.hbmc k) Reg.HBMC_SCRUB_STAT 16 16 + 1) ∧ d'.st = d.st)
    ∧ (e.stack = k → 0 < e.corrected → e.uncorrectable = false → Runs (.hbmScrub k [e] dt) s fun d d' =>
      d'.io.wide (.hbmc k) Reg.HBMC_CORR_LO = sat 48 (d.io.wide (.hbmc k) Reg.HBMC_CORR_LO + e.corrected) ∧ d'.st.hbm = d.st.hbm)
    ∧ (e.stack = k → e.uncorrectable = true → Runs (.hbmScrub k [e] dt) s fun d d' =>
      d'.io.wide (.hbmc k) Reg.HBMC_UNCORR_LO = sat 48 (d.io.wide (.hbmc k) Reg.HBMC_UNCORR_LO + 1) ∧ (∀ b ∈ e.blocks, d'.st.poisoned.contains b = true)
        ∧ d'.io.flag (.hbmc k) Reg.EVT_PEND 3 = true ∧ d'.st.hbm = d.st.hbm)
    ∧ (s.dev.st.lost.contains (k.val, c.val) = false → Runs (.pchLost k c dt) s fun d d' =>
      d'.io.reg .top Reg.TOP_ADM_HBM_FLOOR = Word.of ((d.io.reg .top Reg.TOP_ADM_HBM_FLOOR).toNat - 25792)
        ∧ d'.io.fld (.hbmc k) Reg.ERR_CODE 0 16 = 0x1312 ∧ d'.io.reg (.hbmc k) Reg.ERR_INFO = Word.of c.val ∧ d'.io.flag (.hbmc k) Reg.EVT_PEND 6 = true
        ∧ d'.st = { d.st with lost := (k.val, c.val) :: d.st.lost })
    ∧ (s.dev.st.lost.contains (k.val, c.val) = true → Runs (.pchLost k c dt) s fun d d' =>
      d'.io.reg .top Reg.TOP_ADM_HBM_FLOOR = d.io.reg .top Reg.TOP_ADM_HBM_FLOOR ∧ d'.st = d.st)
    ∧ (Runs (.refresh2x k celsius dt) s fun d d' =>
      d'.io.fld (.hbmc k) Reg.HBMC_TEMP 0 8 = celsius % 256
        ∧ d'.io.flag (.hbmc k) Reg.HBMC_STAT 1 = (if celsius > 85 then true else if celsius < 80 then false else d.io.flag (.hbmc k) Reg.HBMC_STAT 1)
        ∧ (celsius > 85 → d.io.flag (.hbmc k) Reg.HBMC_STAT 1 = false → d'.io.flag (.hbmc k) Reg.EVT_PEND 7 = true))

/-- NV_READ, once its turn has come: raw bytes, a counter's value, a record's winning copy and a journal key's value go to host memory or into the results (R446,
R448, R450, R451). NV_WRITE on an idle store with its supply starts its first page write and is past its commit point; raw data is written page by page in
ascending order (R441, R446). Without supply it completes REJECTED with nothing written (R442). -/
def Obligations.StoreCommandsRun : Prop :=
  (∀ (q : Fin 316) (tag : BitVec 16) (c : Cmd) (k : Nat) (bs : List Byte) (s : State), s.dev.begins 0x40 q tag c → s.dev.nvs.idle → nvBadParam c = false →
    let mode := bits (c.p 0) 0 3
    let target := (c.p 1).toNat
    let len := bits (c.p 4) 0 17
    let addr := (c.p 2).toNat + 2 ^ 32 * (c.p 3).toNat
    (nvReadOk mode target len = false → Runs (.cmdNvRead q tag) s fun d d' => Dev.finishes q tag (Reply.rejected 0x1111) d d' ∧ d'.nvs = d.nvs)
    ∧ (nvReadOk mode target len = true →
      (mode = 0 → s.dev.nvs.bad target len = false → Runs (.cmdNvRead q tag) s fun d d' =>
        Dev.finishes q tag (done 0 0) d d' ∧ d.io.puts d'.io (.hostWrite addr (d.nvs.bytes target len)) = true)
      ∧ (mode = 1 → s.dev.nvs.recWinner target = (some k, false) → Runs (.cmdNvRead q tag) s fun d d' =>
        Dev.finishes q tag (done k (d.nvs.recSeq target k)) d d' ∧ d.io.puts d'.io (.hostWrite addr ((d.nvs.recPayload target).getD [])) = true)
      ∧ (mode = 2 → Runs (.cmdNvRead q tag) s (Dev.finishes q tag (done (s.dev.nvs.ctrValue target / 2 ^ 32 % 2 ^ 16) (s.dev.nvs.ctrValue target % 2 ^ 32))))
      ∧ (mode = 3 → s.dev.nvs.jrnValue false target = some bs → Runs (.cmdNvRead q tag) s fun d d' =>
        Dev.finishes q tag (done 0 bs.length) d d' ∧ d.io.puts d'.io (.hostWrite addr bs) = true)
      ∧ (mode = 3 → s.dev.nvs.jrnValue false target = none → Runs (.cmdNvRead q tag) s (Dev.finishes q tag (done 0 (2 ^ 32 - 1))))))
  ∧ (∀ (q : Fin 316) (tag : BitVec 16) (c : Cmd) (data : List Byte) (s : State), s.dev.begins 0x41 q tag c → s.dev.nvs.idle → nvBadParam c = false →
    data.length ≤ 65536 →
    let mode := bits (c.p 0) 0 3
    let target := (c.p 1).toNat
    let len := bits (c.p 4) 0 17
    nvWriteOk mode target len = true → (mode ≠ 3 ∨ s.dev.nvs.jrnFull false target len = false) →
    (s.dev.io.supplyFault = 0 → Runs (.cmdNvWrite q tag data) s fun d d' =>
      d'.nvs.jobs.map (fun j => (j.src, j.begun)) = [(some (q.val, tag.toNat), true)] ∧ d'.nvs.running = some (false, d.io.up)
        ∧ (mode = 0 → d'.nvs.jobs.map (fun j => j.writes) = [pageWrites target (padTo len data)])
        ∧ d'.nvs.cells = d.nvs.cells ∧ d'.io.flag .nvs Reg.NVS_STAT 1 = true ∧ (d'.hq.cmd q tag.toNat).map (fun c => c.past) = some true)
    ∧ (s.dev.io.supplyFault ≠ 0 → Runs (.cmdNvWrite q tag data) s fun d d' =>
      Dev.finishes q tag (Reply.rejected 0x1110) d d' ∧ d'.nvs.cells = d.nvs.cells ∧ d'.nvs.jobs = []
        ∧ d'.io.fld .nvs Reg.ERR_CODE 0 16 = 0x1110 ∧ d'.io.reg .nvs Reg.ERR_INFO = Word.of d.io.supplyFault))

/-- The end of a page write makes the page's new bytes readable, all at once, and counts it; the last page of a raw write completes its command (R441, R446). A page
write that has started completes when the supply is lost, and the part shows the supply (R442). A scrub pass is counted and its time kept; an uncorrectable
group that it finds is counted, recorded with its offset, and its page is replaced by a spare page (R452). -/
def Obligations.PageWritesAndScrubs : Prop :=
  (∀ (q : Fin 316) (tag : BitVec 16) (c : Cmd) (j : NvJob) (w : PageWrite) (off t dt : Nat) (bs : List Byte) (mv : Fin 4096) (holdup : Bool) (s : State),
    s.dev.nvs.jobs = [j] → s.dev.nvs.running = some (false, t) → s.dev.nvs.buffer = none → s.dev.nvs.flushing = [] → s.dev.nvs.held = [] →
    j.kind = .raw off bs → j.begun = true → j.writes = [w] → j.stage = 0 → w.off + w.bytes.length ≤ 256 → j.src = some (q.val, tag.toNat) →
    s.dev.hq.cmd q tag.toNat = some c → c.silent = false → s.dev.io.halted = false → s.dev.nvs.wf = true →
    Runs (.nvPageWriteDone false dt) s (fun d d' =>
      Dev.finishes q tag (done 0 0) d d' ∧ (∀ i < w.bytes.length, some (d'.nvs.byte (256 * w.page + w.off + i)) = w.bytes[i]?)
        ∧ d'.io.wide .nvs Reg.NVS_PAGE_WRITES_LO = sat 48 (d.io.wide .nvs Reg.NVS_PAGE_WRITES_LO + 1) ∧ d'.nvs.running = none)
    ∧ Runs (.powerLoss mv holdup dt) s (fun d d' =>
      (∀ i < w.bytes.length, some (d'.nvs.byte (256 * w.page + w.off + i)) = w.bytes[i]?)
        ∧ d'.io.fld .nvs Reg.NVS_VDD 0 12 = mv.val ∧ d'.io.flag .nvs Reg.NVS_STAT 4 = holdup
        ∧ d'.io.flag .nvs Reg.NVS_STAT 5 = decide (d.io.fld .nvs Reg.NVS_VDD_MIN 0 12 ≤ mv.val)))
  ∧ (∀ (g : Fin 131072) (dt : Nat) (s : State), s.dev.nvs.scrubAt + s.dev.io.fld .nvs Reg.NVS_SCRUB_CFG 0 8 * 3600 * second ≤ s.dev.io.up + dt →
    Runs (.nvsScrub [] dt) s (fun d d' =>
      d'.nvs.scrubAt = d.io.up + dt ∧ d'.io.fld .nvs Reg.NVS_SCRUB_STAT 16 16 = sat 16 (d.io.fld .nvs Reg.NVS_SCRUB_STAT 16 16 + 1) ∧ d'.nvs.cells = d.nvs.cells)
    ∧ (s.dev.nvs.remap = [] → (s.dev.nvs.jobs = [] ∨ s.dev.nvs.running.isSome = true) → Runs (.nvsScrub [(g, 2)] dt) s (fun d d' =>
      FMap.find d'.nvs.remap (g / 32) = some 0 ∧ d'.io.wide .nvs Reg.NVS_UNCORR_LO = sat 48 (d.io.wide .nvs Reg.NVS_UNCORR_LO + 1)
        ∧ d'.io.fld .nvs Reg.NVS_SCRUB_STAT 16 16 = sat 16 (d.io.fld .nvs Reg.NVS_SCRUB_STAT 16 16 + 1))))

/-- The direct window: a write within a page of the user area gathers, one outside the area is ignored and recorded, and a read answers what the page holds with
what is gathered (R443, R444); an access while a page write runs is held, and ends after 6 ms with zeros (R445). FLUSH, and IDLE_US without a window write,
start the write of the page gathered through the window (R444). -/
def Obligations.WindowGathersPages : Prop :=
  (∀ (off : Fin 65536) (bytes : List Byte) (len dt : Nat) (h : HeldAccess) (s : State),
    (s.dev.nvs.idle → bytes ≠ [] → off.val + bytes.length ≤ 65536 → (s.dev.io.winAddr off) % 256 + bytes.length ≤ 256 → inUser (s.dev.io.winAddr off) bytes.length = true →
      Runs (.nvWindowWrite off bytes) s fun d d' =>
        d'.nvs.buffer = some (d.io.winAddr off / 256, [(d.io.winAddr off % 256, bytes)], d.io.up) ∧ d'.nvs.cells = d.nvs.cells)
    ∧ (bytes ≠ [] → off.val + bytes.length ≤ 65536 → inUser (s.dev.io.winAddr off) bytes.length = false → Runs (.nvWindowWrite off bytes) s fun d d' =>
        d'.nvs.buffer = d.nvs.buffer ∧ d'.nvs.cells = d.nvs.cells ∧ d'.io.fld .nvs Reg.ERR_CODE 0 16 = 0x1101
          ∧ d'.io.reg .nvs Reg.ERR_INFO = Word.of (off % 2 ^ 14))
    ∧ (0 < len → off.val + len ≤ 65536 → s.dev.nvs.running = none → s.dev.nvs.jobs = [] → s.dev.nvs.flushing = [] → Runs (.nvWindowRead off len) s fun d d' =>
        d.io.puts d'.io (.readBytes (d.nvs.winBytes (d.io.winAddr off) len)
          (d.nvs.bad (d.io.winAddr off) len && !touchesKeys (d.io.winAddr off) len)) = true ∧ d'.nvs.cells = d.nvs.cells)
    ∧ (0 < len → off.val + len ≤ 65536 → s.dev.nvs.running.isSome = true → Runs (.nvWindowRead off len) s fun d d' =>
        d'.nvs.held = d.nvs.held ++ [{ off := off, data := none, len := len, since := d.io.up }] ∧ d'.io.out = d.io.out)
    ∧ (s.dev.nvs.held = [h] → h.data = none → h.since + 6000000 ≤ s.dev.io.up + dt → s.dev.nvs.running.isSome = true → Runs (.nvsWinTimeout dt) s fun d d' =>
        d'.nvs.held = [] ∧ d.io.puts d'.io (.readBytes (List.replicate h.len 0) false) = true ∧ d'.io.fld .nvs Reg.ERR_CODE 0 16 = 0x1116))
  ∧ (∀ (p t dt : Nat) (ps : List (Nat × List Byte)) (s : State), s.dev.nvs.jobs = [] → s.dev.nvs.running = none → s.dev.nvs.flushing = [] →
    s.dev.nvs.buffer = some (p, ps, t) → ps ≠ [] → s.dev.io.supplyFault = 0 →
    (s.dev.io.accepts .nvs Reg.NVS_WIN_CTL (setBit (s.dev.io.reg .nvs Reg.NVS_WIN_CTL) 0 true) = true → Runs .nvsFlush s fun d d' =>
      d'.nvs.buffer = none ∧ d'.nvs.flushing = ps.map (fun e => { page := p, off := e.1, bytes := e.2 }) ∧ d'.nvs.running = some (true, d.io.up))
    ∧ (t + 1000 * s.dev.io.fld .nvs Reg.NVS_WIN_CTL 8 8 ≤ s.dev.io.up + dt → Runs (.nvWindowIdle dt) s fun d d' =>
      d'.nvs.buffer = none ∧ d'.nvs.flushing = ps.map (fun e => { page := p, off := e.1, bytes := e.2 }) ∧ d'.nvs.running = some (true, d.io.up + dt)))

/-- KEY_WRITE: a volatile key of a clean slot is in force at once; a key for the store starts its page writes; a test that fails refuses it with its code and
changes no slot (R460, R461). LIFECYCLE with the right confirmation makes every slot unusable at once and shows its target; a wrong confirmation is refused
(R466). The entropy source: a failed source is shown, counted and raises its event; three passing retests in a row, a second apart, clear the failure. A read of
KEYS_RNG answers 0 and records the failure while the source has failed (R471). KEYS_SLOT_QUERY shows a slot's use and write count, and never its key (R472). -/
def Obligations.KeysAndEntropy : Prop :=
  (∀ (q : Fin 316) (tag : BitVec 16) (c : Cmd) (code : Nat) (s : State), s.dev.nvs.idle →
    let slot := bits (c.p 0) 0 9
    let use := bits (c.p 0) 16 2
    let vol := bit (c.p 0) 20
    let erase := bit (c.p 0) 12
    let x : Nv := { io := s.dev.io, nv := s.dev.nvs, ks := s.dev.keys, done := [] }
    (s.dev.begins 0x50 q tag c → use ≠ 3 → bits (c.p 0) 9 3 = 0 → bits (c.p 0) 13 3 = 0 → bits (c.p 0) 18 2 = 0 → bits (c.p 0) 21 11 = 0 →
      (x.keyRefusal slot use vol erase = none → erase = false → vol = true → s.dev.nvs.slotMagic slot = false → Runs (.cmdKeyWrite q tag) s fun d d' =>
        Dev.finishes q tag (done 0 0) d d' ∧ FMap.find d'.keys.slots slot = some { use := use, volatile := true, key := keyBytes c } ∧ d'.nvs.cells = d.nvs.cells)
      ∧ (x.keyRefusal slot use vol erase = none → (erase = true ∨ vol = false) → s.dev.io.supplyFault = 0 → Runs (.cmdKeyWrite q tag) s fun d d' =>
        d'.keys.slots = d.keys.slots ∧ d'.nvs.running = some (false, d.io.up) ∧ (d'.hq.cmd q tag.toNat).map (fun c => c.past) = some true)
      ∧ (x.keyRefusal slot use vol erase = some code → Runs (.cmdKeyWrite q tag) s fun d d' =>
        Dev.finishes q tag (Reply.rejected code) d d' ∧ d'.keys = d.keys ∧ d'.nvs.cells = d.nvs.cells))
    ∧ (s.dev.begins 0x51 q tag c → bits (c.p 0) 3 29 = 0 →
      (x.lcRefusal (bits (c.p 0) 0 3) (c.p 1).toNat = none → Runs (.cmdLifecycle q tag) s fun d d' =>
        d'.keys.slots = [] ∧ d'.keys.destroying = true ∧ d'.io.flag .keys Reg.KEYS_LC_STAT 3 = true
          ∧ d'.io.fld .keys Reg.KEYS_LC_STAT 4 3 = bits (c.p 0) 0 3 ∧ d'.io.lcState = d.io.lcState
          ∧ d'.nvs.running = some (false, d.io.up) ∧ (d'.hq.cmd q tag.toNat).map (fun c => c.past) = some true)
      ∧ ((c.p 1).toNat ≠ 0x4C430000 + 16 * s.dev.io.lcState + bits (c.p 0) 0 3 → Runs (.cmdLifecycle q tag) s fun d d' =>
        Dev.finishes q tag (Reply.rejected 0x1214) d d' ∧ d'.keys = d.keys ∧ d'.nvs = d.nvs)))
  ∧ (∀ (v : Word) (k : KeySlot) (dt : Nat) (s : State),
    Runs (.entropyFail dt) s (fun d d' => d'.keys.failed = true ∧ d'.keys.passes = 0 ∧ d'.io.flag .keys Reg.KEYS_ENT_STAT 16 = false
      ∧ d'.io.fld .keys Reg.KEYS_ENT_STAT 0 16 = sat 16 (d.io.fld .keys Reg.KEYS_ENT_STAT 0 16 + 1) ∧ d'.io.flag .keys Reg.EVT_PEND 4 = true
      ∧ d'.io.fld .keys Reg.ERR_CODE 0 16 = 0x1216)
    ∧ (s.dev.keys.failed = true → s.dev.keys.testAt + second ≤ s.dev.io.up + dt → Runs (.entropyRetest true dt) s fun d d' =>
        d'.keys.failed = decide (d.keys.passes < 2) ∧ (2 ≤ d.keys.passes → d'.io.flag .keys Reg.KEYS_ENT_STAT 16 = true))
    ∧ (s.dev.keys.failed = false → Runs .keysRngRead s fun d d' => d'.io.out = .readData (Word.of (d.io.freeNat 32)) :: d.io.out)
    ∧ (s.dev.keys.failed = true → Runs .keysRngRead s fun d d' => d.io.puts d'.io (.readData 0) = true ∧ d'.io.fld .keys Reg.ERR_CODE 0 16 = 0x1216)
    ∧ (s.dev.io.accepts .keys Reg.KEYS_SLOT_QUERY v = true →
        (FMap.find s.dev.keys.slots (bits v 0 9) = some k → k.use < 4 → Runs (.keysSlotQuery v) s fun d d' =>
          d'.io.flag .keys Reg.KEYS_SLOT_DATA 0 = true ∧ d'.io.fld .keys Reg.KEYS_SLOT_DATA 1 2 = k.use ∧ d'.io.flag .keys Reg.KEYS_SLOT_DATA 3 = k.volatile
            ∧ d'.io.fld .keys Reg.KEYS_SLOT_DATA 16 16 = sat 16 ((FMap.find d.keys.writes (bits v 0 9)).getD 0))
        ∧ (FMap.find s.dev.keys.slots (bits v 0 9) = none → Runs (.keysSlotQuery v) s fun _ d' => d'.io.fld .keys Reg.KEYS_SLOT_DATA 0 4 = 0)))

/-- A load starts in WAIT_IMAGE, from the register or a command, and takes LOADING (R95, R96). An image whose header passes takes VERIFYING; one that fails a check
leaves the window empty, is recorded with the check's code, and takes WAIT_IMAGE; one that passes all is accepted with its versions (R97, R98). FW_SEC_COMMIT is
acted on only at READY, for the version of the running image, above the minimum; the blown fuse then raises the minimum for good (R100). A fuse of a lifecycle
transition is one-time (R466). -/
def Obligations.ImagesAndFuses : Prop :=
  (∀ (q : Fin 316) (tag : BitVec 16) (c : Cmd) (addr len code dt : Nat) (src : Option (Nat × Nat)) (image : List Byte) (s : State),
    (s.dev.hq.cmd q tag.toNat = some c → c.op = 0x60 → s.dev.hq.mayStart c = true → c.fn = 0 → s.dev.io.ready = false → s.dev.boot.woride = false →
      s.dev.io.fwState = 0 → bits (c.p 1) 0 12 = 0 → 512 ≤ (c.p 3).toNat → (c.p 3).toNat ≤ 8388608 → Runs (.cmdFwLoad q tag) s fun _ d' =>
        d'.io.fwState = 1 ∧ d'.boot.load = some ((c.p 1).toNat + 2 ^ 32 * (c.p 2).toNat, (c.p 3).toNat, some (q.val, tag.toNat)) ∧ d'.boot.window = [])
    ∧ (s.dev.io.accepts .fw Reg.FW_CTL 1 = true → s.dev.io.fwState = 0 → Runs .fwLoad s fun d d' =>
        d'.io.fwState = 1 ∧ d'.boot.load = some (d.io.wide .fw Reg.FW_IMG_ADDR_LO, (d.io.reg .fw Reg.FW_IMG_LEN).toNat, none))
    ∧ (s.dev.io.accepts .fw Reg.FW_CTL 1 = true → (s.dev.io.fwState = 1 ∨ s.dev.io.fwState = 2) → Runs .fwLoad s fun d d' =>
        d'.boot = d.boot ∧ d'.io.fwState = d.io.fwState ∧ d'.io.fld .fw Reg.ERR_CODE 0 16 = 0x031A)
    ∧ (s.dev.boot.load = some (addr, len, src) → s.dev.io.fwState = 1 →
        (headerCode (padTo len image) len s.dev.boot.secMin = none → Runs (.fwImageFetched (some image) dt) s fun _ d' =>
          d'.io.fwState = 2 ∧ d'.boot.image = padTo len image)
        ∧ (headerCode (padTo len image) len s.dev.boot.secMin = some code → src = none → Runs (.fwImageFetched (some image) dt) s fun _ d' =>
          d'.io.fwState = 0 ∧ d'.boot.load = none ∧ d'.boot.window = [] ∧ d'.io.fld .fw Reg.ERR_CODE 0 16 = code ∧ d'.io.flag .fw Reg.EVT_PEND 3 = true)
        ∧ (src = none → Runs (.fwImageFetched none dt) s fun _ d' => d'.io.fwState = 0 ∧ d'.boot.load = none ∧ d'.io.fld .fw Reg.ERR_CODE 0 16 = 0x031C))
    ∧ (s.dev.boot.load = some (addr, len, none) → s.dev.io.fwState = 2 →
        (verifyCode s.dev.boot.image (s.dev.keys.cosign.bind (s.dev.keys.key 2)) = none → Runs (.fwVerifyDone dt) s fun d d' =>
          d'.io.fwState = 3 ∧ d'.boot.accepted = true ∧ d'.boot.load = none ∧ d'.io.reg .fw Reg.FW_IMG_VER = Word.of (leAt d.boot.image 8 4)
            ∧ d'.io.reg .fw Reg.FW_SEC_VER = Word.of (leAt d.boot.image 0xC 4 % 64) ∧ d'.io.flag .fw Reg.EVT_PEND 2 = true)
        ∧ (verifyCode s.dev.boot.image (s.dev.keys.cosign.bind (s.dev.keys.key 2)) = some code → Runs (.fwVerifyDone dt) s fun _ d' =>
          d'.io.fwState = 0 ∧ d'.boot.load = none ∧ d'.boot.window = [] ∧ d'.io.fld .fw Reg.ERR_CODE 0 16 = code)))
  ∧ (∀ (v : Word) (n dt target : Nat) (j : NvJob) (confirm : Option Nat) (s : State),
    (s.dev.io.accepts .fw Reg.FW_SEC_COMMIT v = true → s.dev.io.fwState = 6 → bits v 0 6 = (s.dev.io.reg .fw Reg.FW_SEC_VER).toNat →
      (s.dev.io.reg .fw Reg.FW_SEC_MIN).toNat < bits v 0 6 → Runs (.fwSecCommit v) s fun d d' => d'.boot.blowing = some (bits v 0 6) ∧ d'.io = d.io)
    ∧ (s.dev.io.accepts .fw Reg.FW_SEC_COMMIT v = true → s.dev.io.fwState ≠ 6 → Runs (.fwSecCommit v) s fun d d' =>
      d'.boot = d.boot ∧ d'.io.fld .fw Reg.ERR_CODE 0 16 = 0x0301 ∧ d'.io.reg .fw Reg.ERR_INFO = Word.of Reg.FW_SEC_COMMIT)
    ∧ (s.dev.boot.blowing = some n → Runs (.fuseBlowDone dt) s fun _ d' =>
      d'.boot.secMin = n ∧ d'.boot.blowing = none ∧ d'.io.reg .fw Reg.FW_SEC_MIN = Word.of n)
    ∧ (s.dev.boot.blowing = none → s.dev.keys.fusing = true → s.dev.nvs.jobs = [j] → j.kind = .lifecycle target confirm → s.dev.nvs.running = none →
      Runs (.fuseBlowDone dt) s fun d d' =>
        d'.keys.retired = (d.keys.retired || decide (target = 4)) ∧ d'.keys.blank = (d.keys.blank || decide (target ≠ 4))))

/-- Each device-level reset brings every register but the cause and the trip log to its reset value, empties the shadows, the queues and the commits, and keeps the
fuses; it shows its cause. A power-on reset clears the trip log and the always-on clock too (R89, R90). A function-level reset of a VF stops its pairs, discards
its dirty shadows and its pins, drops its commands before their commit point and silences the others, and raises its event (R83). -/
def Obligations.ResetsRestore : Prop :=
  (∀ (s : State),
    Runs .powerOnReset s (fun d d' => Dev.wiped 0 d d' ∧ d'.io.reg .thrm Reg.THRM_TRIP_LOG = 0 ∧ d'.io.up = 0 ∧ d'.boot.inReset = true)
    ∧ Runs .perstAssert s (fun d d' => Dev.wiped 1 d d' ∧ d'.io.reg .thrm Reg.THRM_TRIP_LOG = d.io.reg .thrm Reg.THRM_TRIP_LOG ∧ d'.io.up = d.io.up ∧ d'.boot.inReset = true)
    ∧ (s.dev.boot.inReset = false → Runs .hotReset s fun d d' => Dev.wiped 2 d d' ∧ d'.io.reg .thrm Reg.THRM_TRIP_LOG = d.io.reg .thrm Reg.THRM_TRIP_LOG ∧ d'.boot.inReset = true)
    ∧ (s.dev.boot.link = true → Runs .pf0Flr s fun d d' => Dev.wiped 3 d d' ∧ d'.io.reg .thrm Reg.THRM_TRIP_LOG = d.io.reg .thrm Reg.THRM_TRIP_LOG ∧ d'.boot.inReset = false))
  ∧ (∀ (fn : Fin 64) (s : State), fn ≠ 0 → Runs (.vfFlr fn) s fun _ d' =>
    (∀ k < 4, d'.io.qpOn (qOf fn k) = false ∧ (d'.hq.pair (qOf fn k)).draining = false) ∧ (∀ c ∈ d'.hq.cmds, c.fn = fn → c.past = true ∧ c.silent = true)
      ∧ d'.io.dirtyOf fn = [] ∧ (∀ e ∈ d'.st.table, ∀ p ∈ e.2.pins, p.1 ≠ fn) ∧ d'.io.flag .hq Reg.EVT_PEND 7 = true)

/-- Start-up goes from the boot ROM to READY in the order of R101: each step takes effect in its own state and shows what it has done (R92, R101, R104). Woride's
heartbeat advances every 10 ms; one that has not advanced for 100 ms makes the part FAILED, and every command in flight is lost without a completion (R105). -/
def Obligations.StartUpAdvances : Prop :=
  (∀ (mv : Fin 4096) (k : Fin 4) (t : Fin 16) (failed : BitVec 9) (f : SpareFailures) (dt : Nat) (s : State),
    (s.dev.boot.rom = false → s.dev.therm.trip = false → Runs (.bootRomStart mv true dt) s fun d d' =>
      d'.boot.rom = true ∧ d'.boot.inReset = false ∧ d'.io.fwState = d.io.fwState ∧ d'.io.reg .fw Reg.FW_SEC_MIN = Word.of d.boot.secMin
        ∧ d'.keys.failed = false ∧ d'.io.running .fw = true)
    ∧ (s.dev.boot.rom = false → s.dev.therm.trip = false → Runs (.bootRomStart mv false dt) s fun _ d' =>
      d'.boot.rom = true ∧ d'.io.fwState = 8 ∧ d'.io.fld .keys Reg.ERR_CODE 0 16 = 0x1216 ∧ d'.keys.failed = true)
    ∧ (s.dev.boot.inReset = false → Runs (.pcieLinkUp dt) s fun d d' => d'.boot = { d.boot with link := true })
    ∧ (s.dev.io.reg .fw Reg.FW_RESET_CAUSE = 2 → s.dev.boot.inReset = true → Runs (.pcieLinkUp dt) s fun d d' =>
      d'.boot = { d.boot with link := true, inReset := false, start := d.io.up + dt })
    ∧ (s.dev.boot.rom = true → s.dev.io.flag .fw Reg.FW_STAT 4 = false → s.dev.io.halted = false →
      Runs (.hbmTrainingDone none dt) s (fun d d' => d'.io.flag .fw Reg.FW_STAT 4 = true ∧ d'.io.fwState = d.io.fwState
        ∧ ∀ i : Fin 4, d'.io.flag (.hbmc i) Reg.HBMC_STAT 0 = true)
      ∧ Runs (.hbmTrainingDone (some k) dt) s (fun _ d' => d'.io.fwState = 8 ∧ d'.io.fld .fw Reg.ERR_CODE 0 16 = 0x031D ∧ d'.io.flag .fw Reg.EVT_PEND 7 = true))
    ∧ (s.dev.boot.accepted = true → s.dev.boot.woride = false → s.dev.io.flag .fw Reg.FW_STAT 4 = true → s.dev.io.fwState = 3 →
      Runs (.worideStart dt) s fun d d' => d'.io.fwState = 4 ∧ d'.boot.woride = true ∧ d'.boot.beatAt = d.io.up + dt)
    ∧ (s.dev.io.fwState = 4 → Runs (.spareSelfTestDone f dt) s fun d d' => d'.io.fwState = 5 ∧ d'.io.flag .fw Reg.FW_STAT 5 = true
        ∧ (f.engines = [] → f.plls = [] → f.core = false → f.sram.val = 0 → f.pkt0.val = 0 → f.pkt1.val = 0 → d'.boot.bad = d.boot.bad ∧ d'.io.flag .fw Reg.FW_STAT 8 = d.io.flag .fw Reg.FW_STAT 8))
    ∧ (s.dev.io.fwState = 5 →
      (s.dev.io.flag .fw Reg.FW_STAT (16 + t) = false → (t.val % 8 = 0 ∨ s.dev.io.flag .fw Reg.FW_STAT (16 + (t.val - 1)) = true) →
        Runs (.fwTileUp t dt) s fun _ d' => d'.io.flag .fw Reg.FW_STAT (16 + t) = true ∧ d'.therm.calibrated.contains t.val = true)
      ∧ (s.dev.io.flag .fw Reg.FW_STAT (16 + t) = true → s.dev.boot.tested.contains t.val = false →
        Runs (.activeSelfTestDone t failed dt) s fun d d' => d'.boot.tested = t.val :: d.boot.tested
          ∧ d'.boot.bad = d.boot.bad ++ ((d.boot.goodOf t).take 8).filter (fun e => failed.toNat.testBit (e % 9))
          ∧ d'.io.flag .fw Reg.FW_STAT 6 = decide (d.boot.tested.length = 15))
      ∧ (s.dev.io.flag .fw Reg.FW_STAT 6 = true → Runs (.fwReady dt) s fun _ d' =>
        d'.io.fwState = 6 ∧ d'.io.ready = true ∧ d'.io.flag .fw Reg.EVT_PEND 5 = true)))
  ∧ (∀ (dt : Nat) (s : State), s.dev.boot.woride = true → s.dev.io.halted = false →
    (s.dev.boot.beatAt + 10000000 ≤ s.dev.io.up + dt → Runs (.fwHeartbeatTick dt) s fun d d' =>
      d'.io.reg .fw Reg.FW_HEARTBEAT = d.io.reg .fw Reg.FW_HEARTBEAT + 1 ∧ d'.boot.beatAt = d.io.up + dt
        ∧ Dev.SameIo (within .fw [Reg.FW_HEARTBEAT]) { d.tick dt with boot := d'.boot } d')
    ∧ (s.dev.boot.beatAt + 100000000 ≤ s.dev.io.up + dt → Runs (.fwHeartbeatLost dt) s fun _ d' =>
      d'.io.fwState = 7 ∧ d'.hq.cmds = [] ∧ d'.hq.waiting = [] ∧ d'.com.queue = [] ∧ d'.io.fld .fw Reg.ERR_CODE 0 16 = 0x031E
        ∧ d'.io.flag .fw Reg.EVT_PEND 6 = true))

/-- An evaluation raises the level at once to what the readings call for and never lowers it; a sensed channel shows what it read; entry into CRIT after the boot
ROM shuts the part down and takes every command away (R404, R407, R412). A hard trip leaves only the always-on domain powered, takes the link down, and is
logged (R412). LEVEL_DOWN lowers the level by one step once its conditions have not held for HOLD_S, and never from CRIT (R408); a channel whose readings have
met no criterion for 10 s loses its fault (R405). -/
def Obligations.HeatRaisesAndFalls : Prop :=
  (∀ (xs : List (Int × Fin 3)) (dt : Nat) (s : State), xs.length = 60 → Runs (.thermalEvaluate xs dt) s fun d d' =>
    d.io.level ≤ d'.io.level ∧ (d'.io.called d'.therm).1 ≤ d'.io.level
      ∧ (d'.io.level ≠ d.io.level → d'.io.flag .thrm Reg.EVT_PEND 2 = true ∧ d'.io.level = (d'.io.called d'.therm).1)
      ∧ (∀ c < 60, d.io.chSensed c = true → c < 40 ∨ 44 ≤ c → d'.io.chValue c = signed 16 (unsigned 16 (((xs[c]?).map (·.1)).getD 0)))
      ∧ (d.io.level < 4 → d'.io.level = 4 → d.boot.rom = true → d'.io.fwState = 8 ∧ d'.hq.cmds = [] ∧ d'.therm.trip = true ∧ d'.io.outsOn = []))
  ∧ (∀ (late : Bool) (dt : Nat) (s : State), hardTripDue late (s.dev.io.tick dt) s.dev.therm = true → Runs (.thrmHardTrip late dt) s fun _ d' =>
    (∀ k < 96, k ≠ 89 → d'.io.domainOn k = false) ∧ d'.boot.link = false ∧ d'.io.fwState = 8 ∧ d'.hq.cmds = [] ∧ d'.sc.outs = []
      ∧ d'.io.flag .thrm Reg.THRM_TRIP_LOG 6 = true ∧ d'.io.fld .thrm Reg.ERR_CODE 0 16 = 0x0F12)
  ∧ (∀ (c : Fin 60) (t dt : Nat) (s : State),
    (1 ≤ s.dev.io.level → s.dev.io.level ≤ 3 →
      (FMap.find s.dev.therm.held s.dev.io.level).getD 0 + s.dev.io.fld .thrm Reg.THRM_HYST 8 8 * second ≤ s.dev.io.up + dt → Runs (.levelDown dt) s fun d d' =>
        d'.io.level = d.io.level - 1 ∧ d'.io.flag .thrm Reg.EVT_PEND 3 = true ∧ d'.therm = d.therm)
    ∧ (s.dev.io.level = 4 → Runs (.levelDown dt) s fun d d' => d'.io.level = 4 ∧ d' = d.tick dt)
    ∧ (FMap.find s.dev.therm.clean c = some t → s.dev.io.chFault c = true → t + 10 * second ≤ s.dev.io.up + dt → s.dev.therm.faults.Pairwise (fun a b => a.1 < b.1) →
      Runs (.sensorRecovered c dt) s fun d d' =>
        d'.io.chFault c = false ∧ d'.io.fld .thrm (Reg.THRM_CH + 4 * c) 17 3 = 0 ∧ d'.io.chValue c = d.io.chValue c ∧ FMap.find d'.therm.faults c = none
          ∧ d'.io.flag .thrm Reg.EVT_PEND 5 = true))

/-- A write that switches domains off queues a transition for each named domain that is on; one that names a domain in use, or a fixed one, is ignored whole with
its reason (R415, R416). The transition at the front ends: its domain is off, or it is powered again with its pages OFF and their registers reset (R415, R416). -/
def Obligations.DomainsSwitch : Prop :=
  (∀ (k : Fin 3) (t : Fin 16) (v : Word) (r : Nat) (s : State),
    (s.dev.io.accepts .pwr (Reg.PWR_OFF + 4 * k) v = true →
      (s.dev.io.offReason (((List.range 32).map (fun b => 32 * k.val + b)).filter (fun d => bit v (d % 32))) = none → s.dev.power.moves = [] →
        Runs (.pwrOffWrite k v) s fun d d' =>
          ∀ b < 32, d'.io.flag .pwr (Reg.PWR_OFF + 4 * k) b = bit v b
            ∧ (bit v b = true → d.io.domainOn (32 * k + b) = true → (32 * k.val + b, false) ∈ d'.power.moves))
      ∧ (s.dev.io.offReason (((List.range 32).map (fun b => 32 * k.val + b)).filter (fun d => bit v (d % 32))) = some r →
        Runs (.pwrOffWrite k v) s fun d d' => d'.power = d.power ∧ d'.io.fld .pwr Reg.ERR_CODE 0 16 = codeIgnored .pwr
          ∧ d'.io.reg .pwr Reg.ERR_INFO = Word.of ((Reg.PWR_OFF + 4 * k) % 2 ^ 14 + r * 2 ^ 14)))
    ∧ (s.dev.io.accepts .pwr Reg.PWR_TILE_OFF v = true →
      s.dev.io.offReason (((List.range 16).filter (bit v)).flatMap tileDomains) = none → s.dev.power.moves = [] → bit v t = true →
        (∀ k ∈ tileDomains t, s.dev.io.domainOn k = true) → Runs (.pwrTileOffWrite v) s fun _ d' =>
          d'.power.moves.filter (fun m => decide (m.1 / 5 = t.val)) = (tileDomains t).map (fun k => (k, false))))
  ∧ (∀ (k : Fin 96) (dt : Nat) (s : State),
    (s.dev.power.moves.head? = some (k.val, false) → Runs (.domainOff k dt) s fun d d' =>
      d'.io.domainOn k = false ∧ d'.power.moves = d.power.moves.tail ∧ d'.io.flag .pwr Reg.EVT_PEND 3 = true
        ∧ ∀ j < 96, j ≠ k.val → d'.io.domainOn j = d.io.domainOn j)
    ∧ (s.dev.power.moves.head? = some (k.val, true) → Runs (.domainOn k dt) s fun d d' =>
      d'.io.domainOn k = true ∧ d'.power.moves = d.power.moves.tail ∧ d'.io.flag .pwr Reg.EVT_PEND 2 = true
        ∧ (∀ p ∈ domainPages k, d'.io.enabled p = false ∧ d'.io.stateOf p = 0)
        ∧ ∀ j < 96, j ≠ k.val → d'.io.domainOn j = d.io.domainOn j))

/-- A message that passes the checks reaches the servo: in ACQUIRING a one-step Sync more than 1 ms away steps the time base once to origin time, correction and
mean path together; an Announce ends WAITING or HOLDOVER and is followed; a message that fails a check is counted and has no other effect (R152 to R155). The
servo locks, loses its Announce and sends its delay requests as R154 and R157 say. -/
def Obligations.ServoFollowsMessages : Prop :=
  ∀ (p : Fin 128) (m : PtpMsg) (onBackup : Bool) (dt : Nat) (s : State),
    (s.dev.io.ptpState ≠ 0 → s.dev.io.ptpSource = 0 → s.dev.io.fld .ptp Reg.PTP_PORT_SEL 0 7 = p.val → s.dev.io.deliversPtp p = true →
      (ptpDropped m (s.dev.io.tick dt) s.dev.ptp = true → Runs (.ptpMessage p m dt) s fun d d' =>
        d'.io.reg .ptp Reg.PTP_MSG_DROP = Word.of (sat 32 ((d.io.reg .ptp Reg.PTP_MSG_DROP).toNat + 1)) ∧ d'.ptp = d.ptp ∧ d'.io.now = d.io.now + dt)
      ∧ (ptpDropped m (s.dev.io.tick dt) s.dev.ptp = false →
        (m.kind = .sync → s.dev.io.ptpState = 2 → s.dev.io.flag .ptp Reg.PTP_STAT 3 = false → s.dev.ptp.stepped = false →
          1000000 < (Int.ofNat (s.dev.io.now + dt) - Int.ofNat (m.seconds * nsPerSec + m.nanos) - m.correction
            - Int.ofNat (s.dev.io.reg .ptp Reg.PTP_MEAN_PATH).toNat).natAbs →
          Runs (.ptpMessage p m dt) s fun d d' =>
            d'.io.now = m.seconds * nsPerSec + m.nanos + m.correction.toNat + (d.io.reg .ptp Reg.PTP_MEAN_PATH).toNat
              ∧ d'.ptp.stepped = true ∧ d'.io.flag .ptp Reg.EVT_PEND 5 = true ∧ d'.io.ptpState = 2)
        ∧ (m.kind = .announce → s.dev.io.ptpState = 4 ∨ s.dev.io.ptpState = 5 → s.dev.io.flag .ptp Reg.PTP_STAT 3 = false → s.dev.ptp.primary = none →
          Runs (.ptpMessage p m dt) s fun _ d' =>
            d'.io.ptpState = 2 ∧ d'.ptp.primary = some m.master ∧ d'.io.wide .ptp Reg.PTP_GM_ID_LO = m.master.identity.toNat ∧ d'.ptp.stepped = false)))
    ∧ (s.dev.io.ptpState = 2 → s.dev.io.ptpSource = 0 ∨ s.dev.io.ptpSource = 1 ∧ s.dev.ptp.labelled = true → Runs (.ptpLocked dt) s fun _ d' =>
      d'.io.ptpState = 3 ∧ d'.io.flag .ptp Reg.EVT_PEND 2 = true)
    ∧ (s.dev.io.ptpSource = 0 → s.dev.io.ptpState = 2 ∨ s.dev.io.ptpState = 3 → s.dev.io.flag .ptp Reg.PTP_STAT 3 = onBackup →
      (s.dev.ptp.followed (!onBackup) = none → Runs (.announceTimeout onBackup dt) s fun _ d' => d'.io.ptpState = 4)
      ∧ ∀ x, s.dev.ptp.followed (!onBackup) = some x → onBackup = true ∨ s.dev.io.flag .ptp Reg.PTP_PORT_SEL 15 = true →
        Runs (.announceTimeout onBackup dt) s fun d d' =>
          d'.io.flag .ptp Reg.PTP_STAT 3 = !onBackup ∧ d'.io.ptpState = d.io.ptpState ∧ d'.io.wide .ptp Reg.PTP_GM_ID_LO = x.identity.toNat)
    ∧ (s.dev.io.ptpSource = 0 → s.dev.io.ptpState = 2 ∨ s.dev.io.ptpState = 3 → s.dev.io.stage s.dev.io.ptpPort = 9 →
      Runs (.delayRequestTx dt) s fun d d' =>
        d'.io.out = .ptp d.io.ptpPort (if d.io.flag .ptp Reg.PTP_PROFILE 21 then 2 else 1) :: d.io.out
          ∧ d'.ptp.requests.head? = some (d.ptp.nextSeq, d.io.now + dt) ∧ d'.ptp.nextSeq = (d.ptp.nextSeq + 1) % 2 ^ 16)

/-- SET loads the seconds and nanoseconds at once in free run, and with any other SOURCE is ignored with reason 0; PPS_ARM keeps the seconds for the next pulse,
which then sets the time to them; the sources come and go as R154, R156 and R157 say. -/
def Obligations.TimeIsSetAndLabelled : Prop :=
  ∀ (v : Word) (sec dt : Nat) (s : State),
    (s.dev.io.flag .ptp Reg.PAGE_LOCK 1 = false →
      (s.dev.io.ptpSource = 2 → Runs .ptpSet s fun d d' =>
        d'.io.now = d.io.setSeconds * nsPerSec + (d.io.reg .ptp Reg.PTP_SET_NS).toNat ∧ d'.io.flag .ptp Reg.EVT_PEND 5 = true ∧ d'.io.up = d.io.up)
      ∧ (s.dev.io.ptpSource ≠ 2 → Runs .ptpSet s fun d d' =>
        d'.io.now = d.io.now ∧ d'.io.fld .ptp Reg.ERR_CODE 0 16 = codeIgnored .ptp ∧ d'.io.reg .ptp Reg.ERR_INFO = Word.of Reg.PTP_SET_CTL)
      ∧ Runs .ppsArm s (fun d d' => d'.ptp.armed = some d.io.setSeconds ∧ d'.io = d.io))
    ∧ (s.dev.io.ptpSource = 1 → s.dev.io.ptpState = 2 ∨ s.dev.io.ptpState = 3 → s.dev.ptp.armed = some sec → Runs (.ppsPulse dt) s fun _ d' =>
      d'.io.now = sec * nsPerSec ∧ d'.ptp.armed = none ∧ d'.ptp.labelled = true)
    ∧ (s.dev.io.accepts .ptp Reg.PTP_CTL v = true → s.dev.io.ptpState ≠ 0 → bits v 0 2 ≠ s.dev.io.ptpSource →
      (bits v 0 2 = 2 → Runs (.ptpSourceWrite v) s fun _ d' => d'.io.ptpSource = 2 ∧ d'.io.ptpState = 1 ∧ d'.ptp.labelled = false)
      ∧ (bits v 0 2 = 1 → Runs (.ptpSourceWrite v) s fun d d' => d'.io.ptpSource = 1 ∧ d'.io.ptpState = (if d.ptp.ref10 then 2 else 5)))
    ∧ (s.dev.io.ptpSource = 1 → s.dev.io.ptpState = 4 ∨ s.dev.io.ptpState = 5 → Runs (.ref10mPresent dt) s fun _ d' =>
      d'.io.ptpState = 2 ∧ d'.io.flag .ptp Reg.PTP_STAT 4 = true ∧ d'.ptp.ref10 = true)
    ∧ ∀ tenMhz : Bool, s.dev.io.ptpSource = 1 → s.dev.io.ptpState = 2 ∨ s.dev.io.ptpState = 3 → Runs (.refLost tenMhz dt) s fun d d' =>
      d'.io.ptpState = 4 ∧ d'.io.flag .ptp Reg.PTP_STAT 4 = false ∧ d'.io.fld .ptp Reg.ERR_CODE 0 16 = 0x0510
        ∧ d'.io.flag .ptp Reg.EVT_PEND 6 = true ∧ d'.ptp.ref10 = (d.ptp.ref10 && !tenMhz)

/-- A playing channel makes the sample of its sources, rounded to 24 bits; a change whose instant has come starts with its words live and the old signal kept; a
phase without a crossing within ZC_TMO_MS is counted and ramps (R355, R363, R366, R367). -/
def Obligations.ChannelsPlayAndChange : Prop :=
  ∀ (ch : Fin 16384) (x : AudChange) (rest : List AudChange) (n t dt : Nat) (s : State),
    (nextSample ch (s.dev.io.tick dt) s.dev.aud s.dev.tdm = some (n, t) → s.dev.io.running .audm = true → s.dev.io.live.audOn ch = true →
      (s.dev.aud.out ch).phase = 0 → bit (s.dev.io.live.aud ch 0) 4 = false →
      (let r := s.dev.aud.out ch
       let h := (hear (s.dev.io.live.audWords ch) r.delay r.follow n (s.dev.io.tick dt) s.dev.aud s.dev.tdm).1
       h.muted = 0 → bit (s.dev.io.rd (audStat ch 0)) 4 = false → Runs (.audioSample ch dt) s fun _ d' =>
         FMap.find d'.aud.made (sampleKey ch n) = some (unsigned 24 (round24 h.acc).1) ∧ (d'.aud.out ch).idx = some n))
    ∧ ((s.dev.aud.out ch).queue = x :: rest → (s.dev.aud.out ch).phase = 0 → x.at_ ≤ s.dev.io.now + dt → s.dev.com.pend = [] →
      (∀ w ∈ x.words, w.1 < 8) → (x.words.map Prod.fst).Nodup → Runs (.audioChangePoint ch dt) s fun d d' =>
        (d'.aud.out ch).queue = rest ∧ (d'.aud.out ch).old = d.io.live.audWords ch ∧ (∀ w ∈ x.words, d'.io.live.aud ch w.1 = w.2)
          ∧ (d.io.live.audSilent ch = false → d'.io.live.audSilent ch = false → gainOnly (d.io.live.audWords ch) (d'.io.live.audWords ch) = false →
              (d'.aud.out ch).phase = 1 ∧ bits (d'.io.rd (audStat ch 0)) 0 3 = 2))
    ∧ ((s.dev.aud.out ch).phase = 1 ∨ (s.dev.aud.out ch).phase = 2 → (s.dev.aud.out ch).ramp = none → bit ((s.dev.aud.out ch).old.getD 0 0) 4 = false →
      (s.dev.aud.out ch).since + s.dev.io.fld .audm Reg.AUDM_CFG 0 7 * oneMs ≤ s.dev.io.now + dt → Runs (.zcTimeout ch dt) s fun d d' =>
        (d'.aud.out ch).ramp = some (d.io.now + dt) ∧ bit (d'.io.rd (audStat ch 0)) 5 = true
          ∧ d'.io.wide .audm Reg.AUDM_ZC_TIMEOUTS_LO = sat 48 (d.io.wide .audm Reg.AUDM_ZC_TIMEOUTS_LO + 1))

/-- Groups align again, marks clear and ASRC channels change state as R373, R375 and R377 say, each with its event. -/
def Obligations.GroupsAndConvertersMove : Prop :=
  ∀ (g : Fin 256) (ch : Fin 16384) (a : Fin 2048) (v : Word) (rt : GroupRt) (x : AsrcRt) (t m dt : Nat) (s : State),
    (FMap.find s.dev.aud.groups g = some rt → rt.good = some t → t + s.dev.io.regainMs g * 1000000 ≤ s.dev.io.up + dt →
      s.dev.io.live.groupOn g = true → bit (s.dev.io.rd (groupAddr g 8)) 0 = false → Runs (.alignRegained g dt) s fun _ d' =>
        bit (d'.io.rd (groupAddr g 8)) 0 = true ∧ d'.io.flag .audm Reg.EVT_PEND 3 = true)
    ∧ ((s.dev.aud.inp ch).mark = some m → m + 8192 ≤ (s.dev.aud.inp ch).newest → Runs (.nonpcmMarkClear ch dt) s fun _ d' =>
      (d'.aud.inp ch).mark = none ∧ bit (d'.io.rd (inStat ch)) 4 = false)
    ∧ (s.dev.aud.asrcs.find? (fun y => decide (y.entry = a.val)) = some x →
      (s.dev.io.asrcState a = 1 → x.since + s.dev.io.fld .asrc Reg.ASRC_CFG 0 8 * oneMs ≤ s.dev.io.up + dt → Runs (.asrcLocked a dt) s fun _ d' =>
        d'.io.asrcState a = 2 ∧ d'.io.flag .asrc Reg.EVT_PEND 2 = true)
      ∧ (s.dev.io.asrcWithin v = false → s.dev.io.asrcState a ≠ 3 → Runs (.asrcRange a v dt) s fun d d' =>
        d'.io.asrcState a = 3 ∧ d'.io.rd (asrcAddr a 1) = v ∧ d'.io.flag .asrc Reg.EVT_PEND 4 = true
          ∧ (d.io.asrcState a = 2 → d'.io.flag .asrc Reg.EVT_PEND 3 = true
              ∧ d'.io.wide .asrc Reg.ASRC_UNLOCKS_LO = sat 48 (d.io.wide .asrc Reg.ASRC_UNLOCKS_LO + 1))))
    ∧ (s.dev.io.asrcWithin v = true → s.dev.io.asrcState a = 3 → Runs (.asrcWithinRange a v dt) s fun _ d' =>
      d'.io.asrcState a = 1 ∧ d'.io.rd (asrcAddr a 1) = v)

/-- A TDM port runs, mutes for a restart, loses its clock and regains it, shows its measured rate, and ramps a slot that finds no crossing (R388 to R390, R393,
R397). -/
def Obligations.TdmPortsRun : Prop :=
  ∀ (p : Fin 16) (off : Nat) (din : List Word) (cause : Fin 3) (ppm hz : Word) (tx : Bool) (slot : Fin 32) (x : TdmSlot) (dt : Nat) (s : State),
    (Instr.wellFormed (.tdmFrameSync p off din dt) = true → s.dev.io.pstate p = 4 → syncDue p (s.dev.io.tick dt) (s.dev.tdm.port p) = true →
      (∀ w ∈ (s.dev.tdm.port p).waiting, ∀ e ∈ w.2.2, within (.tdmp p) [Reg.TDMP_RX_MASK, Reg.TDMP_RX_BASE, Reg.TDMP_TX_MASK, Reg.TDMP_TX_BASE] e.1 = true) →
      Runs (.tdmFrameSync p off din dt) s fun d d' =>
        d'.io.pstate p = 2 ∧ d'.io.flag (.tdmp p) Reg.EVT_PEND 6 = true ∧ (d'.tdm.port p).frame = frameNumber p (d.io.tick dt) (d.tdm.port p)
          ∧ d'.io.wide (.tdmp p) Reg.TDMP_FRAMES_LO = sat 48 (d.io.wide (.tdmp p) Reg.TDMP_FRAMES_LO + 1)
          ∧ d'.io.wide (.tdmp p) Reg.TDMP_RESTARTS_LO = sat 48 (d.io.wide (.tdmp p) Reg.TDMP_RESTARTS_LO + 1))
    ∧ (s.dev.io.accepts (.tdmp p) Reg.TDMP_CTL (setBit (s.dev.io.reg (.tdmp p) Reg.TDMP_CTL) 1 true) = true → s.dev.io.pstate p = 2 →
      Runs (.tdmpRestart p) s fun _ d' => d'.io.pstate p = 4 ∧ (d'.tdm.port p).fifo = 0)
    ∧ (s.dev.io.tdmMaster p = false → s.dev.io.pstate p = 2 ∨ s.dev.io.pstate p = 4 → Runs (.clockLost p cause dt) s fun d d' =>
      d'.io.pstate p = 3 ∧ d'.io.flag (.tdmp p) Reg.TDMP_STAT 4 = false ∧ d'.io.fld (.tdmp p) Reg.ERR_CODE 0 16 = 0x0E13
        ∧ d'.io.reg (.tdmp p) Reg.ERR_INFO = Word.of cause ∧ d'.io.flag (.tdmp p) Reg.EVT_PEND 2 = true
        ∧ d'.io.wide (.tdmp p) Reg.TDMP_CLOCK_LOSSES_LO = sat 48 (d.io.wide (.tdmp p) Reg.TDMP_CLOCK_LOSSES_LO + 1))
    ∧ (s.dev.io.pstate p = 3 → (s.dev.tdm.port p).okSince.getD 0 + s.dev.io.fld (.tdmp p) Reg.TDMP_CLK_CFG 16 8 * oneMs ≤ s.dev.io.up + dt →
      Runs (.clockRestored p dt) s fun _ d' =>
        d'.io.pstate p = 4 ∧ d'.io.flag (.tdmp p) Reg.TDMP_STAT 4 = true ∧ d'.io.flag (.tdmp p) Reg.EVT_PEND 3 = true)
    ∧ (s.dev.io.pstate p ≠ 0 → (s.dev.tdm.port p).window.1 + 10000000 ≤ s.dev.io.up + dt → Runs (.tdmRateMeasure p ppm hz dt) s fun d d' =>
      (d.io.tdmMaster p = false → d'.io.reg (.tdmp p) Reg.TDMP_RATE_PPM = ppm ∧ d'.io.reg (.tdmp p) Reg.TDMP_BCLK_HZ = hz)
        ∧ (d.io.tdmMaster p = true → d'.io.reg (.tdmp p) Reg.TDMP_RATE_PPM = 0
            ∧ d'.io.reg (.tdmp p) Reg.TDMP_BCLK_HZ = Word.of (fsOf (d.io.tdmFast p) * tdmSlots (d.io.reg (.tdmp p) Reg.TDMP_CFG) * tdmWidth (d.io.reg (.tdmp p) Reg.TDMP_CFG)))
        ∧ (d.io.tdmMaster p = false → d.io.pstate p = 2 → (d.io.fld (.tdmp p) Reg.TDMP_CLK_CFG 0 11) * 65536 < (signed 32 ppm.toNat).natAbs → d'.io.pstate p = 3))
    ∧ (FMap.find (if tx then (s.dev.tdm.port p).tx else (s.dev.tdm.port p).rx) slot = some x → x.phase ≠ 0 → x.ramp = none →
      x.since + s.dev.io.fld (.tdmp p) Reg.TDMP_CTL 8 7 * oneMs ≤ s.dev.io.now + dt → Runs (.slotZcTimeout p tx slot dt) s fun d d' =>
        FMap.find (if tx then (d'.tdm.port p).tx else (d'.tdm.port p).rx) slot = some { x with ramp := some (d.io.now + dt) }
          ∧ d'.io.wide (.tdmp p) Reg.TDMP_ZC_TIMEOUTS_LO = sat 48 (d.io.wide (.tdmp p) Reg.TDMP_ZC_TIMEOUTS_LO + 1))

/-- LARD_SWAP with GO and a failed engine both swap the spare that R424 chooses into the logical ID: while jobs have yet to move the spare is SWAPPING_IN and the
engine SWAPPING_OUT, and with none the map changes at once (R422, R426, R428). A logical ID that is not mapped or already swapping is refused with a record
(R436). A step of the in-service test over spares puts them to the test and moves to the next slot; a test that ends makes the engine SPARE or FAILED with its
record, and so does the test of a retired engine (R425, R430). -/
def Obligations.EnginesSwapAndTest : Prop :=
  (∀ (v : Word) (e p : Fin 144) (sp l : Nat) (ab : Bool) (dt : Nat) (s : State),
    (s.dev.io.accepts .lard Reg.LARD_SWAP v = true → bit v 31 = true → l = bits v 0 7 →
      (s.dev.io.physicalOf l = some p.val → s.dev.lard.swapping l = false → (∀ w ∈ s.dev.lard.swaps, w.from_ / 9 ≠ p / 9) →
        s.dev.lar.choose (p / 9) = some (sp, ab) → sp ≠ p → sp < 144 →
        (outsOf s.dev.sc.jobs l ≠ [] → Runs (.lardSwap v) s fun d d' =>
          d'.io.pstate_ sp = 3 ∧ d'.io.pstate_ p = 4 ∧ d'.io.physicalOf l = some p.val
            ∧ d'.lard.swaps = d.lard.swaps ++ [{ logical := l, from_ := p, dest := sp, why := 1, outs := outsOf d.sc.jobs l }])
        ∧ (outsOf s.dev.sc.jobs l = [] → Runs (.lardSwap v) s fun d d' =>
          d'.io.pstate_ sp = 0 ∧ d'.io.pstate_ p = 1 ∧ d'.io.physicalOf l = some sp ∧ d'.io.logicalOf sp = some l ∧ d'.io.logicalOf p = none
            ∧ d'.io.flag .lard Reg.EVT_PEND 2 = true
            ∧ d'.io.reg .lard Reg.LARD_SWAPS = Word.of (sat 32 ((d.io.reg .lard Reg.LARD_SWAPS).toNat + 1))))
      ∧ (s.dev.io.physicalOf l = none ∨ s.dev.lard.swapping l = true → Runs (.lardSwap v) s fun d d' =>
        d'.lard.swaps = d.lard.swaps ∧ d'.io.fld .lard Reg.ERR_CODE 0 16 = 0x1016 ∧ d'.io.reg .lard Reg.ERR_INFO = Word.of l))
    ∧ (s.dev.io.pstate_ e = 0 → s.dev.io.logicalOf e = some l → s.dev.lar.choose (e / 9) = some (sp, ab) → sp ≠ e → sp < 144 →
      Runs (.engineFailed e dt) s fun d d' =>
        d'.io.flag .lard Reg.EVT_PEND 3 = true ∧ d'.io.fld .lard Reg.ERR_CODE 0 16 = 0x1011 ∧ d'.io.reg .lard Reg.ERR_INFO = Word.of e
          ∧ d'.io.pstate_ sp = (if outsOf d.sc.jobs l = [] then 0 else 3) ∧ d'.io.pstate_ e = (if outsOf d.sc.jobs l = [] then 5 else 4)))
  ∧ (∀ (e : Fin 144) (pass : Bool) (t dt : Nat) (s : State),
    (s.dev.io.istMay = true → s.dev.lard.istRuns = false → s.dev.io.istSlot < 9 →
      (∀ k < 16, s.dev.io.pstate_ (9 * k + s.dev.io.istSlot) = 1 ∧ s.dev.io.powered (prsmPage (9 * k + s.dev.io.istSlot)) = true) →
      (s.dev.lard.stepAt = some t → 9 * t + s.dev.io.fld .lard Reg.LARD_IST_CFG 0 17 * second ≤ 9 * (s.dev.io.up + dt) → Runs (.istStep dt) s fun d d' =>
        d'.lard.stepAt = some (d.io.up + dt) ∧ d'.io.istSlot = (d.io.istSlot + 1) % 9
          ∧ d'.lard.testing = (List.range 16).map (fun k => 9 * k + d.io.istSlot) ∧ ∀ k < 16, d'.io.pstate_ (9 * k + d.io.istSlot) = 2)
      ∧ (s.dev.io.accepts .lard Reg.LARD_CTL (setBit (s.dev.io.reg .lard Reg.LARD_CTL) 1 true) = true → Runs .istNow s fun d d' =>
        d'.lard.stepAt = some d.io.up ∧ d'.io.istSlot = (d.io.istSlot + 1) % 9 ∧ ∀ k < 16, d'.io.pstate_ (9 * k + d.io.istSlot) = 2))
    ∧ (s.dev.lard.testing.contains e.val = true → Runs (.istTestDone e pass dt) s fun _ d' =>
      d'.lard.testing.contains e.val = false ∧ d'.io.pstate_ e = (if pass then 1 else 5)
        ∧ (pass = false → d'.io.fld .lard Reg.ERR_CODE 0 16 = 0x1013 ∧ d'.io.flag .lard Reg.EVT_PEND 6 = true))
    ∧ (s.dev.lard.enabling.contains e.val = true → Runs (.retiredEngineTestDone e pass dt) s fun _ d' =>
      d'.lard.enabling.contains e.val = false ∧ d'.io.pstate_ e = (if pass then 1 else 5)
        ∧ (pass = false → d'.io.fld .lard Reg.ERR_CODE 0 16 = 0x1013 ∧ d'.io.flag .lard Reg.EVT_PEND 6 = true)))

/-- A core that fails hands over to the spare, a bank takes a spare bank of its kind, and both enter the repair map; a failed write of the map leaves the repair in
force; an uncorrectable SRAM error is recorded wherever it stands (R431 to R434). The hours of every active unit advance once an hour, in the order of their
numbers once the store is free; a query shows an entry of the repair map, or a unit's counters (R435, R436). -/
def Obligations.RepairsAndWear : Prop :=
  (∀ (k c : Fin 9) (loc : Fin 65536) (site : SramSite) (dt : Nat) (s : State),
    (s.dev.io.coreState k = 0 → s.dev.lard.map.length < 4096 → Runs (.coreTakeover k dt) s fun d d' =>
      d'.io.coreState k = 2 ∧ d'.io.fld .lard Reg.ERR_CODE 0 16 = 0x1012 ∧ d'.io.reg .lard Reg.ERR_INFO = Word.of k
        ∧ d'.io.flag .lard Reg.EVT_PEND 4 = true
        ∧ d'.lard.map = d.lard.map ++ [{ kind := 1, state := 2, location := k, time := (d.io.now + dt) / second % 2 ^ 32 }]
        ∧ (c ≠ k → d.io.coreState c = 1 → (∀ c' < c, d.io.coreState c' ≠ 1) → d'.io.coreState c = 0))
    ∧ (0 < s.dev.lard.sram → s.dev.lard.map.length < 4096 → Runs (.sramRepaired loc dt) s fun d d' =>
      d'.lard.sram = d.lard.sram - 1 ∧ d'.io.flag .lard Reg.EVT_PEND 7 = true
        ∧ d'.lard.map = d.lard.map ++ [{ kind := 3, state := 0, location := loc, time := (d.io.now + dt) / second % 2 ^ 32 }])
    ∧ (s.dev.lard.sram = 0 → Runs (.sramRepaired loc dt) s fun d d' => d'.lard.map = d.lard.map ∧ d'.io.flag .lard Reg.EVT_PEND 10 = true)
    ∧ (0 < (if pktDie loc then s.dev.lard.pkt1 else s.dev.lard.pkt0) → s.dev.lard.map.length < 4096 → Runs (.pktbufRepaired loc dt) s fun d d' =>
      (if pktDie loc then d'.lard.pkt1 = d.lard.pkt1 - 1 ∧ d'.lard.pkt0 = d.lard.pkt0 else d'.lard.pkt0 = d.lard.pkt0 - 1 ∧ d'.lard.pkt1 = d.lard.pkt1)
        ∧ d'.io.flag .lard Reg.EVT_PEND 8 = true
        ∧ d'.lard.map = d.lard.map ++ [{ kind := 5, state := 0, location := loc, time := (d.io.now + dt) / second % 2 ^ 32 }])
    ∧ (0 < s.dev.lard.unwritten → Runs (.mapWriteFail dt) s fun d d' =>
      d'.lard.map = d.lard.map ∧ d'.io.fld .lard Reg.ERR_CODE 0 16 = 0x1015 ∧ d'.io.flag .lard Reg.EVT_PEND 11 = true)
    ∧ Runs (.sramUncorr site dt) s (fun d d' => d'.io.flag .lard Reg.EVT_PEND 0 = true
      ∧ (∀ os, site = .table os → d'.rt = d.rt ∧ d'.sc = d.sc ∧ d'.io.fld .lard Reg.ERR_CODE 0 16 = 0x1014)
      ∧ (∀ j : Fin 9, site = .core j → d.io.coreState j = 0 → d'.io.coreState j = 2)
      ∧ (∀ (ch : Fin 16384) (back : Nat), site = .audio ch back → d'.aud.hist = FMap.erase d.aud.hist (sampleKey ch ((d.aud.inp ch).newest - back)))))
  ∧ (∀ (v : Word) (dt : Nat) (s : State),
    (s.dev.lard.hourAt + 3600 * second ≤ s.dev.io.up + dt → Runs (.wearHourTick dt) s fun d d' => d'.lard.hourAt = d.io.up + dt
      ∧ (d.nvs.running.isSome = true → d'.nvs.jobs.map (fun j => j.kind) = d.nvs.jobs.map (fun j => j.kind)
          ++ ((List.range 144).filter (fun e => d.io.pstate_ e = 0 ∧ (d.io.logicalOf e).isSome)).map (fun e => .counter (3 * e))
          ++ ((List.range 9).filter (fun k => d.io.coreState k = 0 ∧ d.io.flag .fw Reg.FW_STAT 7)).map (fun k => .counter (3 * (144 + k)))))
    ∧ (s.dev.io.accepts .lard Reg.LARD_MAP_QUERY v = true → s.dev.nvs.jobs = [] → Runs (.lardMapQuery v) s fun d d' =>
      (∀ r, d.lard.map[bits v 0 12]? = some r → d'.io.reg .lard Reg.LARD_MAP_DATA0 = Word.of (r.kind + r.state * 2 ^ 4 + 2 ^ 6)
        ∧ d'.io.reg .lard (Reg.LARD_MAP_DATA0 + 4) = Word.of r.location ∧ d'.io.reg .lard (Reg.LARD_MAP_DATA0 + 8) = Word.of r.time)
      ∧ (d.lard.map[bits v 0 12]? = none → ∀ i < 3, d'.io.reg .lard (Reg.LARD_MAP_DATA0 + 4 * i) = 0) ∧ d'.lard = d.lard)
    ∧ (s.dev.io.accepts .lard Reg.LARD_WEAR_SEL v = true → bits v 0 8 < 153 → Runs (.lardWearSel v) s fun d d' =>
      d'.io.reg .lard Reg.LARD_WEAR_HOURS = Word.of (d.nvs.ctrValue (3 * bits v 0 8))
        ∧ d'.io.reg .lard Reg.LARD_WEAR_CNT = Word.of (sat 16 (d.nvs.ctrValue (3 * bits v 0 8 + 1)) + sat 16 (d.nvs.ctrValue (3 * bits v 0 8 + 2)) * 2 ^ 16)))

/-- GO, GO with SALVO and LEG_UPDATE capture what PF0 has dirtied, leave those shadows clean and show VALIDATING; a dry run captures nothing; during validation GO
is recorded as COMMIT_BUSY (R39, R43, R45, R322). -/
def Obligations.CommitsCapture : Prop :=
  ∀ (o : Fin 512) (v : Word) (salvo : Bool) (s : State), s.dev.io.ready = true → s.dev.io.powered .top = true → s.dev.io.flag .top Reg.PAGE_LOCK 1 = false →
    (s.dev.com.queue = [] →
      Runs .commitGo s (fun d d' =>
        d'.com.queue = [{ fn := 0, src := none, salvo := none, badTime := false, dry := false, vals := d.io.dirtyOf 0 }]
          ∧ d'.io.dirtyOf 0 = [] ∧ d'.io.flag .top Reg.TOP_COMMIT_STAT 0 = true)
      ∧ Runs .commitSalvo s (fun d d' =>
        d'.com.queue = [{ fn := 0, src := none, salvo := some d.io.salvoTime.1, badTime := d.io.salvoTime.2, dry := false, vals := d.io.dirtyOf 0 }]
          ∧ d'.io.dirtyOf 0 = [] ∧ d'.io.flag .top Reg.TOP_COMMIT_STAT 0 = true)
      ∧ Runs (.commitDryRun salvo) s (fun d d' =>
        d'.com.queue.map (fun r => (r.dry, r.vals, r.salvo)) = [(true, [], if salvo then some d.io.salvoTime.1 else none)]
          ∧ d'.io.shadow = d.io.shadow ∧ d'.io.flag .top Reg.TOP_COMMIT_STAT 0 = true)
      ∧ (s.dev.io.accepts (outPage o) Reg.LEG_UPDATE v = true → bit v 0 = true → Runs (.legUpdate o v) s fun d d' =>
        d'.com.queue = [{ fn := 0, src := none, salvo := none, badTime := false, dry := false, vals := d.io.dirtyOf 0 }]
          ∧ d'.io.dirtyOf 0 = [] ∧ d'.io.flag .top Reg.TOP_COMMIT_STAT 0 = true))
    ∧ (s.dev.com.queue ≠ [] → Runs .commitGo s fun d d' =>
      d'.com.queue = d.com.queue ∧ d'.io.shadow = d.io.shadow ∧ d'.io.fld .top Reg.ERR_CODE 0 16 = 0x0110)

/-- A commit that fails validation is rejected with its code and its shadows are discarded; one that passes takes the next sequence number, and what it captured for
enabled outputs stays pending there with no live value changed; a dry run only reports (R42 to R45). -/
def Obligations.CommitsAreJudged : Prop :=
  ∀ (r : CommitReq) (rest : List CommitReq) (status code dt : Nat) (o : Fin 512) (s : State), s.dev.com.queue = r :: rest →
    ((s.dev.verdict r rest dt).failure = some (status, code) → Runs (.commitValidationEnd dt) s fun d d' =>
      d'.com.queue = rest
        ∧ (r.dry = false → d'.io.flag .top Reg.EVT_PEND 3 = true ∧ d'.io.fld .top Reg.ERR_CODE 0 16 = code % 2 ^ 16
            ∧ ∀ x ∈ r.vals, ∀ sh, FMap.find d'.io.shadow x.1 = some sh → sh.dirty = true)
        ∧ (r.src = none → d'.io.flag .top Reg.TOP_COMMIT_STAT 1 = false ∧ d'.io.flag .top Reg.TOP_COMMIT_STAT 2 = true
            ∧ d'.io.fld .top Reg.TOP_COMMIT_STAT 16 16 = code % 2 ^ 16)
        ∧ d'.io.reg .top Reg.TOP_COMMIT_SEQ = d.io.reg .top Reg.TOP_COMMIT_SEQ)
    ∧ ((s.dev.verdict r rest dt).failure = none → r.dry = true → r.src = none → Runs (.commitValidationEnd dt) s fun d d' =>
      d'.com.queue = rest ∧ d'.io.flag .top Reg.TOP_COMMIT_STAT 1 = true ∧ d'.io.shadow = d.io.shadow
        ∧ d'.io.reg .top Reg.TOP_COMMIT_SEQ = d.io.reg .top Reg.TOP_COMMIT_SEQ)
    ∧ ((s.dev.verdict r rest dt).failure = none → r.dry = false → (∀ x ∈ r.vals, s.dev.io.waitsOnOutput x.1 = true) →
      Runs (.commitValidationEnd dt) s fun d d' =>
        d'.com.queue = rest ∧ d'.io.flag .top Reg.EVT_PEND 2 = true
          ∧ d'.io.reg .top Reg.TOP_COMMIT_SEQ = Word.of (((d.io.reg .top Reg.TOP_COMMIT_SEQ).toNat + 1) % 2 ^ 32)
          ∧ (r.src = none → d'.io.flag .top Reg.TOP_COMMIT_STAT 1 = true)
          ∧ (∀ x ∈ r.vals, d'.io.rd x.1 = d.io.rd x.1)
          ∧ (r.vals.any (fun x => decide (d.io.live.outputOf x.1 = some o.val)) = true → d'.io.flag (.outc o) Reg.OUTC_COMMIT_STAT 0 = true))

/-- An accepted commit of an output register becomes live at the output's latch line, which shows its sequence number and the frame it precedes (R46, R48). At its
instant the value that a salvo holds for a disabled output becomes live, and the salvo has taken effect (R42, R43). -/
def Obligations.CommitsTakeEffect : Prop :=
  (∀ (o : Fin 512) (r : OutRt) (p : Pend) (off t dt : Nat) (row : Row) (w : Word) (s : State), s.dev.outRt o = some r → s.dev.io.outAlive o = true →
    r.atLatch (s.dev.io.tick dt) o = some t → s.dev.com.pend = [p] → s.dev.com.held = [] → p.outs = [o.val] → p.waitT = false → p.salvo = none →
    p.fasts = [] → s.dev.soundOpen p.seq = false → rowAt (.outc o) off = some row → row.shadowed = true → p.vals = [(regAddr (.outc o) off, w)] →
    Runs (.latchLine o dt) s fun d d' =>
      d'.io.reg (.outc o) off = w ∧ d'.com.pend = [] ∧ d'.io.reg (.outc o) Reg.OUTC_APPLY_SEQ = Word.of p.seq
        ∧ d'.io.wide (.outc o) Reg.OUTC_APPLY_FRAME_LO = ((d.io.live.over p.vals).nextBoundary o r).1 % 2 ^ 64
        ∧ d'.io.flag (.outc o) Reg.OUTC_COMMIT_STAT 0 = false ∧ d'.io.flag .top Reg.EVT_PEND 4 = true)
  ∧ (∀ (p : Pend) (o : Fin 512) (off t dt : Nat) (row : Row) (w : Word) (s : State), s.dev.com.pend = [p] → p.waitT = true → p.outs = [] → p.fasts = [] →
    p.salvo = some t → t ≤ s.dev.io.now + dt → rowAt (.outc o) off = some row → row.shadowed = true → p.vals = [(regAddr (.outc o) off, w)] →
    s.dev.soundOpen p.seq = false → Runs (.salvoActivation dt) s fun d d' =>
      d'.io.reg (.outc o) off = w ∧ d'.com.pend = [] ∧ d'.io.flag .top Reg.EVT_PEND 4 = true ∧ d'.io.flag .top Reg.EVT_PEND 7 = true
        ∧ d'.io.reg (.outc o) Reg.OUTC_APPLY_SEQ = Word.of p.seq
        ∧ d'.io.wide (.outc o) Reg.OUTC_APPLY_FRAME_LO = d.io.wide (.outc o) Reg.OUTC_FRAME_CNT_LO)

/-- A frame of a running output begins at its boundary and its lines are composed one by one, each kept packed; after the last one the frame's references retire,
and its latch line passes once (R201, R318, R327, R330 to R332, R410). -/
def Obligations.OutputsScan : Prop :=
  ∀ (o : Fin 512) (r : OutRt) (late : List (Fin 4096)) (bad : List (Fin 4096 × HbmError)) (t dt : Nat) (s : State), s.dev.outRt o = some r →
    (s.dev.io.running (.outc o) = true → s.dev.io.tileRuns o = true →
      (r.inFrame = true → r.over (s.dev.io.tick dt) = true → r.resync = false → s.dev.io.live.timing o = r.tm →
        r.tm.lineStart (r.frame + 1) 0 ≤ r.clock (s.dev.io.tick dt) → Runs (.frameBoundary o dt) s fun _ d' =>
          d'.io.wide (.outc o) Reg.OUTC_FRAME_CNT_LO = (r.frame + 1) % 2 ^ 64 ∧ d'.io.wide (.outc o) Reg.OUTC_BOUNDARY_LO = r.tm.lineStart (r.frame + 1) 0 % 2 ^ 64
            ∧ d'.io.reg (.outc o) Reg.OUTC_SCAN_STAT = 1 ∧ (d'.outRt o).map (fun r' => (r'.frame, r'.line, r'.inFrame, r'.latched)) = some (r.frame + 1, 0, true, false))
      ∧ (r.inFrame = true → r.over (s.dev.io.tick dt) = true → r.resync = true → Runs (.frameBoundary o dt) s fun d d' =>
        (d'.outRt o).map (fun r' => (r'.inFrame, r'.notBefore)) = some (false, d.io.now + dt) ∧ d'.io.reg (.outc o) Reg.OUTC_SCAN_STAT = 2)
      ∧ (r.inFrame = false → (s.dev.io.live.nextBoundary o r).2 ≤ r.clock (s.dev.io.tick dt) → Runs (.frameBoundary o dt) s fun _ d' =>
        (d'.outRt o).map (fun r' => (r'.line, r'.inFrame, r'.latched)) = some (0, true, false) ∧ d'.io.reg (.outc o) Reg.OUTC_SCAN_STAT = 1))
    ∧ (s.dev.io.outAlive o = true → r.inFrame = true →
      (r.line < r.tm.actH → r.tm.lineStart r.frame (r.tm.rasterLine r.line) ≤ r.clock (s.dev.io.tick dt) → Runs (.rasterLine o late bad dt) s fun _ d' =>
        (d'.outRt o).map (fun r' => (r'.line, r'.frame)) = some (r.line + 1, r.frame)
          ∧ (r.held = false → r.slate = none → r.pic.sampling ≠ 2 →
              (d'.outRt o).map (fun r' => (FMap.find r'.picture (r.tm.pictureLine r.line)).isSome) = some true)
          ∧ (r.line + 1 = r.tm.actH → ∀ j ∈ d'.st.jobs, j.out ≠ o))
      ∧ (r.atLatch (s.dev.io.tick dt) o = some t → Runs (.latchLine o dt) s fun _ d' =>
        (d'.outRt o).map (fun r' => (r'.latched, r'.held)) = some (true, decide (2 ≤ d'.io.level) && d'.io.flag (.outc o) Reg.OUTC_THRM_CTL 0)
          ∧ d'.io.flag (.outc o) Reg.OUTC_THRM_STAT 0 = (decide (2 ≤ d'.io.level) && d'.io.flag (.outc o) Reg.OUTC_THRM_CTL 0)))

/-- The Loupe shows the value of a FIXED rectangle, counts the check, and raises event 26 where the value differs from the expected one; RELEARN forgets what the
selected rectangles expect (R345 to R347). -/
def Obligations.RectanglesAreChecked : Prop :=
  ∀ (o : Fin 512) (k : Fin 8) (r : OutRt) (rect : Rect) (value : Nat) (v : Word) (dt : Nat) (s : State),
    (s.dev.outRt o = some r → s.dev.io.live.loupeRect o k = some rect → k.val < 7 → (s.dev.io.live.loupeMethod o).1 ≠ 0 → r.inFrame = true → r.held = false →
      s.dev.io.acted o = 0 → s.dev.sc.loupe.done.contains (rectKey o k) = false → bits (s.dev.io.live.outc o (Reg.OUTC_LPE_CTL + 16 * k)) 1 2 = 0 →
      loupeDue r.tm r.frame (s.dev.io.live.loupeMethod o).1 rect ≤ r.clock (s.dev.io.tick dt) → rectCrc r.pic r.picture rect = some value →
      Runs (.loupeResult o k dt) s fun d d' =>
        d'.io.reg (.outc o) (0x280 + 8 * k) = Word.of value ∧ d'.io.wide .loup Reg.LOUP_CHECKS_LO = sat 48 (d.io.wide .loup Reg.LOUP_CHECKS_LO + 1)
          ∧ d'.sc.loupe.done.contains (rectKey o k) = true
          ∧ (value = (d.io.live.outc o (Reg.OUTC_LPE_EXP + 16 * k)).toNat → d'.io.flag (.outc o) Reg.EVT_PEND 26 = d.io.flag (.outc o) Reg.EVT_PEND 26)
          ∧ (value ≠ (d.io.live.outc o (Reg.OUTC_LPE_EXP + 16 * k)).toNat → d'.io.flag (.outc o) Reg.EVT_PEND 26 = true
              ∧ d'.io.wide .loup Reg.LOUP_MISMATCHES_LO = sat 48 (d.io.wide .loup Reg.LOUP_MISMATCHES_LO + 1)))
    ∧ (s.dev.io.accepts (.outc o) Reg.OUTC_LPE_RELEARN v = true → Runs (.outcLpeRelearn o v) s fun d d' =>
      ∀ i < 7, FMap.find d'.sc.loupe.expect (rectKey o i) = if bit v i then none else FMap.find d.sc.loupe.expect (rectKey o i))

/-- A built plane takes its space, or without space leaves its run uncached and raises event 3; a completed estimation adds its vector field; a job query shows the
stage of its job (R278, R291, R313, R314). -/
def Obligations.PlanesAndFieldsComplete : Prop :=
  ∀ (o : Fin 512) (l : Fin 4096) (e : Fin 144) (kib slot dt : Nat) (x : Run) (f : FrcRt) (r : OutRt) (src : Source) (a c : Cand) (v : Word) (s : State),
    (s.dev.sc.runs.find? (fun y => decide (y.out = o.val) && y.members.contains l.val) = some x → x.plane = 1 ∨ x.plane = 4 → s.dev.io.level < 2 →
      (let here := min kib (stockHalf - s.dev.sc.stockUsed (o / 256))
       (s.dev.sc.stockSpilled 0 + s.dev.sc.stockSpilled 1 + (kib - here) ≤ stockSpill → Runs (.stockBuildDone o l kib dt) s fun d d' =>
         (d'.sc.runs.find? (fun y => decide (y.out = o.val) && y.members.contains l.val)).map (fun y => (y.plane, y.newKib, y.newSpill)) = some (x.plane + 1, here, kib - here)
           ∧ d'.io.wide (.comp (compTile o)) Reg.COMP_STOCK_BUILDS_LO = sat 48 (d.io.wide (.comp (compTile o)) Reg.COMP_STOCK_BUILDS_LO + 1)
           ∧ (kib ≠ here → d'.io.flag (.comp (compTile o)) Reg.EVT_PEND 2 = true))
       ∧ (stockSpill < s.dev.sc.stockSpilled 0 + s.dev.sc.stockSpilled 1 + (kib - here) → Runs (.stockBuildDone o l kib dt) s fun _ d' =>
         (d'.sc.runs.find? (fun y => decide (y.out = o.val) && y.members.contains l.val)).map (fun y => (y.plane, y.full)) = some (x.plane - 1, true)
           ∧ d'.io.flag (.comp (compTile o)) Reg.EVT_PEND 3 = true)))
    ∧ (s.dev.outRt o = some r → s.dev.sc.frc o l = some f → f.mode = 3 → s.dev.io.live.slotOf o l = some slot →
      (let state := bits (s.dev.io.live.get (routeAddr o (192 + slot))) 0 3
       (state = 1 ∨ state = 2) → s.dev.io.live.sourceOf s.dev.st o slot (decide (state = 2)) = some src →
       nextPair s.dev.io.live l src (r.tm.instantOf (r.frame + 1) 0) f = some (a, c) → Runs (.estimationDone o l dt) s fun d d' =>
         (d'.sc.frc o l).map (fun f' => f'.fields) = some (f.fields ++ [(a.media, c.media, d.sc.nextField)]) ∧ d'.sc.nextField = d.sc.nextField + 1))
    ∧ (s.dev.io.accepts (.frc e) Reg.FRC_JOB_SEL v = true →
      (let job := s.dev.io.reg (.prsm e) (Reg.PRSM_JOB + 4 * bits v 0 6)
       (bit job 31 = true → s.dev.sc.frc (bits job 12 9) (bits job 0 12) = some f → Runs (.frcJobSel e v) s fun d d' =>
         (List.range 7).map (fun i => d'.io.reg (.frc e) (Reg.FRC_JOB_STAT + 4 * i)) = f.words (d.io.live.layerMode f.layer))
       ∧ (bit job 31 = false → Runs (.frcJobSel e v) s fun _ d' => ∀ i < 7, d'.io.reg (.frc e) (Reg.FRC_JOB_STAT + 4 * i) = 0)))

/-- A due packet of a flow leaves and takes the next sequence number; a host transmit slot that names a port of its tile is sent, and any other is counted and
skipped, and both are handed back (R338, R342). A write of MSEC_TX_AN that names an association with EN selects it from the next frame on and raises its event;
one that names an association without EN changes nothing there and is recorded as 0x0515 (R160). -/
def Obligations.PacketsLeave : Prop :=
  (∀ (e : Fin 4096) (o : Nat) (r : OutRt) (x : Ready) (t : Fin 16) (slot : List Byte) (dt : Nat) (s : State),
    (s.dev.io.live.egrValid e = true → s.dev.io.live.egrFeed e ≠ 3 → s.dev.io.live.frameOut e = some o → FMap.find s.dev.sc.outs o = some r →
      (s.dev.sc.egrRt e).busy = true → frameReady s.dev.io.live s.dev.aud e r (s.dev.sc.egrRt e).seq (s.dev.sc.egrRt e).sent = some x →
      x.due ≤ r.clock (s.dev.io.tick dt) → Runs (.packetTx e dt) s fun d d' =>
        (d'.sc.egrRt e).seq = ((d.sc.egrRt e).seq + 1) % 2 ^ 32 ∧ (d'.sc.egrRt e).sent = (d.sc.egrRt e).sent + 1
          ∧ d'.io.es e 38 = Word.of (d.sc.egrRt e).seq ∧ bits (d'.io.es e 32) 0 2 = 1
          ∧ d'.io.wide (.scan (Fin.ofNat 16 (o / 32))) Reg.SCAN_PKTS_TX_LO = sat 48 (d.io.wide (.scan (Fin.ofNat 16 (o / 32))) Reg.SCAN_PKTS_TX_LO + 1))
    ∧ (Instr.wellFormed (.htxSend t slot dt) = true → s.dev.io.running (.scan t) = true → s.dev.io.flag (.scan t) Reg.SCAN_HTX_CFG 0 = true →
      (let head := (s.dev.io.reg (.scan t) Reg.SCAN_HTX_HEAD).toNat
       let size := 2 ^ s.dev.io.fld (.scan t) Reg.SCAN_HTX_CFG 1 4
       let port := leAt slot 0 4 % 128
       let len := leAt slot 4 4 % 2 ^ 14
       head ≠ (s.dev.io.reg (.scan t) Reg.SCAN_HTX_TAIL).toNat % size → (∀ at_, FMap.find s.dev.sc.htxAt t = some at_ → at_ + 10000 ≤ s.dev.io.up + dt) →
       Runs (.htxSend t slot dt) s fun d d' =>
         d'.io.reg (.scan t) Reg.SCAN_HTX_HEAD = Word.of ((head + 1) % size)
           ∧ d'.io.out.head? = some (.hostWrite (d.io.wide (.scan t) Reg.SCAN_HTX_BASE_LO + 2048 * head) (leBytes 4 (leAt slot 0 4 % 2 ^ 31 + 2 ^ 31)))
           ∧ (port / 8 = t.val → d.io.portConfigured port = true → 60 ≤ len → len ≤ 2032 →
               d'.io.wide (.scan t) Reg.SCAN_HTX_SENT_LO = sat 48 (d.io.wide (.scan t) Reg.SCAN_HTX_SENT_LO + 1))
           ∧ (port / 8 ≠ t.val ∨ d.io.portConfigured port = false ∨ len < 60 ∨ 2032 < len →
               d'.io.wide (.scan t) Reg.SCAN_HTX_BAD_LO = sat 48 (d.io.wide (.scan t) Reg.SCAN_HTX_BAD_LO + 1)
                 ∧ d'.io.fld (.scan t) Reg.ERR_CODE 0 16 = 0x0C18 ∧ d'.io.flag (.scan t) Reg.EVT_PEND 2 = true))))
  ∧ (∀ (p : Fin 128) (v : Word) (s : State), s.dev.io.accepts (.msec p) Reg.MSEC_TX_AN v = true →
    (s.dev.io.saOn p (bits v 0 2) = true → Runs (.msecTxAnWrite p v) s fun d d' =>
      d'.io.fld (.msec p) Reg.MSEC_TX_AN 0 2 = bits v 0 2 ∧ d'.io.flag (.msec p) Reg.EVT_PEND 7 = true)
    ∧ (s.dev.io.saOn p (bits v 0 2) = false → Runs (.msecTxAnWrite p v) s fun d d' =>
      d'.io.reg (.msec p) Reg.MSEC_TX_AN = d.io.reg (.msec p) Reg.MSEC_TX_AN ∧ d'.io.fld (.msec p) Reg.ERR_CODE 0 16 = 0x0515))

/-- A frame at a port that receives is counted once: under the first condition of R147 that it meets, or as received. A frame that the MAC passes while the tile's
Sieve does not run is dropped uncounted (R189); with the Sieve running it is handled by its class (R165): an IP error and an unmatched frame are counted, a
punted frame goes to the tile's ring or is counted as dropped when the ring is full (R188), and a new discovery is watched (R183). -/
def Obligations.FramesAreClassified : Prop :=
  ∀ (p : Fin 128) (bytes : List Byte) (trunc phy : Bool) (c n k dt : Nat) (pkt : Pkt) (s : State),
    let t : Fin 16 := Fin.ofNat 16 (p / 8)
    let body := bytes.take (bytes.length - 4)
    let cls := classify (s.dev.tick dt).io p body
    let head := s.dev.io.fld (.siev t) Reg.SIEV_PUNT_HEAD 0 12
    let tail := s.dev.io.fld (.siev t) Reg.SIEV_PUNT_TAIL 0 12
    let size := 2 ^ s.dev.io.fld (.siev t) Reg.SIEV_PUNT_CFG 1 4
    (s.dev.io.macReceives p = false → Runs (.macRxFrame p bytes trunc phy dt) s fun d d' =>
      d'.sv = d.sv ∧ d'.io.wide (.mac p) Reg.MAC_RX_FRAMES_LO = d.io.wide (.mac p) Reg.MAC_RX_FRAMES_LO)
    ∧ (s.dev.io.macReceives p = true →
      (s.dev.io.rxDrop p bytes trunc phy = some c → Runs (.macRxFrame p bytes trunc phy dt) s fun d d' =>
        d'.sv = d.sv ∧ d'.io.wide (.mac p) c = sat 48 (d.io.wide (.mac p) c + 1)
          ∧ d'.io.wide (.mac p) Reg.MAC_RX_FRAMES_LO = d.io.wide (.mac p) Reg.MAC_RX_FRAMES_LO)
      ∧ (s.dev.io.rxDrop p bytes trunc phy = none → s.dev.io.running (.msec p) = false →
        (s.dev.io.running (.siev t) = false → Runs (.macRxFrame p bytes trunc phy dt) s fun d d' =>
          d'.sv = d.sv ∧ d'.io.wide (.mac p) Reg.MAC_RX_FRAMES_LO = sat 48 (d.io.wide (.mac p) Reg.MAC_RX_FRAMES_LO + 1)
            ∧ d'.io.wide (.mac p) Reg.MAC_RX_BYTES_LO = sat 48 (d.io.wide (.mac p) Reg.MAC_RX_BYTES_LO + bytes.length))
        ∧ (s.dev.io.running (.siev t) = true →
          (cls = .other → Runs (.macRxFrame p bytes trunc phy dt) s fun d d' =>
            d'.sv = d.sv ∧ d'.io.wide (.siev t) Reg.SIEV_UNMATCHED_LO = sat 48 (d.io.wide (.siev t) Reg.SIEV_UNMATCHED_LO + 1))
          ∧ (cls = .l3Error → Runs (.macRxFrame p bytes trunc phy dt) s fun d d' =>
            d'.sv = d.sv ∧ d'.io.wide (.siev t) Reg.SIEV_L3_ERR_LO = sat 48 (d.io.wide (.siev t) Reg.SIEV_L3_ERR_LO + 1))
          ∧ (cls = .punt n → s.dev.io.punts p n = true →
            ((tail + 1) % size = head % size → Runs (.macRxFrame p bytes trunc phy dt) s fun d d' =>
              d'.io.wide (.siev t) Reg.SIEV_PUNT_DROP_LO = sat 48 (d.io.wide (.siev t) Reg.SIEV_PUNT_DROP_LO + 1) ∧ d'.io.flag (.siev t) Reg.EVT_PEND 11 = true)
            ∧ ((tail + 1) % size ≠ head % size → FMap.find s.dev.sv.puntRate t.val = none → Runs (.macRxFrame p bytes trunc phy dt) s fun d d' =>
              d'.io.wide (.siev t) Reg.SIEV_PUNTED_LO = sat 48 (d.io.wide (.siev t) Reg.SIEV_PUNTED_LO + 1)
                ∧ d'.io.fld (.siev t) Reg.SIEV_PUNT_TAIL 0 12 = (tail + 1) % size % 4096
                ∧ d.io.puts d'.io (.hostWrite (d.io.wide (.siev t) Reg.SIEV_PUNT_BASE_LO + 2048 * tail)
                    (leBytes 4 p.val ++ leBytes 4 (body.length % 2 ^ 14 + b2n (decide (body.length > 2032)) * 2 ^ 31)
                      ++ leBytes 8 ((d.tick dt).io.stamp p Reg.MAC_TS_RX_ADJ % 2 ^ 64) ++ body.take 2032)) = true))
          ∧ (cls = .listen k pkt → s.dev.io.flag (.siev t) Reg.SIEV_SEEN_CFG 16 = true → s.dev.sv.watches = [] → Runs (.macRxFrame p bytes trunc phy dt) s fun _ d' =>
            d'.sv.watches.map (fun w => (w.tile, w.listen, w.first, w.count, w.reported)) = [(t.val, k, pkt, 1, none)]))))

/-- A packet of a valid flow that fails a check is dropped and counted under the first check that it fails, and is treated as never received; one that passes is
counted, its arrival kept, and its leg is up (R169, R173, R181). Stated of TYPE 0, 1 and 4 without a fast-path entry. -/
def Obligations.FlowPacketsAreChecked : Prop :=
  ∀ (p : Fin 128) (bytes : List Byte) (legB : Bool) (f : Fin 4096) (n dt : Nat) (pkt : Pkt) (r : FlowRt) (s : State),
    s.dev.io.macReceives p = true → s.dev.io.rxDrop p bytes false false = none → s.dev.io.running (.msec p) = false →
    s.dev.io.running (.siev (Fin.ofNat 16 (p / 8))) = true → classify (s.dev.tick dt).io p (bytes.take (bytes.length - 4)) = .flow f.val legB pkt →
    s.dev.io.running (s.dev.io.flowPage f) = true → s.dev.sv.rt f = some r → r.started = true → r.fmt = [] → s.dev.rt.fast = [] → s.dev.io.live.fasts = [] →
    [0, 1, 4].contains (s.dev.io.live.flowType f) = true →
    let reason := flowReason s.dev.io.live f (s.dev.io.fld (s.dev.io.flowPage f) Reg.SIEV_CFG 0 10) r.nextSeq pkt
    (reason = some n → Runs (.macRxFrame p bytes false false dt) s fun d d' =>
      (d'.io.fs f (48 + n)).toNat = sat 32 ((d.io.fs f (48 + n)).toNat + 1) ∧ bits (d'.io.fs f 32) 8 3 = n
        ∧ (d'.io.fs f 37).toNat + 2 ^ 32 * (d'.io.fs f 38).toNat = sat 48 ((d.io.fs f 37).toNat + 2 ^ 32 * (d.io.fs f 38).toNat + 1)
        ∧ d'.sv.rt f = some { r with dropAt := some (d.tick dt).io.up } ∧ d'.io.fs f 35 = d.io.fs f 35 ∧ d'.st.hbm = d.st.hbm)
    ∧ (reason = none → Runs (.macRxFrame p bytes false false dt) s fun d d' =>
      (d'.io.fs f 35).toNat + 2 ^ 32 * (d'.io.fs f 36).toNat = sat 48 ((d.io.fs f 35).toNat + 2 ^ 32 * (d.io.fs f 36).toNat + 1)
        ∧ d'.io.fs f 33 = Word.of pkt.arrival ∧ bit (d'.io.fs f 32) (if legB then 4 else 3) = true
        ∧ (d'.sv.rt f).map (fun r => if legB then (r.lastB, r.lostB) else (r.lastA, r.lostA)) = some (some pkt.arrival, false))

/-- A number that its window has run out on is lost and counted, and what it held back is released (R179); a frame whose wait for the late leg has ended is
discarded and counted (R175); the 1 s average skew is shown, and raised once when it exceeds the window (R180); a leg without a packet for FLOW_TMO periods is
lost and counted, and a flow with no leg left is ABSENT (R181). -/
def Obligations.FlowTimersAct : Prop :=
  ∀ (f : Fin 4096) (legB : Bool) (n t dt : Nat) (h : HeldPkt) (a : Assembly) (r : FlowRt) (s : State), s.dev.sv.rt f = some r →
    (mergeOverdue f (s.dev.tick dt).io s.dev.sv = true → r.held = [h] → r.nextSeq = some n → h.seq = n + 1 → s.dev.rt.fast = [] → s.dev.io.live.fasts = [] →
      [0, 1, 4].contains (s.dev.io.live.flowType f) = true → Runs (.mirrorSeqLost f dt) s fun d d' =>
        (d'.io.fs f 41).toNat = sat 32 ((d.io.fs f 41).toNat + 1) ∧ (d'.sv.rt f).map (fun r => (r.held, r.nextSeq)) = some ([], some (n + 2)))
    ∧ (mergeOverdue f (s.dev.tick dt).io s.dev.sv = false → Runs (.mirrorSeqLost f dt) s fun d d' => d'.sv = d.sv ∧ d'.io.fs f 41 = d.io.fs f 41)
    ∧ (r.frames = [a] → a.laterAt = some t →
        (t + s.dev.io.live.flowWin f * 1000 ≤ (s.dev.tick dt).io.now → Runs (.frameDiscard f dt) s fun d d' =>
          (d'.sv.rt f).map (fun r => r.frames) = some [] ∧ (d'.io.fs f 40).toNat = sat 32 ((d.io.fs f 40).toNat + 1))
        ∧ ((s.dev.tick dt).io.now < t + s.dev.io.live.flowWin f * 1000 → Runs (.frameDiscard f dt) s fun d d' =>
          (d'.sv.rt f).map (fun r => r.frames) = some [a] ∧ d'.io.fs f 40 = d.io.fs f 40))
    ∧ (r.skews ≠ [] → Runs (.mirrorSkew f dt) s fun d d' =>
        let avg := clampInt (-32768) 32767 (avgSkew r.skews)
        bits (d'.io.fs f 32) 16 16 = unsigned 16 avg ∧ (d'.sv.rt f).map (fun r => r.skews) = some []
          ∧ (d.io.live.flowWin f < avg.natAbs → r.skewRaised = false → d'.io.flag (d.io.flowPage f) Reg.EVT_PEND 7 = true))
    ∧ (legOverdue f legB (s.dev.tick dt).io s.dev.sv = true → (if legB then r.lostB else r.lostA) = false → Runs (.legLost f legB dt) s fun d d' =>
        bits (d'.io.fs f 43) 16 16 = sat 16 (bits (d.io.fs f 43) 16 16 + 1) ∧ bit (d'.io.fs f 32) (if legB then 4 else 3) = false
          ∧ d'.io.flag (d.io.flowPage f) Reg.EVT_PEND 5 = true ∧ (d'.sv.rt f).map (fun r => if legB then r.lostB else r.lostA) = some true
          ∧ (legB = false → d.io.live.flowMirror f = false → d.io.flowState f ≠ 3 →
              d'.io.flowState f = 3 ∧ bits (d'.io.fs f 43) 0 16 = sat 16 (bits (d.io.fs f 43) 0 16 + 1) ∧ d'.io.flag (d.io.flowPage f) Reg.EVT_PEND 3 = true))
    ∧ (legOverdue f legB (s.dev.tick dt).io s.dev.sv = false → Runs (.legLost f legB dt) s fun d d' => d' = d.tick dt)

/-- The report of a discovery goes into the tile's seen ring once its 10 ms have passed, and is counted as suppressed when the ring is full (R183, R184). A
membership report is sent and counted, or suppressed and counted without an IPv6 source address; it is sent ROBUST times (R187). -/
def Obligations.ReportsAreWritten : Prop :=
  ∀ (t : Fin 16) (p : Fin 128) (dt : Nat) (w : Watch) (r : Report) (s : State),
    let pg : PageRef := .siev t
    let tail := s.dev.io.fld pg Reg.SIEV_SEEN_TAIL 0 7
    let seq := s.dev.io.fld pg Reg.SIEV_SEEN_TAIL 16 16
    let q : Fin 16 := Fin.ofNat 16 (p / 8)
    (s.dev.sv.watches = [w] → w.tile = t.val → w.reported = none → w.first.arrival + 10000000 ≤ (s.dev.tick dt).io.now → s.dev.io.running pg = true →
      ((tail + 1) % 128 ≠ s.dev.io.fld pg Reg.SIEV_SEEN_HEAD 0 7 → Runs (.seenReport t 0 dt) s fun d d' =>
        (∀ j < 16, some (d'.io.reg pg (0x2000 + 64 * tail + 4 * j)) = (seenWords seq w)[j]?)
          ∧ d'.io.fld pg Reg.SIEV_SEEN_TAIL 0 7 = (tail + 1) % 128 ∧ d'.io.fld pg Reg.SIEV_SEEN_TAIL 16 16 = (seq + 1) % 2 ^ 16
          ∧ d'.io.flag pg Reg.EVT_PEND 2 = true ∧ d'.sv.watches = [{ w with reported := some (d.tick dt).io.now }])
      ∧ ((tail + 1) % 128 = s.dev.io.fld pg Reg.SIEV_SEEN_HEAD 0 7 → Runs (.seenReport t 0 dt) s fun d d' =>
        d'.io.wide pg Reg.SIEV_SEEN_SUPPRESSED_LO = sat 48 (d.io.wide pg Reg.SIEV_SEEN_SUPPRESSED_LO + 1) ∧ d'.io.flag pg Reg.EVT_PEND 9 = true
          ∧ d'.io.reg pg Reg.SIEV_SEEN_TAIL = d.io.reg pg Reg.SIEV_SEEN_TAIL))
    ∧ (s.dev.sv.reports = [r] → r.port = p.val → s.dev.io.running (.siev q) = true → s.dev.io.stage p = 9 →
      (r.ipv6 = false → Runs (.membershipReport p 0 dt) s fun d d' =>
        d'.io.wide (.siev q) Reg.SIEV_IGMP_TX_LO = sat 48 (d.io.wide (.siev q) Reg.SIEV_IGMP_TX_LO + 1)
          ∧ d'.sv.reports = (if r.left ≤ 1 then [] else [{ r with left := r.left - 1, since := (d.tick dt).io.up }]))
      ∧ (r.ipv6 = true → (∀ j < 4, s.dev.io.reg (.siev q) (Reg.SIEV_PORT_LL0 + 32 * (p.val % 8) + 4 * j) = 0) → Runs (.membershipReport p 0 dt) s fun d d' =>
        d'.io.wide (.siev q) Reg.SIEV_MLD_SUPPRESSED_LO = sat 48 (d.io.wide (.siev q) Reg.SIEV_MLD_SUPPRESSED_LO + 1) ∧ d'.io.out = d.io.out))

/-- At its switch frame a fast-path entry takes up its new flow, shows it and counts the switch (R231, R232); not before. Packets held for the switch go 1 ms after
the first was held (R231). An entry on BACKUP whose SOURCE has been PRESENT for REVERT_FRAMES frames accepts the change back (R235). -/
def Obligations.FastPathEntriesSwitch : Prop :=
  ∀ (e : Fin 4096) (g t a dt : Nat) (c : FpChange) (ps : List Pkt) (s : State),
    (fpDue e (s.dev.tick dt).io s.dev.rt = some c → (s.dev.rt.fp e).changes = [c] → c.vals = [] → c.seq = none → c.flow = some g → g < 4096 →
      (∀ o, (s.dev.rt.fp e).carried = some o → o < 4096 ∧ o ≠ g) → Runs (.fpSwitch e dt) s fun d d' =>
        (d'.rt.fp e).carried = some g ∧ (d'.rt.fp e).changes = [] ∧ (d'.rt.fp e).held = []
          ∧ bits (d'.io.fpw e 16) 16 12 = g ∧ bits (d'.io.fpw e 16) 0 2 = 1 ∧ bit (d'.io.fpw e 16) 2 = c.backup ∧ bit (d'.io.fpw e 16) 3 = false
          ∧ (d'.io.fpw e 21).toNat = sat 32 ((d.io.fpw e 21).toNat + 1))
    ∧ (fpDue e (s.dev.tick dt).io s.dev.rt = none → Runs (.fpSwitch e dt) s fun d d' => d'.rt = d.rt ∧ d'.io.fpw e 16 = d.io.fpw e 16)
    ∧ ((s.dev.rt.fp e).heldAt = some t → (s.dev.rt.fp e).released = false → (s.dev.rt.fp e).held = ps →
        (t + 1000000 ≤ s.dev.io.up + dt → Runs (.fpHoldTimeout e dt) s fun d d' =>
          (d'.rt.fp e).held = [] ∧ (d'.rt.fp e).heldAt = none ∧ (d'.rt.fp e).released = true
            ∧ (ps ≠ [] → (d.rt.fp e).announced = false → d'.io.flag .rout Reg.EVT_PEND 2 = true))
        ∧ (s.dev.io.up + dt < t + 1000000 → Runs (.fpHoldTimeout e dt) s fun d d' => d' = d.tick dt))
    ∧ (fpRevertDue e (s.dev.tick dt).io s.dev.rt = some a → Runs (.fpRevert e dt) s fun d d' =>
        (d'.rt.fp e).presentAt = none ∧ bit (d'.io.fpw e 16) 3 = true
          ∧ (d'.rt.fp e).changes = queueChange { seq := none, frame := d.io.live.switchFrame e a, flow := some (d.io.live.fastSrc e), backup := false, vals := [] }
              (d.rt.fp e).changes)
    ∧ (fpRevertDue e (s.dev.tick dt).io s.dev.rt = none → Runs (.fpRevert e dt) s fun d d' => d' = d.tick dt)
end

