-- ==== Sys2Proof/Laws/Bits.lean ====
section
/-! SUPPORT. Bit fields: what a field or a bit reads after a field or a bit has been replaced. -/
namespace Sys2Proof.Machine

/-- A word splits into what lies above a field, the field and what lies below. -/
theorem bits_split (x lo len : Nat) : x = 2 ^ lo * (2 ^ len * (x / 2 ^ (lo + len)) + x / 2 ^ lo % 2 ^ len) + x % 2 ^ lo := by
  have h₁ := Nat.div_add_mod x (2 ^ lo)
  have h₂ := Nat.div_add_mod (x / 2 ^ lo) (2 ^ len)
  rw [Nat.div_div_eq_div_mul, ← pow_add] at h₂
  rw [h₂, h₁]

theorem setBits_toNat (w : Word) (lo len v : Nat) (h : lo + len ≤ 32) :
    (setBits w lo len v).toNat = 2 ^ lo * (2 ^ len * (w.toNat / 2 ^ (lo + len)) + v % 2 ^ len) + w.toNat % 2 ^ lo := by
  have hs := bits_split w.toNat lo len
  have hw := w.isLt
  have hv : v % 2 ^ len < 2 ^ len := Nat.mod_lt _ (by positivity)
  have hl : w.toNat % 2 ^ lo < 2 ^ lo := Nat.mod_lt _ (by positivity)
  have hsum : w.toNat - bits w lo len * 2 ^ lo + v % 2 ^ len * 2 ^ lo
      = 2 ^ lo * (2 ^ len * (w.toNat / 2 ^ (lo + len)) + v % 2 ^ len) + w.toNat % 2 ^ lo := by
    have hb : bits w lo len = w.toNat / 2 ^ lo % 2 ^ len := rfl
    rw [hb]
    generalize w.toNat / 2 ^ lo % 2 ^ len = f at *
    generalize w.toNat / 2 ^ (lo + len) = H at *
    generalize w.toNat % 2 ^ lo = l at *
    have e : w.toNat = 2 ^ lo * (2 ^ len * H) + l + f * 2 ^ lo := by rw [hs]; ring
    rw [e, Nat.add_sub_cancel]; ring
  unfold setBits Word.of
  rw [BitVec.toNat_ofNat, hsum, Nat.mod_eq_of_lt]
  have hH : w.toNat / 2 ^ (lo + len) < 2 ^ (32 - (lo + len)) := by
    rw [Nat.div_lt_iff_lt_mul (by positivity), ← pow_add]
    rwa [Nat.sub_add_cancel h]
  calc 2 ^ lo * (2 ^ len * (w.toNat / 2 ^ (lo + len)) + v % 2 ^ len) + w.toNat % 2 ^ lo
      < 2 ^ lo * (2 ^ len * (w.toNat / 2 ^ (lo + len)) + v % 2 ^ len) + 2 ^ lo := by omega
    _ = 2 ^ lo * (2 ^ len * (w.toNat / 2 ^ (lo + len)) + v % 2 ^ len + 1) := by ring
    _ ≤ 2 ^ lo * (2 ^ len * (w.toNat / 2 ^ (lo + len)) + 2 ^ len) := Nat.mul_le_mul_left _ (by omega)
    _ = 2 ^ (lo + len) * (w.toNat / 2 ^ (lo + len) + 1) := by rw [pow_add]; ring
    _ ≤ 2 ^ (lo + len) * 2 ^ (32 - (lo + len)) := Nat.mul_le_mul_left _ hH
    _ = 2 ^ 32 := by rw [← pow_add, Nat.add_sub_cancel' h]

/-- Every bit of a word one of whose fields has been replaced. -/
theorem testBit_setBits (w : Word) (lo len v i : Nat) (h : lo + len ≤ 32) :
    (setBits w lo len v).toNat.testBit i
      = if i < lo then w.toNat.testBit i else if i < lo + len then v.testBit (i - lo) else w.toNat.testBit i := by
  rw [setBits_toNat w lo len v h, Nat.testBit_two_pow_mul_add _ (Nat.mod_lt _ (by positivity))]
  split_ifs with h₁ h₂
  · rw [Nat.testBit_mod_two_pow]; simp [h₁]
  · rw [Nat.testBit_two_pow_mul_add _ (Nat.mod_lt _ (by positivity)), if_pos (by omega), Nat.testBit_mod_two_pow]
    simp; omega
  · rw [Nat.testBit_two_pow_mul_add _ (Nat.mod_lt _ (by positivity)), if_neg (by omega), Nat.testBit_div_two_pow]
    congr 1; omega

theorem testBit_bits (w : Word) (lo len i : Nat) : (bits w lo len).testBit i = (decide (i < len) && w.toNat.testBit (lo + i)) := by
  unfold bits
  rw [Nat.testBit_mod_two_pow, Nat.testBit_div_two_pow, Nat.add_comm]

theorem bits_lt (w : Word) (lo len : Nat) : bits w lo len < 2 ^ len := Nat.mod_lt _ (by positivity)

/-- The field that was replaced. -/
@[simp] theorem bits_setBits_self (w : Word) (lo len v : Nat) (h : lo + len ≤ 32) : bits (setBits w lo len v) lo len = v % 2 ^ len := by
  apply Nat.eq_of_testBit_eq
  intro i
  rw [testBit_bits, testBit_setBits _ _ _ _ _ h, Nat.testBit_mod_two_pow]
  by_cases hi : i < len
  · rw [if_neg (by omega), if_pos (by omega)]; simp
  · simp [hi]

/-- A field beside the one that was replaced. -/
theorem bits_setBits_ne (w : Word) (lo len v lo' len' : Nat) (h : lo + len ≤ 32) (hd : lo' + len' ≤ lo ∨ lo + len ≤ lo') :
    bits (setBits w lo len v) lo' len' = bits w lo' len' := by
  apply Nat.eq_of_testBit_eq
  intro i
  rw [testBit_bits, testBit_bits, testBit_setBits _ _ _ _ _ h]
  by_cases hi : i < len'
  · split_ifs <;> first | rfl | omega
  · simp [hi]

theorem bit_setBits_ne (w : Word) (lo len v i : Nat) (h : lo + len ≤ 32) (hd : i < lo ∨ lo + len ≤ i) :
    bit (setBits w lo len v) i = bit w i := by
  unfold bit
  rw [testBit_setBits _ _ _ _ _ h]
  split_ifs <;> first | rfl | omega

/-- The bit that was replaced. -/
@[simp] theorem bit_setBit_self (w : Word) (i : Nat) (b : Bool) (h : i < 32) : bit (setBit w i b) i = b := by
  unfold bit setBit
  rw [testBit_setBits _ _ _ _ _ (by omega), if_neg (by omega), if_pos (by omega)]
  cases b <;> simp

/-- A bit beside the one that was replaced. -/
@[simp] theorem bit_setBit_ne (w : Word) {i j : Nat} (b : Bool) (h : i < 32) (hd : j ≠ i) : bit (setBit w i b) j = bit w j :=
  bit_setBits_ne w i 1 _ j (by omega) (by omega)

theorem bits_setBit_ne (w : Word) (i : Nat) (b : Bool) (lo len : Nat) (h : i < 32) (hd : lo + len ≤ i ∨ i < lo) :
    bits (setBit w i b) lo len = bits w lo len := bits_setBits_ne w i 1 _ lo len (by omega) (by omega)

/-- Two words are equal when their bits are. -/
theorem word_ext {v w : Word} (h : ∀ i, i < 32 → bit v i = bit w i) : v = w := by
  apply BitVec.eq_of_toNat_eq
  apply Nat.eq_of_testBit_eq
  intro i
  by_cases hi : i < 32
  · exact h i hi
  · rw [Nat.testBit_lt_two_pow (lt_of_lt_of_le v.isLt (Nat.pow_le_pow_right (by norm_num) (by omega))),
      Nat.testBit_lt_two_pow (lt_of_lt_of_le w.isLt (Nat.pow_le_pow_right (by norm_num) (by omega)))]

/-- Writing a bit its own value changes nothing. -/
theorem setBit_same (w : Word) (i : Nat) (h : i < 32) : setBit w i (bit w i) = w := by
  apply word_ext
  intro j _
  by_cases hj : j = i
  · subst hj; simp [h]
  · simp [h, hj]

theorem bit_and (v w : Word) (i : Nat) : bit (v &&& w) i = (bit v i && bit w i) := by simp [bit]

theorem bit_or (v w : Word) (i : Nat) : bit (v ||| w) i = (bit v i || bit w i) := by simp [bit]

theorem bit_not (v : Word) (i : Nat) (h : i < 32) : bit (~~~v) i = !bit v i := by
  have e : ∀ w : Word, bit w i = w.getLsbD i := fun w => BitVec.testBit_toNat w
  rw [e, e, BitVec.getLsbD_not]
  simp [h]

end Sys2Proof.Machine
end

