-- ==== Sys2Proof/Laws/FMap.lean ====
section
/-! SUPPORT. Finite maps: reading after writing, and that every operation keeps the canonical form. -/
namespace Sys2Proof.Machine
variable {α : Type}

@[simp] theorem FMap.find_nil (a : Nat) : FMap.find ([] : FMap α) a = none := rfl

theorem FMap.find_cons (k : Nat) (v : α) (m : FMap α) (a : Nat) :
    FMap.find ((k, v) :: m) a = if a = k then some v else FMap.find m a := rfl

@[simp] theorem FMap.find_insert_self (m : FMap α) (a : Nat) (v : α) : FMap.find (FMap.insert m a v) a = some v := by
  induction m with
  | nil => simp [FMap.insert, FMap.find]
  | cons e m ih =>
    obtain ⟨k, w⟩ := e
    simp only [FMap.insert]
    split_ifs with h₁ h₂
    · simp [FMap.find]
    · simp [FMap.find]
    · simp [FMap.find, h₂, ih]

@[simp] theorem FMap.find_insert_ne (m : FMap α) {a b : Nat} (v : α) (h : b ≠ a) :
    FMap.find (FMap.insert m a v) b = FMap.find m b := by
  induction m with
  | nil => simp [FMap.insert, FMap.find, h]
  | cons e m ih =>
    obtain ⟨k, w⟩ := e
    simp only [FMap.insert]
    split_ifs with h₁ h₂
    · simp [FMap.find, h]
    · subst h₂; simp [FMap.find, h]
    · simp [FMap.find, ih]

theorem FMap.find_insert (m : FMap α) (a b : Nat) (v : α) :
    FMap.find (FMap.insert m a v) b = if b = a then some v else FMap.find m b := by
  by_cases h : b = a
  · subst h; simp
  · simp [h]

@[simp] theorem FMap.find_erase_ne (m : FMap α) {a b : Nat} (h : b ≠ a) :
    FMap.find (FMap.erase m a) b = FMap.find m b := by
  induction m with
  | nil => rfl
  | cons e m ih =>
    obtain ⟨k, w⟩ := e
    simp only [FMap.erase]
    split_ifs with h₁
    · subst h₁; simp [FMap.find, h]
    · simp [FMap.find, ih]

@[simp] theorem FMap.get_insert_self (d : Nat → α) (m : FMap α) (a : Nat) (v : α) :
    FMap.get d (FMap.insert m a v) a = v := by simp [FMap.get]

@[simp] theorem FMap.get_insert_ne (d : Nat → α) (m : FMap α) {a b : Nat} (v : α) (h : b ≠ a) :
    FMap.get d (FMap.insert m a v) b = FMap.get d m b := by simp [FMap.get, h]

section Canonical
variable [DecidableEq α] {d : Nat → α}

theorem FMap.wfFrom_cons {lo k : Nat} {v : α} {m : FMap α} :
    FMap.wfFrom d lo ((k, v) :: m) = true ↔ lo ≤ k ∧ v ≠ d k ∧ FMap.wfFrom d (k + 1) m = true := by
  simp [FMap.wfFrom, and_assoc]

theorem FMap.wfFrom_mono {lo lo' : Nat} (h : lo' ≤ lo) {m : FMap α} (w : FMap.wfFrom d lo m = true) :
    FMap.wfFrom d lo' m = true := by
  cases m with
  | nil => rfl
  | cons e m =>
    obtain ⟨k, v⟩ := e
    rw [FMap.wfFrom_cons] at w ⊢
    exact ⟨h.trans w.1, w.2⟩

/-- A key below every listed one is not listed. -/
theorem FMap.find_below {lo a : Nat} {m : FMap α} (w : FMap.wfFrom d lo m = true) (h : a < lo) : FMap.find m a = none := by
  induction m generalizing lo with
  | nil => rfl
  | cons e m ih =>
    obtain ⟨k, v⟩ := e
    rw [FMap.wfFrom_cons] at w
    rw [FMap.find_cons, if_neg (by omega)]
    exact ih w.2.2 (by omega)

theorem FMap.wfFrom_insert {lo a : Nat} {v : α} (hv : v ≠ d a) {m : FMap α} (w : FMap.wfFrom d lo m = true) (h : lo ≤ a) :
    FMap.wfFrom d lo (FMap.insert m a v) = true := by
  induction m generalizing lo with
  | nil => simp [FMap.insert, FMap.wfFrom, h, hv]
  | cons e m ih =>
    obtain ⟨k, x⟩ := e
    rw [FMap.wfFrom_cons] at w
    simp only [FMap.insert]
    split_ifs with h₁ h₂
    · simp only [FMap.wfFrom_cons]; exact ⟨h, hv, by omega, w.2⟩
    · subst h₂; rw [FMap.wfFrom_cons]; exact ⟨h, hv, w.2.2⟩
    · rw [FMap.wfFrom_cons]; exact ⟨w.1, w.2.1, ih w.2.2 (by omega)⟩

theorem FMap.wfFrom_erase {lo a : Nat} {m : FMap α} (w : FMap.wfFrom d lo m = true) : FMap.wfFrom d lo (FMap.erase m a) = true := by
  induction m generalizing lo with
  | nil => rfl
  | cons e m ih =>
    obtain ⟨k, x⟩ := e
    rw [FMap.wfFrom_cons] at w
    simp only [FMap.erase]
    split_ifs
    · exact FMap.wfFrom_mono (by omega) w.2.2
    · rw [FMap.wfFrom_cons]; exact ⟨w.1, w.2.1, ih w.2.2⟩

theorem FMap.wfFrom_filter {lo : Nat} (p : Nat × α → Bool) {m : FMap α} (w : FMap.wfFrom d lo m = true) :
    FMap.wfFrom d lo (m.filter p) = true := by
  induction m generalizing lo with
  | nil => rfl
  | cons e m ih =>
    obtain ⟨k, x⟩ := e
    rw [FMap.wfFrom_cons] at w
    rw [List.filter_cons]
    split_ifs
    · rw [FMap.wfFrom_cons]; exact ⟨w.1, w.2.1, ih w.2.2⟩
    · exact FMap.wfFrom_mono (by omega) (ih w.2.2)

/-- A write keeps the canonical form. -/
theorem FMap.wf_set {m : FMap α} (a : Nat) (v : α) (w : FMap.wf d m = true) : FMap.wf d (FMap.set d m a v) = true := by
  unfold FMap.set
  split_ifs with h
  · exact FMap.wfFrom_erase w
  · exact FMap.wfFrom_insert h w (Nat.zero_le a)

theorem FMap.wf_erase {m : FMap α} (a : Nat) (w : FMap.wf d m = true) : FMap.wf d (FMap.erase m a) = true := FMap.wfFrom_erase w

theorem FMap.wf_filter {m : FMap α} (p : Nat × α → Bool) (w : FMap.wf d m = true) : FMap.wf d (m.filter p) = true :=
  FMap.wfFrom_filter p w

theorem FMap.wf_upd {m : FMap α} (a : Nat) (f : α → α) (w : FMap.wf d m = true) : FMap.wf d (FMap.upd d m a f) = true :=
  FMap.wf_set a _ w

theorem FMap.find_erase_self {lo a : Nat} {m : FMap α} (w : FMap.wfFrom d lo m = true) : FMap.find (FMap.erase m a) a = none := by
  induction m generalizing lo with
  | nil => rfl
  | cons e m ih =>
    obtain ⟨k, x⟩ := e
    rw [FMap.wfFrom_cons] at w
    simp only [FMap.erase]
    split_ifs with h
    · subst h; exact FMap.find_below w.2.2 (by omega)
    · rw [FMap.find_cons, if_neg h]; exact ih w.2.2

/-- A read after a write of the same key gives the value written. -/
theorem FMap.get_set_self {m : FMap α} (a : Nat) (v : α) (w : FMap.wf d m = true) : FMap.get d (FMap.set d m a v) a = v := by
  unfold FMap.set
  split_ifs with h
  · rw [FMap.get, FMap.find_erase_self w, Option.getD_none, h]
  · simp

/-- A write leaves every other key alone. -/
@[simp] theorem FMap.get_set_ne (m : FMap α) {a b : Nat} (v : α) (h : b ≠ a) :
    FMap.get d (FMap.set d m a v) b = FMap.get d m b := by
  unfold FMap.set
  split_ifs
  · simp [FMap.get, h]
  · simp [h]

end Canonical

end Sys2Proof.Machine
end

