-- ==== Sys2Proof/Laws/Pages.lean ====
section
/-! SUPPORT. The address map: every register of a page lies where the map says, so registers of different pages never share an address. -/
namespace Sys2Proof.Machine

theorem placeOf_device (i off : Nat) (hi : i < 0x100) (ho : off < 0x1000) :
    placeOf (i * 0x1000 + off) = placeInDevice (i * 0x1000 + off) := by
  unfold placeOf; rw [if_pos (by omega)]

theorem placeOf_tile (t r : Nat) (ht : t < 16) (hr : r < 0x100000) :
    placeOf (0x1000000 + t * 0x100000 + r) = placeInTile (Fin.ofNat 16 t) r := by
  unfold placeOf
  rw [if_neg (by omega), if_neg (by omega), if_pos (by omega), show (0x1000000 + t * 0x100000 + r - 0x1000000) / 0x100000 = t by omega,
    show (0x1000000 + t * 0x100000 + r) % 0x100000 = r by omega]

theorem placeOf_outc (o off : Nat) (h : o < 512) (ho : off < 0x1000) :
    placeOf (0x2000000 + o * 0x1000 + off) = .page (.outc (Fin.ofNat 512 o)) off := by
  unfold placeOf
  rw [if_neg (by omega), if_neg (by omega), if_neg (by omega), if_pos (by omega),
    show (0x2000000 + o * 0x1000 + off - 0x2000000) / 0x1000 = o by omega, show (0x2000000 + o * 0x1000 + off) % 0x1000 = off by omega]

theorem Fin.ofNat_eq_self (n : Nat) [NeZero n] (i : Fin n) (k : Nat) (h : k = i.val) : Fin.ofNat n k = i := by
  subst h; apply Fin.ext; simp [Fin.ofNat, Nat.mod_eq_of_lt i.isLt]

/-- The map leads from a page's address back to the page. -/
theorem placeOf_regAddr (p : PageRef) (off : Nat) (h : off < pageSpan p) : placeOf (regAddr p off) = .page p off := by
  have dev : ∀ i off, i < 0x100 → off < 0x1000 → placeOf (i * 0x1000 + off) = placeInDevice (i * 0x1000 + off) := placeOf_device
  have quo : ∀ i off, off < 0x1000 → (i * 0x1000 + off) / 0x1000 = i := by intros; omega
  have rem : ∀ i off, off < 0x1000 → (i * 0x1000 + off) % 0x1000 = off := by intros; omega
  cases p with
  | outc o =>
    have := placeOf_outc o.val off o.isLt h
    rw [Fin.ofNat_eq_self 512 o _ rfl] at this
    exact this
  | lane l =>
    have e : regAddr (.lane l) off = 0x1000000 + l / 8 * 0x100000 + (l.val % 8 * 0x1000 + off) := by simp only [regAddr, pageBase]; omega
    have hs : off < 0x1000 := h
    rw [e, placeOf_tile _ _ (by omega) (by omega)]
    simp only [placeInTile, quo _ _ hs, rem _ _ hs]
    rw [if_pos (by omega), Fin.ofNat_eq_self 128 l _ (by simp [Fin.ofNat]; omega)]
  | pcs l =>
    have e : regAddr (.pcs l) off = 0x1000000 + l / 8 * 0x100000 + ((8 + l.val % 8) * 0x1000 + off) := by simp only [regAddr, pageBase]; omega
    have hs : off < 0x1000 := h
    rw [e, placeOf_tile _ _ (by omega) (by omega)]
    simp only [placeInTile, quo _ _ hs, rem _ _ hs]
    rw [if_neg (by omega), if_pos (by omega), Fin.ofNat_eq_self 128 l _ (by simp [Fin.ofNat]; omega)]
  | mac l =>
    have e : regAddr (.mac l) off = 0x1000000 + l / 8 * 0x100000 + ((16 + l.val % 8) * 0x1000 + off) := by simp only [regAddr, pageBase]; omega
    have hs : off < 0x1000 := h
    rw [e, placeOf_tile _ _ (by omega) (by omega)]
    simp only [placeInTile, quo _ _ hs, rem _ _ hs]
    rw [if_neg (by omega), if_neg (by omega), if_pos (by omega), Fin.ofNat_eq_self 128 l _ (by simp [Fin.ofNat]; omega)]
  | msec l =>
    have e : regAddr (.msec l) off = 0x1000000 + l / 8 * 0x100000 + ((24 + l.val % 8) * 0x1000 + off) := by simp only [regAddr, pageBase]; omega
    have hs : off < 0x1000 := h
    rw [e, placeOf_tile _ _ (by omega) (by omega)]
    simp only [placeInTile, quo _ _ hs, rem _ _ hs]
    rw [if_neg (by omega), if_neg (by omega), if_neg (by omega), if_pos (by omega), Fin.ofNat_eq_self 128 l _ (by simp [Fin.ofNat]; omega)]
  | siev t =>
    have e : regAddr (.siev t) off = 0x1000000 + t.val * 0x100000 + (0x20000 + off) := by simp only [regAddr, pageBase]; omega
    have hs : off < 0x4000 := h
    rw [e, placeOf_tile _ _ t.isLt (by omega)]
    simp only [placeInTile]
    rw [if_neg (by omega), if_neg (by omega), if_neg (by omega), if_neg (by omega), if_pos (by omega), Fin.ofNat_eq_self 16 t _ rfl,
      Nat.add_sub_cancel_left]
  | prsm e =>
    have q : regAddr (.prsm e) off = 0x1000000 + e / 9 * 0x100000 + ((0x30 + e.val % 9) * 0x1000 + off) := by simp only [regAddr, pageBase]; omega
    have hs : off < 0x1000 := h
    rw [q, placeOf_tile _ _ (by omega) (by omega)]
    simp only [placeInTile, quo _ _ hs, rem _ _ hs]
    rw [if_neg (by omega), if_neg (by omega), if_neg (by omega), if_neg (by omega), if_neg (by omega), if_pos (by omega),
      Fin.ofNat_eq_self 144 e _ (by simp [Fin.ofNat]; omega)]
  | comp t =>
    have e : regAddr (.comp t) off = 0x1000000 + t.val * 0x100000 + (0x40 * 0x1000 + off) := by simp only [regAddr, pageBase]; omega
    have hs : off < 0x1000 := h
    rw [e, placeOf_tile _ _ t.isLt (by omega)]
    simp only [placeInTile, quo _ _ hs, rem _ _ hs]
    repeat (first | rw [if_neg (by omega)] | rw [if_pos (by omega)])
    rw [Fin.ofNat_eq_self 16 t _ rfl, if_pos trivial]
  | scan t =>
    have e : regAddr (.scan t) off = 0x1000000 + t.val * 0x100000 + (0x41 * 0x1000 + off) := by simp only [regAddr, pageBase]; omega
    have hs : off < 0x1000 := h
    rw [e, placeOf_tile _ _ t.isLt (by omega)]
    simp only [placeInTile, quo _ _ hs, rem _ _ hs]
    repeat (first | rw [if_neg (by omega)] | rw [if_pos (by omega)])
    rw [Fin.ofNat_eq_self 16 t _ rfl, if_pos trivial]
  | frc e =>
    have q : regAddr (.frc e) off = 0x1000000 + e / 9 * 0x100000 + ((0x48 + e.val % 9) * 0x1000 + off) := by simp only [regAddr, pageBase]; omega
    have hs : off < 0x1000 := h
    rw [q, placeOf_tile _ _ (by omega) (by omega)]
    simp only [placeInTile, quo _ _ hs, rem _ _ hs]
    rw [if_neg (by omega), if_neg (by omega), if_neg (by omega), if_neg (by omega), if_neg (by omega), if_neg (by omega), if_neg (by omega),
      if_neg (by omega), if_pos (by omega), Fin.ofNat_eq_self 144 e _ (by simp [Fin.ofNat]; omega)]
  | hq =>
    have e : regAddr .hq off = (0x40 + off / 0x1000) * 0x1000 + off % 0x1000 := by simp only [regAddr, pageBase]; omega
    have hs : off < 0x10000 := h
    rw [e, dev _ _ (by omega) (by omega)]
    simp only [placeInDevice, quo _ _ (Nat.mod_lt off (by norm_num : 0x1000 > 0)), rem _ _ (Nat.mod_lt off (by norm_num : 0x1000 > 0))]
    iterate 18 rw [if_neg (by omega)]
    rw [if_pos (by omega)]
    rw [show (0x40 + off / 0x1000) * 0x1000 + off % 0x1000 - 0x40000 = off by omega]
  | rout =>
    have e : regAddr .rout off = (0x14 + off / 0x1000) * 0x1000 + off % 0x1000 := by simp only [regAddr, pageBase]; omega
    have hs : off < 0x4000 := h
    rw [e, dev _ _ (by omega) (by omega)]
    simp only [placeInDevice, quo _ _ (Nat.mod_lt off (by norm_num : 0x1000 > 0)), rem _ _ (Nat.mod_lt off (by norm_num : 0x1000 > 0))]
    iterate 16 rw [if_neg (by omega)]
    rw [if_pos (by omega)]
    rw [show (0x14 + off / 0x1000) * 0x1000 + off % 0x1000 - 0x14000 = off by omega]
  | tdmp q =>
    have e : regAddr (.tdmp q) off = (0x20 + q.val) * 0x1000 + off := by simp only [regAddr, pageBase]; omega
    have hs : off < 0x1000 := h
    rw [e, dev _ _ (by omega) hs]
    simp only [placeInDevice, quo _ _ hs, rem _ _ hs]
    repeat (first | rw [if_neg (by omega)] | rw [if_pos (by omega)])
    rw [Fin.ofNat_eq_self 16 q _ (by omega)]
  | hbmc k =>
    have e : regAddr (.hbmc k) off = (0xC + k.val) * 0x1000 + off := by simp only [regAddr, pageBase]; omega
    have hs : off < 0x1000 := h
    rw [e, dev _ _ (by omega) hs]
    simp only [placeInDevice, quo _ _ hs, rem _ _ hs]
    repeat (first | rw [if_neg (by omega)] | rw [if_pos (by omega)])
    rw [Fin.ofNat_eq_self 4 k _ (by omega)]
  | _ =>
    all_goals
      have hs : off < 0x1000 := h
      simp only [regAddr, pageBase]
      first
        | rw [show 0 + off = 0x0 * 0x1000 + off by omega, dev _ _ (by omega) hs]; simp only [placeInDevice, quo _ _ hs, rem _ _ hs]; simp
        | rw [show 0x1000 + off = 0x1 * 0x1000 + off by omega, dev _ _ (by omega) hs]; simp only [placeInDevice, quo _ _ hs, rem _ _ hs]; simp
        | rw [show 0x4000 + off = 0x4 * 0x1000 + off by omega, dev _ _ (by omega) hs]; simp only [placeInDevice, quo _ _ hs, rem _ _ hs]; simp
        | rw [show 0x5000 + off = 0x5 * 0x1000 + off by omega, dev _ _ (by omega) hs]; simp only [placeInDevice, quo _ _ hs, rem _ _ hs]; simp
        | rw [show 0x6000 + off = 0x6 * 0x1000 + off by omega, dev _ _ (by omega) hs]; simp only [placeInDevice, quo _ _ hs, rem _ _ hs]; simp
        | rw [show 0x7000 + off = 0x7 * 0x1000 + off by omega, dev _ _ (by omega) hs]; simp only [placeInDevice, quo _ _ hs, rem _ _ hs]; simp
        | rw [show 0x8000 + off = 0x8 * 0x1000 + off by omega, dev _ _ (by omega) hs]; simp only [placeInDevice, quo _ _ hs, rem _ _ hs]; simp
        | rw [show 0x9000 + off = 0x9 * 0x1000 + off by omega, dev _ _ (by omega) hs]; simp only [placeInDevice, quo _ _ hs, rem _ _ hs]; simp
        | rw [show 0xA000 + off = 0xA * 0x1000 + off by omega, dev _ _ (by omega) hs]; simp only [placeInDevice, quo _ _ hs, rem _ _ hs]; simp
        | rw [show 0xB000 + off = 0xB * 0x1000 + off by omega, dev _ _ (by omega) hs]; simp only [placeInDevice, quo _ _ hs, rem _ _ hs]; simp
        | rw [show 0x10000 + off = 0x10 * 0x1000 + off by omega, dev _ _ (by omega) hs]; simp only [placeInDevice, quo _ _ hs, rem _ _ hs]; simp
        | rw [show 0x11000 + off = 0x11 * 0x1000 + off by omega, dev _ _ (by omega) hs]; simp only [placeInDevice, quo _ _ hs, rem _ _ hs]; simp
        | rw [show 0x12000 + off = 0x12 * 0x1000 + off by omega, dev _ _ (by omega) hs]; simp only [placeInDevice, quo _ _ hs, rem _ _ hs]; simp
        | rw [show 0x13000 + off = 0x13 * 0x1000 + off by omega, dev _ _ (by omega) hs]; simp only [placeInDevice, quo _ _ hs, rem _ _ hs]; simp

/-- Registers of pages share no address: page and offset follow from it. -/
theorem regAddr_inj {p q : PageRef} {a b : Nat} (ha : a < pageSpan p) (hb : b < pageSpan q) (h : regAddr p a = regAddr q b) : p = q ∧ a = b := by
  have h₁ := placeOf_regAddr p a ha
  rw [h, placeOf_regAddr q b hb] at h₁
  injection h₁ with h₂ h₃
  exact ⟨h₂.symm, h₃.symm⟩

theorem regAddr_ne {p q : PageRef} {a b : Nat} (ha : a < pageSpan p) (hb : b < pageSpan q) (h : p ≠ q ∨ a ≠ b) :
    regAddr p a ≠ regAddr q b := fun e => by
  have := regAddr_inj ha hb e
  tauto

end Sys2Proof.Machine
end

