-- ==== Sys2Proof/Laws/Io.lean ====
section
/-! SUPPORT. Registers, events and errors: what reads after a write, and what each named operation leaves alone. -/
namespace Sys2Proof.Machine

/-! Reading after writing. -/

@[simp] theorem Io.rd_wr_self (io : Io) (a : Nat) (v : Word) : (io.wr a v).rd a = v := by simp [Io.wr, Io.rd]
@[simp] theorem Io.rd_wr_ne (io : Io) {a b : Nat} (v : Word) (h : b ≠ a) : (io.wr a v).rd b = io.rd b := by simp [Io.wr, Io.rd, h]
@[simp] theorem Io.rd_put_self (io : Io) (p : PageRef) (off : Nat) (v : Word) : (io.put p off v).rd (regAddr p off) = v := by simp [Io.put]
@[simp] theorem Io.rd_put_ne (io : Io) {p : PageRef} {off a : Nat} (v : Word) (h : a ≠ regAddr p off) : (io.put p off v).rd a = io.rd a := by
  simp [Io.put, h]
@[simp] theorem Io.reg_put_self (io : Io) (p : PageRef) (off : Nat) (v : Word) : (io.put p off v).reg p off = v := by simp [Io.reg]
@[simp] theorem Io.reg_put_off (io : Io) {p : PageRef} {a b : Nat} (v : Word) (h : b ≠ a) : (io.put p a v).reg p b = io.reg p b := by
  unfold Io.reg
  exact Io.rd_put_ne io v (by unfold regAddr; omega)
theorem Io.reg_put_page (io : Io) {p q : PageRef} {a b : Nat} (v : Word) (ha : a < pageSpan p) (hb : b < pageSpan q) (h : q ≠ p) :
    (io.put p a v).reg q b = io.reg q b := by
  unfold Io.reg
  exact Io.rd_put_ne io v (regAddr_ne hb ha (.inl h))

@[simp] theorem Io.reg_setFld_self (io : Io) (p : PageRef) (off lo len v : Nat) :
    (io.setFld p off lo len v).reg p off = setBits (io.reg p off) lo len v := by simp [Io.setFld]
@[simp] theorem Io.reg_setFld_off (io : Io) {p : PageRef} {a b : Nat} (lo len v : Nat) (h : b ≠ a) :
    (io.setFld p a lo len v).reg p b = io.reg p b := by simp [Io.setFld, h]
@[simp] theorem Io.reg_setFlag_self (io : Io) (p : PageRef) (off i : Nat) (b : Bool) :
    (io.setFlag p off i b).reg p off = setBit (io.reg p off) i b := by simp [Io.setFlag]
@[simp] theorem Io.reg_setFlag_off (io : Io) {p : PageRef} {a b : Nat} (i : Nat) (x : Bool) (h : b ≠ a) :
    (io.setFlag p a i x).reg p b = io.reg p b := by simp [Io.setFlag, h]
@[simp] theorem Io.flag_setFlag_self (io : Io) (p : PageRef) (off i : Nat) (b : Bool) (h : i < 32) : (io.setFlag p off i b).flag p off i = b := by
  simp [Io.flag, h]
@[simp] theorem Io.flag_setFlag_bit (io : Io) {p : PageRef} {off i j : Nat} (b : Bool) (h : i < 32) (hj : j ≠ i) :
    (io.setFlag p off i b).flag p off j = io.flag p off j := by simp [Io.flag, h, hj]
@[simp] theorem Io.fld_setFld_self (io : Io) (p : PageRef) (off lo len v : Nat) (h : lo + len ≤ 32) :
    (io.setFld p off lo len v).fld p off lo len = v % 2 ^ len := by simp [Io.fld, h]

/-! What an operation leaves alone. -/

theorem Io.Same.refl (T : Nat → Bool) (io : Io) : Io.Same T io io :=
  ⟨fun _ _ => rfl, rfl, rfl, rfl, rfl, rfl, rfl, rfl, [], rfl⟩

theorem Io.Same.trans {T : Nat → Bool} {x y z : Io} (h : Io.Same T x y) (k : Io.Same T y z) : Io.Same T x z :=
  ⟨fun a ha => (k.rd a ha).trans (h.rd a ha), k.now.trans h.now, k.up.trans h.up, k.shadow.trans h.shadow, k.written.trans h.written,
    k.snap.trans h.snap, k.drains.trans h.drains, k.unmasked.trans h.unmasked, by
      obtain ⟨xs, hx⟩ := h.out
      obtain ⟨ys, hy⟩ := k.out
      exact ⟨ys ++ xs, by rw [hy, hx, List.append_assoc]⟩⟩

theorem Io.Same.mono {T U : Nat → Bool} {x y : Io} (h : Io.Same T x y) (k : ∀ a, T a = true → U a = true) : Io.Same U x y :=
  { h with rd := fun a ha => h.rd a (by by_contra hc; exact absurd (k a (by simpa using hc)) (by simp [ha])) }

/-- The registers of a page outside `T`. -/
theorem Io.Same.reg {T : Nat → Bool} {x y : Io} (h : Io.Same T x y) {p : PageRef} {off : Nat} (hT : T (regAddr p off) = false) :
    y.reg p off = x.reg p off := h.rd _ hT

theorem Io.Same.wr {T : Nat → Bool} (io : Io) {a : Nat} (v : Word) (h : T a = true) : Io.Same T io (io.wr a v) :=
  ⟨fun b hb => Io.rd_wr_ne io v (by rintro rfl; simp [h] at hb), rfl, rfl, rfl, rfl, rfl, rfl, rfl, [], rfl⟩

theorem Io.Same.put {T : Nat → Bool} (io : Io) {p : PageRef} {off : Nat} (v : Word) (h : T (regAddr p off) = true) : Io.Same T io (io.put p off v) :=
  .wr io v h

theorem Io.Same.setFld {T : Nat → Bool} (io : Io) {p : PageRef} {off : Nat} (lo len v : Nat) (h : T (regAddr p off) = true) :
    Io.Same T io (io.setFld p off lo len v) := .put io _ h

theorem Io.Same.setFlag {T : Nat → Bool} (io : Io) {p : PageRef} {off : Nat} (i : Nat) (b : Bool) (h : T (regAddr p off) = true) :
    Io.Same T io (io.setFlag p off i b) := .put io _ h

theorem Io.Same.addSat {T : Nat → Bool} (io : Io) {p : PageRef} {off : Nat} (lo len n : Nat) (h : T (regAddr p off) = true) :
    Io.Same T io (io.addSat p off lo len n) := .put io _ h

theorem Io.Same.putWide {T : Nat → Bool} (io : Io) {p : PageRef} {off : Nat} (v : Nat) (h : T (regAddr p off) = true)
    (h' : T (regAddr p (off + 4)) = true) : Io.Same T io (io.putWide p off v) := (Io.Same.put io _ h).trans (.put _ _ h')

theorem Io.Same.emit {T : Nat → Bool} (io : Io) (x : Out) : Io.Same T io (io.emit x) :=
  ⟨fun _ _ => rfl, rfl, rfl, rfl, rfl, rfl, rfl, rfl, [x], rfl⟩

theorem Io.Same.pba {T : Nat → Bool} (io : Io) (l : List Nat) : Io.Same T io { io with pba := l } :=
  ⟨fun _ _ => rfl, rfl, rfl, rfl, rfl, rfl, rfl, rfl, [], rfl⟩

theorem Io.Same.took {T : Nat → Bool} (io : Io) : Io.Same T io io.took := ⟨fun _ _ => rfl, rfl, rfl, rfl, rfl, rfl, rfl, rfl, [], rfl⟩

theorem Io.Same.setFree {T : Nat → Bool} (io : Io) {p : PageRef} {off : Nat} (lo len : Nat) (h : T (regAddr p off) = true) :
    Io.Same T io (io.setFree p off lo len) := (Io.Same.setFld io lo len _ h).trans (.took _)

theorem Io.Same.foldl {T : Nat → Bool} {α : Type} {f : Io → α → Io} (h : ∀ io x, Io.Same T io (f io x)) (xs : List α) (io : Io) :
    Io.Same T io (xs.foldl f io) := by
  induction xs generalizing io with
  | nil => exact .refl _ _
  | cons x xs ih => exact (h io x).trans (ih _)

/-- As `foldl`, for members of the list alone. -/
theorem Io.Same.foldl_mem {T : Nat → Bool} {α : Type} {f : Io → α → Io} (xs : List α) (h : ∀ io, ∀ x ∈ xs, Io.Same T io (f io x)) (io : Io) :
    Io.Same T io (xs.foldl f io) := by
  induction xs generalizing io with
  | nil => exact .refl _ _
  | cons x xs ih =>
    exact (h io x (by simp)).trans (ih (fun io y hy => h io y (by simp [hy])) _)

theorem Io.Same.message {T : Nat → Bool} (io : Io) (fn vec : Nat) : Io.Same T io (io.message fn vec) := by
  unfold Io.message
  dsimp only
  split_ifs
  · exact .emit _ _
  · exact .pba _ _
  · exact .pba _ _

theorem Io.Same.edge {T : Nat → Bool} (io : Io) (s : Nat) : Io.Same T io (io.edge s) := by
  unfold Io.edge
  split
  · exact .message _ _ _
  · exact .refl _ _

theorem Io.Same.release {T : Nat → Bool} (io : Io) (s : Nat) : Io.Same T io (io.release s) := by
  unfold Io.release
  split
  · split_ifs
    · exact .refl _ _
    · exact .pba _ _
  · exact .refl _ _

/-! Events touch the page that raises them, the EVT page and the map (R37, R79, R80). -/

theorem eventPlace_evt {off : Nat} (h : off < 0x1000) : eventPlace (regAddr .evt off) = true := by
  unfold eventPlace; rw [placeOf_regAddr .evt off h]

theorem eventPlace_page {p : PageRef} {off : Nat} (h : off < pageSpan p) (hp : p ≠ .evt) : eventPlace (regAddr p off) = false := by
  unfold eventPlace; rw [placeOf_regAddr p off h]; cases p <;> simp_all

theorem eventPlace_map {s : Nat} (h : s < 2048) : eventPlace (evtMapAddr s) = true := by
  unfold eventPlace evtMapAddr
  have e : 0x2000 + 4 * s = (2 + s / 1024) * 0x1000 + 4 * (s % 1024) := by omega
  have p : placeOf (0x2000 + 4 * s) = .evtMap s := by
    rw [e, placeOf_device _ _ (by omega) (by omega)]
    unfold placeInDevice
    dsimp only
    rw [show ((2 + s / 1024) * 0x1000 + 4 * (s % 1024)) / 0x1000 = 2 + s / 1024 by omega, if_neg (by omega), if_neg (by omega), if_pos (by omega),
      show ((2 + s / 1024) * 0x1000 + 4 * (s % 1024) - 0x2000) / 4 = s by omega]
  rw [p]

theorem eventSource_lt (p : PageRef) (b s : Nat) (h : eventSource p b = some s) : s < 2048 := by
  cases p <;> simp only [eventSource, eventSource.tdmpSource] at h <;> (try split_ifs at h) <;> simp_all <;> omega

theorem pageSources_lt (p : PageRef) (s : Nat) (h : s ∈ pageSources p) : s < 2048 := by
  unfold pageSources at h
  rw [List.mem_eraseDups, List.mem_filterMap] at h
  obtain ⟨b, _, hb⟩ := h
  exact eventSource_lt p b s hb

theorem Io.Same.setSource {T : Nat → Bool} (hT : ∀ a, eventPlace a = true → T a = true) (io : Io) {s : Nat} (h : s < 2048) (l : Bool) :
    Io.Same T io (io.setSource s l) := by
  unfold Io.setSource
  split_ifs
  · exact .refl _ _
  · exact ((Io.Same.setFlag io _ _ (hT _ (eventPlace_evt (by omega)))).trans (.wr _ _ (hT _ (eventPlace_map h)))).trans (.edge _ _)
  · exact ((Io.Same.setFlag io _ _ (hT _ (eventPlace_evt (by omega)))).trans (.wr _ _ (hT _ (eventPlace_map h)))).trans (.release _ _)

theorem Io.Same.refresh {T : Nat → Bool} (hT : ∀ a, eventPlace a = true → T a = true) (io : Io) (p : PageRef) : Io.Same T io (io.refresh p) :=
  .foldl_mem _ (fun io s hs => .setSource hT io (pageSources_lt p s hs) _) _

theorem Io.Same.raise {T : Nat → Bool} (hT : ∀ a, eventPlace a = true → T a = true) (io : Io) {p : PageRef} (b : Nat)
    (h : T (regAddr p Reg.EVT_PEND) = true) : Io.Same T io (io.raise p b) :=
  (Io.Same.setFlag io _ _ h).trans (.refresh hT _ _)

theorem Io.Same.recordErr {T : Nat → Bool} (hT : ∀ a, eventPlace a = true → T a = true) (io : Io) {p : PageRef} (code info : Nat)
    (h : T (regAddr p Reg.EVT_PEND) = true) (hc : T (regAddr p Reg.ERR_CODE) = true) (hi : T (regAddr p Reg.ERR_INFO) = true) :
    Io.Same T io (io.recordErr p code info) :=
  ((Io.Same.put io _ hc).trans (.put _ _ hi)).trans (.raise hT _ _ h)

theorem Io.Same.ignored {T : Nat → Bool} (hT : ∀ a, eventPlace a = true → T a = true) (io : Io) {p : PageRef} (off reason : Nat)
    (h : T (regAddr p Reg.EVT_PEND) = true) (hc : T (regAddr p Reg.ERR_CODE) = true) (hi : T (regAddr p Reg.ERR_INFO) = true) :
    Io.Same T io (io.ignored p off reason) := .recordErr hT io _ _ h hc hi

theorem regAddr_eq_iff {p : PageRef} {a b : Nat} : regAddr p a = regAddr p b ↔ a = b := by unfold regAddr; omega

theorem Io.rd_regAddr (io : Io) (p : PageRef) (off : Nat) : io.rd (regAddr p off) = io.reg p off := rfl

/-! The header of every page, the EVT page's included, is left alone by the sources that follow. -/

theorem Io.reg_setSource (io : Io) (q : PageRef) (off s : Nat) (l : Bool) (h : off < 0x100) (hs : s < 2048) :
    (io.setSource s l).reg q off = io.reg q off := by
  by_cases hq : q = .evt
  · subst hq
    have h₁ : (fun a => !decide (a = regAddr .evt off)) (regAddr .evt (0x100 + 4 * (s / 32))) = true := by simp [regAddr_eq_iff]; omega
    have h₂ : (fun a => !decide (a = regAddr .evt off)) (evtMapAddr s) = true := by
      have : evtMapAddr s ≠ regAddr .evt off := by
        show 0x2000 + 4 * s ≠ 0x1000 + off
        omega
      simpa using this
    have k : Io.Same (fun a => !decide (a = regAddr .evt off)) io (io.setSource s l) := by
      unfold Io.setSource
      split_ifs
      · exact .refl _ _
      · exact ((Io.Same.setFlag io _ _ h₁).trans (.wr _ _ h₂)).trans (.edge _ _)
      · exact ((Io.Same.setFlag io _ _ h₁).trans (.wr _ _ h₂)).trans (.release _ _)
    exact k.rd _ (by simp)
  · have span : off < pageSpan q := by cases q <;> simp [pageSpan] <;> omega
    exact (Io.Same.setSource (T := eventPlace) (fun _ h => h) io hs l).rd _ (eventPlace_page span hq)

theorem Io.reg_refresh_fold (p q : PageRef) (off : Nat) (h : off < 0x100) (xs : List Nat) (io : Io) (hx : ∀ s ∈ xs, s < 2048) :
    (xs.foldl (fun io s => io.setSource s (io.sourceLevel p s)) io).reg q off = io.reg q off := by
  induction xs generalizing io with
  | nil => rfl
  | cons x xs ih =>
    rw [List.foldl_cons, ih _ (fun s hs => hx s (by simp [hs])), Io.reg_setSource _ _ _ _ _ h (hx x (by simp))]

@[simp] theorem Io.reg_refresh (io : Io) (p q : PageRef) {off : Nat} (h : off < 0x100) : (io.refresh p).reg q off = io.reg q off :=
  Io.reg_refresh_fold p q off h _ io (pageSources_lt p)

theorem Io.reg_refresh_page (io : Io) (p q : PageRef) {off : Nat} (h : off < pageSpan q) (hq : q ≠ .evt) : (io.refresh p).reg q off = io.reg q off :=
  (Io.Same.refresh (T := eventPlace) (fun _ h => h) io p).rd _ (eventPlace_page h hq)

/-- What a raised event leaves in EVT_PEND. -/
@[simp] theorem Io.reg_raise_pend (io : Io) (p : PageRef) (b : Nat) :
    (io.raise p b).reg p Reg.EVT_PEND = setBit (io.reg p Reg.EVT_PEND) b true := by
  unfold Io.raise
  rw [Io.reg_refresh _ _ _ (by decide), Io.reg_setFlag_self]

@[simp] theorem Io.reg_raise_off (io : Io) (p : PageRef) (b : Nat) {off : Nat} (h : off < 0x100) (hn : off ≠ Reg.EVT_PEND) :
    (io.raise p b).reg p off = io.reg p off := by simp [Io.raise, h, hn]

/-- A raised event changes EVT_PEND of its page, the EVT page and the map alone. -/
theorem Io.reg_raise (io : Io) {p q : PageRef} (b : Nat) {off : Nat} (hs : off < pageSpan q) (hq : q ≠ .evt) (h : q ≠ p ∨ off ≠ Reg.EVT_PEND) :
    (io.raise p b).reg q off = io.reg q off := by
  have hp : Reg.EVT_PEND < pageSpan p := by cases p <;> simp [pageSpan, Reg.EVT_PEND]
  unfold Io.raise
  rw [Io.reg_refresh_page _ _ _ hs hq]
  exact Io.rd_put_ne _ _ (regAddr_ne hs hp h)

theorem Io.reg_setFld_page (io : Io) {p q : PageRef} {a b : Nat} (lo len v : Nat) (ha : a < pageSpan p) (hb : b < pageSpan q) (h : q ≠ p) :
    (io.setFld p a lo len v).reg q b = io.reg q b := Io.reg_put_page io _ ha hb h

theorem Io.reg_setFlag_page (io : Io) {p q : PageRef} {a b : Nat} (i : Nat) (x : Bool) (ha : a < pageSpan p) (hb : b < pageSpan q) (h : q ≠ p) :
    (io.setFlag p a i x).reg q b = io.reg q b := Io.reg_put_page io _ ha hb h

theorem bits_of (x lo len : Nat) (h : x < 2 ^ 32) : bits (Word.of x) lo len = x / 2 ^ lo % 2 ^ len := by
  unfold bits Word.of
  rw [BitVec.toNat_ofNat, Nat.mod_eq_of_lt h]

/-- A wide value that has been written reads back (R4). -/
theorem Io.wide_putWide (io : Io) (p : PageRef) (off v : Nat) : (io.putWide p off v).wide p off = v % 2 ^ 64 := by
  unfold Io.wide Io.putWide
  rw [Io.reg_put_off _ _ (by omega), Io.reg_put_self, Io.reg_put_self]
  unfold Word.of
  rw [BitVec.toNat_ofNat, BitVec.toNat_ofNat]
  omega

@[simp] theorem Io.reg_putWide_off (io : Io) (p : PageRef) (off v : Nat) {b : Nat} (h : b ≠ off) (h' : b ≠ off + 4) :
    (io.putWide p off v).reg p b = io.reg p b := by
  unfold Io.putWide
  rw [Io.reg_put_off _ _ h', Io.reg_put_off _ _ h]

/-- The record of an error (R34, R37): CODE, the detail and the event. -/
@[simp] theorem Io.reg_recordErr_info (io : Io) (p : PageRef) (code info : Nat) : (io.recordErr p code info).reg p Reg.ERR_INFO = Word.of info := by
  unfold Io.recordErr
  rw [Io.reg_raise_off _ _ _ (by decide) (by decide)]; simp

@[simp] theorem Io.reg_recordErr_pend (io : Io) (p : PageRef) (code info : Nat) :
    (io.recordErr p code info).reg p Reg.EVT_PEND = setBit (io.reg p Reg.EVT_PEND) 0 true := by
  unfold Io.recordErr
  rw [Io.reg_raise_pend, Io.reg_put_off _ _ (by decide), Io.reg_put_off _ _ (by decide)]

theorem Io.reg_recordErr_code (io : Io) (p : PageRef) (code info : Nat) :
    (io.recordErr p code info).reg p Reg.ERR_CODE = Word.of (code + sat 8 (io.fld p Reg.ERR_CODE 16 8 + 1) * 2 ^ 16) := by
  unfold Io.recordErr
  rw [Io.reg_raise_off _ _ _ (by decide) (by decide), Io.reg_put_off _ _ (by decide), Io.reg_put_self]

@[simp] theorem Io.reg_recordErr_off (io : Io) (p : PageRef) (code info : Nat) {off : Nat} (h : off < 0x100) (h₁ : off ≠ Reg.EVT_PEND)
    (h₂ : off ≠ Reg.ERR_CODE) (h₃ : off ≠ Reg.ERR_INFO) : (io.recordErr p code info).reg p off = io.reg p off := by
  unfold Io.recordErr
  rw [Io.reg_raise_off _ _ _ h h₁, Io.reg_put_off _ _ h₃, Io.reg_put_off _ _ h₂]

theorem Io.code_recordErr (io : Io) (p : PageRef) {code : Nat} (info : Nat) (h : code < 2 ^ 16) :
    (io.recordErr p code info).fld p Reg.ERR_CODE 0 16 = code := by
  unfold Io.fld
  have : sat 8 (bits (io.reg p Reg.ERR_CODE) 16 8 + 1) ≤ 255 := by unfold sat; omega
  rw [Io.reg_recordErr_code, bits_of _ _ _ (by unfold Io.fld; omega)]
  unfold Io.fld
  omega

theorem codeIgnored_lt (p : PageRef) : codeIgnored p < 2 ^ 16 := by cases p <;> simp [codeIgnored, errClass]

end Sys2Proof.Machine
end

