-- ==== Sys2Proof/Laws/State.lean ====
section
/-! SUPPORT. One lemma for each field and each update of the state, so that no proof unfolds a record update. -/
namespace Sys2Proof.Machine
variable (d : Dev) (io : Io)

/-! The part. -/
@[simp] theorem Dev.onIo_io (f : Io → Io) : (d.onIo f).io = f d.io := rfl
@[simp] theorem Dev.onIo_ser (f : Io → Io) : (d.onIo f).ser = d.ser := rfl
@[simp] theorem Dev.onIo_ptp (f : Io → Io) : (d.onIo f).ptp = d.ptp := rfl
@[simp] theorem Dev.onIo_st (f : Io → Io) : (d.onIo f).st = d.st := rfl
@[simp] theorem Dev.onIo_com (f : Io → Io) : (d.onIo f).com = d.com := rfl
@[simp] theorem Dev.onIo_hq (f : Io → Io) : (d.onIo f).hq = d.hq := rfl
@[simp] theorem Dev.onIo_sv (f : Io → Io) : (d.onIo f).sv = d.sv := rfl
@[simp] theorem Dev.onIo_rt (f : Io → Io) : (d.onIo f).rt = d.rt := rfl
@[simp] theorem Dev.onIo_sc (f : Io → Io) : (d.onIo f).sc = d.sc := rfl
@[simp] theorem Dev.onIo_aud (f : Io → Io) : (d.onIo f).aud = d.aud := rfl
@[simp] theorem Dev.onIo_tdm (f : Io → Io) : (d.onIo f).tdm = d.tdm := rfl
@[simp] theorem Dev.onIo_therm (f : Io → Io) : (d.onIo f).therm = d.therm := rfl
@[simp] theorem Dev.onIo_power (f : Io → Io) : (d.onIo f).power = d.power := rfl
@[simp] theorem Dev.onIo_lard (f : Io → Io) : (d.onIo f).lard = d.lard := rfl
@[simp] theorem Dev.onIo_nvs (f : Io → Io) : (d.onIo f).nvs = d.nvs := rfl
@[simp] theorem Dev.onIo_keys (f : Io → Io) : (d.onIo f).keys = d.keys := rfl
@[simp] theorem Dev.onIo_boot (f : Io → Io) : (d.onIo f).boot = d.boot := rfl
@[simp] theorem Dev.tick_io (dt : Nat) : (d.tick dt).io = d.io.tick dt := rfl
@[simp] theorem Dev.tick_ser (dt : Nat) : (d.tick dt).ser = d.ser := rfl
@[simp] theorem Dev.tick_ptp (dt : Nat) : (d.tick dt).ptp = d.ptp := rfl
@[simp] theorem Dev.tick_st (dt : Nat) : (d.tick dt).st = d.st := rfl
@[simp] theorem Dev.tick_com (dt : Nat) : (d.tick dt).com = d.com := rfl
@[simp] theorem Dev.tick_hq (dt : Nat) : (d.tick dt).hq = d.hq := rfl
@[simp] theorem Dev.tick_sv (dt : Nat) : (d.tick dt).sv = d.sv := rfl
@[simp] theorem Dev.tick_rt (dt : Nat) : (d.tick dt).rt = d.rt := rfl
@[simp] theorem Dev.tick_sc (dt : Nat) : (d.tick dt).sc = d.sc := rfl
@[simp] theorem Dev.tick_aud (dt : Nat) : (d.tick dt).aud = d.aud := rfl
@[simp] theorem Dev.tick_tdm (dt : Nat) : (d.tick dt).tdm = d.tdm := rfl
@[simp] theorem Dev.tick_therm (dt : Nat) : (d.tick dt).therm = d.therm := rfl
@[simp] theorem Dev.tick_power (dt : Nat) : (d.tick dt).power = d.power := rfl
@[simp] theorem Dev.tick_lard (dt : Nat) : (d.tick dt).lard = d.lard := rfl
@[simp] theorem Dev.tick_nvs (dt : Nat) : (d.tick dt).nvs = d.nvs := rfl
@[simp] theorem Dev.tick_keys (dt : Nat) : (d.tick dt).keys = d.keys := rfl
@[simp] theorem Dev.tick_boot (dt : Nat) : (d.tick dt).boot = d.boot := rfl
@[simp] theorem Dev.onSer_io (f : Io → Ser → Io × Ser) : (d.onSer f).io = (f d.io d.ser).1 := rfl
@[simp] theorem Dev.onSer_ser (f : Io → Ser → Io × Ser) : (d.onSer f).ser = (f d.io d.ser).2 := rfl
@[simp] theorem Dev.onSer_ptp (f : Io → Ser → Io × Ser) : (d.onSer f).ptp = d.ptp := rfl
@[simp] theorem Dev.onSer_st (f : Io → Ser → Io × Ser) : (d.onSer f).st = d.st := rfl
@[simp] theorem Dev.onSer_com (f : Io → Ser → Io × Ser) : (d.onSer f).com = d.com := rfl
@[simp] theorem Dev.onSer_hq (f : Io → Ser → Io × Ser) : (d.onSer f).hq = d.hq := rfl
@[simp] theorem Dev.onSer_sv (f : Io → Ser → Io × Ser) : (d.onSer f).sv = d.sv := rfl
@[simp] theorem Dev.onSer_rt (f : Io → Ser → Io × Ser) : (d.onSer f).rt = d.rt := rfl
@[simp] theorem Dev.onSer_sc (f : Io → Ser → Io × Ser) : (d.onSer f).sc = d.sc := rfl
@[simp] theorem Dev.onSer_aud (f : Io → Ser → Io × Ser) : (d.onSer f).aud = d.aud := rfl
@[simp] theorem Dev.onSer_tdm (f : Io → Ser → Io × Ser) : (d.onSer f).tdm = d.tdm := rfl
@[simp] theorem Dev.onSer_therm (f : Io → Ser → Io × Ser) : (d.onSer f).therm = d.therm := rfl
@[simp] theorem Dev.onSer_power (f : Io → Ser → Io × Ser) : (d.onSer f).power = d.power := rfl
@[simp] theorem Dev.onSer_lard (f : Io → Ser → Io × Ser) : (d.onSer f).lard = d.lard := rfl
@[simp] theorem Dev.onSer_nvs (f : Io → Ser → Io × Ser) : (d.onSer f).nvs = d.nvs := rfl
@[simp] theorem Dev.onSer_keys (f : Io → Ser → Io × Ser) : (d.onSer f).keys = d.keys := rfl
@[simp] theorem Dev.onSer_boot (f : Io → Ser → Io × Ser) : (d.onSer f).boot = d.boot := rfl
@[simp] theorem Dev.onPtp_io (f : Io → Ptp → Io × Ptp) : (d.onPtp f).io = (f d.io d.ptp).1 := rfl
@[simp] theorem Dev.onPtp_ser (f : Io → Ptp → Io × Ptp) : (d.onPtp f).ser = d.ser := rfl
@[simp] theorem Dev.onPtp_ptp (f : Io → Ptp → Io × Ptp) : (d.onPtp f).ptp = (f d.io d.ptp).2 := rfl
@[simp] theorem Dev.onPtp_st (f : Io → Ptp → Io × Ptp) : (d.onPtp f).st = d.st := rfl
@[simp] theorem Dev.onPtp_com (f : Io → Ptp → Io × Ptp) : (d.onPtp f).com = d.com := rfl
@[simp] theorem Dev.onPtp_hq (f : Io → Ptp → Io × Ptp) : (d.onPtp f).hq = d.hq := rfl
@[simp] theorem Dev.onPtp_sv (f : Io → Ptp → Io × Ptp) : (d.onPtp f).sv = d.sv := rfl
@[simp] theorem Dev.onPtp_rt (f : Io → Ptp → Io × Ptp) : (d.onPtp f).rt = d.rt := rfl
@[simp] theorem Dev.onPtp_sc (f : Io → Ptp → Io × Ptp) : (d.onPtp f).sc = d.sc := rfl
@[simp] theorem Dev.onPtp_aud (f : Io → Ptp → Io × Ptp) : (d.onPtp f).aud = d.aud := rfl
@[simp] theorem Dev.onPtp_tdm (f : Io → Ptp → Io × Ptp) : (d.onPtp f).tdm = d.tdm := rfl
@[simp] theorem Dev.onPtp_therm (f : Io → Ptp → Io × Ptp) : (d.onPtp f).therm = d.therm := rfl
@[simp] theorem Dev.onPtp_power (f : Io → Ptp → Io × Ptp) : (d.onPtp f).power = d.power := rfl
@[simp] theorem Dev.onPtp_lard (f : Io → Ptp → Io × Ptp) : (d.onPtp f).lard = d.lard := rfl
@[simp] theorem Dev.onPtp_nvs (f : Io → Ptp → Io × Ptp) : (d.onPtp f).nvs = d.nvs := rfl
@[simp] theorem Dev.onPtp_keys (f : Io → Ptp → Io × Ptp) : (d.onPtp f).keys = d.keys := rfl
@[simp] theorem Dev.onPtp_boot (f : Io → Ptp → Io × Ptp) : (d.onPtp f).boot = d.boot := rfl
@[simp] theorem Dev.onSt_io (f : Io → Stores → Io × Stores) : (d.onSt f).io = (f d.io d.st).1 := rfl
@[simp] theorem Dev.onSt_ser (f : Io → Stores → Io × Stores) : (d.onSt f).ser = d.ser := rfl
@[simp] theorem Dev.onSt_ptp (f : Io → Stores → Io × Stores) : (d.onSt f).ptp = d.ptp := rfl
@[simp] theorem Dev.onSt_st (f : Io → Stores → Io × Stores) : (d.onSt f).st = (f d.io d.st).2 := rfl
@[simp] theorem Dev.onSt_com (f : Io → Stores → Io × Stores) : (d.onSt f).com = d.com := rfl
@[simp] theorem Dev.onSt_hq (f : Io → Stores → Io × Stores) : (d.onSt f).hq = d.hq := rfl
@[simp] theorem Dev.onSt_sv (f : Io → Stores → Io × Stores) : (d.onSt f).sv = d.sv := rfl
@[simp] theorem Dev.onSt_rt (f : Io → Stores → Io × Stores) : (d.onSt f).rt = d.rt := rfl
@[simp] theorem Dev.onSt_sc (f : Io → Stores → Io × Stores) : (d.onSt f).sc = d.sc := rfl
@[simp] theorem Dev.onSt_aud (f : Io → Stores → Io × Stores) : (d.onSt f).aud = d.aud := rfl
@[simp] theorem Dev.onSt_tdm (f : Io → Stores → Io × Stores) : (d.onSt f).tdm = d.tdm := rfl
@[simp] theorem Dev.onSt_therm (f : Io → Stores → Io × Stores) : (d.onSt f).therm = d.therm := rfl
@[simp] theorem Dev.onSt_power (f : Io → Stores → Io × Stores) : (d.onSt f).power = d.power := rfl
@[simp] theorem Dev.onSt_lard (f : Io → Stores → Io × Stores) : (d.onSt f).lard = d.lard := rfl
@[simp] theorem Dev.onSt_nvs (f : Io → Stores → Io × Stores) : (d.onSt f).nvs = d.nvs := rfl
@[simp] theorem Dev.onSt_keys (f : Io → Stores → Io × Stores) : (d.onSt f).keys = d.keys := rfl
@[simp] theorem Dev.onSt_boot (f : Io → Stores → Io × Stores) : (d.onSt f).boot = d.boot := rfl
@[simp] theorem Dev.onHq_io (f : Io → Queues → Io × Queues) : (d.onHq f).io = (f d.io d.hq).1 := rfl
@[simp] theorem Dev.onHq_ser (f : Io → Queues → Io × Queues) : (d.onHq f).ser = d.ser := rfl
@[simp] theorem Dev.onHq_ptp (f : Io → Queues → Io × Queues) : (d.onHq f).ptp = d.ptp := rfl
@[simp] theorem Dev.onHq_st (f : Io → Queues → Io × Queues) : (d.onHq f).st = d.st := rfl
@[simp] theorem Dev.onHq_com (f : Io → Queues → Io × Queues) : (d.onHq f).com = d.com := rfl
@[simp] theorem Dev.onHq_hq (f : Io → Queues → Io × Queues) : (d.onHq f).hq = (f d.io d.hq).2 := rfl
@[simp] theorem Dev.onHq_sv (f : Io → Queues → Io × Queues) : (d.onHq f).sv = d.sv := rfl
@[simp] theorem Dev.onHq_rt (f : Io → Queues → Io × Queues) : (d.onHq f).rt = d.rt := rfl
@[simp] theorem Dev.onHq_sc (f : Io → Queues → Io × Queues) : (d.onHq f).sc = d.sc := rfl
@[simp] theorem Dev.onHq_aud (f : Io → Queues → Io × Queues) : (d.onHq f).aud = d.aud := rfl
@[simp] theorem Dev.onHq_tdm (f : Io → Queues → Io × Queues) : (d.onHq f).tdm = d.tdm := rfl
@[simp] theorem Dev.onHq_therm (f : Io → Queues → Io × Queues) : (d.onHq f).therm = d.therm := rfl
@[simp] theorem Dev.onHq_power (f : Io → Queues → Io × Queues) : (d.onHq f).power = d.power := rfl
@[simp] theorem Dev.onHq_lard (f : Io → Queues → Io × Queues) : (d.onHq f).lard = d.lard := rfl
@[simp] theorem Dev.onHq_nvs (f : Io → Queues → Io × Queues) : (d.onHq f).nvs = d.nvs := rfl
@[simp] theorem Dev.onHq_keys (f : Io → Queues → Io × Queues) : (d.onHq f).keys = d.keys := rfl
@[simp] theorem Dev.onHq_boot (f : Io → Queues → Io × Queues) : (d.onHq f).boot = d.boot := rfl
@[simp] theorem Dev.onSv_io (f : Io → Sieve → Io × Sieve) : (d.onSv f).io = (f d.io d.sv).1 := rfl
@[simp] theorem Dev.onSv_ser (f : Io → Sieve → Io × Sieve) : (d.onSv f).ser = d.ser := rfl
@[simp] theorem Dev.onSv_ptp (f : Io → Sieve → Io × Sieve) : (d.onSv f).ptp = d.ptp := rfl
@[simp] theorem Dev.onSv_st (f : Io → Sieve → Io × Sieve) : (d.onSv f).st = d.st := rfl
@[simp] theorem Dev.onSv_com (f : Io → Sieve → Io × Sieve) : (d.onSv f).com = d.com := rfl
@[simp] theorem Dev.onSv_hq (f : Io → Sieve → Io × Sieve) : (d.onSv f).hq = d.hq := rfl
@[simp] theorem Dev.onSv_sv (f : Io → Sieve → Io × Sieve) : (d.onSv f).sv = (f d.io d.sv).2 := rfl
@[simp] theorem Dev.onSv_rt (f : Io → Sieve → Io × Sieve) : (d.onSv f).rt = d.rt := rfl
@[simp] theorem Dev.onSv_sc (f : Io → Sieve → Io × Sieve) : (d.onSv f).sc = d.sc := rfl
@[simp] theorem Dev.onSv_aud (f : Io → Sieve → Io × Sieve) : (d.onSv f).aud = d.aud := rfl
@[simp] theorem Dev.onSv_tdm (f : Io → Sieve → Io × Sieve) : (d.onSv f).tdm = d.tdm := rfl
@[simp] theorem Dev.onSv_therm (f : Io → Sieve → Io × Sieve) : (d.onSv f).therm = d.therm := rfl
@[simp] theorem Dev.onSv_power (f : Io → Sieve → Io × Sieve) : (d.onSv f).power = d.power := rfl
@[simp] theorem Dev.onSv_lard (f : Io → Sieve → Io × Sieve) : (d.onSv f).lard = d.lard := rfl
@[simp] theorem Dev.onSv_nvs (f : Io → Sieve → Io × Sieve) : (d.onSv f).nvs = d.nvs := rfl
@[simp] theorem Dev.onSv_keys (f : Io → Sieve → Io × Sieve) : (d.onSv f).keys = d.keys := rfl
@[simp] theorem Dev.onSv_boot (f : Io → Sieve → Io × Sieve) : (d.onSv f).boot = d.boot := rfl
@[simp] theorem Dev.onTherm_io (f : Io → Thermal → Io × Thermal) : (d.onTherm f).io = (f d.io d.therm).1 := rfl
@[simp] theorem Dev.onTherm_ser (f : Io → Thermal → Io × Thermal) : (d.onTherm f).ser = d.ser := rfl
@[simp] theorem Dev.onTherm_ptp (f : Io → Thermal → Io × Thermal) : (d.onTherm f).ptp = d.ptp := rfl
@[simp] theorem Dev.onTherm_st (f : Io → Thermal → Io × Thermal) : (d.onTherm f).st = d.st := rfl
@[simp] theorem Dev.onTherm_com (f : Io → Thermal → Io × Thermal) : (d.onTherm f).com = d.com := rfl
@[simp] theorem Dev.onTherm_hq (f : Io → Thermal → Io × Thermal) : (d.onTherm f).hq = d.hq := rfl
@[simp] theorem Dev.onTherm_sv (f : Io → Thermal → Io × Thermal) : (d.onTherm f).sv = d.sv := rfl
@[simp] theorem Dev.onTherm_rt (f : Io → Thermal → Io × Thermal) : (d.onTherm f).rt = d.rt := rfl
@[simp] theorem Dev.onTherm_sc (f : Io → Thermal → Io × Thermal) : (d.onTherm f).sc = d.sc := rfl
@[simp] theorem Dev.onTherm_aud (f : Io → Thermal → Io × Thermal) : (d.onTherm f).aud = d.aud := rfl
@[simp] theorem Dev.onTherm_tdm (f : Io → Thermal → Io × Thermal) : (d.onTherm f).tdm = d.tdm := rfl
@[simp] theorem Dev.onTherm_therm (f : Io → Thermal → Io × Thermal) : (d.onTherm f).therm = (f d.io d.therm).2 := rfl
@[simp] theorem Dev.onTherm_power (f : Io → Thermal → Io × Thermal) : (d.onTherm f).power = d.power := rfl
@[simp] theorem Dev.onTherm_lard (f : Io → Thermal → Io × Thermal) : (d.onTherm f).lard = d.lard := rfl
@[simp] theorem Dev.onTherm_nvs (f : Io → Thermal → Io × Thermal) : (d.onTherm f).nvs = d.nvs := rfl
@[simp] theorem Dev.onTherm_keys (f : Io → Thermal → Io × Thermal) : (d.onTherm f).keys = d.keys := rfl
@[simp] theorem Dev.onTherm_boot (f : Io → Thermal → Io × Thermal) : (d.onTherm f).boot = d.boot := rfl
@[simp] theorem Dev.onPower_io (f : Io → Power → Io × Power) : (d.onPower f).io = (f d.io d.power).1 := rfl
@[simp] theorem Dev.onPower_ser (f : Io → Power → Io × Power) : (d.onPower f).ser = d.ser := rfl
@[simp] theorem Dev.onPower_ptp (f : Io → Power → Io × Power) : (d.onPower f).ptp = d.ptp := rfl
@[simp] theorem Dev.onPower_st (f : Io → Power → Io × Power) : (d.onPower f).st = d.st := rfl
@[simp] theorem Dev.onPower_com (f : Io → Power → Io × Power) : (d.onPower f).com = d.com := rfl
@[simp] theorem Dev.onPower_hq (f : Io → Power → Io × Power) : (d.onPower f).hq = d.hq := rfl
@[simp] theorem Dev.onPower_sv (f : Io → Power → Io × Power) : (d.onPower f).sv = d.sv := rfl
@[simp] theorem Dev.onPower_rt (f : Io → Power → Io × Power) : (d.onPower f).rt = d.rt := rfl
@[simp] theorem Dev.onPower_sc (f : Io → Power → Io × Power) : (d.onPower f).sc = d.sc := rfl
@[simp] theorem Dev.onPower_aud (f : Io → Power → Io × Power) : (d.onPower f).aud = d.aud := rfl
@[simp] theorem Dev.onPower_tdm (f : Io → Power → Io × Power) : (d.onPower f).tdm = d.tdm := rfl
@[simp] theorem Dev.onPower_therm (f : Io → Power → Io × Power) : (d.onPower f).therm = d.therm := rfl
@[simp] theorem Dev.onPower_power (f : Io → Power → Io × Power) : (d.onPower f).power = (f d.io d.power).2 := rfl
@[simp] theorem Dev.onPower_lard (f : Io → Power → Io × Power) : (d.onPower f).lard = d.lard := rfl
@[simp] theorem Dev.onPower_nvs (f : Io → Power → Io × Power) : (d.onPower f).nvs = d.nvs := rfl
@[simp] theorem Dev.onPower_keys (f : Io → Power → Io × Power) : (d.onPower f).keys = d.keys := rfl
@[simp] theorem Dev.onPower_boot (f : Io → Power → Io × Power) : (d.onPower f).boot = d.boot := rfl
@[simp] theorem Dev.onAud_io (f : Io → Audio → Io × Audio) : (d.onAud f).io = (f d.io d.aud).1 := rfl
@[simp] theorem Dev.onAud_ser (f : Io → Audio → Io × Audio) : (d.onAud f).ser = d.ser := rfl
@[simp] theorem Dev.onAud_ptp (f : Io → Audio → Io × Audio) : (d.onAud f).ptp = d.ptp := rfl
@[simp] theorem Dev.onAud_st (f : Io → Audio → Io × Audio) : (d.onAud f).st = d.st := rfl
@[simp] theorem Dev.onAud_com (f : Io → Audio → Io × Audio) : (d.onAud f).com = d.com := rfl
@[simp] theorem Dev.onAud_hq (f : Io → Audio → Io × Audio) : (d.onAud f).hq = d.hq := rfl
@[simp] theorem Dev.onAud_sv (f : Io → Audio → Io × Audio) : (d.onAud f).sv = d.sv := rfl
@[simp] theorem Dev.onAud_rt (f : Io → Audio → Io × Audio) : (d.onAud f).rt = d.rt := rfl
@[simp] theorem Dev.onAud_sc (f : Io → Audio → Io × Audio) : (d.onAud f).sc = d.sc := rfl
@[simp] theorem Dev.onAud_aud (f : Io → Audio → Io × Audio) : (d.onAud f).aud = (f d.io d.aud).2 := rfl
@[simp] theorem Dev.onAud_tdm (f : Io → Audio → Io × Audio) : (d.onAud f).tdm = d.tdm := rfl
@[simp] theorem Dev.onAud_therm (f : Io → Audio → Io × Audio) : (d.onAud f).therm = d.therm := rfl
@[simp] theorem Dev.onAud_power (f : Io → Audio → Io × Audio) : (d.onAud f).power = d.power := rfl
@[simp] theorem Dev.onAud_lard (f : Io → Audio → Io × Audio) : (d.onAud f).lard = d.lard := rfl
@[simp] theorem Dev.onAud_nvs (f : Io → Audio → Io × Audio) : (d.onAud f).nvs = d.nvs := rfl
@[simp] theorem Dev.onAud_keys (f : Io → Audio → Io × Audio) : (d.onAud f).keys = d.keys := rfl
@[simp] theorem Dev.onAud_boot (f : Io → Audio → Io × Audio) : (d.onAud f).boot = d.boot := rfl
@[simp] theorem Dev.onTdm_io (f : Io → Tdm → Io × Tdm) : (d.onTdm f).io = (f d.io d.tdm).1 := rfl
@[simp] theorem Dev.onTdm_ser (f : Io → Tdm → Io × Tdm) : (d.onTdm f).ser = d.ser := rfl
@[simp] theorem Dev.onTdm_ptp (f : Io → Tdm → Io × Tdm) : (d.onTdm f).ptp = d.ptp := rfl
@[simp] theorem Dev.onTdm_st (f : Io → Tdm → Io × Tdm) : (d.onTdm f).st = d.st := rfl
@[simp] theorem Dev.onTdm_com (f : Io → Tdm → Io × Tdm) : (d.onTdm f).com = d.com := rfl
@[simp] theorem Dev.onTdm_hq (f : Io → Tdm → Io × Tdm) : (d.onTdm f).hq = d.hq := rfl
@[simp] theorem Dev.onTdm_sv (f : Io → Tdm → Io × Tdm) : (d.onTdm f).sv = d.sv := rfl
@[simp] theorem Dev.onTdm_rt (f : Io → Tdm → Io × Tdm) : (d.onTdm f).rt = d.rt := rfl
@[simp] theorem Dev.onTdm_sc (f : Io → Tdm → Io × Tdm) : (d.onTdm f).sc = d.sc := rfl
@[simp] theorem Dev.onTdm_aud (f : Io → Tdm → Io × Tdm) : (d.onTdm f).aud = d.aud := rfl
@[simp] theorem Dev.onTdm_tdm (f : Io → Tdm → Io × Tdm) : (d.onTdm f).tdm = (f d.io d.tdm).2 := rfl
@[simp] theorem Dev.onTdm_therm (f : Io → Tdm → Io × Tdm) : (d.onTdm f).therm = d.therm := rfl
@[simp] theorem Dev.onTdm_power (f : Io → Tdm → Io × Tdm) : (d.onTdm f).power = d.power := rfl
@[simp] theorem Dev.onTdm_lard (f : Io → Tdm → Io × Tdm) : (d.onTdm f).lard = d.lard := rfl
@[simp] theorem Dev.onTdm_nvs (f : Io → Tdm → Io × Tdm) : (d.onTdm f).nvs = d.nvs := rfl
@[simp] theorem Dev.onTdm_keys (f : Io → Tdm → Io × Tdm) : (d.onTdm f).keys = d.keys := rfl
@[simp] theorem Dev.onTdm_boot (f : Io → Tdm → Io × Tdm) : (d.onTdm f).boot = d.boot := rfl
@[simp] theorem Dev.onKeys_io (f : Io → Keys → Io × Keys) : (d.onKeys f).io = (f d.io d.keys).1 := rfl
@[simp] theorem Dev.onKeys_ser (f : Io → Keys → Io × Keys) : (d.onKeys f).ser = d.ser := rfl
@[simp] theorem Dev.onKeys_ptp (f : Io → Keys → Io × Keys) : (d.onKeys f).ptp = d.ptp := rfl
@[simp] theorem Dev.onKeys_st (f : Io → Keys → Io × Keys) : (d.onKeys f).st = d.st := rfl
@[simp] theorem Dev.onKeys_com (f : Io → Keys → Io × Keys) : (d.onKeys f).com = d.com := rfl
@[simp] theorem Dev.onKeys_hq (f : Io → Keys → Io × Keys) : (d.onKeys f).hq = d.hq := rfl
@[simp] theorem Dev.onKeys_sv (f : Io → Keys → Io × Keys) : (d.onKeys f).sv = d.sv := rfl
@[simp] theorem Dev.onKeys_rt (f : Io → Keys → Io × Keys) : (d.onKeys f).rt = d.rt := rfl
@[simp] theorem Dev.onKeys_sc (f : Io → Keys → Io × Keys) : (d.onKeys f).sc = d.sc := rfl
@[simp] theorem Dev.onKeys_aud (f : Io → Keys → Io × Keys) : (d.onKeys f).aud = d.aud := rfl
@[simp] theorem Dev.onKeys_tdm (f : Io → Keys → Io × Keys) : (d.onKeys f).tdm = d.tdm := rfl
@[simp] theorem Dev.onKeys_therm (f : Io → Keys → Io × Keys) : (d.onKeys f).therm = d.therm := rfl
@[simp] theorem Dev.onKeys_power (f : Io → Keys → Io × Keys) : (d.onKeys f).power = d.power := rfl
@[simp] theorem Dev.onKeys_lard (f : Io → Keys → Io × Keys) : (d.onKeys f).lard = d.lard := rfl
@[simp] theorem Dev.onKeys_nvs (f : Io → Keys → Io × Keys) : (d.onKeys f).nvs = d.nvs := rfl
@[simp] theorem Dev.onKeys_keys (f : Io → Keys → Io × Keys) : (d.onKeys f).keys = (f d.io d.keys).2 := rfl
@[simp] theorem Dev.onKeys_boot (f : Io → Keys → Io × Keys) : (d.onKeys f).boot = d.boot := rfl
@[simp] theorem Dev.onSc_io (f : Io → Scanout → Io × Scanout) : (d.onSc f).io = (f d.io d.sc).1 := rfl
@[simp] theorem Dev.onSc_ser (f : Io → Scanout → Io × Scanout) : (d.onSc f).ser = d.ser := rfl
@[simp] theorem Dev.onSc_ptp (f : Io → Scanout → Io × Scanout) : (d.onSc f).ptp = d.ptp := rfl
@[simp] theorem Dev.onSc_st (f : Io → Scanout → Io × Scanout) : (d.onSc f).st = d.st := rfl
@[simp] theorem Dev.onSc_com (f : Io → Scanout → Io × Scanout) : (d.onSc f).com = d.com := rfl
@[simp] theorem Dev.onSc_hq (f : Io → Scanout → Io × Scanout) : (d.onSc f).hq = d.hq := rfl
@[simp] theorem Dev.onSc_sv (f : Io → Scanout → Io × Scanout) : (d.onSc f).sv = d.sv := rfl
@[simp] theorem Dev.onSc_rt (f : Io → Scanout → Io × Scanout) : (d.onSc f).rt = d.rt := rfl
@[simp] theorem Dev.onSc_sc (f : Io → Scanout → Io × Scanout) : (d.onSc f).sc = (f d.io d.sc).2 := rfl
@[simp] theorem Dev.onSc_aud (f : Io → Scanout → Io × Scanout) : (d.onSc f).aud = d.aud := rfl
@[simp] theorem Dev.onSc_tdm (f : Io → Scanout → Io × Scanout) : (d.onSc f).tdm = d.tdm := rfl
@[simp] theorem Dev.onSc_therm (f : Io → Scanout → Io × Scanout) : (d.onSc f).therm = d.therm := rfl
@[simp] theorem Dev.onSc_power (f : Io → Scanout → Io × Scanout) : (d.onSc f).power = d.power := rfl
@[simp] theorem Dev.onSc_lard (f : Io → Scanout → Io × Scanout) : (d.onSc f).lard = d.lard := rfl
@[simp] theorem Dev.onSc_nvs (f : Io → Scanout → Io × Scanout) : (d.onSc f).nvs = d.nvs := rfl
@[simp] theorem Dev.onSc_keys (f : Io → Scanout → Io × Scanout) : (d.onSc f).keys = d.keys := rfl
@[simp] theorem Dev.onSc_boot (f : Io → Scanout → Io × Scanout) : (d.onSc f).boot = d.boot := rfl
@[simp] theorem Dev.setOut_io (o : Nat) (r : OutRt) : (d.setOut o r).io = d.io := rfl
@[simp] theorem Dev.setOut_ser (o : Nat) (r : OutRt) : (d.setOut o r).ser = d.ser := rfl
@[simp] theorem Dev.setOut_ptp (o : Nat) (r : OutRt) : (d.setOut o r).ptp = d.ptp := rfl
@[simp] theorem Dev.setOut_st (o : Nat) (r : OutRt) : (d.setOut o r).st = d.st := rfl
@[simp] theorem Dev.setOut_com (o : Nat) (r : OutRt) : (d.setOut o r).com = d.com := rfl
@[simp] theorem Dev.setOut_hq (o : Nat) (r : OutRt) : (d.setOut o r).hq = d.hq := rfl
@[simp] theorem Dev.setOut_sv (o : Nat) (r : OutRt) : (d.setOut o r).sv = d.sv := rfl
@[simp] theorem Dev.setOut_rt (o : Nat) (r : OutRt) : (d.setOut o r).rt = d.rt := rfl
@[simp] theorem Dev.setOut_sc (o : Nat) (r : OutRt) : (d.setOut o r).sc = { d.sc with outs := FMap.insert d.sc.outs o r } := rfl
@[simp] theorem Dev.setOut_aud (o : Nat) (r : OutRt) : (d.setOut o r).aud = d.aud := rfl
@[simp] theorem Dev.setOut_tdm (o : Nat) (r : OutRt) : (d.setOut o r).tdm = d.tdm := rfl
@[simp] theorem Dev.setOut_therm (o : Nat) (r : OutRt) : (d.setOut o r).therm = d.therm := rfl
@[simp] theorem Dev.setOut_power (o : Nat) (r : OutRt) : (d.setOut o r).power = d.power := rfl
@[simp] theorem Dev.setOut_lard (o : Nat) (r : OutRt) : (d.setOut o r).lard = d.lard := rfl
@[simp] theorem Dev.setOut_nvs (o : Nat) (r : OutRt) : (d.setOut o r).nvs = d.nvs := rfl
@[simp] theorem Dev.setOut_keys (o : Nat) (r : OutRt) : (d.setOut o r).keys = d.keys := rfl
@[simp] theorem Dev.setOut_boot (o : Nat) (r : OutRt) : (d.setOut o r).boot = d.boot := rfl

/-! Time, registers and interfaces. -/
@[simp] theorem Io.wr_now (a : Nat) (v : Word) : (io.wr a v).now = io.now := rfl
@[simp] theorem Io.wr_up (a : Nat) (v : Word) : (io.wr a v).up = io.up := rfl
@[simp] theorem Io.wr_freeCtr (a : Nat) (v : Word) : (io.wr a v).freeCtr = io.freeCtr := rfl
@[simp] theorem Io.wr_regs (a : Nat) (v : Word) : (io.wr a v).regs = FMap.insert io.regs a v := rfl
@[simp] theorem Io.wr_shadow (a : Nat) (v : Word) : (io.wr a v).shadow = io.shadow := rfl
@[simp] theorem Io.wr_written (a : Nat) (v : Word) : (io.wr a v).written = io.written := rfl
@[simp] theorem Io.wr_snap (a : Nat) (v : Word) : (io.wr a v).snap = io.snap := rfl
@[simp] theorem Io.wr_unmasked (a : Nat) (v : Word) : (io.wr a v).unmasked = io.unmasked := rfl
@[simp] theorem Io.wr_pba (a : Nat) (v : Word) : (io.wr a v).pba = io.pba := rfl
@[simp] theorem Io.wr_drains (a : Nat) (v : Word) : (io.wr a v).drains = io.drains := rfl
@[simp] theorem Io.wr_out (a : Nat) (v : Word) : (io.wr a v).out = io.out := rfl
@[simp] theorem Io.put_now (p : PageRef) (off : Nat) (v : Word) : (io.put p off v).now = io.now := rfl
@[simp] theorem Io.put_up (p : PageRef) (off : Nat) (v : Word) : (io.put p off v).up = io.up := rfl
@[simp] theorem Io.put_freeCtr (p : PageRef) (off : Nat) (v : Word) : (io.put p off v).freeCtr = io.freeCtr := rfl
@[simp] theorem Io.put_regs (p : PageRef) (off : Nat) (v : Word) : (io.put p off v).regs = FMap.insert io.regs (regAddr p off) v := rfl
@[simp] theorem Io.put_shadow (p : PageRef) (off : Nat) (v : Word) : (io.put p off v).shadow = io.shadow := rfl
@[simp] theorem Io.put_written (p : PageRef) (off : Nat) (v : Word) : (io.put p off v).written = io.written := rfl
@[simp] theorem Io.put_snap (p : PageRef) (off : Nat) (v : Word) : (io.put p off v).snap = io.snap := rfl
@[simp] theorem Io.put_unmasked (p : PageRef) (off : Nat) (v : Word) : (io.put p off v).unmasked = io.unmasked := rfl
@[simp] theorem Io.put_pba (p : PageRef) (off : Nat) (v : Word) : (io.put p off v).pba = io.pba := rfl
@[simp] theorem Io.put_drains (p : PageRef) (off : Nat) (v : Word) : (io.put p off v).drains = io.drains := rfl
@[simp] theorem Io.put_out (p : PageRef) (off : Nat) (v : Word) : (io.put p off v).out = io.out := rfl
@[simp] theorem Io.setFld_now (p : PageRef) (off lo len v : Nat) : (io.setFld p off lo len v).now = io.now := rfl
@[simp] theorem Io.setFld_up (p : PageRef) (off lo len v : Nat) : (io.setFld p off lo len v).up = io.up := rfl
@[simp] theorem Io.setFld_freeCtr (p : PageRef) (off lo len v : Nat) : (io.setFld p off lo len v).freeCtr = io.freeCtr := rfl
@[simp] theorem Io.setFld_shadow (p : PageRef) (off lo len v : Nat) : (io.setFld p off lo len v).shadow = io.shadow := rfl
@[simp] theorem Io.setFld_written (p : PageRef) (off lo len v : Nat) : (io.setFld p off lo len v).written = io.written := rfl
@[simp] theorem Io.setFld_snap (p : PageRef) (off lo len v : Nat) : (io.setFld p off lo len v).snap = io.snap := rfl
@[simp] theorem Io.setFld_unmasked (p : PageRef) (off lo len v : Nat) : (io.setFld p off lo len v).unmasked = io.unmasked := rfl
@[simp] theorem Io.setFld_pba (p : PageRef) (off lo len v : Nat) : (io.setFld p off lo len v).pba = io.pba := rfl
@[simp] theorem Io.setFld_drains (p : PageRef) (off lo len v : Nat) : (io.setFld p off lo len v).drains = io.drains := rfl
@[simp] theorem Io.setFld_out (p : PageRef) (off lo len v : Nat) : (io.setFld p off lo len v).out = io.out := rfl
@[simp] theorem Io.setFlag_now (p : PageRef) (off i : Nat) (b : Bool) : (io.setFlag p off i b).now = io.now := rfl
@[simp] theorem Io.setFlag_up (p : PageRef) (off i : Nat) (b : Bool) : (io.setFlag p off i b).up = io.up := rfl
@[simp] theorem Io.setFlag_freeCtr (p : PageRef) (off i : Nat) (b : Bool) : (io.setFlag p off i b).freeCtr = io.freeCtr := rfl
@[simp] theorem Io.setFlag_shadow (p : PageRef) (off i : Nat) (b : Bool) : (io.setFlag p off i b).shadow = io.shadow := rfl
@[simp] theorem Io.setFlag_written (p : PageRef) (off i : Nat) (b : Bool) : (io.setFlag p off i b).written = io.written := rfl
@[simp] theorem Io.setFlag_snap (p : PageRef) (off i : Nat) (b : Bool) : (io.setFlag p off i b).snap = io.snap := rfl
@[simp] theorem Io.setFlag_unmasked (p : PageRef) (off i : Nat) (b : Bool) : (io.setFlag p off i b).unmasked = io.unmasked := rfl
@[simp] theorem Io.setFlag_pba (p : PageRef) (off i : Nat) (b : Bool) : (io.setFlag p off i b).pba = io.pba := rfl
@[simp] theorem Io.setFlag_drains (p : PageRef) (off i : Nat) (b : Bool) : (io.setFlag p off i b).drains = io.drains := rfl
@[simp] theorem Io.setFlag_out (p : PageRef) (off i : Nat) (b : Bool) : (io.setFlag p off i b).out = io.out := rfl
@[simp] theorem Io.emit_now (x : Out) : (io.emit x).now = io.now := rfl
@[simp] theorem Io.emit_up (x : Out) : (io.emit x).up = io.up := rfl
@[simp] theorem Io.emit_freeCtr (x : Out) : (io.emit x).freeCtr = io.freeCtr := rfl
@[simp] theorem Io.emit_regs (x : Out) : (io.emit x).regs = io.regs := rfl
@[simp] theorem Io.emit_shadow (x : Out) : (io.emit x).shadow = io.shadow := rfl
@[simp] theorem Io.emit_written (x : Out) : (io.emit x).written = io.written := rfl
@[simp] theorem Io.emit_snap (x : Out) : (io.emit x).snap = io.snap := rfl
@[simp] theorem Io.emit_unmasked (x : Out) : (io.emit x).unmasked = io.unmasked := rfl
@[simp] theorem Io.emit_pba (x : Out) : (io.emit x).pba = io.pba := rfl
@[simp] theorem Io.emit_drains (x : Out) : (io.emit x).drains = io.drains := rfl
@[simp] theorem Io.emit_out (x : Out) : (io.emit x).out = x :: io.out := rfl
@[simp] theorem Io.tick_now (dt : Nat) : (io.tick dt).now = io.now + dt := rfl
@[simp] theorem Io.tick_up (dt : Nat) : (io.tick dt).up = io.up + dt := rfl
@[simp] theorem Io.tick_freeCtr (dt : Nat) : (io.tick dt).freeCtr = io.freeCtr := rfl
@[simp] theorem Io.tick_regs (dt : Nat) : (io.tick dt).regs = io.regs := rfl
@[simp] theorem Io.tick_shadow (dt : Nat) : (io.tick dt).shadow = io.shadow := rfl
@[simp] theorem Io.tick_written (dt : Nat) : (io.tick dt).written = io.written := rfl
@[simp] theorem Io.tick_snap (dt : Nat) : (io.tick dt).snap = io.snap := rfl
@[simp] theorem Io.tick_unmasked (dt : Nat) : (io.tick dt).unmasked = io.unmasked := rfl
@[simp] theorem Io.tick_pba (dt : Nat) : (io.tick dt).pba = io.pba := rfl
@[simp] theorem Io.tick_drains (dt : Nat) : (io.tick dt).drains = io.drains := rfl
@[simp] theorem Io.tick_out (dt : Nat) : (io.tick dt).out = io.out := rfl
@[simp] theorem Io.took_now : (io.took).now = io.now := rfl
@[simp] theorem Io.took_up : (io.took).up = io.up := rfl
@[simp] theorem Io.took_freeCtr : (io.took).freeCtr = io.freeCtr + 1 := rfl
@[simp] theorem Io.took_regs : (io.took).regs = io.regs := rfl
@[simp] theorem Io.took_shadow : (io.took).shadow = io.shadow := rfl
@[simp] theorem Io.took_written : (io.took).written = io.written := rfl
@[simp] theorem Io.took_snap : (io.took).snap = io.snap := rfl
@[simp] theorem Io.took_unmasked : (io.took).unmasked = io.unmasked := rfl
@[simp] theorem Io.took_pba : (io.took).pba = io.pba := rfl
@[simp] theorem Io.took_drains : (io.took).drains = io.drains := rfl
@[simp] theorem Io.took_out : (io.took).out = io.out := rfl
@[simp] theorem Io.drainFrom_now (k : Nat) : (io.drainFrom k).now = io.now := rfl
@[simp] theorem Io.drainFrom_up (k : Nat) : (io.drainFrom k).up = io.up := rfl
@[simp] theorem Io.drainFrom_freeCtr (k : Nat) : (io.drainFrom k).freeCtr = io.freeCtr := rfl
@[simp] theorem Io.drainFrom_regs (k : Nat) : (io.drainFrom k).regs = io.regs := rfl
@[simp] theorem Io.drainFrom_shadow (k : Nat) : (io.drainFrom k).shadow = io.shadow := rfl
@[simp] theorem Io.drainFrom_written (k : Nat) : (io.drainFrom k).written = io.written := rfl
@[simp] theorem Io.drainFrom_snap (k : Nat) : (io.drainFrom k).snap = io.snap := rfl
@[simp] theorem Io.drainFrom_unmasked (k : Nat) : (io.drainFrom k).unmasked = io.unmasked := rfl
@[simp] theorem Io.drainFrom_pba (k : Nat) : (io.drainFrom k).pba = io.pba := rfl
@[simp] theorem Io.drainFrom_drains (k : Nat) : (io.drainFrom k).drains = FMap.insert io.drains k io.up := rfl
@[simp] theorem Io.drainFrom_out (k : Nat) : (io.drainFrom k).out = io.out := rfl
@[simp] theorem Io.drained_now (k : Nat) : (io.drained k).now = io.now := rfl
@[simp] theorem Io.drained_up (k : Nat) : (io.drained k).up = io.up := rfl
@[simp] theorem Io.drained_freeCtr (k : Nat) : (io.drained k).freeCtr = io.freeCtr := rfl
@[simp] theorem Io.drained_regs (k : Nat) : (io.drained k).regs = io.regs := rfl
@[simp] theorem Io.drained_shadow (k : Nat) : (io.drained k).shadow = io.shadow := rfl
@[simp] theorem Io.drained_written (k : Nat) : (io.drained k).written = io.written := rfl
@[simp] theorem Io.drained_snap (k : Nat) : (io.drained k).snap = io.snap := rfl
@[simp] theorem Io.drained_unmasked (k : Nat) : (io.drained k).unmasked = io.unmasked := rfl
@[simp] theorem Io.drained_pba (k : Nat) : (io.drained k).pba = io.pba := rfl
@[simp] theorem Io.drained_drains (k : Nat) : (io.drained k).drains = FMap.erase io.drains k := rfl
@[simp] theorem Io.drained_out (k : Nat) : (io.drained k).out = io.out := rfl
@[simp] theorem Io.shadowWr_now (fn a : Nat) (v : Word) : (io.shadowWr fn a v).now = io.now := rfl
@[simp] theorem Io.shadowWr_up (fn a : Nat) (v : Word) : (io.shadowWr fn a v).up = io.up := rfl
@[simp] theorem Io.shadowWr_freeCtr (fn a : Nat) (v : Word) : (io.shadowWr fn a v).freeCtr = io.freeCtr := rfl
@[simp] theorem Io.shadowWr_regs (fn a : Nat) (v : Word) : (io.shadowWr fn a v).regs = io.regs := rfl
@[simp] theorem Io.shadowWr_shadow (fn a : Nat) (v : Word) : (io.shadowWr fn a v).shadow = FMap.insert io.shadow a { val := v, writer := fn, dirty := true } := rfl
@[simp] theorem Io.shadowWr_written (fn a : Nat) (v : Word) : (io.shadowWr fn a v).written = io.written := rfl
@[simp] theorem Io.shadowWr_snap (fn a : Nat) (v : Word) : (io.shadowWr fn a v).snap = io.snap := rfl
@[simp] theorem Io.shadowWr_unmasked (fn a : Nat) (v : Word) : (io.shadowWr fn a v).unmasked = io.unmasked := rfl
@[simp] theorem Io.shadowWr_pba (fn a : Nat) (v : Word) : (io.shadowWr fn a v).pba = io.pba := rfl
@[simp] theorem Io.shadowWr_drains (fn a : Nat) (v : Word) : (io.shadowWr fn a v).drains = io.drains := rfl
@[simp] theorem Io.shadowWr_out (fn a : Nat) (v : Word) : (io.shadowWr fn a v).out = io.out := rfl
@[simp] theorem Io.emit_rd (x : Out) (a : Nat) : (io.emit x).rd a = io.rd a := rfl
@[simp] theorem Io.emit_reg (x : Out) (p : PageRef) (off : Nat) : (io.emit x).reg p off = io.reg p off := rfl
@[simp] theorem Io.tick_rd (dt : Nat) (a : Nat) : (io.tick dt).rd a = io.rd a := rfl
@[simp] theorem Io.tick_reg (dt : Nat) (p : PageRef) (off : Nat) : (io.tick dt).reg p off = io.reg p off := rfl
@[simp] theorem Io.took_rd  (a : Nat) : (io.took).rd a = io.rd a := rfl
@[simp] theorem Io.took_reg  (p : PageRef) (off : Nat) : (io.took).reg p off = io.reg p off := rfl
@[simp] theorem Io.drainFrom_rd (k : Nat) (a : Nat) : (io.drainFrom k).rd a = io.rd a := rfl
@[simp] theorem Io.drainFrom_reg (k : Nat) (p : PageRef) (off : Nat) : (io.drainFrom k).reg p off = io.reg p off := rfl
@[simp] theorem Io.drained_rd (k : Nat) (a : Nat) : (io.drained k).rd a = io.rd a := rfl
@[simp] theorem Io.drained_reg (k : Nat) (p : PageRef) (off : Nat) : (io.drained k).reg p off = io.reg p off := rfl
@[simp] theorem Io.shadowWr_rd (fn b : Nat) (v : Word) (a : Nat) : (io.shadowWr fn b v).rd a = io.rd a := rfl
@[simp] theorem Io.shadowWr_reg (fn b : Nat) (v : Word) (p : PageRef) (off : Nat) : (io.shadowWr fn b v).reg p off = io.reg p off := rfl

/-! Commands that run. -/

theorem Runs.intro {c : Instr} {s : State} {f : Dev → Dev} {P : Dev → Dev → Prop} (h : exec c s = s.run f) (p : P s.dev (f s.dev)) : Runs c s P :=
  ⟨_, h, rfl, p⟩

theorem Runs.ofIo {c : Instr} {s : State} {f : Io → Io} {P : Dev → Dev → Prop} (h : exec c s = s.run (fun d => d.onIo f))
    (p : P s.dev (s.dev.onIo f)) : Runs c s P := ⟨_, h, rfl, p⟩

theorem Runs.settle {c : Instr} {s : State} {f : Dev → Dev} {P : Dev → Dev → Prop} (h : exec c s = s.settled f) (p : P s.dev (f s.dev).settle) :
    Runs c s P := ⟨_, h, rfl, p⟩

theorem Runs.well {c : Instr} {s : State} {ok : Bool} {f : Dev → Dev} {P : Dev → Dev → Prop} (h : exec c s = s.runIf ok f) (w : ok = true)
    (p : P s.dev (f s.dev)) : Runs c s P := by
  refine ⟨{ s with dev := f s.dev }, ?_, rfl, p⟩
  rw [h, State.runIf, if_pos w]; rfl

theorem Runs.mono {c : Instr} {s : State} {P Q : Dev → Dev → Prop} (h : Runs c s P) (k : ∀ d d', P d d' → Q d d') : Runs c s Q := by
  obtain ⟨t, h₁, h₂, h₃⟩ := h
  exact ⟨t, h₁, h₂, k _ _ h₃⟩

theorem Dev.SameIo.of {T : Nat → Bool} {d : Dev} {f : Io → Io} (h : Io.Same T d.io (f d.io)) : Dev.SameIo T d (d.onIo f) := ⟨rfl, h⟩

end Sys2Proof.Machine
end

