-- ==== Sys2Proof/Laws/Links.lean ====
section
/-! SUPPORT. What a loss of presence and a change of a link mean for flows leaves the lanes and ports themselves alone (R182, R187, R235). -/
namespace Sys2Proof.Machine

/-- The place is no register of a LANE or PCS page. -/
def Place.offLanes : Place → Bool
  | .page (.lane _) _ => false
  | .page (.pcs _) _ => false
  | _ => true

/-- The address is no register of a LANE or PCS page. -/
def offLanes (a : Nat) : Bool := (placeOf a).offLanes

theorem offLanes_page {p : PageRef} {off : Nat} (h : off < pageSpan p) (hl : ∀ l, p ≠ .lane l) (hp : ∀ l, p ≠ .pcs l) :
    offLanes (regAddr p off) = true := by
  unfold offLanes; rw [placeOf_regAddr p off h]; cases p <;> simp_all [Place.offLanes]

theorem offLanes_lane {l : Fin 128} {off : Nat} (h : off < 0x1000) : offLanes (regAddr (.lane l) off) = false := by
  
  unfold offLanes; rw [placeOf_regAddr (.lane l) off h, Place.offLanes]

theorem offLanes_pcs {l : Fin 128} {off : Nat} (h : off < 0x1000) : offLanes (regAddr (.pcs l) off) = false := by
  
  unfold offLanes; rw [placeOf_regAddr (.pcs l) off h, Place.offLanes]

theorem offLanes_table {a : Nat} (h : 0x2000000 ≤ a) : offLanes a = true := by
  unfold offLanes placeOf
  rw [if_neg (by omega), if_neg (by omega), if_neg (by omega)]
  split_ifs <;> rfl

theorem offLanes_event {a : Nat} (h : eventPlace a = true) : offLanes a = true := by
  unfold eventPlace at h; unfold offLanes
  split at h <;> simp_all [Place.offLanes]

theorem Io.Same.setFs {io : Io} {f w : Nat} {v : Word} : Io.Same offLanes io (io.setFs f w v) := .wr _ _ (offLanes_table (by unfold flowAddr; omega))
theorem Io.Same.setFpw {io : Io} {f w : Nat} {v : Word} : Io.Same offLanes io (io.setFpw f w v) := .wr _ _ (offLanes_table (by unfold fastAddr; omega))

theorem Io.Same.logTo {T : Nat → Bool} (io : Io) (p : PageRef) (headOff base n words : Nat) (ws : List Word) (hw : ws.length ≤ words) (hn : 0 < n)
    (hh : T (regAddr p headOff) = true) (hb : ∀ i, i < 4 * words * n → T (regAddr p (base + i)) = true) :
    Io.Same T io (io.logTo p headOff base n words ws) := by
  unfold Io.logTo
  have hm : (io.reg p headOff).toNat % n < n := Nat.mod_lt _ hn
  refine (Io.Same.foldl_mem _ (fun y x hx => ?_) io).trans (.put _ _ hh)
  have hi := List.snd_lt_of_mem_zipIdx hx
  refine .put _ _ ?_
  rw [Nat.add_assoc]
  refine hb _ ?_
  generalize (io.reg p headOff).toNat % n = h at *
  have h₁ : 4 * words * (h + 1) ≤ 4 * words * n := Nat.mul_le_mul_left _ hm
  have h₂ : x.2 < words := by omega
  calc 4 * words * h + 4 * x.2 < 4 * words * h + 4 * words := by omega
    _ = 4 * words * (h + 1) := by ring
    _ ≤ _ := h₁

theorem Io.Same.routLog {io : Io} {idx : Nat} {fp : Bool} {slot event : Nat} : Io.Same offLanes io (io.routLog idx fp slot event) :=
  .logTo _ _ _ _ _ _ _ (by simp) (by omega) (offLanes_page (by decide) (by simp) (by simp))
    (fun i hi => offLanes_page (by simp [pageSpan]; omega) (by simp) (by simp))

theorem Io.Same.flowEvent {io : Io} {f event detail b : Nat} : Io.Same offLanes io (io.flowEvent f event detail b) := by
  unfold Io.flowEvent Io.flowLog
  refine (Io.Same.logTo _ _ _ _ _ _ _ (by simp) (by omega) ?_ ?_).trans (.raise (fun _ => offLanes_event) _ _ ?_)
  · exact offLanes_page (show _ < 0x4000 by decide) (by simp [Io.flowPage]) (by simp [Io.flowPage])
  · exact fun i hi => offLanes_page (show Reg.SIEV_FLOW_LOG + i < 0x4000 by unfold Reg.SIEV_FLOW_LOG; omega) (by simp [Io.flowPage]) (by simp [Io.flowPage])
  · exact offLanes_page (show _ < 0x4000 by decide) (by simp [Io.flowPage]) (by simp [Io.flowPage])

theorem Io.Same.flowAbsent {f : Nat} {io : Io} {sv : Sieve} : Io.Same offLanes io (flowAbsent f io sv) := by
  unfold Machine.flowAbsent
  split
  · split_ifs
    · exact (Io.Same.setFs.trans .setFs).trans .flowEvent
    · exact .refl _ _
  · exact .refl _ _

theorem Io.Same.legLost {f : Nat} {b : Bool} {io : Io} {sv : Sieve} : Io.Same offLanes io (legLost f b io sv).1 := by
  unfold Machine.legLost
  split
  · dsimp only
    generalize (if b = true then _ else _) = c
    cases c
    · exact ((Io.Same.setFs.trans .setFs).trans .flowEvent).trans .flowAbsent
    · exact .refl _ _
  · exact .refl _ _

theorem Io.Same.foldl₁ {T : Nat → Bool} {α β : Type} {f : Io × β → α → Io × β} (h : ∀ x a, Io.Same T x.1 (f x a).1) (xs : List α) (x : Io × β) :
    Io.Same T x.1 (xs.foldl f x).1 := by
  induction xs generalizing x with
  | nil => exact .refl _ _
  | cons a xs ih => exact (h x a).trans (ih _)

theorem Io.Same.portLegsLost {p : Nat} {io : Io} {sv : Sieve} : Io.Same offLanes io (portLegsLost p io sv).1 :=
  .foldl₁ (x := (io, sv)) (fun _ _ => .legLost) _

theorem Io.Same.fpLossTo {e : Nat} {f : Option Nat} {a : Nat} {b : Bool} {io : Io} {rt : Routing} : Io.Same offLanes io (fpLossTo e f a b io rt).1 :=
  .setFpw

theorem Io.Same.rout48 {io : Io} : Io.Same offLanes io (io.count48 .rout Reg.ROUT_LOSS_SW_LO 1) :=
  .putWide _ _ (offLanes_page (by decide) (by simp) (by simp)) (offLanes_page (by decide) (by simp) (by simp))

theorem Io.Same.routRaise {io : Io} {b : Nat} : Io.Same offLanes io (io.raise .rout b) :=
  .raise (fun _ => offLanes_event) _ _ (offLanes_page (by decide) (by simp) (by simp))

theorem Io.Same.fpFlowLost {f a : Nat} {io : Io} {rt : Routing} : Io.Same offLanes io (fpFlowLost f a io rt).1 := by
  refine .foldl₁ (x := (io, rt)) (fun x e => ?_) _
  obtain ⟨io, rt⟩ := x
  dsimp only
  split_ifs
  all_goals first
    | exact .refl _ _
    | skip
  all_goals split
  all_goals try split_ifs
  all_goals first
    | exact Io.Same.rout48.trans .fpLossTo
    | exact (Io.Same.rout48.trans .routLog).trans .routRaise

theorem Io.Same.fpFlowBack {f a : Nat} {io : Io} {rt : Routing} : Io.Same offLanes io (fpFlowBack f a io rt).1 := by
  refine .foldl₁ (x := (io, rt)) (fun x e => ?_) _
  obtain ⟨io, rt⟩ := x
  dsimp only
  split_ifs
  all_goals first
    | exact .refl _ _
    | exact Io.Same.routLog.trans .fpLossTo

/-- A step that leaves lanes and ports alone, and nothing but registers, Sieves and routing can change. -/
structure Dev.Aside (d d' : Dev) : Prop where
  io : Io.Same offLanes d.io d'.io
  ser : d'.ser = d.ser

theorem Dev.Aside.refl (d : Dev) : Dev.Aside d d := ⟨.refl _ _, rfl⟩

theorem Dev.Aside.trans {d e f : Dev} (h : Dev.Aside d e) (k : Dev.Aside e f) : Dev.Aside d f := ⟨h.io.trans k.io, k.ser.trans h.ser⟩

theorem Dev.Aside.foldl {α : Type} {f : Dev → α → Dev} (h : ∀ d x, Dev.Aside d (f d x)) (xs : List α) (d : Dev) : Dev.Aside d (xs.foldl f d) := by
  induction xs generalizing d with
  | nil => exact .refl _
  | cons x xs ih => exact (h d x).trans (ih _)

theorem Dev.Aside.onSv {d : Dev} {f : Io → Sieve → Io × Sieve} (h : Io.Same offLanes d.io (f d.io d.sv).1) : Dev.Aside d (d.onSv f) := ⟨h, rfl⟩

theorem Dev.Aside.watching {d : Dev} {f : Dev → Dev} (h : Dev.Aside d (f d)) : Dev.Aside d (d.watching f) := by
  unfold Dev.watching
  dsimp only
  split_ifs
  · exact h
  · refine h.trans (.foldl (fun x g => ?_) _ _)
    split_ifs
    · exact .refl _
    · exact ⟨.fpFlowBack, rfl⟩
    · exact ⟨.fpFlowLost, rfl⟩

/-- What the links mean for flows follows what `f` does to lanes and ports, and leaves that as it is. -/
theorem Dev.links_aside (d : Dev) (f : Io → Ser → Io × Ser) : Dev.Aside (d.onSer f) (d.links f) := by
  have k : ∀ (e : Dev) (c : Bool) (xs : List Nat),
      Dev.Aside e (if c = true then e else e.watching (fun d => xs.foldl (fun (d : Dev) p => d.onSv (portLegsLost p)) d)) := by
    intro e c xs
    split_ifs
    · exact Dev.Aside.refl e
    · exact Dev.Aside.watching (Dev.Aside.foldl (fun d p => Dev.Aside.onSv (Io.Same.portLegsLost (p := p))) xs e)
  have k' := k (d.onSer f) (d.io.upPorts.filter (fun p => !(d.onSer f).io.upPorts.contains p)).isEmpty
    (d.io.upPorts.filter (fun p => !(d.onSer f).io.upPorts.contains p))
  unfold Dev.links
  dsimp only
  exact ⟨k'.io, k'.ser⟩

@[simp] theorem Dev.links_ser (d : Dev) (f : Io → Ser → Io × Ser) : (d.links f).ser = (f d.io d.ser).2 := (d.links_aside f).ser

theorem Dev.links_lane (d : Dev) (f : Io → Ser → Io × Ser) (l : Fin 128) {off : Nat} (h : off < 0x1000) :
    (d.links f).io.reg (.lane l) off = (f d.io d.ser).1.reg (.lane l) off := (d.links_aside f).io.reg (offLanes_lane h)

theorem Dev.links_pcs (d : Dev) (f : Io → Ser → Io × Ser) (p : Fin 128) {off : Nat} (h : off < 0x1000) :
    (d.links f).io.reg (.pcs p) off = (f d.io d.ser).1.reg (.pcs p) off := (d.links_aside f).io.reg (offLanes_pcs h)

end Sys2Proof.Machine
end

