-- ==== Sys2Proof/Laws/Units.lean ====
section
/-! SUPPORT. Which parts of the machine each operation on the whole part may change: the rest stands as it was. -/
namespace Sys2Proof.Machine

/-- A fold of an operation that keeps `P` keeps `P`. -/
theorem foldl_keeps {α β : Type} {P : β → Prop} (f : β → α → β) (h : ∀ b a, P b → P (f b a)) (xs : List α) :
    ∀ b, P b → P (xs.foldl f b) := by
  induction xs with
  | nil => exact fun _ hb => hb
  | cons x xs ih => exact fun b hb => ih _ (h b x hb)

/-- The part is as before but for the registers, the interfaces and the queues. -/
structure Dev.ReplyOnly (d d' : Dev) : Prop where
  ser : d'.ser = d.ser
  ptp : d'.ptp = d.ptp
  st : d'.st = d.st
  com : d'.com = d.com
  sv : d'.sv = d.sv
  rt : d'.rt = d.rt
  sc : d'.sc = d.sc
  aud : d'.aud = d.aud
  tdm : d'.tdm = d.tdm
  therm : d'.therm = d.therm
  power : d'.power = d.power
  lard : d'.lard = d.lard
  nvs : d'.nvs = d.nvs
  keys : d'.keys = d.keys
  boot : d'.boot = d.boot

theorem Dev.ReplyOnly.rfl' (d : Dev) : Dev.ReplyOnly d d := ⟨rfl, rfl, rfl, rfl, rfl, rfl, rfl, rfl, rfl, rfl, rfl, rfl, rfl, rfl, rfl⟩

theorem Dev.ReplyOnly.trans {a b c : Dev} (h : Dev.ReplyOnly a b) (k : Dev.ReplyOnly b c) : Dev.ReplyOnly a c :=
  ⟨k.ser.trans h.ser, k.ptp.trans h.ptp, k.st.trans h.st, k.com.trans h.com, k.sv.trans h.sv, k.rt.trans h.rt, k.sc.trans h.sc, k.aud.trans h.aud, k.tdm.trans h.tdm, k.therm.trans h.therm, k.power.trans h.power, k.lard.trans h.lard, k.nvs.trans h.nvs, k.keys.trans h.keys, k.boot.trans h.boot⟩

/-- The part as one record. -/
theorem Dev.ReplyOnly.eq {d d' : Dev} (h : Dev.ReplyOnly d d') :
    d' = { d with io := d'.io, hq := d'.hq } := by
  cases d; cases d'; cases h; simp_all

/-- The part is as before but for the registers, the queues, the store, the keys and the Larder. -/
structure Dev.StoreOnly (d d' : Dev) : Prop where
  ser : d'.ser = d.ser
  ptp : d'.ptp = d.ptp
  st : d'.st = d.st
  com : d'.com = d.com
  sv : d'.sv = d.sv
  rt : d'.rt = d.rt
  sc : d'.sc = d.sc
  aud : d'.aud = d.aud
  tdm : d'.tdm = d.tdm
  therm : d'.therm = d.therm
  power : d'.power = d.power
  boot : d'.boot = d.boot

theorem Dev.StoreOnly.rfl' (d : Dev) : Dev.StoreOnly d d := ⟨rfl, rfl, rfl, rfl, rfl, rfl, rfl, rfl, rfl, rfl, rfl, rfl⟩

theorem Dev.StoreOnly.trans {a b c : Dev} (h : Dev.StoreOnly a b) (k : Dev.StoreOnly b c) : Dev.StoreOnly a c :=
  ⟨k.ser.trans h.ser, k.ptp.trans h.ptp, k.st.trans h.st, k.com.trans h.com, k.sv.trans h.sv, k.rt.trans h.rt, k.sc.trans h.sc, k.aud.trans h.aud, k.tdm.trans h.tdm, k.therm.trans h.therm, k.power.trans h.power, k.boot.trans h.boot⟩

/-- The part as one record. -/
theorem Dev.StoreOnly.eq {d d' : Dev} (h : Dev.StoreOnly d d') :
    d' = { d with io := d'.io, hq := d'.hq, lard := d'.lard, nvs := d'.nvs, keys := d'.keys } := by
  cases d; cases d'; cases h; simp_all

/-- The part is as before but for the registers, the queues, the frame stores and the commits. -/
structure Dev.SettleOnly (d d' : Dev) : Prop where
  ser : d'.ser = d.ser
  ptp : d'.ptp = d.ptp
  sv : d'.sv = d.sv
  rt : d'.rt = d.rt
  sc : d'.sc = d.sc
  aud : d'.aud = d.aud
  tdm : d'.tdm = d.tdm
  therm : d'.therm = d.therm
  power : d'.power = d.power
  lard : d'.lard = d.lard
  nvs : d'.nvs = d.nvs
  keys : d'.keys = d.keys
  boot : d'.boot = d.boot

theorem Dev.SettleOnly.rfl' (d : Dev) : Dev.SettleOnly d d := ⟨rfl, rfl, rfl, rfl, rfl, rfl, rfl, rfl, rfl, rfl, rfl, rfl, rfl⟩

theorem Dev.SettleOnly.trans {a b c : Dev} (h : Dev.SettleOnly a b) (k : Dev.SettleOnly b c) : Dev.SettleOnly a c :=
  ⟨k.ser.trans h.ser, k.ptp.trans h.ptp, k.sv.trans h.sv, k.rt.trans h.rt, k.sc.trans h.sc, k.aud.trans h.aud, k.tdm.trans h.tdm, k.therm.trans h.therm, k.power.trans h.power, k.lard.trans h.lard, k.nvs.trans h.nvs, k.keys.trans h.keys, k.boot.trans h.boot⟩

/-- The part as one record. -/
theorem Dev.SettleOnly.eq {d d' : Dev} (h : Dev.SettleOnly d d') :
    d' = { d with io := d'.io, hq := d'.hq, st := d'.st, com := d'.com } := by
  cases d; cases d'; cases h; simp_all

theorem Dev.ReplyOnly.store {d d' : Dev} (h : Dev.ReplyOnly d d') : Dev.StoreOnly d d' := ⟨h.ser, h.ptp, h.st, h.com, h.sv, h.rt, h.sc, h.aud, h.tdm, h.therm, h.power, h.boot⟩

theorem Dev.ReplyOnly.settle {d d' : Dev} (h : Dev.ReplyOnly d d') : Dev.SettleOnly d d' := ⟨h.ser, h.ptp, h.sv, h.rt, h.sc, h.aud, h.tdm, h.therm, h.power, h.lard, h.nvs, h.keys, h.boot⟩

/-- A command that completes. -/
theorem Dev.complete_only (d : Dev) (q tag : Nat) (r : Reply) : Dev.ReplyOnly d (d.complete q tag r) := ⟨rfl, rfl, rfl, rfl, rfl, rfl, rfl, rfl, rfl, rfl, rfl, rfl, rfl, rfl, rfl⟩

/-- Answering a command, where work came from one. -/
theorem Dev.reply_only (d : Dev) (src : Option (Nat × Nat)) (r : Reply) : Dev.ReplyOnly d (d.reply src r) := by
  cases src
  · exact Dev.ReplyOnly.rfl' d
  · exact Dev.complete_only ..

/-- Passing a commit point. -/
theorem Dev.past_only (d : Dev) (src : Option (Nat × Nat)) : Dev.ReplyOnly d (d.past src) := by
  cases src <;> exact ⟨rfl, rfl, rfl, rfl, rfl, rfl, rfl, rfl, rfl, rfl, rfl, rfl, rfl, rfl, rfl⟩

/-- The commit point of a store command. -/
theorem Dev.markNv_only (d : Dev) : Dev.ReplyOnly d d.markNv := by
  unfold Dev.markNv
  split
  · exact Dev.past_only ..
  · exact Dev.ReplyOnly.rfl' d

/-- The count of repair-map entries that the store does not hold. -/
theorem Dev.countMap_only (d : Dev) : Dev.StoreOnly d d.countMap := by
  unfold Dev.countMap
  split <;> exact ⟨rfl, rfl, rfl, rfl, rfl, rfl, rfl, rfl, rfl, rfl, rfl, rfl⟩

/-- An operation on the store and the keys. -/
theorem Dev.onNv_only (d : Dev) (f : Nv → Nv) : Dev.StoreOnly d (d.onNv f) := by
  unfold Dev.onNv
  generalize f { io := d.io, nv := d.nvs, ks := d.keys, done := [] } = x
  refine .trans (.trans ?_ (Dev.markNv_only _).store) (Dev.countMap_only _)
  exact foldl_keeps (P := fun d' => Dev.StoreOnly d d') _ (fun b _ h => h.trans (Dev.complete_only b _ _ _).store) x.done _
    ⟨rfl, rfl, rfl, rfl, rfl, rfl, rfl, rfl, rfl, rfl, rfl, rfl⟩

/-- An operation on the Larder, with what it asks of the store. -/
theorem Dev.onLar_only (d : Dev) (f : Lar → Lar) : Dev.StoreOnly d (d.onLar f) := by
  unfold Dev.onLar
  generalize f { io := d.io, ld := d.lard, nv := d.nvs } = x
  dsimp only
  split
  · exact ⟨rfl, rfl, rfl, rfl, rfl, rfl, rfl, rfl, rfl, rfl, rfl, rfl⟩
  · refine .trans ?_ (Dev.onNv_only _ _)
    exact ⟨rfl, rfl, rfl, rfl, rfl, rfl, rfl, rfl, rfl, rfl, rfl, rfl⟩

/-- Pages of the store that a spare page replaced enter the repair map. -/
theorem Dev.repairPages_only (d : Dev) (pages : List Nat) : Dev.StoreOnly d (d.repairPages pages) :=
  foldl_keeps (P := fun d' => Dev.StoreOnly d d') _ (fun b _ h => h.trans (Dev.onLar_only b _)) pages d (Dev.StoreOnly.rfl' d)

/-- Slots that return to FREE. -/
theorem Dev.freeSlots_only (d : Dev) : Dev.SettleOnly d d.freeSlots := ⟨rfl, rfl, rfl, rfl, rfl, rfl, rfl, rfl, rfl, rfl, rfl, rfl, rfl⟩

/-- What the registers show of the commits. -/
theorem Dev.showPend_only (d : Dev) : Dev.SettleOnly d d.showPend := by
  unfold Dev.showPend
  dsimp only
  split <;> exact ⟨rfl, rfl, rfl, rfl, rfl, rfl, rfl, rfl, rfl, rfl, rfl, rfl, rfl⟩

/-- Commits that complete. -/
theorem Dev.finishCommits_only (d : Dev) : Dev.SettleOnly d d.finishCommits := by
  unfold Dev.finishCommits
  split
  · exact Dev.SettleOnly.rfl' d
  · refine .trans ?_ (Dev.showPend_only _)
    exact foldl_keeps (P := fun d' => Dev.SettleOnly d d') _ (fun b p h => h.trans (Dev.reply_only b p.src p.reply).settle) _ _
      ⟨rfl, rfl, rfl, rfl, rfl, rfl, rfl, rfl, rfl, rfl, rfl, rfl, rfl⟩

/-- A store that is given back. -/
theorem Dev.retire_only (d : Dev) (i : Nat) (s : Store) (deferred : Bool) : Dev.SettleOnly d (d.retire i s deferred) := by
  unfold Dev.retire
  dsimp only
  refine .trans ?_ (Dev.reply_only _ _ _).settle
  exact ⟨rfl, rfl, rfl, rfl, rfl, rfl, rfl, rfl, rfl, rfl, rfl, rfl, rfl⟩

/-- What the retiring of references brings. -/
theorem Dev.settle_only (d : Dev) : Dev.SettleOnly d d.settle := by
  unfold Dev.settle
  dsimp only
  exact foldl_keeps (P := fun d' => Dev.SettleOnly d d') _ (fun b a h => h.trans (Dev.retire_only b a.1 a.2 true)) _ _
    ((Dev.finishCommits_only d).trans (Dev.freeSlots_only _))

end Sys2Proof.Machine
end

/-! Reads of wide values (R16): which registers read as their block tells, what a read of a lowest word keeps, and what the next read of a higher word returns. -/
namespace Sys2Proof.Machine

/-- A register whose reads are the word of its block alone: in its page and beyond the header, with neither a writable row nor open bits, no live view of a lower
register, and on a page that has no window among its low registers and no register that a read changes. -/
structure ReadsBlock (p : PageRef) (off : Nat) : Prop where
  span : off < pageSpan p
  header : 0x40 ≤ off
  low : off < 0x800
  row : rowAt p off = none
  noOpenBits : openBits p off = none
  notScan : ∀ t, p ≠ .scan t
  notKeys : p ≠ .keys

/-- Two registers that hold a wide value, the lower word at `off` (R4, R16). -/
structure WidePair (p : PageRef) (off : Nat) : Prop where
  lo : ReadsBlock p off
  hi : ReadsBlock p (off + 4)
  lowest : wideAt off (wideIn p) = some (0, 2)
  higher : wideAt (off + 4) (wideIn p) = some (1, 2)
  aligned : regAddr p off % 4 = 0

/-- The part once the lowest word of a pair has been read: it keeps the higher word of that instant for the reads that follow (R16). -/
def Dev.keepHigh (d : Dev) (p : PageRef) (off : Nat) : Dev :=
  d.onIo fun io => { io with snap := FMap.insert io.snap (regAddr p off + 4) (d.blockWord p (off + 4)) }

@[simp] theorem Dev.keepHigh_snap (d : Dev) (p : PageRef) (off : Nat) :
    FMap.find (d.keepHigh p off).io.snap (regAddr p off + 4) = some (d.blockWord p (off + 4)) := FMap.find_insert_self _ _ _
@[simp] theorem Dev.keepHigh_regs (d : Dev) (p : PageRef) (off : Nat) : (d.keepHigh p off).io.regs = d.io.regs := rfl
@[simp] theorem Dev.keepHigh_out (d : Dev) (p : PageRef) (off : Nat) : (d.keepHigh p off).io.out = d.io.out := rfl
@[simp] theorem Dev.keepHigh_now (d : Dev) (p : PageRef) (off : Nat) : (d.keepHigh p off).io.now = d.io.now := rfl
@[simp] theorem Dev.keepHigh_reg (d : Dev) (p q : PageRef) (off o : Nat) : (d.keepHigh p off).io.reg q o = d.io.reg q o := rfl
@[simp] theorem Dev.keepHigh_powered (d : Dev) (p q : PageRef) (off : Nat) : (d.keepHigh p off).io.powered q = d.io.powered q := rfl

@[simp] theorem Dev.answer_out (d d' : Dev) (w : Word) : (d.answer (w, d')).io.out = .readData w :: d'.io.out := rfl
@[simp] theorem Dev.answer_snap (d d' : Dev) (w : Word) : (d.answer (w, d')).io.snap = d'.io.snap := rfl
@[simp] theorem Dev.answer_regs (d d' : Dev) (w : Word) : (d.answer (w, d')).io.regs = d'.io.regs := rfl

section
variable {p : PageRef} {off : Nat}

theorem wideOf_regAddr (h : off < pageSpan p) : wideOf (regAddr p off) = wideAt off (wideIn p) := by
  unfold wideOf
  rw [placeOf_regAddr p off h]

/-- The address of such a register leads to itself, and its live word is not asked for. -/
theorem Io.target_regAddr (io : Io) (h : ReadsBlock p off) : io.target (regAddr p off) = (regAddr p off, false) := by
  have low := h.low
  unfold Io.target
  rw [placeOf_regAddr p off h.span]
  cases p with
  | scan t => exact absurd rfl (h.notScan t)
  | rout => simp [show off / 0x1000 = 0 by omega]
  | _ => simp [show ¬ 0x800 ≤ off by omega]

/-- The present value of a register that reads as its block tells. -/
theorem Dev.present_block (d : Dev) (live : Bool) (h : ReadsBlock p off) (hpow : d.io.powered p = true) :
    d.present (regAddr p off) live = (d.blockWord p off, d) := by
  have header := h.header
  have hopen : d.openAt (regAddr p off) = none := by
    simp [Dev.openAt, placeOf_regAddr p off h.span, h.noOpenBits, Reg.EVT_RAW]
    omega
  have hword : d.word (regAddr p off) live = d.blockWord p off := by
    simp [Dev.word, placeOf_regAddr p off h.span, h.row, hpow]
    omega
  rw [Dev.present, hopen, hword]

theorem Dev.snapshot_pair (d : Dev) (live : Bool) (h : WidePair p off) (hpow : d.io.powered p = true) :
    d.snapshot (regAddr p off) live 2 = d.keepHigh p off := by
  have hpres : d.present (regAddr p off + 4) live = (d.blockWord p (off + 4), d) := Dev.present_block d live h.hi hpow
  simp [Dev.snapshot, hpres, Dev.keepHigh]

/-- A read of the lowest word of a pair gives it and keeps the higher word of the same instant (R16). -/
theorem Dev.readAt_lowest (d : Dev) (live : Bool) (h : WidePair p off) (hpow : d.io.powered p = true) :
    d.readAt (regAddr p off) live = ((d.keepHigh p off).blockWord p off, d.keepHigh p off) := by
  rw [Dev.readAt, wideOf_regAddr h.lo.span, h.lowest]
  simp only [Dev.snapshot_pair d live h hpow]
  exact Dev.present_block _ live h.lo (by simpa using hpow)

/-- A read of the higher word of a pair that has been kept gives it and changes nothing (R16). -/
theorem Dev.readAt_kept (d : Dev) (live : Bool) {w : Word} (h : WidePair p off) (hs : FMap.find d.io.snap (regAddr p (off + 4)) = some w) :
    d.readAt (regAddr p (off + 4)) live = (w, d) := by
  rw [Dev.readAt, wideOf_regAddr h.hi.span, h.higher]
  simp only [hs]

theorem Dev.busRead_regAddr (d : Dev) (h : ReadsBlock p off) : d.busRead (regAddr p off) = d.answer (d.readAt (regAddr p off) false) := by
  have hrng : regAddr p off ≠ regAddr .keys Reg.KEYS_RNG := regAddr_ne h.span (by decide) (.inl h.notKeys)
  unfold Dev.busRead
  rw [placeOf_regAddr p off h.span]
  simp only [if_neg hrng, Io.target_regAddr d.io h]

/-- COHERENT_SNAPSHOT_READ by PF0 at a register is the answer to the read of it. -/
theorem Runs.readReg {addr : BitVec 26} {s : State} {P : Dev → Dev → Prop} (h : ReadsBlock p off) (h4 : regAddr p off % 4 = 0)
    (ha : addr.toNat = regAddr p off) (k : P s.dev (s.dev.answer (s.dev.readAt (regAddr p off) false))) :
    Runs (.coherentSnapshotRead 0 addr) s P := by
  refine Runs.intro (f := fun d => d.busRead addr.toNat) ?_ ?_
  · show execCoherentSnapshotRead 0 addr s = _
    simp [execCoherentSnapshotRead, ha, h4]
  · rwa [ha, Dev.busRead_regAddr _ h]

/-- The read of the lowest word of a pair (R16). -/
theorem Runs.readLowest {addr : BitVec 26} {s : State} (h : WidePair p off) (hpow : s.dev.io.powered p = true) (ha : addr.toNat = regAddr p off) :
    Runs (.coherentSnapshotRead 0 addr) s fun d d' => d' = d.answer ((d.keepHigh p off).blockWord p off, d.keepHigh p off) :=
  .readReg h.lo h.aligned ha (by rw [Dev.readAt_lowest _ _ h hpow])

/-- The read of the higher word of a pair once it has been kept (R16). -/
theorem Runs.readKept {addr : BitVec 26} {s : State} {w : Word} (h : WidePair p off) (ha : addr.toNat = regAddr p (off + 4))
    (hs : FMap.find s.dev.io.snap addr.toNat = some w) : Runs (.coherentSnapshotRead 0 addr) s fun d d' => d' = d.answer (w, d) := by
  have h4 : regAddr p (off + 4) % 4 = 0 := by have := h.aligned; unfold regAddr at this ⊢; omega
  exact .readReg h.hi h4 ha (by rw [Dev.readAt_kept _ _ h (ha ▸ hs)])

end

/-! The counters of a MAC (R149) and the 64-bit time (R150). -/

/-- Every word of the counters reads as its register. -/
theorem readsBlock_macCounter (m : Fin 128) {off : Nat} (h : 0x100 ≤ off) (h' : off < 0x160) : ReadsBlock (.mac m) off where
  span := by simp only [pageSpan]; omega
  header := by omega
  low := by omega
  row := by
    show rowsMac.find? _ = none
    simp [rowsMac, Row.covers]
    omega
  noOpenBits := rfl
  notScan := by simp
  notKeys := by simp

theorem widePair_macCounter (m : Fin 128) (i : Fin 12) : WidePair (.mac m) (0x100 + 8 * i) where
  lo := readsBlock_macCounter m (by omega) (by omega)
  hi := readsBlock_macCounter m (by omega) (by omega)
  lowest := by simp [wideAt, wideIn, Reg.MAC_RX_FRAMES_LO]; omega
  higher := by simp [wideAt, wideIn, Reg.MAC_RX_FRAMES_LO]; omega
  aligned := by simp only [regAddr, pageBase]; omega

theorem readsBlock_time64 {off : Nat} (h : off = Reg.PTP_TIME64_LO ∨ off = Reg.PTP_TIME64_HI) : ReadsBlock .ptp off := by
  rcases h with rfl | rfl <;> exact ⟨by decide, by decide, by decide, by decide, rfl, by simp, by simp⟩

theorem widePair_time64 : WidePair .ptp Reg.PTP_TIME64_LO where
  lo := readsBlock_time64 (.inl rfl)
  hi := readsBlock_time64 (.inr rfl)
  lowest := by decide
  higher := by decide
  aligned := by decide

@[simp] theorem Dev.blockWord_mac (d : Dev) (m : Fin 128) (off : Nat) : d.blockWord (.mac m) off = d.io.reg (.mac m) off := rfl
@[simp] theorem Dev.blockWord_time64_lo (d : Dev) : d.blockWord .ptp Reg.PTP_TIME64_LO = Word.of d.io.now := rfl
@[simp] theorem Dev.blockWord_time64_hi (d : Dev) : d.blockWord .ptp (Reg.PTP_TIME64_LO + 4) = Word.of (d.io.now / 2 ^ 32) := rfl

/-- Settles O15: a read of a lowest word keeps the higher one (`Runs.readLowest`), and a read of a kept word gives it (`Runs.readKept`). -/
theorem wideReadsAreCoherent : Obligations.WideReadsAreCoherent := by
  unfold Obligations.WideReadsAreCoherent
  intro m i w addr s
  refine ⟨fun hpow => ⟨fun ha => ?_, fun ha hs => ?_⟩, fun hpow ha => ?_⟩
  · refine (Runs.readLowest (widePair_macCounter m i) hpow ha).mono ?_
    rintro d _ rfl
    simp [ha]
  · refine (Runs.readKept (widePair_macCounter m i) ha hs).mono ?_
    rintro d _ rfl
    simp
  · refine (Runs.readLowest widePair_time64 hpow ha).mono ?_
    rintro d _ rfl
    simp [ha]

end Sys2Proof.Machine

/-! Error clears, counter clears and sticky locks (R34, R38): what a write of a clear register does, once for every page that has one. -/
namespace Sys2Proof.Machine

theorem within_iff {p : PageRef} {offs : List Nat} {a : Nat} : within p offs a = true ↔ ∃ off ∈ offs, a = regAddr p off := by
  simp [within]

theorem within_self {p : PageRef} {offs : List Nat} {off : Nat} (h : off ∈ offs) : within p offs (regAddr p off) = true :=
  within_iff.2 ⟨off, h, rfl⟩

theorem le_pageSpan (p : PageRef) : 0x1000 ≤ pageSpan p := by cases p <;> simp [pageSpan]

theorem mem_wordsFrom {lo n off : Nat} : off ∈ wordsFrom lo n ↔ ∃ i < n, off = lo + 4 * i := by
  simp [wordsFrom, eq_comm]

/-- Writing a register its own value changes no value that is read. -/
theorem Io.Same.wr_rd (T : Nat → Bool) (io : Io) (a : Nat) : Io.Same T io (io.wr a (io.rd a)) where
  rd b _ := by
    by_cases h : b = a
    · rw [h, Io.rd_wr_self]
    · exact Io.rd_wr_ne _ _ h
  now := rfl
  up := rfl
  shadow := rfl
  written := rfl
  snap := rfl
  drains := rfl
  unmasked := rfl
  out := ⟨[], rfl⟩

/-- Cleared words read 0, and the words that did so before go on doing so. -/
theorem Io.reg_clearFrom (io : Io) (p : PageRef) (lo off n : Nat) (h : io.reg p off = 0 ∨ off ∈ wordsFrom lo n) :
    (io.clearFrom p lo n).reg p off = 0 := by
  induction n generalizing io lo with
  | zero => exact h.resolve_right (by simp [wordsFrom])
  | succ n ih =>
    refine ih _ _ ?_
    by_cases hlo : off = lo
    · exact .inl (by rw [hlo, Io.reg_put_self])
    · rw [Io.reg_put_off _ _ hlo]
      refine h.imp_right fun hmem => ?_
      obtain ⟨i, hi, rfl⟩ := mem_wordsFrom.1 hmem
      exact mem_wordsFrom.2 ⟨i - 1, by omega, by omega⟩

theorem Io.Same.clearFrom {T : Nat → Bool} (io : Io) {p : PageRef} {lo n : Nat} (h : ∀ off ∈ wordsFrom lo n, T (regAddr p off) = true) :
    Io.Same T io (io.clearFrom p lo n) := by
  induction n generalizing io lo with
  | zero => exact .refl _ _
  | succ n ih =>
    refine (Io.Same.put io 0 (h lo (mem_wordsFrom.2 ⟨0, by omega, rfl⟩))).trans (ih _ fun off hoff => ?_)
    obtain ⟨i, hi, rfl⟩ := mem_wordsFrom.1 hoff
    exact h _ (mem_wordsFrom.2 ⟨i + 1, by omega, by omega⟩)

/-- What clears the counters at `offs` of a page: it brings them to 0 and changes nothing else. -/
structure Clears (p : PageRef) (offs : List Nat) (f : Io → Io) : Prop where
  zero : ∀ io, ∀ off ∈ offs, (f io).reg p off = 0
  same : ∀ io, Io.Same (within p offs) io (f io)

theorem clears_clearFrom (p : PageRef) (lo n : Nat) : Clears p (wordsFrom lo n) (fun io => io.clearFrom p lo n) where
  zero io off h := Io.reg_clearFrom io p lo off n (.inr h)
  same io := .clearFrom io fun _ h => within_self h

theorem clears_pcsCntClr (p : Fin 128) :
    Clears (.pcs p) (Reg.PCS_LINK_CNT :: wordsFrom Reg.PCS_BLK_ERR_LO 8) (fun io => io.pcsCntClr p) where
  zero io off h := by
    refine Io.reg_clearFrom _ _ _ _ _ ?_
    rcases List.mem_cons.1 h with rfl | h
    · exact .inl (Io.reg_put_self ..)
    · exact .inr h
  same io := (Io.Same.put io 0 (within_self (by simp))).trans (.clearFrom _ fun off h => within_self (List.mem_cons_of_mem _ h))

/-- The row of a register whose bits only start actions: a write stores nothing and is checked for power and CFG_LOCK alone. -/
structure PulseRow (p : PageRef) (off : Nat) (r : Row) : Prop where
  row : rowAt p off = some r
  mask : r.wmask = 0
  live : r.shadowed = false
  defd : r.undef = false
  always : r.whileOff = false
  anyValue : r.flds = []

section
variable {p : PageRef} {clr : Nat} {r : Row}

theorem Row.merge_of_mask_zero {r : Row} (h : r.wmask = 0) (old v : Word) : r.merge old v = old := by
  have hz : Word.of r.wmask = 0#32 := by rw [h]
  rw [Row.merge, hz, show ~~~(0#32) = BitVec.allOnes 32 by decide, BitVec.and_allOnes, BitVec.and_zero, BitVec.zero_or]

/-- Why a write of such a register is ignored (R38). -/
theorem PulseRow.writeReason (h : PulseRow p clr r) (io : Io) (v : Word) :
    io.writeReason p r v = if io.powered p = false then some 3 else if io.flag p Reg.PAGE_LOCK 1 = true then some 1 else none := by
  simp [Io.writeReason, h.always, h.anyValue]

theorem PulseRow.regWrite (h : PulseRow p clr r) (io : Io) (fn : Nat) (v : Word) (hw : io.writeReason p r v = none) :
    io.regWrite fn p clr v = io.wr (regAddr p clr) (io.rd (regAddr p clr)) := by
  simp [Io.regWrite, h.row, hw, Io.store, Io.markWritten, h.defd, h.live, Row.merge_of_mask_zero h.mask]

/-- A clear that passes its checks does what the command clears. -/
theorem PulseRow.clearWrite_pass (h : PulseRow p clr r) (io : Io) (f : Io → Io) {v : Word} (hv : bit v 0 = true) (hw : io.writeReason p r v = none) :
    io.clearWrite p clr v f = f (io.wr (regAddr p clr) (io.rd (regAddr p clr))) := by
  simp [Io.clearWrite, Io.pulseAt, Io.accepts, h.row, hw, h.regWrite io 0 v hw, hv]

/-- A clear that fails a check is recorded. -/
theorem PulseRow.clearWrite_fail (h : PulseRow p clr r) (io : Io) (f : Io → Io) {v : Word} {n : Nat} (hw : io.writeReason p r v = some n) :
    io.clearWrite p clr v f = io.ignored p clr n := by
  simp [Io.clearWrite, Io.pulseAt, Io.accepts, Io.regWrite, h.row, hw]

/-- A counter-clear command: its row, what it clears, counters that lie beyond the header, and a meaning that is a write of 1. -/
structure ClearCmd (c : Instr) (p : PageRef) (clr : Nat) (offs : List Nat) (f : Io → Io) : Prop where
  row : ∃ r, PulseRow p clr r
  clears : Clears p offs f
  beyond : ∀ off ∈ offs, 0x40 ≤ off ∧ off < pageSpan p
  notEvt : p ≠ .evt
  runs : ∀ s, exec c s = s.run fun d => d.onIo fun io => io.clearWrite p clr 1 f

/-- A counter-clear command whose counters are a run of words. -/
theorem ClearCmd.ofWords {c : Instr} {lo n : Nat} (row : PulseRow p clr r) (hlo : 0x40 ≤ lo) (hhi : lo + 4 * n ≤ 0x1000) (hp : p ≠ .evt)
    (runs : ∀ s, exec c s = s.run fun d => d.onIo fun io => io.clearWrite p clr 1 fun io => io.clearFrom p lo n) :
    ClearCmd c p clr (wordsFrom lo n) (fun io => io.clearFrom p lo n) where
  row := ⟨r, row⟩
  clears := clears_clearFrom p lo n
  beyond off h := by
    obtain ⟨i, hi, rfl⟩ := mem_wordsFrom.1 h
    have := le_pageSpan p
    omega
  notEvt := hp
  runs := runs

/-- PCS_CNT_CLR clears the link counts beside its run of words (R136). -/
theorem clearCmd_pcs (p : Fin 128) :
    ClearCmd (.pcsCntClr p) (.pcs p) Reg.PCS_CNT_CLR (Reg.PCS_LINK_CNT :: wordsFrom Reg.PCS_BLK_ERR_LO 8) (fun io => io.pcsCntClr p) where
  row := ⟨_, rfl, rfl, rfl, rfl, rfl, rfl⟩
  clears := clears_pcsCntClr p
  beyond off h := by
    rcases List.mem_cons.1 h with rfl | h
    · simp [pageSpan, Reg.PCS_LINK_CNT]
    · obtain ⟨i, hi, rfl⟩ := mem_wordsFrom.1 h
      simp only [pageSpan, Reg.PCS_BLK_ERR_LO]
      omega
  notEvt := by simp
  runs s := rfl

/-- Every command that `clearedBy` names is a counter-clear command. -/
theorem clearCmd_of_clearedBy {c : Instr} {offs : List Nat} (h : clearedBy c = some (p, clr, offs)) : ∃ f, ClearCmd c p clr offs f := by
  have words : ∀ {c : Instr} {p : PageRef} {clr lo n : Nat} (r : Row), PulseRow p clr r → 0x40 ≤ lo ∧ lo + 4 * n ≤ 0x1000 → p ≠ .evt →
      (∀ s, exec c s = s.run fun d => d.onIo fun io => io.clearWrite p clr 1 fun io => io.clearFrom p lo n) →
      ∃ f, ClearCmd c p clr (wordsFrom lo n) f := fun r hr hb hp hx => ⟨_, .ofWords hr hb.1 hb.2 hp hx⟩
  unfold clearedBy at h
  split at h <;> cases h
  case h_1 p => exact ⟨_, clearCmd_pcs p⟩
  all_goals exact words _ ⟨rfl, rfl, rfl, rfl, rfl, rfl⟩ (by decide) (by simp) (fun _ => rfl)

end

/-- The words of a page beyond its header are left alone by a record of an ignored write. -/
theorem Io.reg_ignored_beyond (io : Io) {p : PageRef} (o reason : Nat) {off : Nat} (hp : p ≠ .evt) (h : 0x40 ≤ off) (hs : off < pageSpan p) :
    (io.ignored p o reason).reg p off = io.reg p off := by
  have span : ∀ x < 0x40, x < pageSpan p := fun x hx => by have := le_pageSpan p; omega
  have same : Io.Same (fun a => within p [Reg.EVT_PEND, Reg.ERR_CODE, Reg.ERR_INFO] a || eventPlace a) io (io.ignored p o reason) :=
    .ignored (fun a ha => by simp [ha]) io o reason (by simp [within]) (by simp [within]) (by simp [within])
  refine same.reg ?_
  simp [within, regAddr_eq_iff, eventPlace_page hs hp, Reg.EVT_PEND, Reg.ERR_CODE, Reg.ERR_INFO]
  omega

section
variable {c : Instr} {p : PageRef} {clr : Nat} {offs : List Nat} {f : Io → Io} {s : State}

/-- A counter-clear command that passes its checks. -/
theorem ClearCmd.runs_pass (h : ClearCmd c p clr offs f) (hpow : s.dev.io.powered p = true) (hlock : s.dev.io.flag p Reg.PAGE_LOCK 1 = false) :
    Runs c s fun d d' => (∀ off ∈ offs, d'.io.reg p off = 0) ∧ Dev.SameIo (within p offs) d d' := by
  obtain ⟨r, hr⟩ := h.row
  have hw : s.dev.io.writeReason p r 1 = none := by simp [hr.writeReason, hpow, hlock]
  have e := hr.clearWrite_pass s.dev.io f (show bit 1 0 = true by decide) hw
  refine Runs.ofIo (h.runs s) ⟨fun off hoff => ?_, Dev.SameIo.of ?_⟩
  · rw [Dev.onIo_io, e]
    exact h.clears.zero _ off hoff
  · rw [e]
    exact (Io.Same.wr_rd _ _ _).trans (h.clears.same _)

/-- A counter-clear command that fails a check. -/
theorem ClearCmd.runs_fail (h : ClearCmd c p clr offs f) (n : Nat) (hw : ∀ r, PulseRow p clr r → s.dev.io.writeReason p r 1 = some n) :
    Runs c s fun d d' => d' = d.onIo (fun io => io.ignored p clr n) ∧ ∀ off ∈ offs, d'.io.reg p off = d.io.reg p off := by
  obtain ⟨r, hr⟩ := h.row
  have e := hr.clearWrite_fail s.dev.io f (hw r hr)
  refine Runs.ofIo (h.runs s) ⟨by rw [Dev.onIo, e, Dev.onIo], fun off hoff => ?_⟩
  rw [Dev.onIo_io, e]
  exact Io.reg_ignored_beyond _ _ _ h.notEvt (h.beyond off hoff).1 (h.beyond off hoff).2

end

/-- What PAGE_LOCK holds once lock bits have been written with STICKY. -/
theorem lockWord_bits : ∀ locks : Fin 8,
    bits (Word.of (locks.val + 2 ^ 31) &&& 0x80000007) 0 3 = locks.val ∧ bit (Word.of (locks.val + 2 ^ 31) &&& 0x80000007) 31 = true := by decide

/-- PAGE_LOCK_STICKY while STICKY is clear. -/
theorem runs_pageLockSticky_stored (p : PageRef) (locks : Fin 8) {s : State} (h : s.dev.io.flag p Reg.PAGE_LOCK 31 = false) :
    Runs (.pageLockSticky p locks) s fun d d' =>
      d'.io.fld p Reg.PAGE_LOCK 0 3 = locks.val ∧ d'.io.flag p Reg.PAGE_LOCK 31 = true ∧ Dev.SameIo (within p [Reg.PAGE_LOCK]) d d' := by
  have e : s.dev.io.lockWrite p (Word.of (locks.val + 2 ^ 31)) = s.dev.io.put p Reg.PAGE_LOCK (Word.of (locks.val + 2 ^ 31) &&& 0x80000007) := by
    simp only [Io.lockWrite, h, Bool.false_eq_true, if_false]
  obtain ⟨hfld, hflag⟩ := lockWord_bits locks
  refine Runs.ofIo (f := fun io => io.lockWrite p (Word.of (locks.val + 2 ^ 31))) rfl ⟨?_, ?_, Dev.SameIo.of ?_⟩
  · rwa [Dev.onIo_io, e, Io.fld, Io.reg_put_self]
  · rwa [Dev.onIo_io, e, Io.flag, Io.reg_put_self]
  · rw [e]
    exact .put _ _ (within_self (by simp))

/-- PAGE_LOCK_STICKY while STICKY is set. -/
theorem runs_pageLockSticky_ignored (p : PageRef) (locks : Fin 8) {s : State} (h : s.dev.io.flag p Reg.PAGE_LOCK 31 = true) :
    Runs (.pageLockSticky p locks) s fun d d' =>
      d'.io.reg p Reg.PAGE_LOCK = d.io.reg p Reg.PAGE_LOCK ∧ d'.io.fld p Reg.ERR_CODE 0 16 = codeIgnored p
        ∧ d'.io.reg p Reg.ERR_INFO = Word.of (Reg.PAGE_LOCK + 2 ^ 14) := by
  have e : s.dev.io.lockWrite p (Word.of (locks.val + 2 ^ 31)) = s.dev.io.ignored p Reg.PAGE_LOCK 1 := by
    simp only [Io.lockWrite, h, if_true]
  refine Runs.ofIo (f := fun io => io.lockWrite p (Word.of (locks.val + 2 ^ 31))) rfl ?_
  rw [Dev.onIo_io, e, Io.ignored]
  exact ⟨Io.reg_recordErr_off _ _ _ _ (by decide) (by decide) (by decide) (by decide), Io.code_recordErr _ _ _ (codeIgnored_lt p),
    Io.reg_recordErr_info _ _ _ _⟩

/-- ERR_CODE_CLR (R34). -/
theorem runs_errCodeClr (p : PageRef) (s : State) : Runs (.errCodeClr p) s fun d d' =>
    d'.io.reg p Reg.ERR_CODE = 0 ∧ d'.io.reg p Reg.ERR_INFO = 0 ∧ Dev.SameIo (within p [Reg.ERR_CODE, Reg.ERR_INFO]) d d' := by
  refine Runs.ofIo (f := fun io => io.errClear p) rfl ⟨?_, ?_, Dev.SameIo.of ?_⟩
  · rw [Dev.onIo_io, Io.errClear, Io.reg_put_off _ _ (by decide), Io.reg_put_self]
  · rw [Dev.onIo_io, Io.errClear, Io.reg_put_self]
  · exact (Io.Same.put _ _ (within_self (by simp))).trans (.put _ _ (within_self (by simp)))

/-- Settles O12: the counter-clear commands by `clearCmd_of_clearedBy`, which says of each that it is a checked write that clears a run of words. -/
theorem clearsAndLocksAct : Obligations.ClearsAndLocksAct := by
  unfold Obligations.ClearsAndLocksAct
  refine ⟨runs_errCodeClr, fun c p clr offs s hc => ?_, fun p locks s => ⟨runs_pageLockSticky_stored p locks, runs_pageLockSticky_ignored p locks⟩⟩
  obtain ⟨f, hf⟩ := clearCmd_of_clearedBy hc
  refine ⟨hf.runs_pass, fun hpow hlock => hf.runs_fail 1 fun r hr => ?_, fun hpow => hf.runs_fail 3 fun r hr => ?_⟩
  · simp [hr.writeReason, hpow, hlock]
  · simp [hr.writeReason, hpow]

end Sys2Proof.Machine

/-! Events latch and send (R34, R37, R38, R79, R80): what bringing a source to its level leaves in EVT_SRC_PEND, what a write of a map entry and an unmasking send. -/
namespace Sys2Proof.Machine

/-- The addresses at which the event words of a page, the EVT page and the map lie. -/
def eventWords (p : PageRef) (offs : List Nat) (a : Nat) : Bool := within p offs a || eventPlace a

theorem eventWords_of_place {p : PageRef} {offs : List Nat} {a : Nat} (h : eventPlace a = true) : eventWords p offs a = true := by
  simp [eventWords, h]

theorem eventWords_self {p : PageRef} {offs : List Nat} {off : Nat} (h : off ∈ offs) : eventWords p offs (regAddr p off) = true := by
  simp [eventWords, within_self h]

/-- A write of EVT_PEND, with the sources that follow, changes that word, the EVT page and the map. -/
theorem Io.Same.putPend_refresh (io : Io) (p : PageRef) (w : Word) :
    Io.Same (eventWords p [Reg.EVT_PEND]) io ((io.put p Reg.EVT_PEND w).refresh p) :=
  (Io.Same.put io w (eventWords_self (by simp))).trans (.refresh (fun _ h => eventWords_of_place h) _ _)

theorem Io.reg_putPend_refresh (io : Io) (p : PageRef) (w : Word) : ((io.put p Reg.EVT_PEND w).refresh p).reg p Reg.EVT_PEND = w := by
  rw [Io.reg_refresh _ _ _ (by decide), Io.reg_put_self]

/-! What is pending (R37, R80). -/

theorem Io.rd_edge (io : Io) (n a : Nat) : (io.edge n).rd a = io.rd a := (Io.Same.edge (T := fun _ => false) io n).rd a rfl

theorem Io.rd_release (io : Io) (n a : Nat) : (io.release n).rd a = io.rd a := (Io.Same.release (T := fun _ => false) io n).rd a rfl

theorem evtMapAddr_ne_srcPend {m n : Nat} (h : n < 2048) : regAddr .evt (0x100 + 4 * (n / 32)) ≠ evtMapAddr m := by
  simp only [regAddr, pageBase, evtMapAddr]
  omega

/-- What is pending follows from the words of EVT_SRC_PEND. -/
theorem Io.srcPending_congr {io io' : Io} {n : Nat} (h : io'.rd (regAddr .evt (0x100 + 4 * (n / 32))) = io.rd (regAddr .evt (0x100 + 4 * (n / 32)))) :
    io'.srcPending n = io.srcPending n := by
  rw [Io.srcPending, Io.flag, Io.reg, h]
  rfl

theorem Io.srcPending_setFlag (io : Io) (m n : Nat) (l : Bool) :
    (io.setFlag .evt (0x100 + 4 * (m / 32)) (m % 32) l).srcPending n = if n = m then l else io.srcPending n := by
  unfold Io.srcPending
  by_cases hw : n / 32 = m / 32
  · rw [hw]
    by_cases hb : n % 32 = m % 32
    · rw [if_pos (by omega), hb, Io.flag_setFlag_self _ _ _ _ _ (by omega)]
    · rw [if_neg (by omega), Io.flag_setFlag_bit _ _ (by omega) hb]
  · rw [if_neg (by omega), Io.flag, Io.reg_setFlag_off _ _ _ (by omega), Io.flag]

/-- Bringing a source to its level changes what is pending of that source alone. -/
theorem Io.srcPending_setSource (io : Io) {m n : Nat} (l : Bool) (h : n < 2048) :
    (io.setSource m l).srcPending n = if n = m then l else io.srcPending n := by
  unfold Io.setSource
  split_ifs with hl hn hn hn
  · rw [hn, hl]
  · rfl
  all_goals
    refine (Io.srcPending_congr ?_).trans ((Io.srcPending_setFlag io m n l).trans (by simp [*]))
    simp only [Io.rd_edge, Io.rd_release, Io.rd_wr_ne _ _ (evtMapAddr_ne_srcPend h)]

/-- The level of a source follows from the headers of the pages that feed it. -/
theorem Io.sourceLevel_congr {io io' : Io} (p : PageRef) (n : Nat) (hp : ∀ q, io'.reg q Reg.EVT_PEND = io.reg q Reg.EVT_PEND)
    (he : ∀ q, io'.reg q Reg.EVT_EN = io.reg q Reg.EVT_EN) : io'.sourceLevel p n = io.sourceLevel p n := by
  simp only [Io.sourceLevel, hp, he]

theorem Io.sourceLevel_setSource (io : Io) (p : PageRef) {m : Nat} (n : Nat) (l : Bool) (h : m < 2048) :
    (io.setSource m l).sourceLevel p n = io.sourceLevel p n :=
  Io.sourceLevel_congr p n (fun q => Io.reg_setSource _ _ _ _ _ (by decide) h) (fun q => Io.reg_setSource _ _ _ _ _ (by decide) h)

/-- Sources brought to their levels one after the other all stand at them, and so does one that stood at its level before. -/
theorem Io.srcPending_levels (p : PageRef) (ns : List Nat) (hns : ∀ m ∈ ns, m < 2048) {n : Nat} (hn : n < 2048) (io : Io)
    (h : io.srcPending n = io.sourceLevel p n ∨ n ∈ ns) :
    let io' := ns.foldl (fun io m => io.setSource m (io.sourceLevel p m)) io
    io'.srcPending n = io'.sourceLevel p n := by
  induction ns generalizing io with
  | nil => exact h.resolve_right (by simp)
  | cons m ns ih =>
    refine ih (fun k hk => hns k (by simp [hk])) _ ?_
    rw [Io.srcPending_setSource _ _ hn, Io.sourceLevel_setSource _ _ _ _ (hns m (by simp))]
    by_cases hm : n = m
    · exact .inl (by rw [if_pos hm, hm])
    · rw [if_neg hm]
      exact h.imp_right fun hmem => (List.mem_cons.1 hmem).resolve_left hm

/-- After a write of its events every source of a page stands at its level (R37). -/
theorem Io.srcPending_refresh (io : Io) (p : PageRef) : ∀ n ∈ pageSources p, (io.refresh p).srcPending n = (io.refresh p).sourceLevel p n :=
  fun n hn => Io.srcPending_levels p _ (pageSources_lt p) (pageSources_lt p n hn) io (.inr hn)

/-! EVT_PEND_CLEAR and EVT_FORCE (R34, R37). -/

theorem runs_evtPendClear (p : PageRef) (v : Word) (s : State) : Runs (.evtPendClear p v) s fun d d' =>
    d'.io.reg p Reg.EVT_PEND = d.io.reg p Reg.EVT_PEND &&& ~~~v ∧ Dev.SameIo (eventWords p [Reg.EVT_PEND]) d d' :=
  Runs.ofIo (f := fun io => io.evtClear p v) rfl ⟨Io.reg_putPend_refresh _ _ _, Dev.SameIo.of (.putPend_refresh _ _ _)⟩

theorem runs_evtPendClear_sources (p : PageRef) (v : Word) (s : State) :
    Runs (.evtPendClear p v) s fun _ d' => ∀ n ∈ pageSources p, d'.io.srcPending n = d'.io.sourceLevel p n :=
  Runs.ofIo (f := fun io => io.evtClear p v) rfl (Io.srcPending_refresh _ p)

theorem Io.evtForce_free {io : Io} {p : PageRef} (h : io.flag p Reg.PAGE_LOCK 2 = false) (v : Word) :
    io.evtForce p v = (io.put p Reg.EVT_PEND (io.reg p Reg.EVT_PEND ||| v)).refresh p := by simp [Io.evtForce, h]

theorem Io.evtForce_locked {io : Io} {p : PageRef} (h : io.flag p Reg.PAGE_LOCK 2 = true) (v : Word) :
    io.evtForce p v = io.ignored p Reg.EVT_FORCE 1 := by simp [Io.evtForce, h]

theorem runs_evtForce_free {p : PageRef} {s : State} (h : s.dev.io.flag p Reg.PAGE_LOCK 2 = false) (v : Word) : Runs (.evtForce p v) s fun d d' =>
    d'.io.reg p Reg.EVT_PEND = d.io.reg p Reg.EVT_PEND ||| v ∧ Dev.SameIo (eventWords p [Reg.EVT_PEND]) d d' := by
  refine Runs.ofIo (f := fun io => io.evtForce p v) rfl ⟨?_, Dev.SameIo.of ?_⟩
  · rw [Dev.onIo_io, Io.evtForce_free h, Io.reg_putPend_refresh]
  · rw [Io.evtForce_free h]
    exact .putPend_refresh _ _ _

theorem runs_evtForce_locked {p : PageRef} {s : State} (h : s.dev.io.flag p Reg.PAGE_LOCK 2 = true) (v : Word) : Runs (.evtForce p v) s fun d d' =>
    d'.io.reg p Reg.EVT_PEND = setBit (d.io.reg p Reg.EVT_PEND) 0 true
      ∧ d'.io.fld p Reg.ERR_CODE 0 16 = codeIgnored p ∧ d'.io.reg p Reg.ERR_INFO = Word.of (Reg.EVT_FORCE + 2 ^ 14)
      ∧ Dev.SameIo (eventWords p [Reg.EVT_PEND, Reg.ERR_CODE, Reg.ERR_INFO]) d d' := by
  refine Runs.ofIo (f := fun io => io.evtForce p v) rfl ⟨?_, ?_, ?_, Dev.SameIo.of ?_⟩
  · rw [Dev.onIo_io, Io.evtForce_locked h, Io.ignored, Io.reg_recordErr_pend]
  · rw [Dev.onIo_io, Io.evtForce_locked h, Io.ignored, Io.code_recordErr _ _ _ (codeIgnored_lt p)]
  · rw [Dev.onIo_io, Io.evtForce_locked h, Io.ignored, Io.reg_recordErr_info]
    rfl
  · rw [Io.evtForce_locked h]
    exact .ignored (fun _ h => eventWords_of_place h) _ _ _ (eventWords_self (by simp)) (eventWords_self (by simp)) (eventWords_self (by simp))

theorem runs_evtForce_sources (p : PageRef) (v : Word) (s : State) : Runs (.evtForce p v) s fun _ d' =>
    s.dev.io.flag p Reg.PAGE_LOCK 2 = false → ∀ n ∈ pageSources p, d'.io.srcPending n = d'.io.sourceLevel p n := by
  refine Runs.ofIo (f := fun io => io.evtForce p v) rfl fun h => ?_
  rw [Dev.onIo_io, Io.evtForce_free h]
  exact Io.srcPending_refresh _ p

/-! EVT_MAP_WRITE and MSIX_UNMASK (R79). -/

/-- The word that a write of a map entry stores: VECTOR and EN from the write, PEND kept. -/
def mapWord (old v : Word) : Word := (v &&& 0x000107FF) ||| (old &&& 0x01000000)

theorem bit_mapWord_en (old v : Word) : bit (mapWord old v) 16 = bit v 16 := by
  have h₁ : bit 0x000107FF 16 = true := by decide
  have h₂ : bit 0x01000000 16 = false := by decide
  simp only [mapWord, bit_or, bit_and, h₁, h₂, Bool.and_true, Bool.and_false, Bool.or_false]

theorem bits_mapWord_vector (old v : Word) : bits (mapWord old v) 0 11 = bits v 0 11 := by
  apply Nat.eq_of_testBit_eq
  intro i
  rw [testBit_bits, testBit_bits]
  by_cases hi : i < 11
  · have h₁ : ∀ i < 11, bit 0x000107FF (0 + i) = true := by decide
    have h₂ : ∀ i < 11, bit 0x01000000 (0 + i) = false := by decide
    have := bit_or (v &&& 0x000107FF) (old &&& 0x01000000) (0 + i)
    rw [bit_and, bit_and, h₁ i hi, h₂ i hi, Bool.and_true, Bool.and_false, Bool.or_false] at this
    exact congrArg _ this
  · simp [hi]

/-- The entry is written, and EN set on a pending source is a rising edge; pending bits aside, that is the whole write. -/
theorem Io.mapWrite_eq (io : Io) (n : Nat) (v : Word) : ∃ pba,
    io.mapWrite n v =
      let io' := io.wr (evtMapAddr n) (mapWord (io.rd (evtMapAddr n)) v)
      let io' := if bit v 16 ∧ !bit (io.rd (evtMapAddr n)) 16 ∧ io.srcPending n then io'.edge n else io'
      { io' with pba := pba } := by
  unfold Io.mapWrite
  dsimp only
  split_ifs <;> exact ⟨_, rfl⟩

/-- A rising edge of a source whose enabled entry names an unmasked vector sends its message. -/
theorem Io.edge_out {io : Io} {n : Nat} (h : bit (io.rd (evtMapAddr n)) 16 = true)
    (hu : io.unmasked.contains (bits (io.rd (evtMapAddr n)) 0 11) = true) :
    (io.edge n).out = .msix 0 (bits (io.rd (evtMapAddr n)) 0 11) :: io.out := by
  have hk : 0 * 2048 + bits (io.rd (evtMapAddr n)) 0 11 = bits (io.rd (evtMapAddr n)) 0 11 := by omega
  simp only [Io.edge, Io.sourceVector, h, if_true, Io.message, hk, hu, Io.emit_out]

theorem runs_evtMapWrite (n : Fin 2048) (v : Word) (s : State) : Runs (.evtMapWrite n v) s fun d d' =>
    let a := evtMapAddr n
    d'.io.rd a = mapWord (d.io.rd a) v
      ∧ (bit v 16 = true → bit (d.io.rd a) 16 = false → d.io.srcPending n = true → d.io.unmasked.contains (bits v 0 11) = true →
          d'.io.out = Out.msix 0 (bits v 0 11) :: d.io.out)
      ∧ (bit v 16 = false → d'.io.out = d.io.out)
      ∧ Dev.SameIo (fun x => decide (x = a)) d d' := by
  refine Runs.ofIo (f := fun io => io.mapWrite n v) rfl ?_
  obtain ⟨pba, e⟩ := Io.mapWrite_eq s.dev.io n v
  have hent : (s.dev.io.wr (evtMapAddr n) (mapWord (s.dev.io.rd (evtMapAddr n)) v)).rd (evtMapAddr n) = mapWord (s.dev.io.rd (evtMapAddr n)) v :=
    Io.rd_wr_self _ _ _
  dsimp only
  refine ⟨?_, fun hv ho hp hu => ?_, fun hv => ?_, Dev.SameIo.of ?_⟩
  · rw [Dev.onIo_io, e]
    dsimp only
    split
    · exact (Io.rd_edge _ _ _).trans hent
    · exact hent
  · rw [Dev.onIo_io, e]
    simp only [hv, ho, hp, Bool.not_false, and_self, if_true]
    rw [Io.edge_out (by rw [hent, bit_mapWord_en, hv]) (by rw [hent, bits_mapWord_vector]; exact hu), hent, bits_mapWord_vector]
    rfl
  · rw [Dev.onIo_io, e]
    simp [hv]
  · rw [e]
    refine .trans (y := s.dev.io.wr (evtMapAddr n) (mapWord (s.dev.io.rd (evtMapAddr n)) v)) (.wr _ _ (by simp)) ?_
    dsimp only
    split
    · exact (Io.Same.edge _ _).trans (.pba _ _)
    · exact .pba _ _

theorem runs_msixUnmask (fn : Fin 64) (vec : Fin 2048) (s : State) (h : vec.val < vectorsOf fn.val) : Runs (.msixUnmask fn vec) s fun d d' =>
    let k := fn.val * 2048 + vec.val
    d'.io.unmasked.contains k = true ∧ d'.io.pba.contains k = false
      ∧ d'.io.out = (if d.io.pba.contains k then [Out.msix fn vec] else []) ++ d.io.out
      ∧ (∀ a, d'.io.rd a = d.io.rd a) := by
  refine Runs.ofIo (f := fun io => io.unmask fn vec) rfl ?_
  rw [Dev.onIo_io, Io.unmask, if_neg (by omega)]
  dsimp only
  generalize hk : fn.val * 2048 + vec.val = k
  have hun : ((if s.dev.io.unmasked.contains k then s.dev.io.unmasked else k :: s.dev.io.unmasked).contains k) = true := by
    split <;> simp_all
  by_cases hp : s.dev.io.pba.contains k = true
  · rw [if_pos hp, if_pos hp]
    exact ⟨hun, by simp, rfl, fun _ => rfl⟩
  · rw [if_neg hp, if_neg hp]
    exact ⟨hun, by simpa using hp, rfl, fun _ => rfl⟩

/-- Settles O13: the sources of a page by `Io.srcPending_refresh`, the map by `Io.mapWrite_eq`. -/
theorem eventsLatchAndSend : Obligations.EventsLatchAndSend := by
  unfold Obligations.EventsLatchAndSend
  exact ⟨fun p v s => ⟨runs_evtPendClear p v s, fun h => runs_evtForce_free h v, fun h => runs_evtForce_locked h v⟩,
    fun p v s => ⟨runs_evtPendClear_sources p v s, runs_evtForce_sources p v s⟩, runs_evtMapWrite, runs_msixUnmask⟩

end Sys2Proof.Machine

/-! What the retiring of references leaves alone (R50, R200, R208): every command that settles keeps the registers beside those of the stores, the queues and
TOP_COMMIT_PEND. -/
namespace Sys2Proof.Machine

/-- The offset in the HQ pages is that of a count of commands in flight or of memory held, or of a ring (R59, R84). -/
def flightReg (off : Nat) : Bool := decide (0x4000 ≤ off) || decide (0x1000 ≤ off ∧ off % 0x80 ≠ Reg.HQ_FN_BAD_WRITES)

theorem flightReg_iff {off : Nat} : flightReg off = true ↔ 0x4000 ≤ off ∨ 0x1000 ≤ off ∧ off % 0x80 ≠ 0x44 := by simp [flightReg]

/-- The place is one that completing and retiring may write. -/
def Place.replies : Place → Bool
  | .page .fstr _ => true
  | .page .hq off => flightReg off
  | _ => false

/-- The place is one that settling may write. -/
def Place.settles : Place → Bool
  | .page .fstr _ => true
  | .page .top off => decide (off = Reg.TOP_COMMIT_PEND ∨ off = Reg.TOP_COMMIT_STAT)
  | .page .hq off => flightReg off
  | _ => false

/-- The address is one that completing and retiring may write: of the stores, the queues and of events. -/
def replyPlace (a : Nat) : Bool := eventPlace a || (placeOf a).replies

/-- The address is one that settling may write: of the stores, the queues, what shows the commits that wait, and of events. -/
def settlePlace (a : Nat) : Bool := eventPlace a || (placeOf a).settles

theorem Place.settles_of_replies {p : Place} (h : p.replies = true) : p.settles = true := by
  unfold Place.replies at h
  split at h
  · rfl
  · exact h
  · exact Bool.noConfusion h

theorem settlePlace_of_reply {a : Nat} (h : replyPlace a = true) : settlePlace a = true := by
  simp only [replyPlace, settlePlace, Bool.or_eq_true] at h ⊢
  exact h.imp id Place.settles_of_replies

theorem replyPlace_event {a : Nat} (h : eventPlace a = true) : replyPlace a = true := by simp [replyPlace, h]

theorem replyPlace_page {p : PageRef} {off : Nat} (h : off < pageSpan p) (hp : p ≠ .evt) : replyPlace (regAddr p off) = (Place.page p off).replies := by
  rw [replyPlace, eventPlace_page h hp, placeOf_regAddr p off h, Bool.false_or]

theorem settlePlace_page {p : PageRef} {off : Nat} (h : off < pageSpan p) (hp : p ≠ .evt) : settlePlace (regAddr p off) = (Place.page p off).settles := by
  rw [settlePlace, eventPlace_page h hp, placeOf_regAddr p off h, Bool.false_or]

theorem replyPlace_fstr {off : Nat} (h : off < 0x1000) : replyPlace (regAddr .fstr off) = true := by
  rw [replyPlace_page h (by simp)]
  rfl

theorem replyPlace_qp (q : Nat) {off : Nat} (h : off < 0x40) : replyPlace (regAddr .hq (qpReg q off)) = true := by
  rw [replyPlace_page (by simp only [pageSpan, qpReg]; omega) (by simp)]
  rw [Place.replies, flightReg_iff, qpReg]
  omega

theorem replyPlace_fn (f : Nat) {off : Nat} (h : off < 0x80) (hb : off ≠ Reg.HQ_FN_BAD_WRITES) : replyPlace (regAddr .hq (fnReg f off)) = true := by
  rw [replyPlace_page (by simp only [pageSpan, fnReg]; omega) (by simp)]
  rw [Place.replies, flightReg_iff, fnReg]
  have : off ≠ 0x44 := hb
  omega

/-! Completions (R63, R64). -/

section
variable {T : Nat → Bool}

theorem Io.Same.setFn (io : Io) (f off v : Nat) (h : T (regAddr .hq (fnReg f off)) = true) : Io.Same T io (io.setFn f off v) := by
  unfold Io.setFn
  split
  · exact .refl _ _
  · exact .put _ _ h

theorem Io.Same.pairMessage (q : Nat) (io : Io) (hq : Queues) : Io.Same T io (pairMessage q io hq).1 := by
  unfold Machine.pairMessage
  dsimp only
  generalize (decide ((hq.pair q).unreported > 0) && _) = due
  split
  · exact .message _ _ _
  · exact .refl _ _

theorem Io.Same.writeEntry (hT : ∀ a, replyPlace a = true → T a = true) (q tag status code hi lo : Nat) (io : Io) (hq : Queues) :
    Io.Same T io (writeEntry q tag status code hi lo io hq).1 :=
  ((Io.Same.emit io _).trans (.put _ _ (hT _ (replyPlace_qp q (by decide))))).trans (.pairMessage _ _ _)

theorem Io.Same.showFlight (hT : ∀ a, replyPlace a = true → T a = true) (io : Io) (hq : Queues) (q : Nat) : Io.Same T io (io.showFlight hq q) :=
  (Io.Same.put io _ (hT _ (replyPlace_qp q (by decide)))).trans (.setFn _ _ _ _ (hT _ (replyPlace_fn _ (by decide) (by decide))))

theorem Io.Same.complete (hT : ∀ a, replyPlace a = true → T a = true) (q tag : Nat) (r : Reply) (io : Io) (hq : Queues) :
    Io.Same T io (complete q tag r io hq).1 := by
  unfold Machine.complete
  split
  · exact .refl _ _
  · dsimp only
    split
    · exact .showFlight hT _ _ _
    · exact (Io.Same.showFlight hT _ _ _).trans (.writeEntry hT ..)

theorem Dev.reply_io (hT : ∀ a, replyPlace a = true → T a = true) (d : Dev) (src : Option (Nat × Nat)) (r : Reply) :
    Io.Same T d.io (d.reply src r).io := by
  cases src with
  | none => exact .refl _ _
  | some x => exact .complete hT ..

/-! Retiring (R200, R208). -/

theorem Io.Same.setFree_ (hT : ∀ a, replyPlace a = true → T a = true) (io : Io) (n : Nat) : Io.Same T io (io.setFree_ n) := by
  have put := Io.Same.put (T := T) io (p := .fstr) (off := Reg.FSTR_GRAN_FREE) (Word.of n) (hT _ (replyPlace_fstr (by decide)))
  unfold Io.setFree_
  dsimp only
  split
  · exact put.trans (.raise (fun _ h => hT _ (replyPlace_event h)) _ _ (hT _ (replyPlace_fstr (by decide))))
  · exact put

theorem Dev.retire_io (hT : ∀ a, replyPlace a = true → T a = true) (d : Dev) (i : Nat) (s : Store) (deferred : Bool) :
    Io.Same T d.io (d.retire i s deferred).io := by
  unfold Dev.retire
  dsimp only
  refine .trans ?_ (Dev.reply_io hT _ _ _)
  dsimp only
  generalize hq : Stores.mk .. = st
  have shown : ∀ (n m : Nat), Io.Same T d.io ((((d.io.put .fstr Reg.FSTR_GRAN_TOTAL (Word.of n)).setFree_ m).showHandles st).showHeld st s.owner) := fun n m =>
    (((Io.Same.put d.io _ (hT _ (replyPlace_fstr (by decide)))).trans (.setFree_ hT _ _)).trans (.put _ _ (hT _ (replyPlace_fstr (by decide))))).trans
      (.setFn _ _ _ _ (hT _ (replyPlace_fn _ (by decide) (by decide))))
  split
  · exact (shown _ _).trans (.raise (fun _ h => hT _ (replyPlace_event h)) _ _ (hT _ (replyPlace_fstr (by decide))))
  · exact shown _ _

end

/-! Settling. -/

section
variable {R : Io → Io → Prop} (hrefl : ∀ x, R x x) (htrans : ∀ {x y z}, R x y → R y z → R x z) (hreply : ∀ {x y}, Io.Same replyPlace x y → R x y)
  (hshow : ∀ d : Dev, R d.io d.showPend.io)

include hrefl htrans in
theorem Dev.foldl_rel {α : Type} {f : Dev → α → Dev} (h : ∀ d x, R d.io (f d x).io) (xs : List α) (d : Dev) : R d.io (xs.foldl f d).io := by
  induction xs generalizing d with
  | nil => exact hrefl _
  | cons x xs ih => exact htrans (h d x) (ih _)

/-- The accepted commits that nothing keeps open, and those that stay with what has yet to become live. -/
def Dev.closedPend (d : Dev) : List Pend := d.com.pend.filter (fun p => !d.commitOpen p)
def Dev.stillOpen (d : Dev) : List Pend := (d.com.pend.filter d.commitOpen).map (fun p => { p with vals := p.vals.filter (fun x => d.waits p x.1) })

/-- The part once the commits that nothing keeps open have left. -/
def Dev.withoutClosed (d : Dev) : Dev := { d with com := { d.com with pend := d.stillOpen } }

theorem Dev.finishCommits_eq (d : Dev) : d.finishCommits =
    if d.com.pend.isEmpty then d else (d.closedPend.foldl (fun (d : Dev) p => d.reply p.src p.reply) d.withoutClosed).showPend := rfl

include hrefl htrans hreply hshow

theorem Dev.finishCommits_rel (d : Dev) : R d.io d.finishCommits.io := by
  rw [Dev.finishCommits_eq]
  split
  · exact hrefl _
  · exact htrans (Dev.foldl_rel hrefl htrans (fun d p => hreply (Dev.reply_io (fun _ h => h) d p.src p.reply)) d.closedPend d.withoutClosed) (hshow _)

/-- What completions, frees and the counts of accepted commits keep, settling keeps. -/
theorem Dev.settle_rel (d : Dev) : R d.io d.settle.io := by
  unfold Dev.settle
  exact htrans (Dev.finishCommits_rel hrefl htrans hreply hshow d)
    (Dev.foldl_rel (f := fun (d : Dev) (e : Nat × Store) => d.retire e.1 e.2 true) hrefl htrans
      (fun d e => hreply (Dev.retire_io (fun _ h => h) d e.1 e.2 true)) _ d.finishCommits.freeSlots)

end

section
variable {T : Nat → Bool}

theorem Dev.showPend_io (hp : T (regAddr .top Reg.TOP_COMMIT_PEND) = true) (hs : T (regAddr .top Reg.TOP_COMMIT_STAT) = true) (d : Dev) :
    Io.Same T d.io d.showPend.io := by
  unfold Dev.showPend
  dsimp only
  split
  · exact .refl _ _
  · exact (Io.Same.put _ _ hp).trans (.setFlag _ _ _ hs)

/-- Settling leaves alone every register that is no place of its own. -/
theorem Dev.settle_io (hT : ∀ a, settlePlace a = true → T a = true) (d : Dev) : Io.Same T d.io d.settle.io :=
  Dev.settle_rel (Io.Same.refl T) .trans (fun h => h.mono fun a ha => hT a (settlePlace_of_reply ha))
    (Dev.showPend_io (hT _ (by decide)) (hT _ (by decide))) d

end

theorem Dev.settle_same (d : Dev) : Io.Same settlePlace d.io d.settle.io := d.settle_io fun _ h => h

end Sys2Proof.Machine

/-! A register write is stored, or ignored and recorded (R5, R38, R39, R82): on a page whose registers only store, the write reaches the page's row and nothing that
settles touches it. -/
namespace Sys2Proof.Machine

/-! Where writable registers lie. -/

theorem rows_in_page (p : PageRef) : ∀ r ∈ rowsOf p, 0 < r.stride ∧ 0x40 ≤ r.off ∧ r.off + r.stride * r.count ≤ 0x1000 := by
  intro r hr
  revert r
  cases p <;> simp only [rowsOf] <;> decide

/-- A writable register lies beyond the header and in its page. -/
theorem rowAt_bounds {p : PageRef} {off : Nat} {r : Row} (h : rowAt p off = some r) : 0x40 ≤ off ∧ off < 0x1000 := by
  have hfind : (rowsOf p).find? (fun r => r.covers off) = some r := h
  have hcov := List.find?_some hfind
  obtain ⟨hstride, hlo, hhi⟩ := rows_in_page p r (List.mem_of_find?_eq_some hfind)
  simp only [Row.covers, Bool.and_eq_true, decide_eq_true_eq] at hcov
  obtain ⟨⟨hoff, -⟩, hcount⟩ := hcov
  have : off - r.off < r.count * r.stride := (Nat.div_lt_iff_lt_mul hstride).1 hcount
  rw [Nat.mul_comm] at this
  omega

theorem pageBase_aligned (p : PageRef) : pageBase p % 4 = 0 := by
  cases p <;> simp only [pageBase] <;> omega

/-- The pages whose registers only store are none that settling writes, and none of events. -/
theorem settlePlace_plain {p : PageRef} {off : Nat} (hp : plainReg p off = true) {o : Nat} (h : o < 0x1000) : settlePlace (regAddr p o) = false := by
  have hs : o < pageSpan p := lt_of_lt_of_le h (le_pageSpan p)
  rw [settlePlace_page hs (by rintro rfl; exact Bool.noConfusion hp)]
  cases p
  case top | hq | fstr => exact Bool.noConfusion hp
  all_goals rfl

theorem Dev.blockWrite_plain (d : Dev) {p : PageRef} {off : Nat} (v : Word) (h : plainReg p off = true) :
    d.blockWrite p off v = d.onIo (fun io => io.regWrite 0 p off v) := by
  cases p
  case outc o =>
    obtain ⟨hleg, hlpe⟩ := of_decide_eq_true h
    rw [Dev.blockWrite, Dev.outcWrite, if_neg hleg, if_neg hlpe]
  case mac | hbmc | prsm | comp | loup | audm | asrc => rw [Dev.blockWrite, if_neg (of_decide_eq_true h)]
  all_goals exact Bool.noConfusion h

/-- A write of a row's register over the bus by PF0, on a page whose registers only store. -/
theorem Runs.writePlain {p : PageRef} {off : Nat} {r : Row} {addr : BitVec 26} {v : Word} {s : State} {P : Dev → Dev → Prop} (ha : addr.toNat = regAddr p off)
    (h4 : off % 4 = 0) (hp : plainReg p off = true) (hr : rowAt p off = some r)
    (k : P s.dev (s.dev.onIo fun io => io.regWrite 0 p off v).settle) : Runs (.regWrite 0 addr v) s P := by
  obtain ⟨hlo, hhi⟩ := rowAt_bounds hr
  have al : regAddr p off % 4 = 0 := by
    have := pageBase_aligned p
    simp only [regAddr]
    omega
  refine Runs.settle (f := fun d => d.busWrite addr.toNat v) ?_ ?_
  · show execRegWrite 0 addr v s = _
    simp [execRegWrite, ha, al]
  · rw [ha, Dev.busWrite, placeOf_regAddr p off (lt_of_lt_of_le hhi (le_pageSpan p))]
    dsimp only
    rwa [if_neg (by omega), Dev.blockWrite_plain _ _ hp]

section
variable {io : Io} {p : PageRef} {off : Nat} {r : Row} {v : Word}

theorem Io.regWrite_pass (hr : rowAt p off = some r) (hw : io.writeReason p r v = none) (fn : Nat) : io.regWrite fn p off v = io.store fn p r off v := by
  simp [Io.regWrite, hr, hw]

theorem Io.regWrite_fail (hr : rowAt p off = some r) {n : Nat} (hw : io.writeReason p r v = some n) (fn : Nat) :
    io.regWrite fn p off v = io.ignored p off n := by
  simp [Io.regWrite, hr, hw]

@[simp] theorem Io.markWritten_rd (io : Io) (r : Row) (a b : Nat) : (io.markWritten r a).rd b = io.rd b := by
  unfold Io.markWritten; split <;> rfl

@[simp] theorem Io.markWritten_shadow (io : Io) (r : Row) (a : Nat) : (io.markWritten r a).shadow = io.shadow := by
  unfold Io.markWritten; split <;> rfl

@[simp] theorem Io.markWritten_shadowRd (io : Io) (r : Row) (a b : Nat) : (io.markWritten r a).shadowRd b = io.shadowRd b := by
  simp [Io.shadowRd]

/-- A register that is not shadowed stores live (R5). -/
theorem Io.store_live (h : r.shadowed = false) (fn : Nat) : (io.store fn p r off v).rd (regAddr p off) = r.merge (io.rd (regAddr p off)) v := by
  simp [Io.store, h]

/-- A shadowed register stores into its shadow (R39). -/
theorem Io.store_shadow (h : r.shadowed = true) (fn : Nat) : (io.store fn p r off v).rd (regAddr p off) = io.rd (regAddr p off)
    ∧ FMap.find (io.store fn p r off v).shadow (regAddr p off) = some { val := r.merge (io.shadowRd (regAddr p off)) v, writer := fn, dirty := true } := by
  simp [Io.store, h]

end

section
variable {p : PageRef} {off : Nat} {r : Row} {addr : BitVec 26} {v : Word} {s : State}

/-- A write that passes its checks (R5, R39). -/
theorem runs_regWrite_stored (ha : addr.toNat = regAddr p off) (h4 : off % 4 = 0) (hp : plainReg p off = true) (hr : rowAt p off = some r)
    (hw : s.dev.io.writeReason p r v = none) : Runs (.regWrite 0 addr v) s fun d d' =>
      (r.shadowed = false → d'.io.rd addr.toNat = r.merge (d.io.rd addr.toNat) v)
        ∧ (r.shadowed = true → d'.io.rd addr.toNat = d.io.rd addr.toNat
            ∧ FMap.find d'.io.shadow addr.toNat = some { val := r.merge (d.io.shadowRd addr.toNat) v, writer := 0, dirty := true }) := by
  refine Runs.writePlain ha h4 hp hr ?_
  have same := Dev.settle_same (s.dev.onIo fun io => io.regWrite 0 p off v)
  rw [ha, same.rd _ (settlePlace_plain hp (rowAt_bounds hr).2), same.shadow, Dev.onIo_io, Io.regWrite_pass hr hw]
  exact ⟨fun h => Io.store_live h 0, fun h => Io.store_shadow h 0⟩

/-- A write that fails a check (R38). -/
theorem runs_regWrite_recorded (ha : addr.toNat = regAddr p off) (h4 : off % 4 = 0) (hp : plainReg p off = true) (hr : rowAt p off = some r) {n : Nat}
    (hw : s.dev.io.writeReason p r v = some n) : Runs (.regWrite 0 addr v) s fun d d' =>
      d'.io.rd addr.toNat = d.io.rd addr.toNat ∧ d'.io.shadow = d.io.shadow ∧ d'.io.fld p Reg.ERR_CODE 0 16 = codeIgnored p
        ∧ d'.io.reg p Reg.ERR_INFO = Word.of (off % 2 ^ 14 + n * 2 ^ 14) ∧ d'.io.flag p Reg.EVT_PEND 0 = true := by
  refine Runs.writePlain ha h4 hp hr ?_
  obtain ⟨hlo, hhi⟩ := rowAt_bounds hr
  have same := Dev.settle_same (s.dev.onIo fun io => io.regWrite 0 p off v)
  have kept : ∀ {o}, o < 0x1000 → (s.dev.onIo fun io => io.regWrite 0 p off v).settle.io.reg p o = (s.dev.io.ignored p off n).reg p o := fun ho =>
    (same.reg (settlePlace_plain hp ho)).trans (by rw [Dev.onIo_io, Io.regWrite_fail hr hw])
  have hevt : p ≠ .evt := by rintro rfl; exact Bool.noConfusion hp
  have hshadow : (s.dev.io.ignored p off n).shadow = s.dev.io.shadow :=
    (Io.Same.ignored (T := fun _ => true) (fun _ _ => rfl) s.dev.io off n rfl rfl rfl).shadow
  refine ⟨?_, ?_, ?_, ?_, ?_⟩
  · rw [ha]
    exact (kept hhi).trans (Io.reg_ignored_beyond _ _ _ hevt hlo (lt_of_lt_of_le hhi (le_pageSpan p)))
  · rw [same.shadow, Dev.onIo_io, Io.regWrite_fail hr hw, hshadow]
  · rw [Io.fld, kept (by decide)]
    exact Io.code_recordErr _ _ _ (codeIgnored_lt p)
  · rw [kept (by decide)]
    exact Io.reg_recordErr_info ..
  · rw [Io.flag, kept (by decide), Io.ignored, Io.reg_recordErr_pend]
    exact bit_setBit_self _ _ _ (by decide)

end

/-! Writes of a VF outside its contexts (R82). -/

theorem fnReg_bounds (f : Nat) {off : Nat} (h : off < 0x80) : 0x1000 ≤ fnReg f off ∧ fnReg f off < 0x3000 ∧ fnReg f off % 0x80 = off := by
  unfold fnReg
  omega

/-- An ignored write of a VF is counted and raises its event. -/
theorem Io.badWrite_counts (io : Io) {fn : Nat} (h : fn ≠ 0) :
    (io.badWrite fn).fn fn Reg.HQ_FN_BAD_WRITES = sat 32 (io.fn fn Reg.HQ_FN_BAD_WRITES + 1) ∧ (io.badWrite fn).flag .hq Reg.EVT_PEND 3 = true := by
  have hlt : sat 32 (io.fn fn Reg.HQ_FN_BAD_WRITES + 1) < 2 ^ 32 := by unfold sat; omega
  obtain ⟨hlo, hhi, -⟩ := fnReg_bounds fn (show Reg.HQ_FN_BAD_WRITES < 0x80 by decide)
  refine ⟨?_, ?_⟩
  · unfold Io.badWrite
    have hspan : fnReg fn Reg.HQ_FN_BAD_WRITES < pageSpan .hq := lt_trans hhi (by decide)
    have hne : fnReg fn Reg.HQ_FN_BAD_WRITES ≠ Reg.EVT_PEND := fun e => absurd (e ▸ hlo) (by decide)
    rw [Io.fn, Io.reg_raise _ _ hspan (by simp) (.inr hne), Io.setFn, if_neg h, Io.reg_put_self,
      Word.of, BitVec.toNat_ofNat, Nat.mod_eq_of_lt hlt]
  · unfold Io.badWrite
    rw [Io.flag, Io.reg_raise_pend]
    exact bit_setBit_self _ _ _ (by decide)

theorem runs_regWrite_vf {fn : Fin 64} {addr : BitVec 26} {v : Word} {s : State} (hf : fn ≠ 0) (h4 : addr.toNat % 4 = 0) (hlt : addr.toNat < 0x100000)
    (hctx : addr.toNat < 0x1000 ∨ 0x1100 ≤ addr.toNat) : Runs (.regWrite fn addr v) s fun d d' =>
      d'.io.fn fn Reg.HQ_FN_BAD_WRITES = sat 32 (d.io.fn fn Reg.HQ_FN_BAD_WRITES + 1) ∧ d'.io.shadow = d.io.shadow ∧ d'.io.flag .hq Reg.EVT_PEND 3 = true := by
  have hf' : fn.val ≠ 0 := fun h => hf (Fin.ext h)
  refine Runs.settle (f := fun d => d.onIo fun io => io.badWrite fn.val) ?_ ?_
  · show execRegWrite fn addr v s = _
    have hout : ¬(0x1000 ≤ addr.toNat ∧ addr.toNat < 0x1100) := by omega
    simp only [execRegWrite, h4, ne_eq, not_true_eq_false, if_false, hf, Dev.vfWrite, hout, hlt, if_true]
  have same := Dev.settle_same (s.dev.onIo fun io => io.badWrite fn.val)
  obtain ⟨hcount, hevent⟩ := Io.badWrite_counts s.dev.io hf'
  have hcounter : settlePlace (regAddr .hq (fnReg fn Reg.HQ_FN_BAD_WRITES)) = false := by
    obtain ⟨hlo, hhi, hmod⟩ := fnReg_bounds fn (show Reg.HQ_FN_BAD_WRITES < 0x80 by decide)
    rw [settlePlace_page (lt_trans hhi (by decide)) (by simp), Place.settles, Bool.eq_false_iff, ne_eq, flightReg_iff, hmod]
    rintro (h | ⟨-, h⟩)
    · omega
    · exact h rfl
  refine ⟨?_, ?_, ?_⟩
  · rwa [Io.fn, same.reg hcounter]
  · rw [same.shadow]
    exact ((Io.Same.setFn (T := fun _ => true) _ _ _ _ rfl).trans (.raise (fun _ _ => rfl) _ _ rfl)).shadow
  · rwa [Io.flag, same.reg (by decide)]

/-- Settles O14: PF0's write by `Runs.writePlain` and the row's checks, a VF's by `Io.badWrite_counts`. -/
theorem writesStoreOrAreRecorded : Obligations.WritesStoreOrAreRecorded := by
  unfold Obligations.WritesStoreOrAreRecorded
  exact fun p off reason r fn addr v s => ⟨fun ha h4 _ hp hr => ⟨runs_regWrite_stored ha h4 hp hr, runs_regWrite_recorded ha h4 hp hr⟩, runs_regWrite_vf⟩

end Sys2Proof.Machine

/-! Commits capture (R39, R43, R45, R322): what a commit that enters validation leaves, and that GO, SALVO, DRY_RUN and LEG_UPDATE all begin one so. -/
namespace Sys2Proof.Machine

/-! What writing a register its own value keeps. -/

/-- The part once a register has been written its own value. -/
def Dev.rewritten (d : Dev) (a : Nat) : Dev := d.onIo fun io => io.wr a (io.rd a)

@[simp] theorem Dev.rewritten_com (d : Dev) (a : Nat) : (d.rewritten a).com = d.com := rfl
@[simp] theorem Dev.rewritten_shadow (d : Dev) (a : Nat) : (d.rewritten a).io.shadow = d.io.shadow := rfl
@[simp] theorem Dev.rewritten_rd (d : Dev) (a b : Nat) : (d.rewritten a).io.rd b = d.io.rd b := (Io.Same.wr_rd (fun _ => false) d.io a).rd b rfl
@[simp] theorem Dev.rewritten_dirtyOf (d : Dev) (a fn : Nat) : (d.rewritten a).io.dirtyOf fn = d.io.dirtyOf fn := rfl
@[simp] theorem Dev.rewritten_ready (d : Dev) (a : Nat) : (d.rewritten a).io.ready = d.io.ready := by
  simp only [Io.ready, Io.flag, Io.reg, Dev.rewritten_rd]
@[simp] theorem Dev.rewritten_salvoTime (d : Dev) (a : Nat) : (d.rewritten a).io.salvoTime = d.io.salvoTime := by
  simp only [Io.salvoTime, Io.fld, Io.reg, Dev.rewritten_rd]
  rfl

/-! A commit enters validation (R39, R43). -/

/-- Captured shadows are clean. -/
@[simp] theorem Io.dirtyOf_captured (io : Io) (fn : Nat) : (io.captured fn).dirtyOf fn = [] := by
  simp only [Io.dirtyOf, Io.captured, List.filterMap_map, List.filterMap_eq_nil_iff, Function.comp_apply]
  intro e _
  by_cases h : e.2.writer = fn <;> simp [h]

/-- VALIDATING follows the queue and leaves it, and every shadow. -/
theorem Dev.showValidating_flag (d : Dev) : d.showValidating.io.flag .top Reg.TOP_COMMIT_STAT 0 = !d.com.queue.isEmpty :=
  Io.flag_setFlag_self _ _ _ _ _ (by decide)

@[simp] theorem Dev.showValidating_com (d : Dev) : d.showValidating.com = d.com := rfl
@[simp] theorem Dev.showValidating_shadow (d : Dev) : d.showValidating.io.shadow = d.io.shadow := rfl
@[simp] theorem Dev.showValidating_dirtyOf (d : Dev) (fn : Nat) : d.showValidating.io.dirtyOf fn = d.io.dirtyOf fn := rfl

/-- The commit of PF0 that GO begins, where what is dirty is `vals`. -/
def goReq (salvo : Option (Nat × Bool)) (dry : Bool) (vals : List (Nat × Word)) : CommitReq :=
  { fn := 0, src := none, salvo := salvo.map (·.1), badTime := (salvo.map (·.2)).getD false, dry := dry, vals := if dry then [] else vals }

theorem Dev.enqueue_queue (d : Dev) (salvo : Option (Nat × Bool)) (dry : Bool) :
    (d.enqueue 0 none salvo dry).com.queue = d.com.queue ++ [goReq salvo dry (d.io.dirtyOf 0)] := rfl

theorem Dev.enqueue_validating (d : Dev) (salvo : Option (Nat × Bool)) (dry : Bool) :
    (d.enqueue 0 none salvo dry).io.flag .top Reg.TOP_COMMIT_STAT 0 = true := by
  rw [Dev.enqueue, Dev.showValidating_flag]
  simp

/-- A commit that captures leaves the shadows of PF0 clean. -/
theorem Dev.enqueue_clean (d : Dev) (salvo : Option (Nat × Bool)) : (d.enqueue 0 none salvo false).io.dirtyOf 0 = [] :=
  Io.dirtyOf_captured d.io 0

/-- A dry run captures nothing. -/
theorem Dev.enqueue_dry_shadow (d : Dev) (salvo : Option (Nat × Bool)) : (d.enqueue 0 none salvo true).io.shadow = d.io.shadow := rfl

/-! GO (R43, R45, R93). -/

theorem Dev.go_free {d : Dev} (hr : d.io.ready = true) (hq : d.com.queue = []) (salvo dry : Bool) :
    d.go salvo dry = d.enqueue 0 none (if salvo then some d.io.salvoTime else none) dry := by
  simp [Dev.go, hr, hq]

theorem Dev.go_busy {d : Dev} (hr : d.io.ready = true) (hq : d.com.queue ≠ []) (salvo dry : Bool) :
    d.go salvo dry = d.onIo fun io => io.recordErr .top 0x0110 0 := by
  simp [Dev.go, hr, hq]

theorem pulseRow_commit : ∃ r, PulseRow .top Reg.TOP_COMMIT r := ⟨_, rfl, rfl, rfl, rfl, rfl, rfl⟩

theorem pulseRow_legUpdate (o : Fin 512) : ∃ r, PulseRow (.outc o) Reg.LEG_UPDATE r := ⟨_, rfl, rfl, rfl, rfl, rfl, rfl⟩

/-- A write of a register that only starts actions, which passes its checks. -/
theorem PulseRow.accepts {p : PageRef} {off : Nat} {r : Row} (h : PulseRow p off r) {io : Io} {v : Word} (ha : io.accepts p off v = true) (fn : Nat) :
    io.regWrite fn p off v = io.wr (regAddr p off) (io.rd (regAddr p off)) := by
  refine h.regWrite io fn v ?_
  simpa [Io.accepts, h.row] using ha

theorem outPage_val (o : Fin 512) : outPage o.val = .outc o := by
  rw [outPage, Fin.ofNat_eq_self 512 o _ rfl]

/-- GO on TOP_COMMIT while the page takes the write. -/
theorem Dev.commitWrite_go {d : Dev} (hp : d.io.powered .top = true) (hl : d.io.flag .top Reg.PAGE_LOCK 1 = false) {v : Word} (hv : bit v 0 = true) :
    d.commitWrite v = (d.rewritten (regAddr .top Reg.TOP_COMMIT)).go (bit v 1) (bit v 2) := by
  obtain ⟨r, hr⟩ := pulseRow_commit
  have ha : d.io.accepts .top Reg.TOP_COMMIT v = true := by simp [Io.accepts, hr.row, hr.writeReason, hp, hl]
  simp only [Dev.commitWrite, ha, hv, Bool.and_self, if_true]
  rw [Dev.onIo, hr.accepts ha 0]
  rfl

/-- GO on LEG_UPDATE (R322). -/
theorem Dev.legWrite_go {d : Dev} {o : Fin 512} {v : Word} (ha : d.io.accepts (outPage o) Reg.LEG_UPDATE v = true) (hv : bit v 0 = true) :
    d.legWrite o v = (d.rewritten (regAddr (outPage o) Reg.LEG_UPDATE)).go false false := by
  obtain ⟨r, hr⟩ := pulseRow_legUpdate o
  rw [← outPage_val] at hr
  simp only [Dev.legWrite, ha, hv, Bool.and_self, if_true]
  rw [Dev.onIo, hr.accepts ha 0]
  rfl

section
variable {s : State}

/-- What a capture by PF0 leaves, as R39 and R43 say it. -/
theorem captures_of_go {c : Instr} {a : Nat} {salvo : Bool} (hr : s.dev.io.ready = true) (hq : s.dev.com.queue = [])
    (hc : exec c s = s.run fun _ => (s.dev.rewritten a).go salvo false) : Runs c s fun d d' =>
      d'.com.queue = [goReq (if salvo then some d.io.salvoTime else none) false (d.io.dirtyOf 0)]
        ∧ d'.io.dirtyOf 0 = [] ∧ d'.io.flag .top Reg.TOP_COMMIT_STAT 0 = true := by
  refine Runs.intro hc ?_
  rw [Dev.go_free (by simpa) (by simpa), Dev.enqueue_queue, Dev.enqueue_clean, Dev.enqueue_validating]
  simp [hq]

variable (hr : s.dev.io.ready = true) (hp : s.dev.io.powered .top = true) (hl : s.dev.io.flag .top Reg.PAGE_LOCK 1 = false)
include hr hp hl

theorem runs_commitGo (hq : s.dev.com.queue = []) : Runs .commitGo s fun d d' =>
    d'.com.queue = [goReq none false (d.io.dirtyOf 0)] ∧ d'.io.dirtyOf 0 = [] ∧ d'.io.flag .top Reg.TOP_COMMIT_STAT 0 = true :=
  captures_of_go (a := regAddr .top Reg.TOP_COMMIT) (salvo := false) hr hq (by
    show s.run (fun d => d.commitWrite 1) = _
    simp only [State.run, Dev.commitWrite_go hp hl (show bit 1 0 = true by decide)]
    rfl)

theorem runs_commitSalvo (hq : s.dev.com.queue = []) : Runs .commitSalvo s fun d d' =>
    d'.com.queue = [goReq (some d.io.salvoTime) false (d.io.dirtyOf 0)] ∧ d'.io.dirtyOf 0 = [] ∧ d'.io.flag .top Reg.TOP_COMMIT_STAT 0 = true :=
  captures_of_go (a := regAddr .top Reg.TOP_COMMIT) (salvo := true) hr hq (by
    show s.run (fun d => d.commitWrite 3) = _
    simp only [State.run, Dev.commitWrite_go hp hl (show bit 3 0 = true by decide)]
    rfl)

theorem runs_commitDryRun (hq : s.dev.com.queue = []) (salvo : Bool) : Runs (.commitDryRun salvo) s fun d d' =>
    d'.com.queue = [goReq (if salvo then some d.io.salvoTime else none) true []] ∧ d'.io.shadow = d.io.shadow
      ∧ d'.io.flag .top Reg.TOP_COMMIT_STAT 0 = true := by
  have hv : ∀ b : Bool, bit (if b then 7 else 5) 0 = true ∧ bit (if b then 7 else 5) 1 = b ∧ bit (if b then 7 else 5) 2 = true := by decide
  obtain ⟨h0, h1, h2⟩ := hv salvo
  refine Runs.intro (f := fun d => d.commitWrite (if salvo then 7 else 5)) rfl ?_
  rw [Dev.commitWrite_go hp hl h0, h1, h2, Dev.go_free (by simpa) (by simpa), Dev.enqueue_queue, Dev.enqueue_dry_shadow, Dev.enqueue_validating]
  simp [hq, goReq]

theorem runs_commitGo_busy (hq : s.dev.com.queue ≠ []) : Runs .commitGo s fun d d' =>
    d'.com.queue = d.com.queue ∧ d'.io.shadow = d.io.shadow ∧ d'.io.fld .top Reg.ERR_CODE 0 16 = 0x0110 := by
  refine Runs.intro (f := fun d => d.commitWrite 1) rfl ?_
  rw [Dev.commitWrite_go hp hl (show bit 1 0 = true by decide), Dev.go_busy (by simpa) (by simpa)]
  exact ⟨rfl, (Io.Same.recordErr (T := fun _ => true) (fun _ _ => rfl) _ _ _ rfl rfl rfl).shadow, Io.code_recordErr _ _ _ (by decide)⟩

end

theorem runs_legUpdate {s : State} (hr : s.dev.io.ready = true) (hq : s.dev.com.queue = []) {o : Fin 512} {v : Word}
    (ha : s.dev.io.accepts (outPage o) Reg.LEG_UPDATE v = true) (hv : bit v 0 = true) : Runs (.legUpdate o v) s fun d d' =>
      d'.com.queue = [goReq none false (d.io.dirtyOf 0)] ∧ d'.io.dirtyOf 0 = [] ∧ d'.io.flag .top Reg.TOP_COMMIT_STAT 0 = true :=
  captures_of_go (a := regAddr (outPage o) Reg.LEG_UPDATE) (salvo := false) hr hq (by
    show s.run (fun d => d.legWrite o v) = _
    simp only [State.run, Dev.legWrite_go ha hv])

/-- Settles O49: every way to commit is GO (`Dev.commitWrite_go`, `Dev.legWrite_go`), and GO enters validation (`Dev.go_free`) or is busy (`Dev.go_busy`). -/
theorem commitsCapture : Obligations.CommitsCapture := by
  unfold Obligations.CommitsCapture
  intro o v salvo s hr hp hl
  refine ⟨fun hq => ⟨runs_commitGo hr hp hl hq, runs_commitSalvo hr hp hl hq, ?_, runs_legUpdate hr hq⟩, runs_commitGo_busy hr hp hl⟩
  refine (runs_commitDryRun hr hp hl hq salvo).mono ?_
  rintro d d' ⟨hqueue, hrest⟩
  refine ⟨?_, hrest⟩
  rw [hqueue]
  cases salvo <;> rfl

end Sys2Proof.Machine

/-! The registers in which a commit shows: captured registers of outputs, what an output and TOP say of commits, and TOP's events. What leaves them alone works beside
them (`beside`); what also raises events of TOP, or shows which commits wait, keeps what commits have shown (`Io.Keeps`). -/
namespace Sys2Proof.Machine

/-- The offset of an OUTC page is that of a shadowed register. -/
def shadowedOutc (off : Nat) : Bool := ((rowAt (.outc 0) off).map (fun r => r.shadowed)).getD false

/-- The offset of an OUTC page is that of a register that shows which commits wait, or the last that applied (R48). -/
def showsCommit (off : Nat) : Bool := [Reg.OUTC_COMMIT_STAT, Reg.OUTC_APPLY_SEQ, Reg.OUTC_APPLY_FRAME_LO, Reg.OUTC_APPLY_FRAME_HI].contains off

/-- The place is a shadowed register of an output, or one that shows what becomes of a commit (R34, R37, R43, R48). -/
def Place.shown : Place → Bool
  | .page (.outc _) off => shadowedOutc off || showsCommit off
  | .page .top off => [Reg.ERR_CODE, Reg.EVT_PEND, Reg.TOP_COMMIT_SEQ, Reg.TOP_COMMIT_STAT].contains off
  | _ => false

/-- The address is none in which a commit shows. -/
def beside (a : Nat) : Bool := !(placeOf a).shown

theorem beside_regAddr {p : PageRef} {off : Nat} (h : off < pageSpan p) : beside (regAddr p off) = !(Place.page p off).shown := by
  rw [beside, placeOf_regAddr p off h]

/-- The page is neither an output's nor TOP. -/
def asidePage : PageRef → Bool
  | .outc _ => false
  | .top => false
  | _ => true

theorem beside_aside {p : PageRef} (hp : asidePage p = true) {off : Nat} (h : off < pageSpan p) : beside (regAddr p off) = true := by
  rw [beside_regAddr h]
  cases p
  case outc | top => exact Bool.noConfusion hp
  all_goals rfl

theorem shown_outc (o : Fin 512) {off : Nat} (h : off < 0x1000)
    (hs : shadowedOutc off = true ∨ showsCommit off = true) :
    beside (regAddr (.outc o) off) = false := by
  rw [beside_regAddr h, Place.shown, Bool.not_eq_false', Bool.or_eq_true]
  exact hs

/-- The tables lie above the pages. -/
theorem beside_table {a : Nat} (h : 0x2200000 ≤ a) : beside a = true := by
  have hp : ∀ p off, placeOf a ≠ .page p off := by
    intro p off
    unfold placeOf
    rw [if_neg (by omega), if_neg (by omega), if_neg (by omega), if_neg (by omega)]
    split_ifs <;> exact Place.noConfusion
  rw [beside, Bool.not_eq_true', Place.shown.eq_def]
  split
  · exact absurd ‹_› (hp _ _)
  · exact absurd ‹_› (hp _ _)
  · rfl

theorem beside_layc (l w : Nat) : beside (laycAddr l w) = true := beside_table (by unfold laycAddr; omega)

theorem beside_event {a : Nat} (h : eventPlace a = true) : beside a = true := by
  unfold eventPlace at h
  unfold beside
  split at h
  · simp_all [Place.shown]
  · simp_all [Place.shown]
  · exact Bool.noConfusion h

theorem beside_reply {a : Nat} (h : replyPlace a = true) : beside a = true := by
  rcases Bool.or_eq_true _ _ ▸ h with h | h
  · exact beside_event h
  · unfold Place.replies at h
    unfold beside
    split at h
    · simp_all [Place.shown]
    · simp_all [Place.shown]
    · exact Bool.noConfusion h

theorem Dev.reply_beside (d : Dev) (src : Option (Nat × Nat)) (r : Reply) : Io.Same beside d.io (d.reply src r).io :=
  Dev.reply_io (fun _ => beside_reply) d src r

/-! What commits have shown is kept (R37, R43). -/

/-- What shows of commits stays as it is, but for events of TOP that are raised, and for VALIDATING and APPLY_PENDING. -/
structure Io.Keeps (io io' : Io) : Prop where
  same : Io.Same (fun a => beside a || within .top [Reg.EVT_PEND, Reg.TOP_COMMIT_STAT] a) io io'
  pend : ∀ i, io.flag .top Reg.EVT_PEND i = true → io'.flag .top Reg.EVT_PEND i = true
  verdict : ∀ i, i = 1 ∨ i = 2 → io'.flag .top Reg.TOP_COMMIT_STAT i = io.flag .top Reg.TOP_COMMIT_STAT i
  code : io'.fld .top Reg.TOP_COMMIT_STAT 16 16 = io.fld .top Reg.TOP_COMMIT_STAT 16 16

theorem Io.Keeps.refl (io : Io) : Io.Keeps io io := ⟨.refl _ _, fun _ h => h, fun _ _ => rfl, rfl⟩

theorem Io.Keeps.trans {x y z : Io} (h : Io.Keeps x y) (k : Io.Keeps y z) : Io.Keeps x z :=
  ⟨h.same.trans k.same, fun i hi => k.pend i (h.pend i hi), fun i hi => (k.verdict i hi).trans (h.verdict i hi), k.code.trans h.code⟩

theorem Io.Keeps.of_beside {x y : Io} (h : Io.Same beside x y) : Io.Keeps x y := by
  have he : y.reg .top Reg.EVT_PEND = x.reg .top Reg.EVT_PEND := h.reg (by decide)
  have hs : y.reg .top Reg.TOP_COMMIT_STAT = x.reg .top Reg.TOP_COMMIT_STAT := h.reg (by decide)
  refine ⟨h.mono fun a ha => by simp [ha], fun i hi => ?_, fun i _ => ?_, ?_⟩
  · rwa [Io.flag, he]
  · rw [Io.flag, hs, Io.flag]
  · rw [Io.fld, hs, Io.fld]

/-- A register in which a commit shows, but for the two of TOP. -/
theorem Io.Keeps.rd {x y : Io} (h : Io.Keeps x y) {a : Nat} (ha : beside a = false) (hw : within .top [Reg.EVT_PEND, Reg.TOP_COMMIT_STAT] a = false) :
    y.rd a = x.rd a := h.same.rd a (by simp [ha, hw])

theorem Io.Keeps.outc {x y : Io} (h : Io.Keeps x y) (o : Fin 512) {off : Nat} (hoff : off < 0x1000)
    (hs : shadowedOutc off = true ∨ showsCommit off = true) :
    y.reg (.outc o) off = x.reg (.outc o) off := by
  refine h.rd (shown_outc o hoff hs) (Bool.eq_false_iff.2 fun hw => ?_)
  obtain ⟨off', hmem, heq⟩ := within_iff.1 hw
  have hlt : off' < 0x1000 := by
    rcases List.mem_pair.1 hmem with rfl | rfl <;> decide
  exact absurd (regAddr_inj (p := .outc o) (q := .top) hoff hlt heq).1 (by simp)

theorem Io.Keeps.raise (io : Io) {b : Nat} (hb : b < 32) : Io.Keeps io (io.raise .top b) where
  same := .raise (fun a ha => by simp [beside_event ha]) _ _ (by decide)
  pend i hi := by
    rw [Io.flag, Io.reg_raise_pend]
    by_cases hib : i = b
    · rw [hib, bit_setBit_self _ _ _ hb]
    · rwa [bit_setBit_ne _ _ hb hib]
  verdict i _ := by rw [Io.flag, Io.reg_raise_off _ _ _ (by decide) (by decide), Io.flag]
  code := by rw [Io.fld, Io.reg_raise_off _ _ _ (by decide) (by decide), Io.fld]

theorem Io.Keeps.setCommitStat (io : Io) {i : Nat} (hi : i = 0 ∨ i = 3) (b : Bool) : Io.Keeps io (io.setFlag .top Reg.TOP_COMMIT_STAT i b) where
  same := .setFlag _ _ _ (by decide)
  pend j hj := by rwa [Io.flag, Io.reg_setFlag_off _ _ _ (by decide)]
  verdict j hj := Io.flag_setFlag_bit _ _ (by omega) (by omega)
  code := by rw [Io.fld, Io.reg_setFlag_self, bits_setBit_ne _ _ _ _ _ (by omega) (by omega), Io.fld]

theorem Dev.showPend_keeps (d : Dev) : Io.Keeps d.io d.showPend.io := by
  unfold Dev.showPend
  dsimp only
  split
  · exact .refl _
  · exact (Io.Keeps.of_beside (.put _ _ (by decide))).trans (.setCommitStat _ (.inr rfl) _)

theorem Dev.showValidating_keeps (d : Dev) : Io.Keeps d.io d.showValidating.io := .setCommitStat _ (.inl rfl) _

theorem Dev.settle_keeps (d : Dev) : Io.Keeps d.io d.settle.io :=
  Dev.settle_rel Io.Keeps.refl .trans (fun h => .of_beside (h.mono fun _ => beside_reply)) Dev.showPend_keeps d

/-- Settling keeps the commits that wait for validation. -/
theorem Dev.retire_com (d : Dev) (i : Nat) (s : Store) (b : Bool) : (d.retire i s b).com = d.com := by
  unfold Dev.retire
  exact (Dev.reply_only _ _ _).com

@[simp] theorem Dev.showPend_com (d : Dev) : d.showPend.com = d.com := by
  unfold Dev.showPend
  dsimp only
  split <;> rfl

theorem Dev.foldl_com {α : Type} {f : Dev → α → Dev} (h : ∀ d x, (f d x).com = d.com) (xs : List α) (d : Dev) : (xs.foldl f d).com = d.com := by
  induction xs generalizing d with
  | nil => rfl
  | cons x xs ih => exact (ih _).trans (h d x)

theorem Dev.finishCommits_com (d : Dev) : d.finishCommits.com = { d.com with pend := if d.com.pend.isEmpty then d.com.pend else d.stillOpen } := by
  rw [Dev.finishCommits_eq]
  split
  · rfl
  · rw [Dev.showPend_com, Dev.foldl_com (f := fun (d : Dev) p => d.reply p.src p.reply) (fun d p => (Dev.reply_only d p.src p.reply).com) d.closedPend d.withoutClosed]
    rfl

theorem Dev.settle_com (d : Dev) : d.settle.com = d.finishCommits.com := by
  unfold Dev.settle
  rw [Dev.foldl_com (f := fun (d : Dev) (e : Nat × Store) => d.retire e.1 e.2 true) (fun d e => Dev.retire_com d e.1 e.2 true)]
  rfl

theorem Dev.settle_queue (d : Dev) : d.settle.com.queue = d.com.queue := by rw [Dev.settle_com, Dev.finishCommits_com]

end Sys2Proof.Machine

/-! A commit that fails validation is rejected, and a dry run only reports (R39, R43, R44). -/
namespace Sys2Proof.Machine

/-- The part as validation of the first commit in the queue ends. -/
def Dev.judging (d : Dev) (rest : List CommitReq) (dt : Nat) : Dev := { d.tick dt with com := { d.com with queue := rest } }

/-- What the commit captured; a dry run judges what is dirty. -/
def Dev.judgedVals (d : Dev) (r : CommitReq) : List (Nat × Word) := if r.dry then d.io.dirtyOf r.fn else r.vals

/-- The proposal that validation judges. -/
def Dev.judgedProposal (d : Dev) (r : CommitReq) (rest : List CommitReq) (dt : Nat) : Proposal := (d.judging rest dt).proposal r.fn (d.judgedVals r)

/-- What a verdict brings. -/
def Dev.conclude (d : Dev) (r : CommitReq) (p : Proposal) : Verdict → Dev
  | .fail status code info => d.reject r status code info
  | .pass jobs =>
    if r.dry then (d.onIo (fun io => if r.src.isNone then io.showVerdict none else io)).reply r.src (Reply.done 0 0)
    else d.accept r p jobs

theorem Dev.validationEnds_eq {d : Dev} {r : CommitReq} {rest : List CommitReq} (hq : d.com.queue = r :: rest) (dt : Nat) :
    (d.tick dt).validationEnds = ((d.judging rest dt).conclude r (d.judgedProposal r rest dt) (d.verdict r rest dt)).showValidating.showPend := by
  have ht : (d.tick dt).com.queue = r :: rest := hq
  unfold Dev.validationEnds
  rw [ht]
  rfl

/-- What follows a verdict keeps what it has shown. -/
theorem Dev.judged_keeps (d : Dev) : Io.Keeps d.io d.showValidating.showPend.settle.io :=
  (d.showValidating_keeps.trans (Dev.showPend_keeps _)).trans (Dev.settle_keeps _)

theorem Dev.judged_queue (d : Dev) : d.showValidating.showPend.settle.com.queue = d.com.queue := by
  rw [Dev.settle_queue, Dev.showPend_com, Dev.showValidating_com]

/-! The verdict in TOP_COMMIT_STAT (R43). -/

theorem Io.showVerdict_flag (io : Io) (code : Option Nat) :
    (io.showVerdict code).flag .top Reg.TOP_COMMIT_STAT 1 = code.isNone ∧ (io.showVerdict code).flag .top Reg.TOP_COMMIT_STAT 2 = code.isSome := by
  have h1 : ∀ io : Io, ∀ a b, ((io.setFlag .top Reg.TOP_COMMIT_STAT 1 a).setFlag .top Reg.TOP_COMMIT_STAT 2 b).flag .top Reg.TOP_COMMIT_STAT 1 = a := fun io a b => by
    rw [Io.flag_setFlag_bit _ _ (by decide) (by decide), Io.flag_setFlag_self _ _ _ _ _ (by decide)]
  have h2 : ∀ io : Io, ∀ b, (io.setFlag .top Reg.TOP_COMMIT_STAT 2 b).flag .top Reg.TOP_COMMIT_STAT 2 = b := fun io b =>
    Io.flag_setFlag_self _ _ _ _ _ (by decide)
  unfold Io.showVerdict
  cases code with
  | none => exact ⟨h1 .., h2 ..⟩
  | some c =>
    have hfld : ∀ (io : Io) (i : Nat), i < 16 → (io.setFld .top Reg.TOP_COMMIT_STAT 16 16 c).flag .top Reg.TOP_COMMIT_STAT i = io.flag .top Reg.TOP_COMMIT_STAT i :=
      fun io i hi => by rw [Io.flag, Io.reg_setFld_self, bit_setBits_ne _ _ _ _ _ (by decide) (.inl hi), Io.flag]
    exact ⟨(hfld _ _ (by decide)).trans (h1 ..), (hfld _ _ (by decide)).trans (h2 ..)⟩

theorem Io.showVerdict_code (io : Io) (c : Nat) : (io.showVerdict (some c)).fld .top Reg.TOP_COMMIT_STAT 16 16 = c % 2 ^ 16 :=
  Io.fld_setFld_self _ _ _ _ _ _ (by decide)

theorem Io.Same.showVerdict (io : Io) (code : Option Nat) : Io.Same (within .top [Reg.TOP_COMMIT_STAT]) io (io.showVerdict code) := by
  have hs : within .top [Reg.TOP_COMMIT_STAT] (regAddr .top Reg.TOP_COMMIT_STAT) = true := within_self (by simp)
  unfold Io.showVerdict
  cases code with
  | none => exact (Io.Same.setFlag _ _ _ hs).trans (.setFlag _ _ _ hs)
  | some c => exact ((Io.Same.setFlag _ _ _ hs).trans (.setFlag _ _ _ hs)).trans (.setFld _ _ _ _ hs)

/-- The verdict on a commit of a register, which a command learns from its completion instead. -/
def Io.reportVerdict (io : Io) (r : CommitReq) (code : Option Nat) : Io := if r.src.isNone then io.showVerdict code else io

theorem Io.reportVerdict_none (io : Io) {r : CommitReq} (h : r.src = none) (code : Option Nat) : io.reportVerdict r code = io.showVerdict code := by
  simp [Io.reportVerdict, h]

theorem Io.Same.reportVerdict (io : Io) (r : CommitReq) (code : Option Nat) : Io.Same (within .top [Reg.TOP_COMMIT_STAT]) io (io.reportVerdict r code) := by
  unfold Io.reportVerdict
  split
  · exact .showVerdict _ _
  · exact .refl _ _

/-! Rejection (R39, R44). -/

/-- The record of a rejection and event 2033. -/
def Io.recordReject (io : Io) (code : Nat) (info : Option Nat) : Io :=
  Io.raise (match info with
    | some i => io.recordErr .top code i
    | none => io.recordOpen .top code) .top 3

theorem Io.recordReject_pend (io : Io) (code : Nat) (info : Option Nat) : (io.recordReject code info).flag .top Reg.EVT_PEND 3 = true := by
  unfold Io.recordReject
  rw [Io.flag, Io.reg_raise_pend, bit_setBit_self _ _ _ (by decide)]

theorem Io.recordErr_code (io : Io) (p : PageRef) (code info : Nat) : (io.recordErr p code info).fld p Reg.ERR_CODE 0 16 = code % 2 ^ 16 := by
  rw [Io.fld, Io.reg_recordErr_code, bits, Word.of, BitVec.toNat_ofNat]
  omega

theorem Io.recordReject_code (io : Io) (code : Nat) (info : Option Nat) : (io.recordReject code info).fld .top Reg.ERR_CODE 0 16 = code % 2 ^ 16 := by
  unfold Io.recordReject
  rw [Io.fld, Io.reg_raise_off _ _ _ (by decide) (by decide)]
  cases info <;> exact Io.recordErr_code ..

theorem Io.Same.recordReject (io : Io) (code : Nat) (info : Option Nat) :
    Io.Same (fun a => eventPlace a || within .top [Reg.EVT_PEND, Reg.ERR_CODE, Reg.ERR_INFO] a) io (io.recordReject code info) := by
  have hT : ∀ a, eventPlace a = true → (eventPlace a || within .top [Reg.EVT_PEND, Reg.ERR_CODE, Reg.ERR_INFO] a) = true := fun a ha => by simp [ha]
  have hrec : ∀ i, Io.Same (fun a => eventPlace a || within .top [Reg.EVT_PEND, Reg.ERR_CODE, Reg.ERR_INFO] a) io (io.recordErr .top code i) := fun i =>
    .recordErr hT _ _ _ (by decide) (by decide) (by decide)
  refine .trans ?_ (.raise hT _ _ (by decide))
  cases info with
  | some i => exact hrec i
  | none => exact (hrec _).trans (.took _)

theorem FMap.mem_of_find {α : Type} {m : FMap α} {a : Nat} {v : α} (h : FMap.find m a = some v) : (a, v) ∈ m := by
  induction m with
  | nil => simp at h
  | cons e m ih =>
    rw [FMap.find_cons] at h
    split at h
    · next ha =>
      rw [ha, ← Option.some.inj h]
      exact List.mem_cons_self
    · exact List.mem_cons_of_mem _ (ih h)

/-- What is listed and found again after a discard has been written again. -/
theorem Io.dirty_of_discard {io : Io} {as : List Nat} {a : Nat} (h : a ∈ as) {sh : Shadow} (hf : FMap.find (io.discard as).shadow a = some sh) : sh.dirty = true := by
  have hmem : (a, sh) ∈ io.shadow.filter fun e => e.2.dirty || !as.contains e.1 := FMap.mem_of_find hf
  simpa [h] using (List.mem_filter.1 hmem).2

/-- What a rejection does to the registers before the command learns of it. -/
def Io.rejected (io : Io) (r : CommitReq) (code : Nat) (info : Option Nat) : Io :=
  let io := io.reportVerdict r (some code)
  if r.dry then io else (io.recordReject code info).discard (r.vals.map (·.1))

theorem Dev.reject_eq (d : Dev) (r : CommitReq) (status code : Nat) (info : Option Nat) :
    d.reject r status code info = (d.onIo fun io => io.rejected r code info).reply r.src { status := status, code := code, hi := 0, lo := 0 } := by
  simp only [Dev.reject, Io.rejected, Io.reportVerdict, Io.recordReject, Dev.onIo]
  cases r.dry <;> rfl

/-- The record of a rejection leaves the other registers of TOP. -/
theorem Io.rejected_reg (io : Io) (r : CommitReq) (code : Nat) (info : Option Nat) {off : Nat} (ho : off < 0x1000)
    (h : [Reg.EVT_PEND, Reg.ERR_CODE, Reg.ERR_INFO].contains off = false) :
    (io.rejected r code info).reg .top off = (io.reportVerdict r (some code)).reg .top off := by
  unfold Io.rejected
  dsimp only
  split
  · rfl
  · refine (Io.Same.recordReject _ code info).reg (Bool.or_eq_false_iff.2 ⟨eventPlace_page ho (by simp), Bool.eq_false_iff.2 fun hw => ?_⟩)
    obtain ⟨off', hmem, heq⟩ := within_iff.1 hw
    rw [regAddr_eq_iff.1 heq] at h
    simp [hmem] at h

theorem Io.rejected_flag (io : Io) {r : CommitReq} (code : Nat) (info : Option Nat) (h : r.src = none) :
    (io.rejected r code info).flag .top Reg.TOP_COMMIT_STAT 1 = false ∧ (io.rejected r code info).flag .top Reg.TOP_COMMIT_STAT 2 = true
      ∧ (io.rejected r code info).fld .top Reg.TOP_COMMIT_STAT 16 16 = code % 2 ^ 16 := by
  simp only [Io.flag, Io.fld, Io.rejected_reg io r code info (show Reg.TOP_COMMIT_STAT < 0x1000 by decide) (by decide), Io.reportVerdict_none _ h]
  obtain ⟨hpass, hfail⟩ := Io.showVerdict_flag io (some code)
  exact ⟨hpass, hfail, Io.showVerdict_code io code⟩

theorem Io.rejected_seq (io : Io) (r : CommitReq) (code : Nat) (info : Option Nat) :
    (io.rejected r code info).reg .top Reg.TOP_COMMIT_SEQ = io.reg .top Reg.TOP_COMMIT_SEQ :=
  (Io.rejected_reg io r code info (by decide) (by decide)).trans ((Io.Same.reportVerdict io r _).reg (by decide))

/-- A commit that is no dry run is recorded, and its shadows are discarded. -/
theorem Io.rejected_record (io : Io) {r : CommitReq} (code : Nat) (info : Option Nat) (h : r.dry = false) :
    (io.rejected r code info).flag .top Reg.EVT_PEND 3 = true ∧ (io.rejected r code info).fld .top Reg.ERR_CODE 0 16 = code % 2 ^ 16
      ∧ ∀ x ∈ r.vals, ∀ sh, FMap.find (io.rejected r code info).shadow x.1 = some sh → sh.dirty = true := by
  have e : io.rejected r code info = ((io.reportVerdict r (some code)).recordReject code info).discard (r.vals.map (·.1)) := by simp [Io.rejected, h]
  rw [e]
  exact ⟨Io.recordReject_pend _ _ _, Io.recordReject_code _ _ _, fun x hx sh hf => Io.dirty_of_discard (List.mem_map_of_mem hx) hf⟩

/-! How a validation that does not accept ends. -/

section
variable {s : State} {r : CommitReq} {rest : List CommitReq} (hq : s.dev.com.queue = r :: rest) (dt : Nat)
include hq

/-- A validation ends as its verdict brings it about, and the registers keep what they then show. -/
theorem Runs.validationEnd {P : Dev → Dev → Prop}
    (k : ∀ d', Io.Keeps ((s.dev.judging rest dt).conclude r (s.dev.judgedProposal r rest dt) (s.dev.verdict r rest dt)).io d'.io →
      d'.com.queue = ((s.dev.judging rest dt).conclude r (s.dev.judgedProposal r rest dt) (s.dev.verdict r rest dt)).com.queue → P s.dev d') :
    Runs (.commitValidationEnd dt) s P := by
  refine Runs.settle (f := fun d => (d.tick dt).validationEnds) rfl ?_
  rw [Dev.validationEnds_eq hq]
  exact k _ (Dev.judged_keeps _) (Dev.judged_queue _)

theorem runs_validationEnd_fail {status code : Nat} (h : (s.dev.verdict r rest dt).failure = some (status, code)) :
    Runs (.commitValidationEnd dt) s fun d d' =>
      d'.com.queue = rest
        ∧ (r.dry = false → d'.io.flag .top Reg.EVT_PEND 3 = true ∧ d'.io.fld .top Reg.ERR_CODE 0 16 = code % 2 ^ 16
            ∧ ∀ x ∈ r.vals, ∀ sh, FMap.find d'.io.shadow x.1 = some sh → sh.dirty = true)
        ∧ (r.src = none → d'.io.flag .top Reg.TOP_COMMIT_STAT 1 = false ∧ d'.io.flag .top Reg.TOP_COMMIT_STAT 2 = true
            ∧ d'.io.fld .top Reg.TOP_COMMIT_STAT 16 16 = code % 2 ^ 16)
        ∧ d'.io.reg .top Reg.TOP_COMMIT_SEQ = d.io.reg .top Reg.TOP_COMMIT_SEQ := by
  cases hv : s.dev.verdict r rest dt with
  | pass jobs => simp [hv, Verdict.failure] at h
  | fail st c info =>
    obtain ⟨rfl, rfl⟩ : st = status ∧ c = code := by simpa [hv, Verdict.failure] using h
    refine Runs.validationEnd hq dt ?_
    rw [hv, Dev.conclude, Dev.reject_eq]
    intro d' hk hqueue
    rw [(Dev.reply_only _ _ _).com] at hqueue
    replace hk : Io.Keeps ((s.dev.io.tick dt).rejected r c info) d'.io := (Io.Keeps.of_beside (Dev.reply_beside _ _ _)).trans hk
    refine ⟨hqueue, fun hd => ?_, fun hs => ?_, (hk.rd (by decide) (by decide)).trans (Io.rejected_seq _ _ _ _)⟩
    · obtain ⟨hevent, hcode, hdirty⟩ := Io.rejected_record (s.dev.io.tick dt) c info hd
      refine ⟨hk.pend 3 hevent, ?_, ?_⟩
      · rw [← hcode, Io.fld, Io.reg, hk.rd (by decide) (by decide)]
        rfl
      · rwa [hk.same.shadow]
    · obtain ⟨hpass, hfail, hcode⟩ := Io.rejected_flag (s.dev.io.tick dt) c info hs
      exact ⟨(hk.verdict 1 (.inl rfl)).trans hpass, (hk.verdict 2 (.inr rfl)).trans hfail, hk.code.trans hcode⟩

theorem runs_validationEnd_dry (h : (s.dev.verdict r rest dt).failure = none) (hd : r.dry = true) (hs : r.src = none) :
    Runs (.commitValidationEnd dt) s fun d d' =>
      d'.com.queue = rest ∧ d'.io.flag .top Reg.TOP_COMMIT_STAT 1 = true ∧ d'.io.shadow = d.io.shadow
        ∧ d'.io.reg .top Reg.TOP_COMMIT_SEQ = d.io.reg .top Reg.TOP_COMMIT_SEQ := by
  cases hv : s.dev.verdict r rest dt with
  | fail st c info => simp [hv, Verdict.failure] at h
  | pass jobs =>
    refine Runs.validationEnd hq dt ?_
    rw [hv, Dev.conclude, if_pos hd]
    simp only [hs, Option.isNone_none, if_true, Dev.reply]
    intro d' hk hqueue
    have hsame := Io.Same.showVerdict (s.dev.io.tick dt) none
    exact ⟨hqueue, (hk.verdict 1 (.inl rfl)).trans (Io.showVerdict_flag (s.dev.io.tick dt) none).1, hk.same.shadow.trans hsame.shadow,
      (hk.rd (by decide) (by decide)).trans (hsame.reg (by decide))⟩

end

end Sys2Proof.Machine

/-! Captured values that become live on an output (R42, R48, R86): beside what they write, only tables, the records of the output and SHADOW_STAT change. -/
namespace Sys2Proof.Machine

/-! Lists in order. -/

theorem mem_sortBy_put {α : Type} {le : α → α → Bool} {x a : α} {xs : List α} : a ∈ sortBy.put le x xs ↔ a = x ∨ a ∈ xs := by
  induction xs with
  | nil => simp [sortBy.put]
  | cons y ys ih =>
    unfold sortBy.put
    split
    · simp
    · simp [ih, or_left_comm]

theorem mem_sortBy {α : Type} {le : α → α → Bool} {a : α} {xs : List α} : a ∈ sortBy le xs ↔ a ∈ xs := by
  induction xs with
  | nil => simp [sortBy]
  | cons x xs ih => simp [sortBy, mem_sortBy_put, ih]

/-- What captured values do not touch. -/
theorem touched_nil {pick : Place → Option Nat} {xs : List (Nat × Word)} (h : ∀ x ∈ xs, pick (placeOf x.1) = none) : touched pick xs = [] := by
  have hnone : xs.filterMap (fun x => pick (placeOf x.1)) = [] := List.filterMap_eq_nil_iff.2 h
  simp [touched, hnone, sortBy]

/-! Values that become live (R42). -/

theorem Io.Same.makeLive {T : Nat → Bool} {xs : List (Nat × Word)} (h : ∀ x ∈ xs, T x.1 = true) (io : Io) : Io.Same T io (io.makeLive xs) := by
  induction xs generalizing io with
  | nil => exact .refl _ _
  | cons x xs ih => exact (Io.Same.wr io x.2 (h x (by simp))).trans (ih (fun y hy => h y (by simp [hy])) _)

theorem Io.Same.unhide (io : Io) (l : Nat) : Io.Same beside io (io.unhide l) := by
  unfold Io.unhide
  dsimp only
  split
  · exact (Io.Same.wr _ _ (beside_layc l 32)).trans (.setFn _ _ _ _ (beside_reply (replyPlace_fn _ (by decide) (by decide))))
  · exact .refl _ _

theorem Io.Same.showLid (io : Io) (o : Nat) : Io.Same beside io (io.showLid o) := .foldl (fun _ l => .wr _ _ (beside_layc l 32)) _ _

/-- No captured value is of a fast-path entry. -/
def noFast (xs : List (Nat × Word)) : Prop := ∀ x ∈ xs, ∀ e w, placeOf x.1 ≠ .fast e w

theorem fastsIn_nil {xs : List (Nat × Word)} (h : noFast xs) : fastsIn xs = [] := by
  refine touched_nil fun x hx => ?_
  split
  · exact absurd ‹_› (h x hx _ _)
  · rfl

/-- Captured values without a fast-path entry become live on an output, with what the part writes itself. -/
theorem Dev.liveOn_io {xs : List (Nat × Word)} (h : noFast xs) (d : Dev) (o frame : Nat) : Io.Same beside (d.io.makeLive xs) (d.liveOn o frame xs).io := by
  unfold Dev.liveOn
  dsimp only
  generalize hp : List.filter _ xs = plain
  obtain rfl : plain = xs := by
    rw [← hp, List.filter_eq_self]
    intro x hx
    split
    · exact absurd ‹_› (h x hx _ _)
    · rfl
  rw [fastsIn_nil h]
  exact (Io.Same.foldl Io.Same.unhide _ _).trans (.showLid _ _)

/-- They leave the commits that wait, and sound. -/
theorem Dev.liveOn_rest {xs : List (Nat × Word)} (h : noFast xs) (d : Dev) (o frame : Nat) :
    (d.liveOn o frame xs).com.queue = d.com.queue ∧ (d.liveOn o frame xs).com.pend = d.com.pend ∧ (d.liveOn o frame xs).aud = d.aud
      ∧ (d.liveOn o frame xs).tdm = d.tdm := by
  unfold Dev.liveOn
  simp only [fastsIn_nil h, List.foldl_nil, and_self]

/-! What the output says of them (R34, R48). -/

/-- SHADOW_STAT shows no commit of an output or of TOP. -/
theorem beside_shadowStat (p : PageRef) : beside (regAddr p Reg.SHADOW_STAT) = true := by
  rw [beside_regAddr (lt_of_lt_of_le (by decide) (le_pageSpan p))]
  cases p <;> rfl

theorem Io.Same.showSeq (io : Io) (seq : Nat) (xs : List (Nat × Word)) : Io.Same beside io (io.showSeq seq xs) :=
  .foldl (fun _ p => .setFld _ _ _ _ (beside_shadowStat p)) _ _

/-- The offset is that of the records of what an output has applied. -/
def applyOffset (off : Nat) : Bool := decide (Reg.OUTC_APPLY_SEQ ≤ off ∧ off < 0xE0)

/-- The address is that of a record of what an output has applied. -/
def appliedPlace (a : Nat) : Bool := match placeOf a with
  | .page (.outc _) off => applyOffset off
  | _ => false

theorem appliedPlace_outc (o : Fin 512) {off : Nat} (h : off < 0x1000) : appliedPlace (regAddr (.outc o) off) = applyOffset off := by
  rw [appliedPlace, placeOf_regAddr (.outc o) off h]

theorem Io.Same.putApplied (io : Io) (o : Nat) {off : Nat} (v : Word) (h : applyOffset off = true) : Io.Same appliedPlace io (io.put (outPage o) off v) := by
  have hlt : off < 0x1000 := by
    have := of_decide_eq_true h
    omega
  exact .put _ _ ((appliedPlace_outc _ hlt).trans h)

theorem Io.Same.putWideApplied (io : Io) (o : Nat) {off : Nat} (v : Nat) (h : applyOffset off = true) (h' : applyOffset (off + 4) = true) :
    Io.Same appliedPlace io (io.putWide (outPage o) off v) := (Io.Same.putApplied io o _ h).trans (.putApplied _ o _ h')

/-- The entry of the ring of applications that follows the last (R48). -/
def Io.nextApply (io : Io) (o : Nat) : Nat :=
  match (List.range 16).find? (fun k => decide (io.reg (outPage o) (Reg.OUTC_APPLY_LOG + 8 * k) = io.reg (outPage o) Reg.OUTC_APPLY_SEQ
      ∧ io.reg (outPage o) Reg.OUTC_APPLY_SEQ ≠ 0)) with
  | some k => (k + 1) % 16
  | none => 0

theorem Io.nextApply_lt (io : Io) (o : Nat) : io.nextApply o < 16 := by
  unfold Io.nextApply
  split
  · exact Nat.mod_lt _ (by decide)
  · decide

/-- The record of an application in the ring. -/
def Io.logApply (io : Io) (o seq frame : Nat) : Io :=
  (io.put (outPage o) (Reg.OUTC_APPLY_LOG + 8 * io.nextApply o) (Word.of seq)).put (outPage o) (Reg.OUTC_APPLY_LOG + 8 * io.nextApply o + 4) (Word.of frame)

theorem Io.applyLog_eq (io : Io) (o seq frame time : Nat) : io.applyLog o seq frame time
    = (((io.logApply o seq frame).put (outPage o) Reg.OUTC_APPLY_SEQ (Word.of seq)).putWide (outPage o) Reg.OUTC_APPLY_FRAME_LO frame).putWide (outPage o)
        Reg.OUTC_APPLY_TIME_LO time := rfl

theorem Io.Same.applyLog (io : Io) (o seq frame time : Nat) : Io.Same appliedPlace io (io.applyLog o seq frame time) := by
  have hring : ∀ n < 16, applyOffset (Reg.OUTC_APPLY_LOG + 8 * n) = true ∧ applyOffset (Reg.OUTC_APPLY_LOG + 8 * n + 4) = true := by decide
  obtain ⟨hseq, hframe⟩ := hring _ (io.nextApply_lt o)
  rw [Io.applyLog_eq]
  refine .trans ?_ (.putWideApplied _ o _ (by decide) (by decide))
  refine .trans ?_ (.putWideApplied _ o _ (by decide) (by decide))
  refine .trans ?_ (.putApplied _ o _ (by decide))
  exact (Io.Same.putApplied io o _ hseq).trans (.putApplied _ o _ hframe)

theorem Dev.applyOutput_io (d : Dev) (o seq fn acceptedAt frame time : Nat) (xs : List (Nat × Word)) :
    (d.applyOutput o seq fn acceptedAt frame time xs).io = ((d.liveOn o frame xs).io.applyLog o seq frame time).showSeq seq xs := by
  unfold Dev.applyOutput
  dsimp only
  split
  · split <;> rfl
  · rfl

theorem Dev.applyOutput_rest (d : Dev) (o seq fn acceptedAt frame time : Nat) (xs : List (Nat × Word)) :
    (d.applyOutput o seq fn acceptedAt frame time xs).com = (d.liveOn o frame xs).com ∧ (d.applyOutput o seq fn acceptedAt frame time xs).aud = (d.liveOn o frame xs).aud
      ∧ (d.applyOutput o seq fn acceptedAt frame time xs).tdm = (d.liveOn o frame xs).tdm := by
  unfold Dev.applyOutput
  dsimp only
  split
  · split <;> exact ⟨rfl, rfl, rfl⟩
  · exact ⟨rfl, rfl, rfl⟩

end Sys2Proof.Machine

/-! A commit that passes is accepted (R42, R45): captured registers of enabled outputs, with what the part adds to the capture, wait there. -/
namespace Sys2Proof.Machine

/-! What a capture of output registers holds (R42, R320). -/

/-- The place is in a layer context or a route entry. -/
def Place.tabled : Place → Bool
  | .layc _ _ => true
  | .route _ _ => true
  | _ => false

theorem beside_tabled {a : Nat} (h : (placeOf a).tabled = true) : beside a = true := by
  unfold beside
  cases hp : placeOf a <;> simp_all [Place.tabled, Place.shown]

/-- The values are of layer contexts and route entries. -/
def Tabled (xs : List (Nat × Word)) : Prop := ∀ x ∈ xs, (placeOf x.1).tabled = true

theorem Tabled.noFast {xs : List (Nat × Word)} (h : Tabled xs) : noFast xs := fun x hx e w he => by
  have := h x hx
  rw [he] at this
  exact Bool.noConfusion this

theorem Tabled.sublist {xs ys : List (Nat × Word)} (h : Tabled xs) (k : ∀ y ∈ ys, y ∈ xs) : Tabled ys := fun y hy => h y (k y hy)

theorem tabled_layc {l w : Nat} (hl : l < 4096) (hw : w < 64) : (placeOf (laycAddr l w)).tabled = true := by
  unfold placeOf laycAddr
  rw [if_neg (by omega), if_neg (by omega), if_neg (by omega), if_neg (by omega), if_pos (by omega)]
  rfl

theorem tabled_route {o w : Nat} (ho : o < 512) (hw : w < 256) : (placeOf (routeAddr o w)).tabled = true := by
  unfold placeOf routeAddr
  rw [if_neg (by omega), if_neg (by omega), if_neg (by omega), if_neg (by omega), if_neg (by omega), if_neg (by omega), if_neg (by omega), if_neg (by omega),
    if_neg (by omega), if_pos (by omega)]
  rfl

/-- The entries of a table lie in it. -/
theorem View.entries_lt {v : View} {base size w n l : Nat} (h : l ∈ v.entries base size w n) : l < n := by
  rw [View.entries, mem_sortBy, List.mem_eraseDups, List.mem_filterMap] at h
  obtain ⟨a, -, ha⟩ := h
  split at ha
  · next hc =>
    obtain ⟨hlo, hhi, -⟩ := hc
    rw [← Option.some.inj ha]
    rcases Nat.eq_zero_or_pos size with rfl | hs
    · omega
    · rw [Nat.div_lt_iff_lt_mul hs]
      omega
  · simp at ha

theorem View.layersOf_lt {v : View} {o l : Nat} (h : l ∈ v.layersOf o) : l < 4096 :=
  View.entries_lt (List.mem_of_mem_filter (List.mem_of_mem_filter h))

/-- The legacy translation of an output writes layer contexts and the output's route entry (R320). -/
theorem View.legacyLayer_tabled (v : View) (st : Stores) {o i l : Nat} (ho : o < 512) (hi : i < 4) (hl : l < 4096) : Tabled (v.legacyLayer st o i l) := by
  intro x hx
  simp only [View.legacyLayer, List.mem_cons, List.not_mem_nil, or_false] at hx
  rcases hx with rfl | rfl | rfl | rfl | rfl | rfl | rfl | rfl | rfl | rfl | rfl | rfl | rfl
  iterate 10 exact tabled_layc hl (by decide)
  iterate 3 exact tabled_route ho (by omega)

theorem View.legacyOf_tabled (v : View) (st : Stores) {o : Nat} (ho : o < 512) : Tabled (v.legacyOf st o) := by
  unfold View.legacyOf
  dsimp only
  split
  · intro x hx
    simp at hx
  · next hlen =>
    intro x hx
    rcases List.mem_append.1 hx with hx | hx
    · obtain ⟨e, he, hx⟩ := List.mem_flatMap.1 hx
      have hi : e.2 < 4 := by
        have := List.snd_lt_of_mem_zipIdx he
        omega
      refine View.legacyLayer_tabled v st ho hi (View.layersOf_lt (v := v) (o := o) ?_) x hx
      exact List.mem_of_mem_filter (List.fst_mem_of_mem_zipIdx he)
    · rw [List.mem_singleton.1 hx]
      exact tabled_route ho (by decide)

/-- The address is that of a shadowed register of an output's page. -/
def outReg (a : Nat) : Prop := ∃ o off, placeOf a = .page (.outc o) off ∧ shadowedOutc off = true

theorem outReg.outputOf {a : Nat} (h : outReg a) (v : View) : ∃ o : Fin 512, v.outputOf a = some o.val := by
  obtain ⟨o, off, hp, -⟩ := h
  exact ⟨o, by rw [View.outputOf, hp]⟩

/-- A capture of output registers alone grows by the legacy translation alone. -/
theorem expand_outRegs {base : View} {st : Stores} {xs : List (Nat × Word)} (h : ∀ x ∈ xs, outReg x.1) : ∃ leg, expand base st xs = xs ++ leg ∧ Tabled leg := by
  have hkeep : xs.map (base.keepEgress (base.over xs)) = xs := by
    refine (List.map_congr_left fun x hx => ?_).trans (List.map_id xs)
    obtain ⟨o, off, hp, -⟩ := h x hx
    rw [View.keepEgress, hp]
    rfl
  have hfast : fastsIn xs = [] := fastsIn_nil fun x hx e w he => by
    obtain ⟨o, off, hp, -⟩ := h x hx
    rw [hp] at he
    exact Place.noConfusion he
  refine ⟨((base.over xs).legacyOuts xs).flatMap ((base.over xs).legacyOf st), ?_, ?_⟩
  · unfold expand
    dsimp only
    rw [hkeep, View.fastStates, hfast]
    simp
  · intro y hy
    obtain ⟨o, ho, hy⟩ := List.mem_flatMap.1 hy
    have hout : o ∈ (base.over xs).outsIn xs := List.mem_of_mem_filter ho
    rw [View.outsIn, mem_sortBy, List.mem_eraseDups, List.mem_filterMap] at hout
    obtain ⟨x, hx, hxo⟩ := hout
    obtain ⟨q, hq⟩ := (h x hx).outputOf (base.over xs)
    rw [hq] at hxo
    exact View.legacyOf_tabled _ st (Option.some.inj hxo ▸ q.isLt) y hy

end Sys2Proof.Machine

/-! What acceptance does with a capture of registers of enabled outputs (R42, R45): the sequence number is taken, the values wait, and the outputs show that. -/
namespace Sys2Proof.Machine

/-! The outputs that show a commit (R48). -/

/-- The address is that of COMMIT_STAT of an output. -/
def commitStatPlace (a : Nat) : Bool := match placeOf a with
  | .page (.outc _) off => decide (off = Reg.OUTC_COMMIT_STAT)
  | _ => false

theorem commitStatPlace_outc (o : Fin 512) {off : Nat} (h : off < 0x1000) :
    commitStatPlace (regAddr (.outc o) off) = decide (off = Reg.OUTC_COMMIT_STAT) := by
  rw [commitStatPlace, placeOf_regAddr (.outc o) off h]

theorem Dev.showCommitStat_same (d : Dev) (o : Nat) : Io.Same commitStatPlace d.io (d.showCommitStat o).io :=
  have hT : commitStatPlace (regAddr (outPage o) Reg.OUTC_COMMIT_STAT) = true := commitStatPlace_outc _ (by decide)
  (Io.Same.setFlag _ _ _ hT).trans (.setFlag _ _ _ hT)

@[simp] theorem Dev.showCommitStat_com (d : Dev) (o : Nat) : (d.showCommitStat o).com = d.com := rfl

theorem Dev.showCommitStat_pending (d : Dev) (o : Nat) :
    (d.showCommitStat o).io.flag (outPage o) Reg.OUTC_COMMIT_STAT 0 = !(d.com.pend.filter (fun p => p.outs.contains o)).isEmpty := by
  unfold Dev.showCommitStat
  dsimp only
  rw [Dev.onIo, Io.flag_setFlag_bit _ _ (by decide) (by decide), Io.flag_setFlag_self _ _ _ _ _ (by decide)]

section
variable {p : Pend} {o q : Nat}

/-- An output on which a commit waits shows it. -/
theorem Dev.showCommitStat_of_mem {d : Dev} (hp : p ∈ d.com.pend) (ho : o ∈ p.outs) : (d.showCommitStat o).io.flag (outPage o) Reg.OUTC_COMMIT_STAT 0 = true := by
  rw [Dev.showCommitStat_pending, Bool.not_eq_true', List.isEmpty_eq_false_iff_exists_mem]
  exact ⟨p, List.mem_filter.2 ⟨hp, by simpa using ho⟩⟩

/-- Nor does another output on which the commit waits change what it shows. -/
theorem Dev.showCommitStat_stays {d : Dev} (hp : p ∈ d.com.pend) (hq : q ∈ p.outs) (h : d.io.flag (outPage o) Reg.OUTC_COMMIT_STAT 0 = true) :
    (d.showCommitStat q).io.flag (outPage o) Reg.OUTC_COMMIT_STAT 0 = true := by
  by_cases hoq : outPage o = outPage q
  · rw [hoq]
    exact Dev.showCommitStat_of_mem hp hq
  · have hs : ∀ x, Reg.OUTC_COMMIT_STAT < pageSpan (outPage x) := fun x => lt_of_lt_of_le (by decide) (le_pageSpan _)
    rw [← h]
    exact congrArg (bit · 0) ((Io.reg_setFlag_page _ _ _ (hs q) (hs o) hoq).trans (Io.reg_setFlag_page _ _ _ (hs q) (hs o) hoq))

theorem Dev.foldl_showCommitStat_stays (outs : List Nat) (hsub : ∀ q ∈ outs, q ∈ p.outs) {d : Dev} (hp : p ∈ d.com.pend)
    (h : d.io.flag (outPage o) Reg.OUTC_COMMIT_STAT 0 = true) : (outs.foldl Dev.showCommitStat d).io.flag (outPage o) Reg.OUTC_COMMIT_STAT 0 = true := by
  induction outs generalizing d with
  | nil => exact h
  | cons q outs ih => exact ih (fun x hx => hsub x (by simp [hx])) hp (Dev.showCommitStat_stays hp (hsub q (by simp)) h)

theorem Dev.foldl_showCommitStat_pending (outs : List Nat) (hsub : ∀ q ∈ outs, q ∈ p.outs) {d : Dev} (hp : p ∈ d.com.pend) (ho : o ∈ outs) :
    (outs.foldl Dev.showCommitStat d).io.flag (outPage o) Reg.OUTC_COMMIT_STAT 0 = true := by
  induction outs generalizing d with
  | nil => simp at ho
  | cons q outs ih =>
    have hrest : ∀ x ∈ outs, x ∈ p.outs := fun x hx => hsub x (by simp [hx])
    rcases List.mem_cons.1 ho with rfl | ho
    · exact Dev.foldl_showCommitStat_stays outs hrest hp (Dev.showCommitStat_of_mem hp (hsub o (by simp)))
    · exact ih hrest hp ho

end

theorem Dev.foldl_showCommitStat_same (outs : List Nat) (d : Dev) : Io.Same commitStatPlace d.io (outs.foldl Dev.showCommitStat d).io :=
  Dev.foldl_rel (Io.Same.refl _) .trans Dev.showCommitStat_same outs d

/-! Values for disabled outputs (R42, R54). -/

/-- The address is beside what shows of commits, or a record of what an output has applied. -/
def besideOrApplied (a : Nat) : Bool := beside a || appliedPlace a

/-- The part is as before but for the registers beside what shows of commits, and no commit came or went. -/
structure Dev.Applies (d d' : Dev) : Prop where
  io : Io.Same besideOrApplied d.io d'.io
  queue : d'.com.queue = d.com.queue
  pend : d'.com.pend = d.com.pend

theorem Dev.Applies.refl (d : Dev) : Dev.Applies d d := ⟨.refl _ _, rfl, rfl⟩

theorem Dev.Applies.trans {a b c : Dev} (h : Dev.Applies a b) (k : Dev.Applies b c) : Dev.Applies a c :=
  ⟨h.io.trans k.io, k.queue.trans h.queue, k.pend.trans h.pend⟩

theorem Io.Same.orApplied {x y : Io} (h : Io.Same beside x y) : Io.Same besideOrApplied x y := h.mono fun a ha => by simp [besideOrApplied, ha]

theorem Dev.applyOutput_applies {xs : List (Nat × Word)} (h : Tabled xs) (d : Dev) (o seq fn acceptedAt frame time : Nat) :
    Dev.Applies d (d.applyOutput o seq fn acceptedAt frame time xs) where
  io := by
    rw [Dev.applyOutput_io]
    have hlive : Io.Same beside d.io (d.liveOn o frame xs).io := (Io.Same.makeLive (fun x hx => beside_tabled (h x hx)) _).trans (Dev.liveOn_io h.noFast d o frame)
    have hlog := (Io.Same.applyLog (d.liveOn o frame xs).io o seq frame time).mono (U := besideOrApplied) fun a ha => by simp [besideOrApplied, ha]
    exact (hlive.orApplied.trans hlog).trans (Io.Same.showSeq _ _ _).orApplied
  queue := by rw [(Dev.applyOutput_rest d o seq fn acceptedAt frame time xs).1, (Dev.liveOn_rest h.noFast d o frame).1]
  pend := by rw [(Dev.applyOutput_rest d o seq fn acceptedAt frame time xs).1, (Dev.liveOn_rest h.noFast d o frame).2.1]

theorem Dev.applyOff_applies {xs : List (Nat × Word)} (h : Tabled xs) (d : Dev) (seq fn acceptedAt : Nat) (outOf : Nat → Option Nat) :
    Dev.Applies d (d.applyOff seq fn acceptedAt xs outOf) :=
  foldl_keeps (P := fun d' => Dev.Applies d d') _
    (fun _ _ hb => hb.trans (Dev.applyOutput_applies (h.sublist fun _ hy => List.mem_of_mem_filter hy) _ _ _ _ _ _ _)) _ _ (.refl d)

/-! Acceptance (R42, R45). -/

/-- The sequence number that the next commit takes. -/
def Io.nextSeq (io : Io) : Nat := ((io.reg .top Reg.TOP_COMMIT_SEQ).toNat + 1) % 2 ^ 32

/-- What acceptance shows at once. -/
def Io.accepted (io : Io) (seq : Nat) (r : CommitReq) : Io :=
  (((io.put .top Reg.TOP_COMMIT_SEQ (Word.of seq)).putWide .top Reg.TOP_COMMIT_TIME_LO io.ns64).reportVerdict r none).raise .top 2

/-- The values of a proposal whose kind satisfies `f`. -/
def Proposal.kept (p : Proposal) (f : Kind → Bool) : List (Nat × Word) := p.vals.filter (fun x => f (p.kind x.1))

/-- The kind is that of an output that is disabled. -/
def Kind.isOff (io : Io) : Kind → Bool
  | .output o => !io.outOn o
  | _ => false

/-- The output of a captured address. -/
def Proposal.outOf (p : Proposal) (a : Nat) : Option Nat := match p.kind a with
  | .output o => some o
  | _ => none

/-- The part once a commit is accepted and what waits for nothing is live. -/
def Dev.begun (d : Dev) (r : CommitReq) (p : Proposal) : Dev :=
  (d.onIo fun io => (((io.accepted d.io.nextSeq r).follow (p.vals.drop p.own.length)).makeLive (p.kept fun k => decide (k = .plain))).showSeq d.io.nextSeq
    (p.kept fun k => decide (k = .plain))).past r.src

/-- An accepted commit waits. -/
def Dev.withPend (d : Dev) (pend : Pend) : Dev := { d with com := { d.com with pend := d.com.pend ++ [pend] } }

/-- An accepted commit waits, and its outputs show it. -/
def Dev.shownOn (d : Dev) (pend : Pend) (outs : List Nat) : Dev := outs.foldl Dev.showCommitStat (d.withPend pend)

/-- Its jobs are placed, and where no output keeps it waiting that is announced. -/
def Dev.awaits (d : Dev) (pend : Pend) (outs : List Nat) (jobs : List Job) (wait : Bool) : Dev :=
  let d := (d.shownOn pend outs).placeJobs jobs
  if outs.isEmpty && !wait then d.outputsDone pend else d

/-- The capture touches nothing but outputs, and what is of none. -/
structure Proposal.OnlyOutputs (p : Proposal) : Prop where
  flows : flowsIn p.vals = []
  egrs : egrsIn p.vals = []
  fasts : fastsIn p.vals = []
  channels : p.channels = []
  ports : portsIn p.vals = []
  group : p.kept (fun k => decide (k = .group)) = []

theorem Dev.channelsCaptured_nil {p : Proposal} (h : p.channels = []) (d : Dev) (at_ seq : Nat) : d.channelsCaptured p at_ seq = d := by
  rw [Dev.channelsCaptured, h]
  rfl

theorem Dev.portsCaptured_nil {p : Proposal} (h : portsIn p.vals = []) (d : Dev) (at_ seq : Nat) : d.portsCaptured p at_ seq = d := by
  rw [Dev.portsCaptured, h]
  rfl

theorem Dev.onIo_makeLive_nil (d : Dev) : d.onIo (fun io => io.makeLive []) = d := rfl

theorem Dev.onIo_id (d : Dev) : d.onIo (fun io => io) = d := rfl

theorem Dev.accept_eq {p : Proposal} (h : p.OnlyOutputs) (d : Dev) (r : CommitReq) (jobs : List Job) :
    ∃ (pend : Pend) (wait : Bool), pend.outs = p.outs.filter d.io.outOn
      ∧ d.accept r p jobs
        = (if wait then d.begun r p else (d.begun r p).applyOff d.io.nextSeq r.fn d.io.now (p.kept (Kind.isOff d.io)) p.outOf).awaits pend
            (p.outs.filter d.io.outOn) jobs wait := by
  have hg : p.vals.filter (fun x => decide (p.kind x.1 = .group)) = [] := h.group
  unfold Dev.accept
  simp only [h.flows, h.egrs, h.fasts, Dev.channelsCaptured_nil h.channels, Dev.portsCaptured_nil h.ports, hg, List.foldl_nil, List.filter_nil,
    Dev.onIo_makeLive_nil, Dev.onIo_id, List.append_nil]
  generalize hpend : Pend.mk _ _ _ _ _ _ _ _ _ _ _ _ = pend
  generalize (decide (d.io.now < r.salvo.getD d.io.now) && _) = wait
  generalize hd : (if wait = true then _ else _ : Dev) = d'
  have hd' : d' = if wait then d.begun r p else (d.begun r p).applyOff d.io.nextSeq r.fn d.io.now (p.kept (Kind.isOff d.io)) p.outOf := by
    rw [← hd]
    cases wait
    · rfl
    · rfl
  refine ⟨pend, wait, ?_, ?_⟩
  · rw [← hpend]
  · rw [← hd']
    rfl

end Sys2Proof.Machine

/-! A commit whose captured registers are all of enabled outputs: how the part stands once it is accepted (R42, R45). -/
namespace Sys2Proof.Machine

/-! What the capture touches. -/

theorem Proposal.kind_outReg (p : Proposal) {a off : Nat} {o : Fin 512} (h : placeOf a = .page (.outc o) off) : p.kind a = .output o.val := by
  simp [Proposal.kind, boundTo, View.outputOf, h]

theorem Proposal.kind_tabled (p : Proposal) {a : Nat} (h : (placeOf a).tabled = true) : (∃ o, p.kind a = .output o) ∨ p.kind a = .plain := by
  unfold Proposal.kind
  split
  · exact .inl ⟨_, rfl⟩
  · unfold Place.tabled at h
    split at h
    · next hp => exact .inr (by rw [hp])
    · next hp => exact .inr (by rw [hp])
    · exact Bool.noConfusion h

/-- The captured values are of output registers, or come with the legacy translation. -/
def Proposal.OnOutputs (p : Proposal) : Prop := ∀ x ∈ p.vals, outReg x.1 ∨ (placeOf x.1).tabled = true

/-- What picks no place of an output, and none of a table of outputs, picks nothing of the capture. -/
theorem Proposal.OnOutputs.untouched {p : Proposal} (h : p.OnOutputs) {pick : Place → Option Nat} (ho : ∀ o off, pick (.page (.outc o) off) = none)
    (hl : ∀ l off, pick (.layc l off) = none) (hr : ∀ o w, pick (.route o w) = none) : touched pick p.vals = [] := by
  refine touched_nil fun x hx => ?_
  rcases h x hx with ⟨o, off, hp, -⟩ | ht
  · rw [hp, ho]
  · unfold Place.tabled at ht
    split at ht
    · next hp => rw [hp, hl]
    · next hp => rw [hp, hr]
    · exact Bool.noConfusion ht

theorem Proposal.OnOutputs.only {p : Proposal} (h : p.OnOutputs) : p.OnlyOutputs where
  flows := h.untouched (fun _ _ => rfl) (fun _ _ => rfl) fun _ _ => rfl
  egrs := h.untouched (fun _ _ => rfl) (fun _ _ => rfl) fun _ _ => rfl
  fasts := h.untouched (fun _ _ => rfl) (fun _ _ => rfl) fun _ _ => rfl
  ports := h.untouched (fun _ _ => rfl) (fun _ _ => rfl) fun _ _ => rfl
  channels := by
    have hc : channelsIn p.vals = [] := h.untouched (fun _ _ => rfl) (fun _ _ => rfl) fun _ _ => rfl
    have hg : groupsIn p.vals = [] := h.untouched (fun _ _ => rfl) (fun _ _ => rfl) fun _ _ => rfl
    rw [Proposal.channels, hc, hg]
    simp [sortBy]
  group := by
    refine List.filter_eq_nil_iff.2 fun x hx hk => ?_
    have hgroup : p.kind x.1 = .group := of_decide_eq_true hk
    rcases h x hx with ⟨o, off, hp, -⟩ | ht
    · simp [p.kind_outReg hp] at hgroup
    · rcases p.kind_tabled ht with ⟨o, ho⟩ | ho <;> simp [ho] at hgroup

/-- What is of no output is of a table. -/
theorem Proposal.OnOutputs.plain {p : Proposal} (h : p.OnOutputs) : Tabled (p.kept fun k => decide (k = .plain)) := by
  intro x hx
  obtain ⟨hmem, hk⟩ := List.mem_filter.1 hx
  rcases h x hmem with ⟨o, off, hp, -⟩ | ht
  · rw [p.kind_outReg hp] at hk
    exact absurd (of_decide_eq_true hk) (by simp)
  · exact ht

/-- What is of a disabled output is of a table where the captured registers are of enabled ones. -/
theorem Proposal.OnOutputs.off {p : Proposal} (h : p.OnOutputs) {io : Io}
    (hon : ∀ x ∈ p.vals, ∀ o off, placeOf x.1 = .page (.outc o) off → io.outOn o = true) : Tabled (p.kept (Kind.isOff io)) := by
  intro x hx
  obtain ⟨hmem, hk⟩ := List.mem_filter.1 hx
  rcases h x hmem with ⟨o, off, hp, -⟩ | ht
  · rw [p.kind_outReg hp, Kind.isOff, hon x hmem o off hp] at hk
    exact Bool.noConfusion hk
  · exact ht

/-! The part once the commit is accepted. -/

@[simp] theorem Io.follow_rd (io : Io) (xs : List (Nat × Word)) (a : Nat) : (io.follow xs).rd a = io.rd a := by
  unfold Io.follow
  induction xs generalizing io with
  | nil => rfl
  | cons x xs ih =>
    rw [List.foldl_cons, ih]
    split
    · split <;> rfl
    · rfl

theorem Io.accepted_seq (io : Io) (seq : Nat) (r : CommitReq) : (io.accepted seq r).reg .top Reg.TOP_COMMIT_SEQ = Word.of seq := by
  unfold Io.accepted
  rw [Io.reg_raise_off _ _ _ (by decide) (by decide), (Io.Same.reportVerdict _ r none).reg (by decide), Io.reg_putWide_off _ _ _ _ (by decide) (by decide),
    Io.reg_put_self]

theorem Io.accepted_pend (io : Io) (seq : Nat) (r : CommitReq) : (io.accepted seq r).flag .top Reg.EVT_PEND 2 = true := by
  unfold Io.accepted
  rw [Io.flag, Io.reg_raise_pend, bit_setBit_self _ _ _ (by decide)]

theorem Io.accepted_verdict (io : Io) (seq : Nat) {r : CommitReq} (h : r.src = none) : (io.accepted seq r).flag .top Reg.TOP_COMMIT_STAT 1 = true := by
  unfold Io.accepted
  rw [Io.flag, Io.reg_raise_off _ _ _ (by decide) (by decide), Io.reportVerdict_none _ h]
  exact (Io.showVerdict_flag _ none).1

/-- Acceptance itself writes TOP. -/
theorem Io.Same.accepted (io : Io) (seq : Nat) (r : CommitReq) :
    Io.Same (fun a => beside a || within .top [Reg.TOP_COMMIT_SEQ, Reg.TOP_COMMIT_STAT, Reg.EVT_PEND] a) io (io.accepted seq r) := by
  unfold Io.accepted
  refine .trans (.trans (.trans (.put _ _ (by decide)) (.putWide _ _ (by decide) (by decide))) ((Io.Same.reportVerdict _ r none).mono fun a ha => ?_))
    (.raise (fun a ha => by simp [beside_event ha]) _ _ (by decide))
  obtain ⟨off, hmem, rfl⟩ := within_iff.1 ha
  rw [List.mem_singleton.1 hmem]
  decide

/-! Registers of outputs that hold what was captured (R34). -/

theorem rowsOutc_shadowed : ∀ r ∈ rowsOutc, r.shadowed = true → r.off = 0x40 ∧ r.stride = 4 ∧ r.count = 1 ∨ 0xE0 ≤ r.off := by decide

/-- Shadowed registers of an output lie before and after those that show commits. -/
theorem shadowedOutc_bounds {off : Nat} (h : shadowedOutc off = true) : off = 0x40 ∨ 0xE0 ≤ off := by
  unfold shadowedOutc at h
  cases hr : rowAt (.outc 0) off with
  | none => simp [hr] at h
  | some r =>
    have hs : r.shadowed = true := by simpa [hr] using h
    have hfind : rowsOutc.find? (fun r => r.covers off) = some r := hr
    have hcov := List.find?_some hfind
    simp only [Row.covers, Bool.and_eq_true, decide_eq_true_eq] at hcov
    obtain ⟨⟨hlo, hmod⟩, hcount⟩ := hcov
    rcases rowsOutc_shadowed r (List.mem_of_find?_eq_some hfind) hs with ⟨hoff, hstride, hone⟩ | hge
    · rw [hoff, hstride] at hmod
      rw [hoff, hstride, hone] at hcount
      omega
    · omega

theorem outReg.not_beside {a : Nat} (h : outReg a) : beside a = false := by
  obtain ⟨o, off, hp, hs⟩ := h
  rw [beside, hp, Place.shown, hs]
  rfl

theorem outReg.not_applied {a : Nat} (h : outReg a) : appliedPlace a = false := by
  obtain ⟨o, off, hp, hs⟩ := h
  rw [appliedPlace, hp]
  have := shadowedOutc_bounds hs
  refine decide_eq_false fun hoff => ?_
  have hlo : 0x48 ≤ off := hoff.1
  omega

theorem outReg.not_commitStat {a : Nat} (h : outReg a) : commitStatPlace a = false := by
  obtain ⟨o, off, hp, hs⟩ := h
  rw [commitStatPlace, hp]
  have := shadowedOutc_bounds hs
  refine decide_eq_false fun hoff => ?_
  have heq : off = 0x44 := hoff
  omega

theorem outReg.not_top {a : Nat} (h : outReg a) {offs : List Nat} (hoffs : ∀ off ∈ offs, off < 0x1000) : within .top offs a = false := by
  obtain ⟨o, off, hp, -⟩ := h
  refine Bool.eq_false_iff.2 fun hw => ?_
  obtain ⟨off', hmem, rfl⟩ := within_iff.1 hw
  rw [placeOf_regAddr .top off' (hoffs off' hmem)] at hp
  exact absurd hp (by simp)

/-! Jobs and events (R45, R263). -/

/-- A register written only where its value changes. -/
theorem Io.Same.putNew {T : Nat → Bool} (io : Io) {p : PageRef} {off : Nat} (w : Word) (h : T (regAddr p off) = true) :
    Io.Same T io (if io.reg p off = w then io else io.put p off w) := by
  split
  · exact .refl _ _
  · exact .put _ _ h

theorem Io.Same.showJobs (io : Io) (es : List Engine) (js : List Job) : Io.Same beside io (io.showJobs es js) := by
  unfold Io.showJobs
  dsimp only
  refine .trans (.trans (.trans (.trans (.trans (.put _ _ (by decide)) (.put _ _ (by decide))) (.put _ _ (by decide))) (.put _ _ (by decide)))
    (.put _ _ (by decide))) (.foldl (fun io e => ?_) _ _)
  have hp : ∀ {off}, off < 0x1000 → beside (regAddr (.prsm (Fin.ofNat 144 e.2)) off) = true := fun h => beside_aside rfl h
  refine .trans (.trans (.setFld _ _ _ _ (hp (by decide))) (.put _ _ (hp (by decide)))) (.foldl_mem _ (fun io i hi => ?_) _)
  have hlt : i < 64 := List.mem_range.1 hi
  exact .putNew _ _ (hp (show 0x100 + 4 * i < 0x1000 by omega))

theorem Dev.placeJobs_io (d : Dev) (jobs : List Job) : Io.Same beside d.io (d.placeJobs jobs).io := Io.Same.showJobs _ _ _

/-- The events of a commit that every output has applied. -/
def Io.raiseDone (io : Io) (p : Pend) : Io := if p.salvo.isSome then (io.raise .top 4).raise .top 7 else io.raise .top 4

theorem Dev.outputsDone_io (d : Dev) (p : Pend) : (d.outputsDone p).io =
    if newerSeq p.seq ((d.io.raiseDone p).reg .top Reg.TOP_COMMIT_APPLIED).toNat then (d.io.raiseDone p).put .top Reg.TOP_COMMIT_APPLIED (Word.of p.seq)
    else d.io.raiseDone p := rfl

theorem Io.raiseDone_keeps (io : Io) (p : Pend) : Io.Keeps io (io.raiseDone p) := by
  unfold Io.raiseDone
  split
  · exact (Io.Keeps.raise _ (by decide)).trans (.raise _ (by decide))
  · exact .raise _ (by decide)

/-- What is announced stays announced. -/
theorem Dev.outputsDone_raised (d : Dev) (p : Pend) : Io.Keeps (d.io.raiseDone p) (d.outputsDone p).io := by
  rw [Dev.outputsDone_io]
  split
  · exact .of_beside (.put _ _ (by decide))
  · exact .refl _

theorem Dev.outputsDone_keeps (d : Dev) (p : Pend) : Io.Keeps d.io (d.outputsDone p).io := (d.io.raiseDone_keeps p).trans (d.outputsDone_raised p)

end Sys2Proof.Machine

/-! Commits are judged (R42 to R45). -/
namespace Sys2Proof.Machine

/-- The address is beside what shows of commits, or shows what an output has applied or has yet to apply. -/
def besideOutputs (a : Nat) : Bool := besideOrApplied a || commitStatPlace a

theorem outReg.not_besideOutputs {a : Nat} (h : outReg a) : besideOutputs a = false := by
  simp [besideOutputs, besideOrApplied, h.not_beside, h.not_applied, h.not_commitStat]

theorem Io.Same.orOutputs {x y : Io} (h : Io.Same beside x y) : Io.Same besideOutputs x y := h.mono fun a ha => by simp [besideOutputs, besideOrApplied, ha]

theorem Dev.past_io (d : Dev) (src : Option (Nat × Nat)) : (d.past src).io = d.io := by cases src <;> rfl

/-- What acceptance has shown at once, before anything becomes live. -/
def Dev.beginning (d : Dev) (r : CommitReq) (p : Proposal) : Io := (d.io.accepted d.io.nextSeq r).follow (p.vals.drop p.own.length)

theorem Dev.begun_io {p : Proposal} (h : p.OnOutputs) (d : Dev) (r : CommitReq) : Io.Same beside (d.beginning r p) (d.begun r p).io := by
  unfold Dev.begun
  rw [Dev.past_io]
  exact (Io.Same.makeLive (fun x hx => beside_tabled (h.plain x hx)) _).trans (.showSeq _ _ _)

theorem Dev.begun_com (d : Dev) (r : CommitReq) (p : Proposal) : (d.begun r p).com = d.com := (Dev.past_only _ _).com

theorem Dev.beginning_rd {a : Nat} (h : outReg a) (d : Dev) (r : CommitReq) (p : Proposal) : (d.beginning r p).rd a = d.io.rd a := by
  rw [Dev.beginning, Io.follow_rd]
  refine (Io.Same.accepted d.io _ r).rd a ?_
  rw [h.not_beside, h.not_top (by decide), Bool.or_false]

theorem Dev.beginning_reg (d : Dev) (r : CommitReq) (p : Proposal) (q : PageRef) (off : Nat) :
    (d.beginning r p).reg q off = (d.io.accepted d.io.nextSeq r).reg q off := Io.follow_rd _ _ _

theorem Dev.shownOn_com (d : Dev) (pend : Pend) (outs : List Nat) : (d.shownOn pend outs).com = (d.withPend pend).com :=
  Dev.foldl_com Dev.showCommitStat_com outs _

theorem Dev.shownOn_io (d : Dev) (pend : Pend) (outs : List Nat) : Io.Same commitStatPlace d.io (d.shownOn pend outs).io :=
  Dev.foldl_showCommitStat_same outs (d.withPend pend)

theorem Dev.shownOn_pending (d : Dev) {pend : Pend} {outs : List Nat} (h : pend.outs = outs) {o : Nat} (ho : o ∈ outs) :
    (d.shownOn pend outs).io.flag (outPage o) Reg.OUTC_COMMIT_STAT 0 = true :=
  Dev.foldl_showCommitStat_pending (p := pend) outs (fun q hq => h ▸ hq) (by simp [Dev.withPend]) ho

@[simp] theorem Dev.placeJobs_com (d : Dev) (jobs : List Job) : (d.placeJobs jobs).com = d.com := rfl

@[simp] theorem Dev.outputsDone_com (d : Dev) (p : Pend) : (d.outputsDone p).com = d.com := by
  rw [Dev.outputsDone, Dev.onIo]

theorem Dev.awaits_keeps (d : Dev) (pend : Pend) (outs : List Nat) (jobs : List Job) (wait : Bool) :
    Io.Keeps (d.shownOn pend outs).io (d.awaits pend outs jobs wait).io := by
  have hplace : Io.Keeps (d.shownOn pend outs).io ((d.shownOn pend outs).placeJobs jobs).io := .of_beside (Dev.placeJobs_io _ _)
  unfold Dev.awaits
  dsimp only
  split
  · exact hplace.trans (Dev.outputsDone_keeps _ _)
  · exact hplace

theorem Dev.awaits_queue (d : Dev) (pend : Pend) (outs : List Nat) (jobs : List Job) (wait : Bool) :
    (d.awaits pend outs jobs wait).com.queue = d.com.queue := by
  unfold Dev.awaits
  dsimp only
  split
  · rw [Dev.outputsDone_com, Dev.placeJobs_com, Dev.shownOn_com, Dev.withPend]
  · rw [Dev.placeJobs_com, Dev.shownOn_com, Dev.withPend]

/-- How the part stands once a commit on enabled outputs is accepted: between what it shows at once and what its outputs then show, nothing that
shows of it changes, and it is kept from there on. -/
theorem Dev.accept_shows {d : Dev} {p : Proposal} (h : p.OnOutputs) (hon : ∀ x ∈ p.vals, ∀ o off, placeOf x.1 = .page (.outc o) off → d.io.outOn o = true)
    (r : CommitReq) (jobs : List Job) :
    ∃ io, Io.Same besideOutputs (d.beginning r p) io ∧ (∀ o ∈ p.outs.filter d.io.outOn, io.flag (outPage o) Reg.OUTC_COMMIT_STAT 0 = true)
      ∧ Io.Keeps io (d.accept r p jobs).io ∧ (d.accept r p jobs).com.queue = d.com.queue := by
  obtain ⟨pend, wait, houts, heq⟩ := Dev.accept_eq h.only d r jobs
  have hstart : Dev.Applies (d.begun r p)
      (if wait then d.begun r p else (d.begun r p).applyOff d.io.nextSeq r.fn d.io.now (p.kept (Kind.isOff d.io)) p.outOf) := by
    split
    · exact .refl _
    · exact Dev.applyOff_applies (h.off hon) ..
  generalize (if wait then d.begun r p else _ : Dev) = d' at hstart heq
  refine ⟨(d'.shownOn pend (p.outs.filter d.io.outOn)).io, ?_, fun o ho => d'.shownOn_pending houts ho, ?_, ?_⟩
  · refine ((Dev.begun_io h d r).orOutputs.trans (hstart.io.mono fun a ha => ?_)).trans ((Dev.shownOn_io _ _ _).mono fun a ha => ?_)
    · simp [besideOutputs, ha]
    · simp [besideOutputs, ha]
  · rw [heq]
    exact Dev.awaits_keeps ..
  · rw [heq, Dev.awaits_queue, hstart.queue, Dev.begun_com]

section
variable {s : State} {r : CommitReq} {rest : List CommitReq} (hq : s.dev.com.queue = r :: rest) (dt : Nat)

theorem waitsOnOutput_iff {io : Io} {a : Nat} :
    io.waitsOnOutput a = true ↔ ∃ o off, placeOf a = .page (.outc o) off ∧ io.outOn o = true ∧ shadowedOutc off = true := by
  unfold Io.waitsOnOutput
  split
  · next o off hp =>
    rw [Bool.and_eq_true]
    constructor
    · rintro ⟨hon, hs⟩
      exact ⟨o, off, hp, hon, hs⟩
    · rintro ⟨o', off', hp', hon, hs⟩
      obtain ⟨rfl, rfl⟩ : o = o' ∧ off = off' := by simpa [hp] using hp'
      exact ⟨hon, hs⟩
  · next hno =>
    constructor
    · intro h
      exact Bool.noConfusion h
    · rintro ⟨o, off, hp, -⟩
      exact absurd hp (hno o off)

theorem outReg_of_waits {io : Io} {a : Nat} (h : io.waitsOnOutput a = true) : outReg a :=
  have ⟨o, off, hp, _, hs⟩ := waitsOnOutput_iff.1 h
  ⟨o, off, hp, hs⟩

include hq

theorem runs_validationEnd_accept (h : (s.dev.verdict r rest dt).failure = none) (hd : r.dry = false)
    (hw : ∀ x ∈ r.vals, s.dev.io.waitsOnOutput x.1 = true) (o : Fin 512) :
    Runs (.commitValidationEnd dt) s fun d d' =>
      d'.com.queue = rest ∧ d'.io.flag .top Reg.EVT_PEND 2 = true
        ∧ d'.io.reg .top Reg.TOP_COMMIT_SEQ = Word.of (((d.io.reg .top Reg.TOP_COMMIT_SEQ).toNat + 1) % 2 ^ 32)
        ∧ (r.src = none → d'.io.flag .top Reg.TOP_COMMIT_STAT 1 = true)
        ∧ (∀ x ∈ r.vals, d'.io.rd x.1 = d.io.rd x.1)
        ∧ (r.vals.any (fun x => decide (d.io.live.outputOf x.1 = some o.val)) = true → d'.io.flag (.outc o) Reg.OUTC_COMMIT_STAT 0 = true) := by
  cases hv : s.dev.verdict r rest dt with
  | fail st c info => simp [hv, Verdict.failure] at h
  | pass jobs =>
    obtain ⟨leg, hexp, hleg⟩ := expand_outRegs (base := (s.dev.judging rest dt).after) (st := (s.dev.judging rest dt).st) fun x hx =>
      outReg_of_waits (hw x hx)
    have hvals : (s.dev.judgedProposal r rest dt).vals = r.vals ++ leg := by
      rw [← hexp, Dev.judgedProposal, Dev.judgedVals, if_neg (by simp [hd])]
      rfl
    have hon : ∀ x ∈ (s.dev.judgedProposal r rest dt).vals, ∀ q off, placeOf x.1 = .page (.outc q) off → s.dev.io.outOn q = true := by
      intro x hx q off hp
      rw [hvals] at hx
      rcases List.mem_append.1 hx with hx | hx
      · obtain ⟨q', off', hp', hon, -⟩ := waitsOnOutput_iff.1 (hw x hx)
        obtain ⟨rfl, -⟩ : q = q' ∧ off = off' := by simpa [hp] using hp'
        exact hon
      · have := hleg x hx
        rw [hp] at this
        exact Bool.noConfusion this
    have hreg : (s.dev.judgedProposal r rest dt).OnOutputs := by
      intro x hx
      rw [hvals] at hx
      rcases List.mem_append.1 hx with hx | hx
      · exact .inl (outReg_of_waits (hw x hx))
      · exact .inr (hleg x hx)
    obtain ⟨io, hsame, hshown, hkeeps, hqueue⟩ := Dev.accept_shows (d := s.dev.judging rest dt) hreg hon r jobs
    refine Runs.validationEnd hq dt ?_
    rw [hv, Dev.conclude, if_neg (by simp [hd])]
    intro d' hk hqueue'
    have hk' := hkeeps.trans hk
    have htop : ∀ off, off < 0x1000 → besideOutputs (regAddr .top off) = beside (regAddr .top off) := fun off ho => by
      rw [besideOutputs, besideOrApplied, appliedPlace, commitStatPlace, placeOf_regAddr .top off ho, Bool.or_false, Bool.or_false]
    have hfirst : ∀ {off}, off < 0x1000 → beside (regAddr .top off) = false →
        io.reg .top off = ((s.dev.judging rest dt).io.accepted (s.dev.judging rest dt).io.nextSeq r).reg .top off := fun ho hb => by
      rw [hsame.reg ((htop _ ho).trans hb), Dev.beginning_reg]
    refine ⟨hqueue'.trans hqueue, hk'.pend 2 ?_, ?_, fun hs => (hk'.verdict 1 (.inl rfl)).trans ?_, fun x hx => ?_, fun hany => ?_⟩
    · rw [Io.flag, hfirst (by decide) (by decide)]
      exact Io.accepted_pend _ _ _
    · refine (hk'.rd (by decide) (by decide)).trans ?_
      rw [Io.rd_regAddr, hfirst (by decide) (by decide), Io.accepted_seq]
      rfl
    · rw [Io.flag, hfirst (by decide) (by decide)]
      exact Io.accepted_verdict _ _ hs
    · have hx' := outReg_of_waits (hw x hx)
      rw [hk'.rd hx'.not_beside (hx'.not_top (by decide)), hsame.rd _ hx'.not_besideOutputs, Dev.beginning_rd hx']
      rfl
    · obtain ⟨x, hx, hxo⟩ := List.any_eq_true.1 hany
      have hxo' : s.dev.io.live.outputOf x.1 = some o.val := of_decide_eq_true hxo
      have hout : o.val ∈ (s.dev.judgedProposal r rest dt).outs.filter (s.dev.judging rest dt).io.outOn := by
        obtain ⟨q, off, hp, hon', -⟩ := waitsOnOutput_iff.1 (hw x hx)
        obtain rfl : q = o := by simpa [View.outputOf, hp, Fin.val_inj] using hxo'
        refine List.mem_filter.2 ⟨?_, hon'⟩
        rw [Proposal.outs, mem_sortBy, List.mem_eraseDups, List.mem_filterMap]
        refine ⟨x, by rw [hvals]; exact List.mem_append_left _ hx, ?_⟩
        simp [boundTo, hp, View.outputOf]
      have hflag := hshown _ hout
      rw [outPage_val] at hflag
      rw [← hflag, Io.flag, hk'.outc o (by decide) (.inr (by decide)), Io.flag]

end

/-- Settles O50: the verdict decides what validation does (`Dev.validationEnds_eq`): it rejects, it only reports, or it accepts. -/
theorem commitsAreJudged : Obligations.CommitsAreJudged := by
  unfold Obligations.CommitsAreJudged
  intro r rest status code dt o s hq
  exact ⟨runs_validationEnd_fail hq dt, runs_validationEnd_dry hq dt, fun h hd hw => runs_validationEnd_accept hq dt h hd hw o⟩

end Sys2Proof.Machine

/-! Commits take effect (R42, R43, R46, R48): what an output that applies a captured register shows, and how a commit that nothing keeps open ends. -/
namespace Sys2Proof.Machine

/-! An output applies a captured register (R48). -/

theorem Io.applyLog_seq (io : Io) (o seq frame time : Nat) : (io.applyLog o seq frame time).reg (outPage o) Reg.OUTC_APPLY_SEQ = Word.of seq := by
  rw [Io.applyLog_eq, Io.reg_putWide_off _ _ _ _ (by decide) (by decide), Io.reg_putWide_off _ _ _ _ (by decide) (by decide), Io.reg_put_self]

theorem Io.applyLog_frame (io : Io) (o seq frame time : Nat) :
    (io.applyLog o seq frame time).wide (outPage o) Reg.OUTC_APPLY_FRAME_LO = frame % 2 ^ 64 := by
  rw [Io.applyLog_eq, Io.wide, Io.reg_putWide_off (off := Reg.OUTC_APPLY_TIME_LO) _ _ _ (by decide) (by decide),
    Io.reg_putWide_off (off := Reg.OUTC_APPLY_TIME_LO) _ _ _ (by decide) (by decide)]
  exact Io.wide_putWide _ _ _ _

theorem shadowedOutc_of_row {o : Fin 512} {off : Nat} {row : Row} (h : rowAt (.outc o) off = some row) (hs : row.shadowed = true) : shadowedOutc off = true := by
  have h0 : rowAt (.outc 0) off = some row := h
  rw [shadowedOutc, h0]
  exact hs

theorem outReg_regAddr (o : Fin 512) {off : Nat} (h : off < 0x1000) (hs : shadowedOutc off = true) : outReg (regAddr (.outc o) off) :=
  ⟨o, off, placeOf_regAddr (.outc o) off h, hs⟩

theorem outReg.noFast {a : Nat} (h : outReg a) (w : Word) : noFast [(a, w)] := by
  intro x hx e k he
  obtain ⟨o, off, hp, -⟩ := h
  rw [List.mem_singleton.1 hx, hp] at he
  exact Place.noConfusion he

/-- The registers that show a captured register as applied. -/
structure Io.Applied (io : Io) (o : Fin 512) (off : Nat) (w : Word) (seq frame : Nat) : Prop where
  live : io.reg (.outc o) off = w
  seq : io.reg (.outc o) Reg.OUTC_APPLY_SEQ = Word.of seq
  frame : io.wide (.outc o) Reg.OUTC_APPLY_FRAME_LO = frame % 2 ^ 64

section
variable {o : Fin 512} {off : Nat} {w : Word} {seq frame : Nat}

theorem Io.Applied.keeps {x y : Io} (h : x.Applied o off w seq frame) (hoff : off < 0x1000) (hs : shadowedOutc off = true) (k : Io.Keeps x y) :
    y.Applied o off w seq frame where
  live := (k.outc o hoff (.inl hs)).trans h.live
  seq := (k.outc o (by decide) (.inr (by decide))).trans h.seq
  frame := by
    rw [← h.frame, Io.wide, k.outc o (by decide) (.inr (by decide)), k.outc o (off := Reg.OUTC_APPLY_FRAME_LO + 4) (by decide) (.inr (by decide)), ← Io.wide]

theorem Dev.applyOutput_applied (d : Dev) (hoff : off < 0x1000) (hs : shadowedOutc off = true) (fn acceptedAt time : Nat) :
    (d.applyOutput o.val seq fn acceptedAt frame time [(regAddr (.outc o) off, w)]).io.Applied o off w seq frame := by
  have hreg := outReg_regAddr o hoff hs
  rw [Dev.applyOutput_io]
  refine Io.Applied.keeps ⟨?_, ?_, ?_⟩ hoff hs (.of_beside (.showSeq _ _ _))
  · rw [Io.reg, (Io.Same.applyLog _ _ _ _ _).rd _ hreg.not_applied, (Dev.liveOn_io (hreg.noFast w) d o.val frame).rd _ hreg.not_beside]
    exact Io.rd_wr_self _ _ _
  · rw [← outPage_val, Io.applyLog_seq]
  · rw [← outPage_val, Io.applyLog_frame]

end

/-! A commit that is alone. -/

theorem Dev.outputsDone_aud (d : Dev) (p : Pend) : (d.outputsDone p).aud = d.aud := by
  rw [Dev.outputsDone, Dev.onIo]

theorem Dev.outputsDone_tdm (d : Dev) (p : Pend) : (d.outputsDone p).tdm = d.tdm := by
  rw [Dev.outputsDone, Dev.onIo]

/-- The part with one accepted commit. -/
def Dev.onlyPend (d : Dev) (p : Pend) : Dev := { d with com := { d.com with pend := [p] } }

/-- A commit that stays alone and that nothing waits for is announced. -/
theorem Dev.updPend_alone {d : Dev} {p : Pend} (h : d.com.pend = [p]) (f : Pend → Pend) (hwas : (!p.outs.isEmpty || p.waitT) = true)
    (houts : (f p).outs = []) (hwait : (f p).waitT = false) : d.updPend p.seq f = (d.onlyPend (f p)).outputsDone (f p) := by
  unfold Dev.updPend
  rw [h]
  simp only [List.find?_cons_of_pos, decide_true, List.map_cons, List.map_nil, if_true, hwas, houts, hwait]
  rfl

/-- A commit that nothing keeps open completes. -/
theorem Dev.settle_closes {d : Dev} {p : Pend} (h : d.com.pend = [p]) (hopen : d.commitOpen p = false) : d.settle.com.pend = [] := by
  rw [Dev.settle_com, Dev.finishCommits_com, h]
  simp [Dev.stillOpen, h, hopen]

theorem Dev.commitOpen_closed {d : Dev} {p : Pend} (houts : p.outs = []) (hwait : p.waitT = false) (hfast : p.fasts = []) (hsound : d.soundOpen p.seq = false) :
    d.commitOpen p = false := by simp [Dev.commitOpen, houts, hwait, hfast, hsound]

theorem Dev.soundOpen_congr {d d' : Dev} (ha : d'.aud = d.aud) (ht : d'.tdm = d.tdm) (seq : Nat) : d'.soundOpen seq = d.soundOpen seq := by
  rw [Dev.soundOpen, ha, ht, Dev.soundOpen]

/-- The announcement of a commit. -/
theorem Io.raiseDone_pend (io : Io) (p : Pend) : (io.raiseDone p).flag .top Reg.EVT_PEND 4 = true := by
  have h4 : (io.raise .top 4).flag .top Reg.EVT_PEND 4 = true := by rw [Io.flag, Io.reg_raise_pend, bit_setBit_self _ _ _ (by decide)]
  unfold Io.raiseDone
  split
  · exact (Io.Keeps.raise _ (by decide)).pend 4 h4
  · exact h4

theorem Io.raiseDone_salvo (io : Io) {p : Pend} (h : p.salvo.isSome = true) : (io.raiseDone p).flag .top Reg.EVT_PEND 7 = true := by
  rw [Io.raiseDone, if_pos h, Io.flag, Io.reg_raise_pend, bit_setBit_self _ _ _ (by decide)]

/-- How the part stands once an output has applied the one captured register of a commit that is alone. -/
structure Dev.AppliedAlone (d d' : Dev) (o : Fin 512) (off : Nat) (w : Word) (frame : Nat) (p : Pend) : Prop where
  io : d'.io.Applied o off w p.seq frame
  done : d'.io.flag .top Reg.EVT_PEND 4 = true
  salvo : p.salvo.isSome = true → d'.io.flag .top Reg.EVT_PEND 7 = true
  pend : d'.com.pend = [p]
  aud : d'.aud = d.aud
  tdm : d'.tdm = d.tdm

theorem Dev.appliedAlone {d : Dev} {p : Pend} {o : Fin 512} {off : Nat} {w : Word} (hoff : off < 0x1000) (hs : shadowedOutc off = true)
    (fn acceptedAt frame time : Nat) (hpend : d.com.pend = [p]) (f : Pend → Pend) (hwas : (!p.outs.isEmpty || p.waitT) = true) (hseq : (f p).seq = p.seq)
    (houts : (f p).outs = []) (hwait : (f p).waitT = false) :
    Dev.AppliedAlone d ((d.applyOutput o.val p.seq fn acceptedAt frame time [(regAddr (.outc o) off, w)]).updPend p.seq f) o off w frame (f p) := by
  have happ := Dev.applyOutput_applied (o := o) (seq := p.seq) (frame := frame) (w := w) d hoff hs fn acceptedAt time
  obtain ⟨hcom, haud, htdm⟩ := Dev.applyOutput_rest d o.val p.seq fn acceptedAt frame time [(regAddr (.outc o) off, w)]
  obtain ⟨-, hpend', haud', htdm'⟩ := Dev.liveOn_rest ((outReg_regAddr o hoff hs).noFast w) d o.val frame
  generalize d.applyOutput o.val p.seq fn acceptedAt frame time [(regAddr (.outc o) off, w)] = d1 at happ hcom haud htdm ⊢
  rw [Dev.updPend_alone (by rw [hcom, hpend', hpend]) f hwas houts hwait]
  have hraised := (d1.onlyPend (f p)).outputsDone_raised (f p)
  exact {
    io := hseq ▸ happ.keeps hoff hs ((d1.io.raiseDone_keeps (f p)).trans hraised)
    done := hraised.pend 4 (Io.raiseDone_pend _ _)
    salvo := fun h => hraised.pend 7 (Io.raiseDone_salvo _ h)
    pend := by rw [Dev.outputsDone_com, Dev.onlyPend]
    aud := by rw [Dev.outputsDone_aud, Dev.onlyPend, haud, haud']
    tdm := by rw [Dev.outputsDone_tdm, Dev.onlyPend, htdm, htdm'] }

end Sys2Proof.Machine

/-! A salvo takes effect at its instant (R42, R43). -/
namespace Sys2Proof.Machine

/-! What a salvo does at its instant (R42, R366). -/

/-- The address is in an entry of an alignment group. -/
def groupPlace (a : Nat) : Bool := match placeOf a with
  | .audio off => decide (0xD4000 ≤ off)
  | _ => false

/-- The disabled output at which a value waits for the salvo's instant. -/
def Dev.salvoOut (d : Dev) (p : Pend) (a : Nat) : Option Nat :=
  match boundTo d.io.live (d.io.live.over p.vals) a with
  | some o => if p.outs.contains o then none else some o
  | none => none

/-- What a salvo becomes at its instant: it waits for time no longer, and for the values of `keep`. -/
def Pend.atInstant (p : Pend) (frame : Nat) (keep : Nat × Word → Bool) : Pend :=
  { p with waitT := false, lastFrame := if p.outs.isEmpty then frame else p.lastFrame, vals := p.vals.filter keep }

/-- The values of a salvo that become live on disabled outputs at its instant. -/
def Dev.salvoVals (d : Dev) (p : Pend) : List (Nat × Word) := p.vals.filter (fun x => (d.salvoOut p x.1).isSome)

/-- The part once the values that a salvo held are live. -/
def Dev.salvoLive (d : Dev) (p : Pend) : Dev :=
  (d.onIo (fun io => io.makeLive (p.vals.filter (fun x => groupPlace x.1)))).applyOff p.seq p.fn p.acceptedAt (d.salvoVals p) (d.salvoOut p)

/-- The frame count that the salvo then reports. -/
def Dev.salvoFrame (d : Dev) (p : Pend) : Nat :=
  match ((d.salvoVals p).filterMap (fun x => d.salvoOut p x.1)).getLast? with
  | some o => ((d.salvoLive p).io.frozenFrame o).1
  | none => p.lastFrame

/-- The instant of one salvo has come. -/
def Dev.salvoStep (d : Dev) (p : Pend) : Dev :=
  (d.salvoLive p).updPend p.seq (fun q => q.atInstant (d.salvoFrame p) fun x => !(d.salvoVals p).contains x && !groupPlace x.1)

theorem Dev.salvosDue_eq (d : Dev) :
    d.salvosDue = (d.com.pend.filter (fun p => p.waitT && decide (p.salvo.getD 0 ≤ d.io.now))).foldl Dev.salvoStep d := rfl

/-! A salvo that holds one register of a disabled output. -/

theorem boundTo_outc (base v : View) (o : Fin 512) {off : Nat} (h : off < 0x1000) : boundTo base v (regAddr (.outc o) off) = some o.val := by
  simp only [boundTo, View.outputOf, placeOf_regAddr (.outc o) off h]

/-- The value of one output goes to that output. -/
theorem Dev.applyOff_one (d : Dev) (seq fn acceptedAt o : Nat) (x : Nat × Word) {outOf : Nat → Option Nat} (h : outOf x.1 = some o) :
    d.applyOff seq fn acceptedAt [x] outOf = d.applyOutput o seq fn acceptedAt (d.io.frozenFrame o).1 (d.io.frozenFrame o).2 [x] := by
  unfold Dev.applyOff
  simp [h, sortBy, sortBy.put, List.eraseDups_cons]

section
variable {p : Pend} {o : Fin 512} {off : Nat} {w : Word} (houts : p.outs = []) (hvals : p.vals = [(regAddr (.outc o) off, w)]) (hoff : off < 0x1000)
include houts hvals hoff

theorem Dev.salvoLive_one (d : Dev) :
    d.salvoLive p = d.applyOutput o.val p.seq p.fn p.acceptedAt (d.io.frozenFrame o.val).1 (d.io.frozenFrame o.val).2 [(regAddr (.outc o) off, w)] := by
  have hout : d.salvoOut p (regAddr (.outc o) off) = some o.val := by simp [Dev.salvoOut, boundTo_outc _ _ o hoff, houts]
  have hgroup : groupPlace (regAddr (.outc o) off) = false := by simp only [groupPlace, placeOf_regAddr (.outc o) off hoff]
  have hmine : d.salvoVals p = [(regAddr (.outc o) off, w)] := by simp [Dev.salvoVals, hvals, hout]
  have hgroups : p.vals.filter (fun x => groupPlace x.1) = [] := by simp [hvals, hgroup]
  rw [Dev.salvoLive, hmine, hgroups, Dev.onIo_makeLive_nil, Dev.applyOff_one d _ _ _ o.val _ hout]

end

theorem Io.wide_lt (io : Io) (p : PageRef) (off : Nat) : io.wide p off < 2 ^ 64 := by
  have hlo := (io.reg p off).isLt
  have hhi := (io.reg p (off + 4)).isLt
  rw [Io.wide]
  omega

/-- The salvo's half of O51: a salvo alone, due, and holding one register of a disabled output has taken effect once its instant has come. -/
theorem runs_salvoActivation {p : Pend} {o : Fin 512} {off t dt : Nat} {row : Row} {w : Word} {s : State} (hpend : s.dev.com.pend = [p]) (hwait : p.waitT = true)
    (houts : p.outs = []) (hfast : p.fasts = []) (hsalvo : p.salvo = some t) (hdue : t ≤ s.dev.io.now + dt) (hrow : rowAt (.outc o) off = some row)
    (hs : row.shadowed = true) (hvals : p.vals = [(regAddr (.outc o) off, w)]) (hsound : s.dev.soundOpen p.seq = false) :
    Runs (.salvoActivation dt) s fun d d' =>
      d'.io.reg (.outc o) off = w ∧ d'.com.pend = [] ∧ d'.io.flag .top Reg.EVT_PEND 4 = true ∧ d'.io.flag .top Reg.EVT_PEND 7 = true
        ∧ d'.io.reg (.outc o) Reg.OUTC_APPLY_SEQ = Word.of p.seq
        ∧ d'.io.wide (.outc o) Reg.OUTC_APPLY_FRAME_LO = d.io.wide (.outc o) Reg.OUTC_FRAME_CNT_LO := by
  have hoff := (rowAt_bounds hrow).2
  have hshadow := shadowedOutc_of_row hrow hs
  refine Runs.settle (f := fun d => (d.tick dt).salvosDue) rfl ?_
  have hfilter : (s.dev.tick dt).com.pend.filter (fun p => p.waitT && decide (p.salvo.getD 0 ≤ (s.dev.tick dt).io.now)) = [p] := by
    have hnow : (s.dev.tick dt).io.now = s.dev.io.now + dt := rfl
    have htick : (s.dev.tick dt).com.pend = [p] := hpend
    rw [htick, hnow]
    simp [hwait, hsalvo, hdue]
  rw [Dev.salvosDue_eq, hfilter, List.foldl_cons, List.foldl_nil, Dev.salvoStep, Dev.salvoLive_one houts hvals hoff]
  generalize hf : (fun q : Pend => q.atInstant _ _) = f
  have hfp : (f p).seq = p.seq ∧ (f p).outs = [] ∧ (f p).waitT = false ∧ (f p).fasts = [] ∧ (f p).salvo = p.salvo := by
    rw [← hf]
    exact ⟨rfl, houts, rfl, hfast, rfl⟩
  obtain ⟨hseq, hfouts, hfwait, hffast, hfsalvo⟩ := hfp
  have happ := Dev.appliedAlone (d := s.dev.tick dt) (o := o) (w := w) hoff hshadow p.fn p.acceptedAt ((s.dev.tick dt).io.frozenFrame o.val).1
    ((s.dev.tick dt).io.frozenFrame o.val).2 hpend f (by simp [hwait]) hseq hfouts hfwait
  generalize Dev.updPend _ p.seq f = d' at happ ⊢
  have hkeeps := d'.settle_keeps
  have happ' := happ.io.keeps hoff hshadow hkeeps
  refine ⟨happ'.live, d'.settle_closes happ.pend ?_, hkeeps.pend 4 happ.done, hkeeps.pend 7 (happ.salvo (by simp [hfsalvo, hsalvo])), hseq ▸ happ'.seq, ?_⟩
  · refine Dev.commitOpen_closed hfouts hfwait hffast ?_
    rw [hseq, Dev.soundOpen_congr happ.aud happ.tdm]
    exact hsound
  · rw [happ'.frame, Io.frozenFrame, outPage_val]
    exact Nat.mod_eq_of_lt (Io.wide_lt _ _ _)

end Sys2Proof.Machine

/-! A commit at a latch line (R46, R48), and what the statement leaves open: the swaps of the Larder that end there (R426). Nothing bounds the engines that `lard.swaps`
names, and LARD_LMAP of a logical engine beyond the map is the address of another page's register: a swap that ends at the output's latch line then overwrites
the register that the commit has just made live. A swap that LARD_SWAP begins names a logical engine below 128 (R436), which the statement does not ask for.
The salvo's half of the statement holds (`runs_salvoActivation`). -/
namespace Sys2Proof.Machine

/-- A frame of 1,080 lines at 60 frames per second, whose last active line has been composed. -/
def overwrittenFrame : OutRt :=
  { OutRt.fresh Io.reset.live 0 0 with
    tm := { num := 60, den := 1, phase := 0, vTotal := 1125, actW := 1920, actH := 1080, scan := 0 }, inFrame := true, line := 1080 }

/-- A commit of OUTC_LATCH_GUARD that waits on output 0. -/
def overwrittenPend : Pend :=
  { seq := 1, fn := 0, src := none, salvo := none, acceptedAt := 0, vals := [(regAddr (.outc 0) Reg.OUTC_LATCH_GUARD, 5)], outs := [0], fasts := []
    waitT := false, deferred := false, lastFrame := 0, named := true }

/-- A swap whose last output has moved, of the logical engine whose LARD_LMAP lies at OUTC_LATCH_GUARD of output 0. -/
def strayingSwap : Swap := { logical := 8380368, from_ := 0, dest := 0, why := 0, outs := [] }

/-- The page of output 0 runs, its frame is at the latch line 20 ms from now, and the commit and the swap are there. -/
def overwrittenState : State :=
  { State.reset with
    dev := { Dev.reset with
      io := Io.reset.put (.outc 0) Reg.PAGE_STAT 4
      com := { Commits.reset with pend := [overwrittenPend] }
      sc := { Scanout.reset with outs := [(0, overwrittenFrame)] }
      lard := { Larder.reset with swaps := [strayingSwap] } } }

theorem strayingSwap_address : regAddr .lard (lmapReg strayingSwap.logical) = regAddr (.outc 0) Reg.OUTC_LATCH_GUARD := by decide

/-- The part after the latch line. -/
def overwrittenAfter : Dev := ((overwrittenState.dev.tick 20000000).latchLine 0).settle

theorem overwrittenAfter_guard : overwrittenAfter.io.reg (.outc 0) Reg.OUTC_LATCH_GUARD = 256 := by decide +kernel

/-- Refutes O51: the commit writes 5 to OUTC_LATCH_GUARD of output 0, and at the same latch line a swap of the Larder ends that writes 256, its map entry, over it. -/
theorem not_commitsTakeEffect : ¬ Obligations.CommitsTakeEffect := by
  unfold Obligations.CommitsTakeEffect
  rintro ⟨hlatch, -⟩
  have hat : overwrittenFrame.atLatch (overwrittenState.dev.io.tick 20000000) 0 = some 16029629 := by decide +kernel
  obtain ⟨t, hexec, -, hlive, -⟩ := hlatch 0 overwrittenFrame overwrittenPend Reg.OUTC_LATCH_GUARD 16029629 20000000 _ 5 overwrittenState rfl (by decide)
    hat rfl rfl rfl rfl rfl rfl (by decide) rfl rfl rfl
  have hdev : t.dev = overwrittenAfter := by
    have hnext : Host.Outcome.next { overwrittenState with dev := overwrittenAfter } = Host.Outcome.next t := hexec
    injection hnext with hstate
    rw [← hstate]
  rw [hdev, overwrittenAfter_guard] at hlive
  exact absurd hlive (by decide)

end Sys2Proof.Machine

/-! Rings and pairs (R59, R60, R65, R66, R70): what a register of a pair's context reads after each write that a doorbell or a write of HQ_QP_CFG makes. -/
namespace Sys2Proof.Machine

/-! Registers of a pair's context (R59). -/

section
variable (io : Io) (q : Nat)

theorem qpReg_lt {off : Nat} (h : off < 0x40) : qpReg q off < pageSpan .hq := by
  simp only [qpReg, pageSpan]
  omega

theorem qpReg_ne {a b : Nat} (h : a ≠ b) : qpReg q a ≠ qpReg q b := by
  simp only [qpReg]
  omega

@[simp] theorem Word.of_toNat (v : Word) : Word.of v.toNat = v := by simp [Word.of]

@[simp] theorem Io.qp_setQp_self (off v : Nat) : (io.setQp q off v).qp q off = Word.of v := Io.reg_put_self _ _ _ _

@[simp] theorem Io.qp_setQp_off {a b : Nat} (v : Nat) (h : b ≠ a) : (io.setQp q a v).qp q b = io.qp q b := Io.reg_put_off _ _ (qpReg_ne q h)

@[simp] theorem Io.qp_setFlag_off {a b : Nat} (i : Nat) (x : Bool) (h : b ≠ a) : (io.setFlag .hq (qpReg q a) i x).qp q b = io.qp q b :=
  Io.reg_setFlag_off _ _ _ (qpReg_ne q h)

/-- The header of HQ is apart from the contexts of the pairs. -/
@[simp] theorem Io.reg_setFlag_qp_header {a off i : Nat} (x : Bool) (h : off < 0x40) : (io.setFlag .hq (qpReg q a) i x).reg .hq off = io.reg .hq off :=
  Io.reg_setFlag_off _ _ _ (by simp only [qpReg]; omega)

/-- An event of HQ leaves the contexts alone. -/
@[simp] theorem Io.qp_raise {off : Nat} (b : Nat) (h : off < 0x40) : (io.raise .hq b).qp q off = io.qp q off :=
  Io.reg_raise _ _ (qpReg_lt q h) (by simp) (.inr (by simp only [qpReg, Reg.EVT_PEND]; omega))

@[simp] theorem Io.qp_recordErr {off : Nat} (code info : Nat) (h : off < 0x40) : (io.recordErr .hq code info).qp q off = io.qp q off := by
  have hoff : ∀ a < 0x40, qpReg q off ≠ a := by simp only [qpReg]; omega
  unfold Io.recordErr
  rw [Io.qp_raise _ _ _ h, Io.qp, Io.reg_put_off _ _ (hoff _ (by decide)), Io.reg_put_off _ _ (hoff _ (by decide))]
  rfl

/-- The count of bad writes of a function is apart from the contexts. -/
@[simp] theorem Io.qp_badWrite {off : Nat} (fn : Nat) (h : off < 0x40) : (io.badWrite fn).qp q off = io.qp q off := by
  unfold Io.badWrite Io.setFn
  rw [Io.qp_raise _ _ _ h]
  split
  · rfl
  · exact Io.reg_put_off _ _ (by simp only [qpReg, fnReg, Reg.HQ_FN_BAD_WRITES]; omega)

end

@[simp] theorem Queues.pair_setPair_self (hq : Queues) (q : Nat) (p : PairRt) : (hq.setPair q p).pair q = p := by
  simp [Queues.pair, Queues.setPair]

/-! Messages and CQ_STALL (R67, R70). -/

@[simp] theorem pairMessage_qp (q p off : Nat) (io : Io) (hq : Queues) : (pairMessage q io hq).1.qp p off = io.qp p off :=
  (Io.Same.pairMessage (T := fun _ => false) q io hq).reg rfl

/-- A pair's message goes out or not. -/
theorem pairMessage_cases (q : Nat) (io : Io) (hq : Queues) : pairMessage q io hq = (io, hq)
    ∨ ∃ vec, pairMessage q io hq = (io.message (qFn q) vec, hq.setPair q { hq.pair q with unreported := 0, since := none, armed := true }) := by
  unfold pairMessage
  dsimp only
  generalize (decide ((hq.pair q).unreported > 0) && _) = due
  split
  · exact .inr ⟨_, rfl⟩
  · exact .inl rfl

/-- A message reports entries and consumes none. -/
@[simp] theorem pairMessage_used (q : Nat) (io : Io) (hq : Queues) : ((pairMessage q io hq).2.pair q).used = (hq.pair q).used := by
  obtain h | ⟨vec, h⟩ := pairMessage_cases q io hq <;> rw [h]
  rw [Queues.pair_setPair_self]

@[simp] theorem showStall_qp {off : Nat} (q : Nat) (io : Io) (hq : Queues) (h : off ≠ Reg.HQ_QP_STAT) : (showStall q io hq).qp q off = io.qp q off :=
  Io.qp_setFlag_off _ _ _ _ h

/-- CQ_STALL is bit 3 of HQ_QP_STAT alone. -/
theorem showStall_stat {i : Nat} (q : Nat) (io : Io) (hq : Queues) (h : i ≠ 3) :
    (showStall q io hq).flag .hq (qpReg q Reg.HQ_QP_STAT) i = io.flag .hq (qpReg q Reg.HQ_QP_STAT) i := Io.flag_setFlag_bit _ _ (by decide) h

theorem showStall_header {off : Nat} (q : Nat) (io : Io) (hq : Queues) (h : off < 0x40) : (showStall q io hq).reg .hq off = io.reg .hq off :=
  Io.reg_setFlag_qp_header _ _ _ h

/-! Doorbells (R65, R66). -/

section
variable {io : Io} {q : Nat} {v : Word} {hq : Queues}

theorem sqDoorbell_moves (hon : io.qpOn q = true) (hv : v.toNat < io.sqSize q)
    (hroom : (v.toNat + io.sqSize q - io.qpn q Reg.HQ_QP_SQ_TAIL) % io.sqSize q + io.sqWaiting q < io.sqSize q) :
    sqDoorbell q v io = io.setQp q Reg.HQ_QP_SQ_TAIL v.toNat := by
  have hfits : ¬ (io.sqSize q - 1 - io.sqWaiting q < (v.toNat + io.sqSize q - io.qpn q Reg.HQ_QP_SQ_TAIL) % io.sqSize q) := by omega
  unfold sqDoorbell
  rw [if_neg]
  simpa [hon, hv, Io.sqWaiting] using hfits

theorem sqDoorbell_off (h : io.qpOn q = false) : sqDoorbell q v io = io.doorbellError q false := by
  simp [sqDoorbell, h]

theorem cqDoorbell_off (h : io.qpOn q = false) : cqDoorbell q v io hq = (io.doorbellError q true, hq) := by
  simp [cqDoorbell, h]

/-- A completion doorbell that consumes no more than what was written moves the head, and its slots are free again (R65). -/
theorem cqDoorbell_moves (hon : io.qpOn q = true) (hv : v.toNat < io.cqSize q)
    (hused : (v.toNat + io.cqSize q - io.qpn q Reg.HQ_QP_CQ_HEAD) % io.cqSize q ≤ (hq.pair q).used) :
    (cqDoorbell q v io hq).1.qp q Reg.HQ_QP_CQ_HEAD = v
      ∧ ((cqDoorbell q v io hq).2.pair q).used = (hq.pair q).used - (v.toNat + io.cqSize q - io.qpn q Reg.HQ_QP_CQ_HEAD) % io.cqSize q := by
  unfold cqDoorbell
  dsimp only
  rw [if_neg (by simpa [hon, hv] using hused)]
  refine ⟨?_, ?_⟩
  · rw [showStall_qp _ _ _ (by decide), pairMessage_qp, Io.qp_setQp_self, Word.of_toNat]
  · rw [pairMessage_used, Queues.pair_setPair_self]

/-- A doorbell that is ignored shows DB_ERR and leaves its code and the pair in HQ, and every ring as it was (R66). -/
theorem Io.doorbellError_shows (io : Io) (q : Nat) (cq : Bool) :
    (io.doorbellError q cq).flag .hq (qpReg q Reg.HQ_QP_STAT) 1 = true ∧ (io.doorbellError q cq).fld .hq Reg.ERR_CODE 0 16 = 0x0210
      ∧ (io.doorbellError q cq).reg .hq Reg.ERR_INFO = Word.of (q + b2n cq * 2 ^ 9)
      ∧ ∀ off < 0x40, off ≠ Reg.HQ_QP_STAT → (io.doorbellError q cq).qp q off = io.qp q off := by
  unfold Io.doorbellError
  refine ⟨?_, ?_, ?_, fun off h hs => ?_⟩
  · show bit (Io.qp _ q Reg.HQ_QP_STAT) 1 = true
    rw [Io.qp_raise _ _ _ (by decide), Io.qp_recordErr _ _ _ _ (by decide)]
    exact Io.flag_setFlag_self _ _ _ _ _ (by decide)
  · rw [Io.fld, Io.reg_raise_off _ _ _ (by decide) (by decide)]
    exact Io.code_recordErr _ _ _ (by decide)
  · rw [Io.reg_raise_off _ _ _ (by decide) (by decide), Io.reg_recordErr_info]
  · rw [Io.qp_raise _ _ _ h, Io.qp_recordErr _ _ _ _ h, Io.qp_setFlag_off _ _ _ _ hs]

end

theorem runs_sqDoorbell {q : Fin 316} {v : Word} {s : State} (hon : s.dev.io.qpOn q = true) (hv : v.toNat < s.dev.io.sqSize q)
    (hroom : (v.toNat + s.dev.io.sqSize q - s.dev.io.qpn q Reg.HQ_QP_SQ_TAIL) % s.dev.io.sqSize q + s.dev.io.sqWaiting q < s.dev.io.sqSize q) :
    Runs (.sqDoorbell q v) s fun d d' =>
      d'.io.qpn q Reg.HQ_QP_SQ_TAIL = v.toNat ∧ d'.io.qpn q Reg.HQ_QP_SQ_HEAD = d.io.qpn q Reg.HQ_QP_SQ_HEAD ∧ d'.hq = d.hq := by
  refine Runs.intro (f := fun d => d.onHq fun io hq => (showStall q (sqDoorbell q v io) hq, hq)) rfl ⟨?_, ?_, rfl⟩
  all_goals rw [Dev.onHq_io, sqDoorbell_moves hon hv hroom, Io.qpn, showStall_qp _ _ _ (by decide)]
  · rw [Io.qp_setQp_self, Word.of_toNat]
  · rw [Io.qp_setQp_off _ _ _ (by decide), Io.qpn]

theorem runs_sqDoorbell_off {q : Fin 316} (v : Word) {s : State} (hoff : s.dev.io.qpOn q = false) : Runs (.sqDoorbell q v) s fun d d' =>
    d'.hq = d.hq ∧ d'.io.qpn q Reg.HQ_QP_SQ_TAIL = d.io.qpn q Reg.HQ_QP_SQ_TAIL
      ∧ d'.io.flag .hq (qpReg q Reg.HQ_QP_STAT) 1 = true ∧ d'.io.fld .hq Reg.ERR_CODE 0 16 = 0x0210 ∧ d'.io.reg .hq Reg.ERR_INFO = Word.of q := by
  obtain ⟨hflag, hcode, hinfo, hring⟩ := s.dev.io.doorbellError_shows q false
  refine Runs.intro (f := fun d => d.onHq fun io hq => (showStall q (sqDoorbell q v io) hq, hq)) rfl ⟨rfl, ?_, ?_, ?_, ?_⟩
  all_goals rw [Dev.onHq_io, sqDoorbell_off hoff]
  · rw [Io.qpn, showStall_qp _ _ _ (by decide), hring _ (by decide) (by decide), Io.qpn]
  · rwa [showStall_stat _ _ _ (by decide)]
  · rwa [Io.fld, showStall_header _ _ _ (by decide)]
  · rw [showStall_header _ _ _ (by decide), hinfo]
    simp [b2n]

theorem runs_cqDoorbell_off {q : Fin 316} (v : Word) {s : State} (hoff : s.dev.io.qpOn q = false) : Runs (.cqDoorbell q v) s fun d d' =>
    d'.hq = d.hq ∧ d'.io.qpn q Reg.HQ_QP_CQ_HEAD = d.io.qpn q Reg.HQ_QP_CQ_HEAD
      ∧ d'.io.flag .hq (qpReg q Reg.HQ_QP_STAT) 1 = true ∧ d'.io.fld .hq Reg.ERR_CODE 0 16 = 0x0210
      ∧ d'.io.reg .hq Reg.ERR_INFO = Word.of (q + 2 ^ 9) := by
  obtain ⟨hflag, hcode, hinfo, hring⟩ := s.dev.io.doorbellError_shows q true
  refine Runs.intro (f := fun d => d.onHq (cqDoorbell q v)) rfl ?_
  rw [Dev.onHq_io, Dev.onHq_hq, cqDoorbell_off hoff]
  exact ⟨rfl, congrArg BitVec.toNat (hring _ (by decide) (by decide)), hflag, hcode, hinfo⟩

/-! Writes of HQ_QP_CFG (R59, R60). -/

section
variable {io : Io} {q : Nat} {v : Word} {hq : Queues}

/-- A write that every check passes and that does not set EN while a drain runs. -/
theorem qpCfgWrite_pass (fn : Nat) (hr : io.qpReason q Reg.HQ_QP_CFG v = none) (hd : bit v 0 = true → (hq.pair q).draining = false) :
    qpWrite fn q Reg.HQ_QP_CFG v io hq =
      if bit v 0 = true ∧ (!io.qpOn q) = true then qpStart q (io.setQp q Reg.HQ_QP_CFG (v.toNat % 2 ^ 23)) hq
      else if (!bit v 0) = true ∧ io.qpOn q = true then
        (((io.setQp q Reg.HQ_QP_CFG (v.toNat % 2 ^ 23)).setFlag .hq (qpReg q Reg.HQ_QP_STAT) 0 false).drainFrom (2 ^ 32 + q),
          hq.setPair q { hq.pair q with draining := true })
      else (io.setQp q Reg.HQ_QP_CFG (v.toNat % 2 ^ 23), hq) := by
  have hc : ¬ (bit v 0 = true ∧ (hq.pair q).draining = true) := fun ⟨h₁, h₂⟩ => by simp [hd h₁] at h₂
  rw [qpWrite, if_pos rfl, qpCfgWrite]
  simp only [if_neg hc, hr]

/-- The ring sizes are told by bits [10:1] of the value, which EN leaves alone. -/
theorem bits_sizes_setBit (v : Word) (b : Bool) : bits (setBit v 0 b) 1 10 = bits v 1 10 := bits_setBit_ne v 0 b 1 10 (by decide) (by decide)

theorem Io.qpReason_none (hl : io.flag .hq Reg.PAGE_LOCK 1 = false) (hs : io.qpOn q = true → bits v 1 10 = bits (io.qp q Reg.HQ_QP_CFG) 1 10)
    (ho : qpCfgOk q v = true) : io.qpReason q Reg.HQ_QP_CFG v = none := by
  have hc : ¬ (io.qpOn q = true ∧ bits v 1 10 ≠ bits (io.qp q Reg.HQ_QP_CFG) 1 10) := fun ⟨h₁, h₂⟩ => h₂ (hs h₁)
  simp only [Io.qpReason, hl, ho, if_neg hc]
  simp

theorem Io.qpReason_sizes (hl : io.flag .hq Reg.PAGE_LOCK 1 = false) (hon : io.qpOn q = true) (hs : bits v 1 10 ≠ bits (io.qp q Reg.HQ_QP_CFG) 1 10) :
    io.qpReason q Reg.HQ_QP_CFG v = some 2 := by
  simp only [Io.qpReason, hl, if_pos (And.intro hon hs)]
  simp

/-- EN of a stored value. -/
theorem bit_en_stored (v : Word) : bit (Word.of (v.toNat % 2 ^ 23)) 0 = bit v 0 := by
  unfold bit Word.of
  rw [BitVec.toNat_ofNat, Nat.testBit_mod_two_pow, Nat.testBit_mod_two_pow]
  simp

/-- A pair that starts has its heads, tails and phase reset (R60). -/
theorem qpStart_fresh (q : Nat) (io : Io) (hq : Queues) :
    (qpStart q io hq).1.qp q Reg.HQ_QP_CFG = io.qp q Reg.HQ_QP_CFG ∧ (qpStart q io hq).1.flag .hq (qpReg q Reg.HQ_QP_STAT) 0 = true
      ∧ (qpStart q io hq).2.pair q = PairRt.fresh
      ∧ ∀ off ∈ [Reg.HQ_QP_SQ_HEAD, Reg.HQ_QP_SQ_TAIL, Reg.HQ_QP_CQ_TAIL, Reg.HQ_QP_CQ_HEAD], (qpStart q io hq).1.qp q off = 0 := by
  refine ⟨?_, Io.flag_setFlag_self _ _ _ _ _ (by decide), Queues.pair_setPair_self _ _ _, ?_⟩
  · simp [qpStart, Reg.HQ_QP_CFG, Reg.HQ_QP_STAT, Reg.HQ_QP_SQ_HEAD, Reg.HQ_QP_SQ_TAIL, Reg.HQ_QP_CQ_TAIL, Reg.HQ_QP_CQ_HEAD]
  · simp [qpStart, Reg.HQ_QP_STAT, Reg.HQ_QP_SQ_HEAD, Reg.HQ_QP_SQ_TAIL, Reg.HQ_QP_CQ_TAIL, Reg.HQ_QP_CQ_HEAD, Word.of]

end

section
variable {q : Fin 316} {v : Word} {byVf : Bool} {s : State} (hlock : s.dev.io.flag .hq Reg.PAGE_LOCK 1 = false)
include hlock

/-- EN 0 to 1 (R60). -/
theorem runs_qpEnable (hok : qpCfgOk q (setBit v 0 true) = true) (hoff : s.dev.io.qpOn q = false) (hdrain : (s.dev.hq.pair q).draining = false) :
    Runs (.qpEnable q v byVf) s fun _ d' =>
      d'.io.qp q Reg.HQ_QP_CFG = Word.of ((setBit v 0 true).toNat % 2 ^ 23) ∧ d'.io.flag .hq (qpReg q Reg.HQ_QP_STAT) 0 = true
        ∧ d'.hq.pair q = PairRt.fresh ∧ ∀ off ∈ [Reg.HQ_QP_SQ_HEAD, Reg.HQ_QP_SQ_TAIL, Reg.HQ_QP_CQ_TAIL, Reg.HQ_QP_CQ_HEAD], d'.io.qp q off = 0 := by
  have hr : s.dev.io.qpReason q Reg.HQ_QP_CFG (setBit v 0 true) = none := Io.qpReason_none hlock (by simp [hoff]) hok
  obtain ⟨hcfg, hstat, hpair, hring⟩ := qpStart_fresh q (s.dev.io.setQp q Reg.HQ_QP_CFG ((setBit v 0 true).toNat % 2 ^ 23)) s.dev.hq
  refine Runs.intro (f := fun d => d.onHq (qpWrite (contextWriter q byVf) q Reg.HQ_QP_CFG (setBit v 0 true))) rfl ?_
  rw [Dev.onHq_io, Dev.onHq_hq, qpCfgWrite_pass _ hr (fun _ => hdrain), if_pos (by simp [hoff])]
  exact ⟨hcfg.trans (Io.qp_setQp_self _ _ _ _), hstat, hpair, hring⟩

/-- EN 1 to 0 (R60). -/
theorem runs_qpDisable (hok : qpCfgOk q (setBit v 0 false) = true) (hon : s.dev.io.qpOn q = true)
    (hsize : bits v 1 10 = bits (s.dev.io.qp q Reg.HQ_QP_CFG) 1 10) : Runs (.qpDisable q v byVf) s fun d d' =>
      d'.io.qpOn q = false ∧ d'.io.flag .hq (qpReg q Reg.HQ_QP_STAT) 0 = false ∧ (d'.hq.pair q).draining = true
        ∧ FMap.find d'.io.drains (2 ^ 32 + q) = some d.io.up := by
  have hen : bit (setBit v 0 false) 0 = false := bit_setBit_self _ _ _ (by decide)
  have hr : s.dev.io.qpReason q Reg.HQ_QP_CFG (setBit v 0 false) = none :=
    Io.qpReason_none hlock (fun _ => (bits_sizes_setBit v false).trans hsize) hok
  refine Runs.intro (f := fun d => d.onHq (qpWrite (contextWriter q byVf) q Reg.HQ_QP_CFG (setBit v 0 false))) rfl ?_
  rw [Dev.onHq_io, Dev.onHq_hq, qpCfgWrite_pass _ hr (by simp [hen]), if_neg (by simp [hen]), if_pos (by simp [hen, hon])]
  refine ⟨?_, Io.flag_setFlag_self _ _ _ _ _ (by decide), by rw [Queues.pair_setPair_self], FMap.find_insert_self _ _ _⟩
  show bit (((s.dev.io.setQp q Reg.HQ_QP_CFG ((setBit v 0 false).toNat % 2 ^ 23)).setFlag .hq (qpReg q Reg.HQ_QP_STAT) 0 false).qp q Reg.HQ_QP_CFG) 0 = false
  rw [Io.qp_setFlag_off _ _ _ _ (by decide), Io.qp_setQp_self, bit_en_stored, hen]

/-- A write that changes a ring size while EN is 1 (R60). -/
theorem runs_qpDisable_sizes (hon : s.dev.io.qpOn q = true) (hsize : bits v 1 10 ≠ bits (s.dev.io.qp q Reg.HQ_QP_CFG) 1 10) :
    Runs (.qpDisable q v byVf) s fun d d' =>
      d'.io.qp q Reg.HQ_QP_CFG = d.io.qp q Reg.HQ_QP_CFG ∧ d'.hq = d.hq
        ∧ (contextWriter q byVf = 0 → d'.io.fld .hq Reg.ERR_CODE 0 16 = 0x0201
            ∧ d'.io.reg .hq Reg.ERR_INFO = Word.of (qpReg q Reg.HQ_QP_CFG % 2 ^ 14 + 2 * 2 ^ 14))
        ∧ (contextWriter q byVf ≠ 0 → d'.io.fn (qFn q) Reg.HQ_FN_BAD_WRITES = sat 32 (d.io.fn (qFn q) Reg.HQ_FN_BAD_WRITES + 1)) := by
  have hen : bit (setBit v 0 false) 0 = false := bit_setBit_self _ _ _ (by decide)
  have hr : s.dev.io.qpReason q Reg.HQ_QP_CFG (setBit v 0 false) = some 2 :=
    Io.qpReason_sizes hlock hon (by rwa [bits_sizes_setBit])
  have hwrite : qpWrite (contextWriter q byVf) q Reg.HQ_QP_CFG (setBit v 0 false) s.dev.io s.dev.hq
      = (s.dev.io.qpRefused (contextWriter q byVf) q Reg.HQ_QP_CFG 2, s.dev.hq) := by
    simp [qpWrite, qpCfgWrite, hen, hr]
  refine Runs.intro (f := fun d => d.onHq (qpWrite (contextWriter q byVf) q Reg.HQ_QP_CFG (setBit v 0 false))) rfl ?_
  rw [Dev.onHq_io, Dev.onHq_hq, hwrite]
  by_cases hw : contextWriter q byVf = 0
  · simp only [Io.qpRefused, if_pos hw]
    exact ⟨Io.qp_recordErr _ _ _ _ (by decide), trivial, fun _ => ⟨Io.code_recordErr _ _ _ (by decide), Io.reg_recordErr_info _ _ _ _⟩, (absurd hw ·)⟩
  · have hfn : contextWriter q byVf = qFn q := by
      cases byVf
      · exact absurd rfl hw
      · rfl
    simp only [Io.qpRefused, if_neg hw]
    refine ⟨Io.qp_badWrite _ _ _ (by decide), trivial, (absurd · hw), fun h => ?_⟩
    rw [hfn] at h ⊢
    exact (Io.badWrite_counts _ h).1

end

/-- Settles O22: the doorbells by `sqDoorbell_moves`, `cqDoorbell_moves` and `Io.doorbellError_shows`, the writes of HQ_QP_CFG by `qpCfgWrite_pass` and the reason
with which a write is refused. -/
theorem ringsAndPairs : Obligations.RingsAndPairs := by
  unfold Obligations.RingsAndPairs
  refine ⟨fun q v s => ⟨fun hon => ⟨runs_sqDoorbell hon, fun hv hused => ?_⟩, fun hoff => ⟨runs_sqDoorbell_off v hoff, runs_cqDoorbell_off v hoff⟩⟩,
    fun q v byVf s hlock => ⟨runs_qpEnable hlock, runs_qpDisable hlock, runs_qpDisable_sizes hlock⟩⟩
  obtain ⟨hhead, hfree⟩ := cqDoorbell_moves hon hv hused
  exact Runs.intro (f := fun d => d.onHq (cqDoorbell q v)) rfl ⟨congrArg BitVec.toNat hhead, hfree⟩

end Sys2Proof.Machine

/-! Commands begin, and leave flight with their one completion (R63, R64, R69): what a command in flight does once its row runs, and that its completion entry stays
among what the part has put on its interfaces. -/
namespace Sys2Proof.Machine

/-- A command that runs leaves the part as its own function does, and what it is known to achieve holds there. -/
theorem Runs.after {c : Instr} {s : State} {f : Dev → Dev} {P : Dev → Dev → Prop} (h : Runs c s P) (hf : exec c s = s.run f) : P s.dev (f s.dev) := by
  obtain ⟨t, hexec, -, hP⟩ := h
  have hnext : Host.Outcome.next { s with dev := f s.dev } = Host.Outcome.next t := hf.symm.trans hexec
  injection hnext with hstate
  rwa [← hstate] at hP

/-! Commands in flight (R68). -/

section
variable {hq : Queues} {q tag : Nat} {c : Cmd}

theorem Queues.cmd_key (h : hq.cmd q tag = some c) : c.q = q ∧ c.tag = tag := by
  simpa using List.find?_some h

/-- Changing a command by `f`, which keeps queue and tag, leaves every other command as it was. -/
theorem Queues.cmd_upd {f : Cmd → Cmd} (hf : ∀ c, (f c).q = c.q ∧ (f c).tag = c.tag) (hq : Queues) (q tag p other : Nat) :
    (hq.upd q tag f).cmd p other = (hq.cmd p other).map fun c => if c.q = q ∧ c.tag = tag then f c else c := by
  have hkey : (fun c : Cmd => decide (c.q = p ∧ c.tag = other)) ∘ (fun c => if c.q = q ∧ c.tag = tag then f c else c)
      = fun c => decide (c.q = p ∧ c.tag = other) := by
    funext c
    by_cases h : c.q = q ∧ c.tag = tag
    · simp [h, hf]
    · simp [h]
  rw [Queues.cmd, Queues.upd, List.find?_map, hkey, Queues.cmd]

/-- A command that will leave a completion entry is found among those that hold a slot. -/
theorem Queues.live_find? (h : hq.cmd q tag = some c) (hs : c.silent = false) : hq.live.find? (fun x => decide (x.q = q ∧ x.tag = tag)) = some c := by
  obtain ⟨hkey, as, bs, hcmds, hnone⟩ := List.find?_eq_some_iff_append.1 (show hq.cmds.find? _ = some c from h)
  rw [Queues.live, List.find?_filter]
  refine List.find?_eq_some_iff_append.2 ⟨by simpa [hs] using hkey, as, bs, hcmds, fun a ha => ?_⟩
  have hother : decide (a.q = q ∧ a.tag = tag) = false := by simpa only [Bool.not_eq_true'] using hnone a ha
  simp [hother]

/-- The queues without a command. -/
def Queues.without (hq : Queues) (q tag : Nat) : Queues :=
  { hq with cmds := hq.cmds.filter (fun x => !(decide (x.q = q ∧ x.tag = tag)))
            waiting := hq.waiting.filter (fun w => !(decide (w.q = q ∧ w.tag = tag))) }

theorem Queues.cmd_without_self (hq : Queues) (q tag : Nat) : (hq.without q tag).cmd q tag = none := by
  refine List.find?_eq_none.2 fun x hx => ?_
  have hother : (!decide (x.q = q ∧ x.tag = tag)) = true := (List.mem_filter.1 hx).2
  rw [Bool.not_eq_true'] at hother
  exact Bool.eq_false_iff.1 hother

theorem Queues.cmd_without_ne (hq : Queues) {p other : Nat} (h : ¬(p = q ∧ other = tag)) : (hq.without q tag).cmd p other = hq.cmd p other := by
  rw [Queues.cmd, Queues.without, List.find?_filter, Queues.cmd]
  congr 1
  funext x
  by_cases hx : x.q = p ∧ x.tag = other
  · obtain ⟨rfl, rfl⟩ := hx
    simp [h]
  · simp [hx]

end

/-! What a completion does (R63, R64). -/

theorem pairMessage_cmds (q : Nat) (io : Io) (hq : Queues) : (pairMessage q io hq).2.cmds = hq.cmds := by
  obtain h | ⟨vec, h⟩ := pairMessage_cases q io hq <;> rw [h]
  rfl

theorem writeEntry_cmd (q tag status code hi lo : Nat) (io : Io) (hq : Queues) (p other : Nat) :
    (writeEntry q tag status code hi lo io hq).2.cmd p other = hq.cmd p other := by
  simp only [Queues.cmd, writeEntry, pairMessage_cmds]
  rfl

theorem Io.halted_of_same {T : Nat → Bool} {io io' : Io} (h : Io.Same T io io') (hT : T (regAddr .fw Reg.FW_STAT) = false) :
    io'.halted = io.halted := by
  rw [Io.halted, Io.fwState, Io.fld, h.reg hT]
  rfl

theorem Io.halted_complete (q tag : Nat) (r : Reply) (io : Io) (hq : Queues) : (complete q tag r io hq).1.halted = io.halted :=
  Io.halted_of_same (Io.Same.complete (T := replyPlace) (fun _ h => h) ..) (by decide)

theorem complete_none {q tag : Nat} {hq : Queues} (h : hq.cmd q tag = none) (r : Reply) (io : Io) : complete q tag r io hq = (io, hq) := by
  simp only [complete, h]

/-- Other commands stay in flight as they are. -/
theorem complete_cmd_ne (q tag : Nat) (r : Reply) (io : Io) (hq : Queues) {p other : Nat} (h : ¬(p = q ∧ other = tag)) :
    (complete q tag r io hq).2.cmd p other = hq.cmd p other := by
  cases hc : hq.cmd q tag with
  | none => rw [complete_none hc]
  | some c =>
    simp only [complete, hc]
    split
    · exact hq.cmd_without_ne h
    · rw [writeEntry_cmd]
      exact hq.cmd_without_ne h

/-- A command that leaves a completion entry. -/
theorem complete_eq {q tag : Nat} {hq : Queues} {c : Cmd} {io : Io} (hc : hq.cmd q tag = some c) (hs : c.silent = false) (hh : io.halted = false) (r : Reply) :
    complete q tag r io hq = writeEntry q tag r.status r.code r.hi r.lo (io.showFlight (hq.without q tag) q) (hq.without q tag) := by
  have hflight : (io.showFlight (hq.without q tag) q).halted = false :=
    (Io.halted_of_same (Io.Same.showFlight (T := replyPlace) (fun _ h => h) ..) (by decide)).trans hh
  simp only [complete, hc]
  exact if_neg (by simp only [hs, Bool.false_eq_true, false_or]; exact Bool.eq_false_iff.1 hflight)

theorem complete_cmd_none (q tag : Nat) (r : Reply) (io : Io) (hq : Queues) {p other : Nat} (h : hq.cmd p other = none) :
    (complete q tag r io hq).2.cmd p other = none := by
  by_cases he : p = q ∧ other = tag
  · obtain ⟨rfl, rfl⟩ := he
    rw [complete_none h]
    exact h
  · rw [complete_cmd_ne _ _ _ _ _ he, h]

/-! Completion entries among the items of the interfaces (R63). -/

/-- What has been put on the interfaces once an entry is among it. -/
theorem Io.answers_of_out {io io' : Io} {q tag : Nat} {r : Reply} {e : Out} {xs ys : List Out} (h : io'.out = xs ++ e :: (ys ++ io.out))
    (he : isEntry q tag r e = true) : io.answers io' q tag r = true := by
  have hlen : io'.out.length - io.out.length = (xs ++ e :: ys).length := by
    rw [h]
    simp only [List.length_append, List.length_cons]
    omega
  have hout : io'.out = (xs ++ e :: ys) ++ io.out := by simp [h]
  rw [Io.answers, hlen, hout, List.take_left, List.any_append, List.any_cons, he, Bool.true_or, Bool.or_true]

/-- An entry stays among what has been put on the interfaces since. -/
theorem Io.answers_later {io io' io'' : Io} {q tag : Nat} {r : Reply} (h : io.answers io' q tag r = true) (hout : ∃ xs, io''.out = xs ++ io'.out) :
    io.answers io'' q tag r = true := by
  obtain ⟨xs, hxs⟩ := hout
  rw [Io.answers, List.any_eq_true] at h ⊢
  obtain ⟨e, hmem, he⟩ := h
  have hlt : 0 < io'.out.length - io.out.length := Nat.pos_of_ne_zero fun h0 => by simp [h0] at hmem
  refine ⟨e, ?_, he⟩
  rw [hxs, List.length_append, show xs.length + io'.out.length - io.out.length = xs.length + (io'.out.length - io.out.length) by omega,
    List.take_length_add_append]
  exact List.mem_append_right _ hmem

/-- An entry put on the interfaces since a later instant has been put there since an earlier one. -/
theorem Io.answers_earlier {io io' io'' : Io} {q tag : Nat} {r : Reply} (hout : ∃ xs, io'.out = xs ++ io.out) (h : io'.answers io'' q tag r = true) :
    io.answers io'' q tag r = true := by
  obtain ⟨xs, hxs⟩ := hout
  rw [Io.answers, List.any_eq_true] at h ⊢
  obtain ⟨e, hmem, he⟩ := h
  have hle : io''.out.length - io'.out.length ≤ io''.out.length - io.out.length := by
    rw [hxs, List.length_append]
    omega
  exact ⟨e, (List.take_subset_take_left _ hle) hmem, he⟩

theorem Reply.done_status_lt (hi lo : Nat) : (Reply.done hi lo).status < 2 ^ 4 := show 0 < 2 ^ 4 by decide

theorem Reply.rejected_status_lt (code : Nat) : (Reply.rejected code).status < 2 ^ 4 := show 5 < 2 ^ 4 by decide

/-- The four words of a completion entry tell tag, status, code and results (R63). -/
theorem isEntry_written {q tag head : Nat} (r : Reply) (phase : Bool) (ts : Word) (ht : tag < 2 ^ 16) (hs : r.status < 2 ^ 4) :
    isEntry q tag r (.completion q (Word.of (tag % 2 ^ 16 + r.status * 2 ^ 16 + head % 2 ^ 11 * 2 ^ 20 + b2n phase * 2 ^ 31))
      (Word.of (r.code % 2 ^ 16 + r.hi % 2 ^ 16 * 2 ^ 16)) (Word.of r.lo) ts) = true := by
  have hp : b2n phase ≤ 1 := by cases phase <;> decide
  have hh : head % 2 ^ 11 < 2 ^ 11 := Nat.mod_lt _ (by decide)
  generalize head % 2 ^ 11 = h at *
  simp only [isEntry, decide_eq_true_eq, true_and, and_true]
  constructor <;> rw [bits_of _ _ _ (by omega)] <;> omega

/-- The entry that is written, before the message that may follow it. -/
theorem writeEntry_out {q tag : Nat} (r : Reply) (ht : tag < 2 ^ 16) (hs : r.status < 2 ^ 4) (io : Io) (hq : Queues) :
    ∃ xs e, isEntry q tag r e = true ∧ (writeEntry q tag r.status r.code r.hi r.lo io hq).1.out = xs ++ e :: io.out := by
  unfold writeEntry
  dsimp only
  obtain ⟨xs, hxs⟩ := (Io.Same.pairMessage (T := replyPlace) q _ _).out
  exact ⟨xs, _, isEntry_written r _ _ ht hs, hxs⟩

/-- A command that is still to leave an entry leaves it now. -/
theorem Dev.complete_finishes {d : Dev} {q : Fin 316} {tag : BitVec 16} {c : Cmd} (hc : d.hq.cmd q tag.toNat = some c) (hs : c.silent = false)
    (hh : d.io.halted = false) (r : Reply) (hr : r.status < 2 ^ 4) : Dev.finishes q tag r d (d.complete q tag.toNat r) := by
  have heq := complete_eq hc hs hh r
  refine ⟨?_, ?_⟩
  · rw [Dev.complete, Dev.onHq_hq, heq, writeEntry_cmd]
    exact d.hq.cmd_without_self q tag.toNat
  · obtain ⟨ys, hys⟩ := (Io.Same.showFlight (T := replyPlace) (fun _ h => h) d.io (d.hq.without q tag.toNat) q).out
    obtain ⟨xs, e, he, hxs⟩ := writeEntry_out (q := q) r tag.isLt hr (d.io.showFlight (d.hq.without q tag.toNat) q) (d.hq.without q tag.toNat)
    rw [Dev.complete, Dev.onHq_io, heq]
    exact Io.answers_of_out (hys ▸ hxs) he

/-- A completion entry stands whatever follows, as long as commands only leave flight and the interfaces only take more items. -/
theorem Dev.finishes_later {d d' d'' : Dev} {q : Fin 316} {tag : BitVec 16} {r : Reply} (h : Dev.finishes q tag r d d')
    (hcmd : d''.hq.cmd q tag.toNat = none) (hout : ∃ xs, d''.io.out = xs ++ d'.io.out) : Dev.finishes q tag r d d'' :=
  ⟨hcmd, Io.answers_later h.2 hout⟩

/-! Settling keeps what is not in flight out of flight. -/

section
variable {q tag : Nat}

theorem Dev.reply_cmd_none (d : Dev) (src : Option (Nat × Nat)) (r : Reply) (h : d.hq.cmd q tag = none) : (d.reply src r).hq.cmd q tag = none := by
  cases src with
  | none => exact h
  | some x => exact complete_cmd_none _ _ _ _ _ h

theorem Dev.showPend_hq (d : Dev) : d.showPend.hq = d.hq := by
  unfold Dev.showPend
  dsimp only
  split <;> rfl

theorem Dev.finishCommits_cmd_none (d : Dev) (h : d.hq.cmd q tag = none) : d.finishCommits.hq.cmd q tag = none := by
  rw [Dev.finishCommits_eq]
  split
  · exact h
  · rw [Dev.showPend_hq]
    exact foldl_keeps (P := fun e : Dev => e.hq.cmd q tag = none) _ (fun e p he => e.reply_cmd_none p.src p.reply he) _ _ h

theorem Dev.retire_cmd_none (d : Dev) (i : Nat) (x : Store) (deferred : Bool) (h : d.hq.cmd q tag = none) : (d.retire i x deferred).hq.cmd q tag = none :=
  Dev.reply_cmd_none _ _ _ h

theorem Dev.settle_cmd_none (d : Dev) (h : d.hq.cmd q tag = none) : d.settle.hq.cmd q tag = none :=
  foldl_keeps (P := fun e : Dev => e.hq.cmd q tag = none) _ (fun e x he => e.retire_cmd_none x.1 x.2 true he) _ d.finishCommits.freeSlots
    (d.finishCommits_cmd_none h)

end

theorem Dev.settle_finishes {d d' : Dev} {q : Fin 316} {tag : BitVec 16} {r : Reply} (h : Dev.finishes q tag r d d') : Dev.finishes q tag r d d'.settle :=
  Dev.finishes_later h (d'.settle_cmd_none h.1) d'.settle_same.out

/-! A command begins (R69, R71, R93). -/

/-- The part once a command has begun. -/
def Dev.started (d : Dev) (q tag : Nat) : Dev := { d with hq := d.hq.upd q tag (fun c => { c with begun := true }) }

section
variable {d : Dev} {op : Nat} {q : Fin 316} {tag : BitVec 16} {c : Cmd}

@[simp] theorem Dev.started_io (d : Dev) (q tag : Nat) : (d.started q tag).io = d.io := rfl

/-- The command itself has begun; every other command in flight is as it was. -/
theorem Dev.started_cmd (d : Dev) (q tag p other : Nat) :
    (d.started q tag).hq.cmd p other = (d.hq.cmd p other).map fun c => if c.q = q ∧ c.tag = tag then { c with begun := true } else c :=
  Queues.cmd_upd (f := fun c => { c with begun := true }) (fun _ => ⟨rfl, rfl⟩) ..

theorem Dev.started_cmd_self {q tag : Nat} (h : d.hq.cmd q tag = some c) : (d.started q tag).hq.cmd q tag = some { c with begun := true } := by
  rw [Dev.started_cmd, h, Option.map_some, if_pos (Queues.cmd_key h)]

theorem Dev.started_cmd_ne {q tag p other : Nat} (h : d.hq.cmd p other = some c) (hne : ¬(p = q ∧ other = tag)) :
    (d.started q tag).hq.cmd p other = some c := by
  obtain ⟨rfl, rfl⟩ := Queues.cmd_key h
  rw [Dev.started_cmd, h, Option.map_some, if_neg hne]

/-- A command whose turn has come runs by its own rules. -/
theorem Dev.command_begins (h : d.begins op q tag c) (f : Cmd → Dev → Dev) : d.command op q tag.toNat f = f c (d.started q tag.toNat) := by
  obtain ⟨hc, hop, hturn, -, hhalted, hready, hfn⟩ := h
  have hstart : ¬ (c.op ≠ op ∨ (!d.hq.mayStart c) = true ∨ d.io.halted = true) := by simp [hop, hturn, hhalted]
  have hpermit : ¬ (c.fn ≠ 0 ∧ pf0Opcodes.contains op = true) := fun ⟨h₁, h₂⟩ => by
    obtain h | h := hfn
    · exact h₁ h
    · rw [h] at h₂
      exact Bool.noConfusion h₂
  have hmode : modeRefusal c d.io d.boot.woride = none := by rw [modeRefusal, if_pos hready]
  simp only [Dev.command, hc, if_neg hstart, if_neg hpermit, hmode]
  rfl

/-- A command that has begun and whose rules leave its flight, the interfaces and FW_STAT alone until it completes. -/
theorem Dev.begins_finishes (h : d.begins op q tag c) {e : Dev} (hhq : e.hq = (d.started q tag.toNat).hq) (hout : e.io.out = d.io.out)
    (hhalted : e.io.halted = d.io.halted) (r : Reply) (hr : r.status < 2 ^ 4) : Dev.finishes q tag r d (e.complete c.q c.tag r) := by
  obtain ⟨hc, -, -, hs, hh, -⟩ := h
  obtain ⟨hq, htag⟩ := Queues.cmd_key hc
  have hflight : e.hq.cmd q tag.toNat = some { c with begun := true } := by rw [hhq, Dev.started_cmd_self hc]
  obtain ⟨hgone, hanswer⟩ := Dev.complete_finishes hflight hs (hhalted.trans hh) r hr
  rw [hq, htag]
  exact ⟨hgone, Io.answers_earlier ⟨[], hout⟩ hanswer⟩

end

end Sys2Proof.Machine

/-! NOP, COMMIT and ABORT (R39, R71, R72, R76): NOP and ABORT complete, COMMIT enters validation, and what an aborted command had set going is withdrawn. -/
namespace Sys2Proof.Machine

section
variable {q : Fin 316} {tag : BitVec 16} {c : Cmd} {s : State}

theorem runs_cmdNop (h : s.dev.begins 0x00 q tag c) : Runs (.cmdNop q tag) s (Dev.finishes q tag (done 0 0)) := by
  refine Runs.intro (f := fun d => d.command 0x00 q tag.toNat fun c d => d.complete c.q c.tag (Reply.done 0 0)) rfl ?_
  rw [Dev.command_begins h]
  exact Dev.begins_finishes h rfl rfl rfl _ (by decide)

/-! COMMIT (R39, R72). -/

theorem bit_of_bits_zero {w : Word} {n i : Nat} (h : bits w 0 n = 0) (hi : i < n) : bit w i = false := by
  have := testBit_bits w 0 n i
  rw [h, Nat.zero_testBit, Nat.zero_add] at this
  simpa [bit, hi] using this.symm

/-- A plain commit is neither a salvo nor a dry run. -/
theorem commitCommand_plain (hs : c.strays [3, 0xFFFFFFFF, 0xFFFFFFFF, 0xFFFF] = false) (h0 : bits (c.p 0) 0 2 = 0) (d : Dev) :
    commitCommand c d = d.enqueue c.fn (some (c.q, c.tag)) none false := by
  simp [commitCommand, hs, bit_of_bits_zero h0]

theorem runs_cmdCommit (h : s.dev.begins 0x01 q tag c) (hs : c.strays [3, 0xFFFFFFFF, 0xFFFFFFFF, 0xFFFF] = false) (h0 : bits (c.p 0) 0 2 = 0) :
    Runs (.cmdCommit q tag) s fun d d' =>
      d'.com.queue = d.com.queue ++ [{ fn := c.fn, src := some (c.q, c.tag), salvo := none, badTime := false, dry := false, vals := d.io.dirtyOf c.fn }]
        ∧ d'.io.dirtyOf c.fn = [] ∧ d'.io.flag .top Reg.TOP_COMMIT_STAT 0 = true ∧ (d'.hq.cmd q tag.toNat).isSome = true ∧ d'.io.out = d.io.out := by
  refine Runs.intro (f := fun d => d.command 0x01 q tag.toNat commitCommand) rfl ?_
  rw [Dev.command_begins h, commitCommand_plain hs h0]
  refine ⟨rfl, Io.dirtyOf_captured s.dev.io c.fn, ?_, ?_, rfl⟩
  · rw [Dev.enqueue, Dev.showValidating_flag]
    simp
  · show ((s.dev.started q tag.toNat).hq.cmd q tag.toNat).isSome = true
    rw [Dev.started_cmd_self h.1]
    rfl

/-! ABORT (R76). -/

/-- Shadows that are dirty again change no register and put nothing on the interfaces. -/
theorem Io.redirty_regs (io : Io) (fn : Nat) (xs : List (Nat × Word)) : (io.redirty fn xs).regs = io.regs ∧ (io.redirty fn xs).out = io.out :=
  foldl_keeps (P := fun y : Io => y.regs = io.regs ∧ y.out = io.out) _ (fun y x hy => by
    split
    · split
      · exact hy
      · exact hy
    · exact hy) xs io ⟨rfl, rfl⟩

theorem Io.halted_of_regs {io io' : Io} (h : io'.regs = io.regs) : io'.halted = io.halted := by
  have hreg : io'.reg .fw Reg.FW_STAT = io.reg .fw Reg.FW_STAT := by rw [Io.reg, Io.reg, Io.rd, Io.rd, h]
  rw [Io.halted, Io.fwState, Io.fld, hreg]
  rfl

/-- The registers once the commits of a command have left validation (R39, R76). -/
def Dev.redirtied (d : Dev) (q tag : Nat) : Io :=
  (d.com.queue.filter (fun r => decide (r.src = some (q, tag)))).foldl (fun (io : Io) r => io.redirty r.fn r.vals) d.io

theorem Dev.redirtied_regs (d : Dev) (q tag : Nat) : (d.redirtied q tag).regs = d.io.regs ∧ (d.redirtied q tag).out = d.io.out :=
  foldl_keeps (P := fun y : Io => y.regs = d.io.regs ∧ y.out = d.io.out) _ (fun y r hy => by
    obtain ⟨hregs, hout⟩ := y.redirty_regs r.fn r.vals
    exact ⟨hregs.trans hy.1, hout.trans hy.2⟩) _ d.io ⟨rfl, rfl⟩

/-- The image that the part loads comes from the command (R95). -/
def Dev.loads (d : Dev) (q tag : Nat) : Bool :=
  match d.boot.load with
  | some (_, _, src) => decide (src = some (q, tag))
  | none => false

/-- The registers after a withdrawal: a load that is withdrawn ends in state 0 (R107), and VALIDATING follows the queue of commits. -/
theorem Dev.withdraw_io (d : Dev) (q tag : Nat) : ∃ validating, (d.withdraw q tag).io =
    (if d.loads q tag = true then (d.redirtied q tag).setFld .fw Reg.FW_STAT 0 4 0 else d.redirtied q tag).setFlag .top Reg.TOP_COMMIT_STAT 0 validating :=
  ⟨_, rfl⟩

/-- VALIDATING is no part of FW_STAT. -/
theorem Io.halted_setFlag_top (io : Io) (off i : Nat) (b : Bool) (h : off < 0x1000) : (io.setFlag .top off i b).halted = io.halted :=
  Io.halted_of_same (T := fun a => decide (a = regAddr .top off)) (.setFlag io _ _ (by simp))
    (by simpa using regAddr_ne (p := .fw) (q := .top) (by decide) h (.inl (by decide)))

/-- What a command has set going is withdrawn: nothing is put on the interfaces, and the part is not halted by it. -/
theorem Dev.withdraw_out (d : Dev) (q tag : Nat) : (d.withdraw q tag).io.out = d.io.out := by
  obtain ⟨validating, hio⟩ := d.withdraw_io q tag
  rw [hio]
  split <;> exact (d.redirtied_regs q tag).2

theorem Dev.withdraw_halted (d : Dev) (q tag : Nat) (hh : d.io.halted = false) : (d.withdraw q tag).io.halted = false := by
  obtain ⟨validating, hio⟩ := d.withdraw_io q tag
  rw [hio, Io.halted_setFlag_top _ _ _ _ (by decide)]
  split
  · simp [Io.halted, Io.fwState]
  · exact (Io.halted_of_regs (d.redirtied_regs q tag).1).trans hh

/-- A command that completes only adds to what has been put on the interfaces. -/
theorem Dev.complete_out (d : Dev) (q tag : Nat) (r : Reply) : ∃ xs, (d.complete q tag r).io.out = xs ++ d.io.out :=
  (Io.Same.complete (T := replyPlace) (fun _ h => h) q tag r d.io d.hq).out

theorem Dev.cancel_out (d : Dev) (q tag status : Nat) : ∃ xs, (d.cancel q tag status).io.out = xs ++ d.io.out :=
  d.withdraw_out q tag ▸ (d.withdraw q tag).complete_out q tag (endsWith status)

/-- A command before its commit point ends with a status of its own, and leaves the others in flight (R76). -/
theorem Dev.cancel_finishes {d : Dev} {p : Fin 316} {other : BitVec 16} {x : Cmd} (hx : d.hq.cmd p other.toNat = some x) (hs : x.silent = false)
    (hh : d.io.halted = false) {status : Nat} (hst : status < 2 ^ 4) : Dev.finishes p other (endsWith status) d (d.cancel p other.toNat status)
      ∧ (d.cancel p other.toNat status).io.halted = false
      ∧ ∀ q tag, ¬(q = p.val ∧ tag = other.toNat) → (d.cancel p other.toNat status).hq.cmd q tag = d.hq.cmd q tag := by
  have hhalted := d.withdraw_halted p other.toNat hh
  obtain ⟨hgone, hanswer⟩ := Dev.complete_finishes (d := d.withdraw p other.toNat) hx hs hhalted (endsWith status) hst
  exact ⟨⟨hgone, Io.answers_earlier ⟨[], d.withdraw_out p other.toNat⟩ hanswer⟩, (Io.halted_complete ..).trans hhalted,
    fun q tag hne => complete_cmd_ne _ _ _ _ _ hne⟩

/-- ABORT of a command that is in flight and no ABORT. -/
theorem abortCommand_found {d : Dev} {x : Cmd} (hs : c.strays [0x3FFFFF] = false) (hk : c.fn = 0 ∨ bits (c.p 0) 16 6 < 4)
    (hx : d.hq.cmd (qOf c.fn (bits (c.p 0) 16 6)) (bits (c.p 0) 0 16) = some x) (hsil : x.silent = false) (hop : x.op ≠ 0x02) :
    abortCommand c d = if x.past = true then d.complete c.q c.tag (endsWith 4) else (d.cancel x.q x.tag 2).complete c.q c.tag (Reply.done 0 0) := by
  have hpermit : ¬ (c.strays [0x3FFFFF] = true ∨ c.fn ≠ 0 ∧ 4 ≤ bits (c.p 0) 16 6) := by
    rw [hs]
    simp only [Bool.false_eq_true, false_or]
    omega
  simp only [abortCommand, if_neg hpermit, Queues.live_find? hx hsil, if_neg hop]

section
variable {p : Fin 316} {other : BitVec 16} {x : Cmd} (h : s.dev.begins 0x02 q tag c) (hs : c.strays [0x3FFFFF] = false)
  (hk : c.fn = 0 ∨ bits (c.p 0) 16 6 < 4) (hp : p.val = qOf c.fn (bits (c.p 0) 16 6)) (ho : other.toNat = bits (c.p 0) 0 16)
  (hx : s.dev.hq.cmd p other.toNat = some x) (hsil : x.silent = false) (hop : x.op ≠ 0x02) (hne : (p, other) ≠ (q, tag))
include h hs hk hp ho hx hsil hop hne

/-- The target is in flight when ABORT runs. -/
theorem command_abort : ¬(p.val = q.val ∧ other.toNat = tag.toNat) ∧ (s.dev.started q tag.toNat).hq.cmd p other.toNat = some x
    ∧ s.dev.command 0x02 q tag.toNat abortCommand = if x.past = true then (s.dev.started q tag.toNat).complete c.q c.tag (endsWith 4)
      else ((s.dev.started q tag.toNat).cancel x.q x.tag 2).complete c.q c.tag (Reply.done 0 0) := by
  have hkey : ¬(p.val = q.val ∧ other.toNat = tag.toNat) := fun ⟨h₁, h₂⟩ => hne (Prod.ext (Fin.ext h₁) (BitVec.eq_of_toNat_eq h₂))
  have htarget := Dev.started_cmd_ne hx hkey
  refine ⟨hkey, htarget, ?_⟩
  rw [Dev.command_begins h, abortCommand_found hs hk (by rwa [← hp, ← ho]) hsil hop]

theorem runs_cmdAbort_past (hpast : x.past = true) : Runs (.cmdAbort q tag) s (Dev.finishes q tag (endsWith 4)) := by
  obtain ⟨-, -, hrun⟩ := command_abort h hs hk hp ho hx hsil hop hne
  refine Runs.settle (f := fun d => d.command 0x02 q tag.toNat abortCommand) rfl (Dev.settle_finishes ?_)
  rw [hrun, if_pos hpast]
  exact Dev.begins_finishes h rfl rfl rfl _ (by decide)

theorem runs_cmdAbort (hpast : x.past = false) : Runs (.cmdAbort q tag) s fun d d' =>
    Dev.finishes q tag (done 0 0) d d' ∧ Dev.finishes p other (endsWith 2) d d' := by
  obtain ⟨hkey, htarget, hrun⟩ := command_abort h hs hk hp ho hx hsil hop hne
  obtain ⟨hc, -, -, hcs, hh, -⟩ := h
  obtain ⟨hq, htag⟩ := Queues.cmd_key hc
  obtain ⟨hp', ho'⟩ := Queues.cmd_key hx
  obtain ⟨⟨hgone, hanswer⟩, hhalted, hothers⟩ := Dev.cancel_finishes htarget hsil hh (status := 2) (by decide)
  have hself : ((s.dev.started q tag.toNat).cancel p other.toNat 2).hq.cmd q tag.toNat = some { c with begun := true } :=
    (hothers _ _ fun ⟨h₁, h₂⟩ => hkey ⟨h₁.symm, h₂.symm⟩).trans (Dev.started_cmd_self hc)
  have hout := (s.dev.started q tag.toNat).cancel_out p other.toNat 2
  refine Runs.settle (f := fun d => d.command 0x02 q tag.toNat abortCommand) rfl ?_
  rw [hrun, if_neg (by simp [hpast]), hp', ho', hq, htag]
  generalize (s.dev.started q tag.toNat).cancel p other.toNat 2 = e at *
  obtain ⟨hdone, hreply⟩ := Dev.complete_finishes hself hcs hhalted (Reply.done 0 0) (by decide)
  exact ⟨Dev.settle_finishes ⟨hdone, Io.answers_earlier hout hreply⟩,
    Dev.settle_finishes ⟨complete_cmd_none _ _ _ _ _ hgone, Io.answers_later hanswer (e.complete_out ..)⟩⟩

end

/-- Settles O24: NOP and ABORT complete by `Dev.begins_finishes`, and the target of ABORT by `Dev.cancel_finishes`; COMMIT is `commitCommand_plain`. -/
theorem plainCommandsRun : Obligations.PlainCommandsRun := by
  unfold Obligations.PlainCommandsRun
  exact fun q p tag other c x s => ⟨runs_cmdNop, runs_cmdCommit, fun h hs hk hp ho hx hsil hop hne =>
    ⟨runs_cmdAbort h hs hk hp ho hx hsil hop hne, runs_cmdAbort_past h hs hk hp ho hx hsil hop hne⟩⟩

end

end Sys2Proof.Machine

/-! SHADOW_WRITE and SHADOW_READ (R39, R73): a pair that is not refused touches the shadow alone, and a word of a layer context reads from the view that LIVE asks
for. -/
namespace Sys2Proof.Machine

/-! Pairs (R39, R73). -/

/-- Live registers and interfaces are as before. -/
def Io.SameLive (io io' : Io) : Prop := io'.regs = io.regs ∧ io'.out = io.out

theorem Io.store_sameLive {r : Row} (h : r.shadowed = true) (io : Io) (fn : Nat) (p : PageRef) (off : Nat) (v : Word) : Io.SameLive io (io.store fn p r off v) := by
  unfold Io.store Io.markWritten
  dsimp only
  rw [if_pos h]
  split <;> exact ⟨rfl, rfl⟩

theorem Io.tableStore_sameLive (io : Io) (fn a : Nat) (w : TabWord) (v : Word) : Io.SameLive io (io.tableStore fn a w v) := by
  unfold Io.tableStore
  split <;> exact ⟨rfl, rfl⟩

/-- A register of an output that a pair may name is shadowed. -/
theorem Io.shadowed_of_pairRefusal {io : Io} {i off : Nat} {v : Word} (h : io.pairRefusal 0 i off v = none) {r : Row} (hr : rowAt (outPage i) off = some r) :
    r.shadowed = true := by
  by_contra hs
  simp [Io.pairRefusal, hr, hs] at h

/-- A pair that is not refused lands in the shadow. -/
theorem Io.pairStore_sameLive {io₀ : Io} {kind i off : Nat} {v : Word} (h : io₀.pairRefusal kind i off v = none) (io : Io) (fn : Nat) :
    Io.SameLive io (io.pairStore fn kind i off v) := by
  unfold Io.pairStore
  split
  next hk =>
    subst hk
    split
    next r hr => exact Io.store_sameLive (Io.shadowed_of_pairRefusal h hr) io fn _ off v
    next => exact ⟨rfl, rfl⟩
  next => exact Io.tableStore_sameLive io fn _ _ v

/-- The shadows once every pair of a command has landed. -/
def Io.pairsStored (io : Io) (c : Cmd) : Io := c.pairs.foldl (fun io x => io.pairStore c.fn (bits (c.p 0) 0 4) (bits (c.p 0) 8 24) x.1 x.2) io

theorem Io.pairsStored_sameLive {io : Io} {c : Cmd}
    (h : c.pairs.findSome? (fun x => io.pairRefusal (bits (c.p 0) 0 4) (bits (c.p 0) 8 24) x.1 x.2) = none) : Io.SameLive io (io.pairsStored c) := by
  rw [List.findSome?_eq_none_iff] at h
  unfold Io.pairsStored
  generalize c.pairs = xs at h
  suffices ∀ y, Io.SameLive io y → Io.SameLive io (xs.foldl (fun io x => io.pairStore c.fn (bits (c.p 0) 0 4) (bits (c.p 0) 8 24) x.1 x.2) y) from
    this io ⟨rfl, rfl⟩
  induction xs with
  | nil => exact fun y hy => hy
  | cons x xs ih =>
    intro y hy
    obtain ⟨hregs, hout⟩ := Io.pairStore_sameLive (h x (by simp)) y c.fn
    exact ih (fun x hx => h x (by simp [hx])) _ ⟨hregs.trans hy.1, hout.trans hy.2⟩

section
variable {q : Fin 316} {tag : BitVec 16} {c : Cmd} {s : State}

/-! SHADOW_WRITE (R73). -/

/-- The parameters and the permission that SHADOW_WRITE asks for. -/
structure Dev.MayShadow (d : Dev) (c : Cmd) : Prop where
  some : 1 ≤ bits (c.p 0) 4 4
  most : bits (c.p 0) 4 4 ≤ 6
  object : shadowObject (bits (c.p 0) 0 4) (bits (c.p 0) 8 24) = true
  offsets : (c.pairs.all fun x => offsetOk x.1) = true
  owner : c.fn = 0 ∨ d.shadowOwner (bits (c.p 0) 0 4) (bits (c.p 0) 8 24) = c.fn

theorem Dev.MayShadow.started {d : Dev} (h : d.MayShadow c) (q tag : Nat) : (d.started q tag).MayShadow c :=
  ⟨h.some, h.most, h.object, h.offsets, h.owner⟩

theorem shadowWriteCommand_permitted {d : Dev} (h : d.MayShadow c) : shadowWriteCommand c d =
    match c.pairs.findSome? (fun x => d.io.pairRefusal (bits (c.p 0) 0 4) (bits (c.p 0) 8 24) x.1 x.2) with
    | some code => d.complete c.q c.tag (Reply.rejected code)
    | none => (d.onIo fun io => io.pairsStored c).complete c.q c.tag (Reply.done 0 0) := by
  obtain ⟨hsome, hmost, hobject, hoffsets, howner⟩ := h
  have hparams : ¬ (bits (c.p 0) 4 4 = 0 ∨ 6 < bits (c.p 0) 4 4 ∨ (!shadowObject (bits (c.p 0) 0 4) (bits (c.p 0) 8 24)) = true
      ∨ (c.pairs.any fun x => !offsetOk x.1) = true) := by
    rw [hobject, ← List.not_all_eq_any_not, hoffsets]
    simp only [Bool.not_true, Bool.false_eq_true, or_false]
    omega
  have howned : ¬ (c.fn ≠ 0 ∧ d.shadowOwner (bits (c.p 0) 0 4) (bits (c.p 0) 8 24) ≠ c.fn) := fun ⟨h₁, h₂⟩ => howner.elim h₁ h₂
  simp only [shadowWriteCommand, if_neg hparams, if_neg howned]
  rfl

theorem runs_cmdShadowWrite (h : s.dev.begins 0x03 q tag c) (hmay : s.dev.MayShadow c)
    (hpairs : c.pairs.findSome? (fun x => s.dev.io.pairRefusal (bits (c.p 0) 0 4) (bits (c.p 0) 8 24) x.1 x.2) = none) :
    Runs (.cmdShadowWrite q tag) s fun d d' => Dev.finishes q tag (done 0 0) d d' ∧ d'.io.shadow = (d.io.pairsStored c).shadow := by
  obtain ⟨hregs, hout⟩ := Io.pairsStored_sameLive hpairs
  refine Runs.intro (f := fun d => d.command 0x03 q tag.toNat shadowWriteCommand) rfl ?_
  rw [Dev.command_begins h, shadowWriteCommand_permitted (hmay.started q tag.toNat), Dev.started_io, hpairs]
  exact ⟨Dev.begins_finishes h (e := (s.dev.started q tag.toNat).onIo fun io => io.pairsStored c) rfl hout (Io.halted_of_regs hregs) _ (Reply.done_status_lt 0 0),
    (Io.Same.complete (T := replyPlace) (fun _ h => h) ..).shadow⟩

theorem runs_cmdShadowWrite_refused {code : Nat} (h : s.dev.begins 0x03 q tag c) (hmay : s.dev.MayShadow c)
    (hpairs : c.pairs.findSome? (fun x => s.dev.io.pairRefusal (bits (c.p 0) 0 4) (bits (c.p 0) 8 24) x.1 x.2) = some code) :
    Runs (.cmdShadowWrite q tag) s fun d d' => Dev.finishes q tag (Reply.rejected code) d d' ∧ d'.io.shadow = d.io.shadow := by
  refine Runs.intro (f := fun d => d.command 0x03 q tag.toNat shadowWriteCommand) rfl ?_
  rw [Dev.command_begins h, shadowWriteCommand_permitted (hmay.started q tag.toNat), Dev.started_io, hpairs]
  exact ⟨Dev.begins_finishes h rfl rfl rfl _ (Reply.rejected_status_lt code), (Io.Same.complete (T := replyPlace) (fun _ h => h) ..).shadow⟩

/-! SHADOW_READ (R73). -/

theorem placeOf_laycAddr {l w : Nat} (hl : l < 4096) (hw : w < 64) : placeOf (laycAddr l w) = .layc l (4 * w) := by
  unfold placeOf laycAddr
  rw [if_neg (by omega), if_neg (by omega), if_neg (by omega), if_neg (by omega), if_pos (by omega)]
  congr 1 <;> omega

/-- A word of a layer context is read as one of the two views gives it. -/
theorem Dev.readAt_layc (d : Dev) {l w : Nat} (hl : l < 4096) (hw : w < 64) (live : Bool) :
    d.readAt (laycAddr l w) live = (d.io.viewRd (laycAddr l w) live, d) := by
  have hplace := placeOf_laycAddr hl hw
  have hwide : wideOf (laycAddr l w) = none := by simp only [wideOf, hplace]
  have hopen : d.openAt (laycAddr l w) = none := by simp only [Dev.openAt, hplace]
  have hword : d.word (laycAddr l w) live = d.io.viewRd (laycAddr l w) live := by simp only [Dev.word, hplace]
  rw [Dev.readAt, hwide]
  simp only [Dev.present, hopen, hword]

theorem runs_cmdShadowRead (h : s.dev.begins 0x04 q tag c) (hkind : bits (c.p 0) 0 4 = 1) (hcount : bits (c.p 0) 4 4 = 1) (hi : bits (c.p 0) 8 24 < 4096)
    (hoff : (c.p 1).toNat < 0x80) (h4 : (c.p 1).toNat % 4 = 0) (hlive : (c.p 2).toNat ≤ 1)
    (howner : c.fn = 0 ∨ s.dev.io.live.layerOwner (bits (c.p 0) 8 24) = c.fn) :
    Runs (.cmdShadowRead q tag) s
      (Dev.finishes q tag (done 0 (s.dev.io.viewRd (laycAddr (bits (c.p 0) 8 24) ((c.p 1).toNat / 4)) (bit (c.p 2) 0)).toNat)) := by
  refine Runs.intro (f := fun d => d.command 0x04 q tag.toNat shadowReadCommand) rfl ?_
  have hparams : ¬ (bits (c.p 0) 4 4 ≠ 1 ∨ (!shadowObject 1 (bits (c.p 0) 8 24)) = true ∨ (!offsetOk (c.p 1).toNat) = true ∨ 1 < (c.p 2).toNat
      ∨ (!readable 1 (bits (c.p 0) 8 24) (c.p 1).toNat) = true) := by
    simp [shadowObject, offsetOk, readable, hcount, hi, h4]
    omega
  have howned : ¬ (c.fn ≠ 0 ∧ (s.dev.started q tag.toNat).shadowOwner 1 (bits (c.p 0) 8 24) ≠ c.fn) := fun ⟨h₁, h₂⟩ => howner.elim h₁ h₂
  have hread : (s.dev.started q tag.toNat).objectRead 1 (bits (c.p 0) 8 24) (c.p 1).toNat (bit (c.p 2) 0)
      = (s.dev.io.viewRd (laycAddr (bits (c.p 0) 8 24) ((c.p 1).toNat / 4)) (bit (c.p 2) 0), s.dev.started q tag.toNat) :=
    Dev.readAt_layc _ hi (by omega) _
  rw [Dev.command_begins h]
  simp only [shadowReadCommand, hkind, if_neg hparams, if_neg howned, hread]
  exact Dev.begins_finishes h rfl rfl rfl _ (Reply.done_status_lt ..)

end

/-- Settles O25: writes by `shadowWriteCommand_permitted` and `Io.pairsStored_sameLive`, reads by `Dev.readAt_layc`. -/
theorem shadowCommandsRun : Obligations.ShadowCommandsRun := by
  unfold Obligations.ShadowCommandsRun
  refine ⟨fun q tag c code s h hsome hmost hobject hoffsets howner => ?_, fun q tag c s h hkind hcount hi hoff h4 hlive howner => ?_⟩
  · have hmay : s.dev.MayShadow c := ⟨hsome, hmost, hobject, hoffsets, howner⟩
    exact ⟨runs_cmdShadowWrite h hmay, runs_cmdShadowWrite_refused h hmay⟩
  · have hrun := runs_cmdShadowRead h hkind hcount hi hoff h4 hlive howner
    refine ⟨fun h1 => ?_, fun h0 => ?_⟩
    · rwa [show bit (c.p 2) 0 = true by simp [bit, h1]] at hrun
    · rwa [show bit (c.p 2) 0 = false by simp [bit, h0]] at hrun

end Sys2Proof.Machine

/-! SET_OWNER of an object that the owner map lists twice (R74). PF0 owns what the map does not list (`Queues.outOwner`), so passing an output back to PF0 takes its
entry off the map, and `FMap.erase` takes off the first entry of a key alone. Nothing in the statement asks for rising keys of `hq.owner`: where an output is listed
twice, which no run reaches, the second entry shows once the first has gone. -/
namespace Sys2Proof.Machine

/-- SET_OWNER of output 0 to PF0, in flight on pair 0. -/
def returnOutput : Cmd :=
  { q := 0, tag := 0, fn := 0, words := [0x08, 0, 0, 0, 1], since := 0, past := false, begun := false, silent := false }

/-- The part is READY, and output 0 is listed as owned by function 1 and again by function 2. -/
def doubleOwnerState : State :=
  { State.reset with
    dev := { Dev.reset with
      io := Io.reset.put .fw Reg.FW_STAT 0x80
      hq := { Queues.reset with cmds := [returnOutput], owner := [(0, 1), (0, 2)] } } }

theorem returnOutput_begins : doubleOwnerState.dev.begins 0x08 0 0 returnOutput := by decide +kernel

/-- The part once the command has run. -/
def doubleOwnerAfter : Dev := doubleOwnerState.dev.command 0x08 0 0 setOwnerCommand

theorem doubleOwnerAfter_owner : doubleOwnerAfter.ownerOf 0 0 = 2 := by decide +kernel

/-- Refutes O26: SET_OWNER passes output 0, listed twice, to PF0, and function 2 owns it afterwards. -/
theorem not_layersHaveOwners : ¬ Obligations.LayersHaveOwners := by
  unfold Obligations.LayersHaveOwners
  rintro ⟨hpass, -⟩
  obtain ⟨hdone, -⟩ := hpass 0 0 returnOutput 0 doubleOwnerState returnOutput_begins (by decide) (by decide) (by decide) (by decide) (.inl (by decide))
  obtain ⟨-, howner⟩ := Runs.after (f := fun d => d.command 0x08 0 0 setOwnerCommand) (hdone (.inl (by decide))) rfl
  have hzero : doubleOwnerAfter.ownerOf 0 0 = 0 := howner 0 (by decide) rfl
  exact absurd (doubleOwnerAfter_owner.symm.trans hzero) (by decide)

end Sys2Proof.Machine

/-! CMD_DISABLE of an output for which an accepted commit holds a value of PAGE_CTL (R54, R75). The disable clears PAGE_CTL, and the pending commits of the output
then apply at once (`Dev.applyFrozen`). A capture holds shadowed registers alone, and PAGE_CTL is none, but nothing in the statement asks this of `com.pend`: a value of
PAGE_CTL that waits there is written over what the disable has just cleared. -/
namespace Sys2Proof.Machine

/-- CMD_DISABLE of output 0, in flight on pair 0. -/
def disableOutput : Cmd :=
  { q := 0, tag := 0, fn := 0, words := [0x0A, 0, 0], since := 0, past := false, begun := false, silent := false }

/-- A commit of ENABLE in PAGE_CTL that waits on output 0. -/
def enablePend : Pend :=
  { seq := 1, fn := 0, src := none, salvo := none, acceptedAt := 0, vals := [(regAddr (.outc 0) Reg.PAGE_CTL, 1)], outs := [0], fasts := []
    waitT := false, deferred := false, lastFrame := 0, named := true }

/-- The part is READY, the page of output 0 is enabled and running, and the commit waits on it. -/
def reenabledState : State :=
  { State.reset with
    dev := { Dev.reset with
      io := ((Io.reset.put .fw Reg.FW_STAT 0x80).put (.outc 0) Reg.PAGE_CTL 1).put (.outc 0) Reg.PAGE_STAT 4
      hq := { Queues.reset with cmds := [disableOutput] }
      com := { Commits.reset with pend := [enablePend] } } }

theorem disableOutput_begins : reenabledState.dev.begins 0x0A 0 0 disableOutput := by decide +kernel

/-- The part once the command has run. -/
def reenabledAfter : Dev := (reenabledState.dev.command 0x0A 0 0 (objectCommand disableObject)).settle

theorem reenabledAfter_enabled : reenabledAfter.io.enabled (.outc 0) = true := by decide +kernel

/-- Refutes O28: CMD_DISABLE of output 0 clears ENABLE, and the commit that waits on the output sets it again. -/
theorem not_objectsEnableAndDisable : ¬ Obligations.ObjectsEnableAndDisable := by
  unfold Obligations.ObjectsEnableAndDisable
  intro hobjects
  obtain ⟨-, hdisable⟩ := hobjects 0 0 disableOutput reenabledState (by decide) (by decide) (by decide) (.inl rfl)
  have hunlocked : ∀ p ∈ reenabledState.dev.io.objectPages 0 0, reenabledState.dev.io.flag p Reg.PAGE_LOCK 0 = false := by decide +kernel
  obtain ⟨hoff, -⟩ := Runs.after (f := fun d => (d.command 0x0A 0 0 (objectCommand disableObject)).settle) (hdisable disableOutput_begins hunlocked) rfl
  have hpage : (.outc 0 : PageRef) ∈ reenabledState.dev.io.objectPages 0 0 := by decide +kernel
  have hcleared : reenabledAfter.io.enabled (.outc 0) = false := hoff _ hpage
  exact Bool.noConfusion (reenabledAfter_enabled.symm.trans hcleared)

end Sys2Proof.Machine

/-! HBM stays canonical (R91, R212): bytes of HBM change by `Stores.write` and leave with a store that is retired; every other operation on the frame stores leaves
them alone. -/
namespace Sys2Proof.Machine

/-- A fold of writes keeps the canonical form. -/
theorem FMap.wf_foldl {α β : Type} [DecidableEq α] {def_ : Nat → α} {f : FMap α → β → FMap α}
    (h : ∀ m x, FMap.wf def_ m = true → FMap.wf def_ (f m x) = true) (xs : List β) {m : FMap α} (w : FMap.wf def_ m = true) :
    FMap.wf def_ (xs.foldl f m) = true := foldl_keeps (P := fun m => FMap.wf def_ m = true) f h xs m w

namespace Stores

theorem wf_write {st : Stores} (i off : Nat) (bs : List Byte) (h : st.wf = true) : (st.write i off bs).wf = true :=
  FMap.wf_foldl (fun _ e w => FMap.wf_set (hbmKey i (off + e.2)) e.1 w) _ h

@[simp] theorem hbm_modify (st : Stores) (i : Nat) (f : Store → Store) : (st.modify i f).hbm = st.hbm := by
  unfold modify; split <;> rfl

@[simp] theorem hbm_toFree (st : Stores) (i k : Nat) : (st.toFree i k).hbm = st.hbm := hbm_modify ..

@[simp] theorem hbm_publish (st : Stores) (i k rtp media now : Nat) : (st.publish i k rtp media now).hbm = st.hbm := hbm_modify ..

@[simp] theorem hbm_dropBack (st : Stores) (wb : Option (Nat × Nat)) : (st.dropBack wb).hbm = st.hbm := by
  unfold dropBack; (repeat' split) <;> simp

/-- A fold of operations that leave HBM alone leaves it alone. -/
theorem hbm_foldl {β : Type} {f : Stores → β → Stores} (h : ∀ st x, (f st x).hbm = st.hbm) (xs : List β) (st : Stores) : (xs.foldl f st).hbm = st.hbm :=
  foldl_keeps (P := fun s => s.hbm = st.hbm) f (fun s x e => (h s x).trans e) xs st rfl

/-- HBM is canonical where it is as it was. -/
theorem wf_of_hbm {st st' : Stores} (h : st.wf = true) (e : st'.hbm = st.hbm) : st'.wf = true := by rw [wf, e]; exact h

end Stores

section
variable (io : Io) (st : Stores)

@[simp] theorem fsAlloc_hbm (fn : Nat) (p0 p1 p2 : Word) : (fsAlloc fn p0 p1 p2 io st).2.2.hbm = st.hbm := by
  unfold fsAlloc; dsimp only; (repeat' split) <;> rfl

@[simp] theorem fsMap_hbm (fn h : Nat) (p1 p2 p3 : Word) : (fsMap fn h p1 p2 p3 st).2.hbm = st.hbm := by
  unfold fsMap; dsimp only; (repeat' split) <;> rfl

@[simp] theorem fsUnmap_hbm (fn : Nat) (p1 : Word) : (fsUnmap fn p1 st).2.hbm = st.hbm := by
  unfold fsUnmap; dsimp only; split <;> rfl

@[simp] theorem openSlot_hbm (i : Nat) : (openSlot i io st).2.2.hbm = st.hbm := by
  unfold openSlot; (repeat' split) <;> simp

@[simp] theorem openBack_hbm (v : View) (o : Nat) : (openBack v o io st).2.2.hbm = st.hbm := by
  unfold openBack; (repeat' split) <;> simp

theorem apWrite_wf {st : Stores} (fn addr : Nat) (bs : List Byte) (h : st.wf = true) : (apWrite fn addr bs io st).2.wf = true := by
  unfold apWrite
  split
  · exact Stores.wf_write _ _ _ (Stores.wf_of_hbm h (by simp))
  · exact h

/-! HBM errors (R212 to R216). -/

@[simp] theorem softRepair_hbm (e : HbmError) : (softRepair e io st).2.1.hbm = st.hbm := by
  unfold softRepair
  dsimp only
  split
  · rfl
  · exact Stores.hbm_foldl (fun _ _ => by simp) _ _

@[simp] theorem hbmError_hbm (e : HbmError) : (hbmError e io st).2.1.hbm = st.hbm := by
  unfold hbmError; dsimp only; (repeat' split) <;> simp

@[simp] theorem pchLost_hbm (k : Fin 4) (c : Fin 32) : (pchLost k c io st).2.hbm = st.hbm := by
  unfold pchLost; split <;> rfl

/-! Frames of ingress flows (R175 to R177). -/

@[simp] theorem dropSlot_hbm (h : Nat) (slot : Option Nat) : (dropSlot h slot st).hbm = st.hbm := by
  unfold dropSlot; split <;> simp

@[simp] theorem frameDrop_hbm (f : Nat) (a : Assembly) : (frameDrop f a io st).2.hbm = st.hbm := by
  simp [frameDrop]

@[simp] theorem framesDrop_hbm (f : Nat) (as : List Assembly) :
    (as.foldl (fun (x : Io × Stores) a => frameDrop f a x.1 x.2) (io, st)).2.hbm = st.hbm :=
  foldl_keeps (P := fun x : Io × Stores => x.2.hbm = st.hbm) _ (fun x a e => (frameDrop_hbm x.1 x.2 f a).trans e) as (io, st) rfl

@[simp] theorem openFor_hbm (h : Nat) (want : Bool) : (openFor h want io st).2.2.hbm = st.hbm := by
  unfold openFor; split <;> simp

@[simp] theorem beginFrame_hbm (f ts media : Nat) (first : Option Nat) : (beginFrame f ts media first io st).2.2.hbm = st.hbm := by
  simp [beginFrame]

@[simp] theorem publishIn_hbm (h : Nat) (slot : Option Nat) (a : Assembly) (now : Nat) : (publishIn h slot a now st).hbm = st.hbm := by
  unfold publishIn; split <;> simp

@[simp] theorem laterArrived_hbm (f : Nat) (as : List Assembly) : (laterArrived f io st as).2.1.hbm = st.hbm := by
  induction as generalizing io st with
  | nil => rfl
  | cons a as ih =>
    rw [laterArrived]
    split
    · exact ih io st
    · exact (ih _ _).trans (frameDrop_hbm io st f a)

end

section
variable {st : Stores} (h : st.wf = true)
include h

theorem framePublish_wf (f : Nat) (a : Assembly) (io : Io) : (framePublish f a io st).2.1.wf = true := by
  unfold framePublish
  dsimp only
  split
  · exact h
  · have hanc : ∀ typ (i : Nat) (bs : Nat → List Byte), (match a.ancSlot, typ with
        | some k, true => st.write i (st.slotBase i k) (bs k)
        | _, _ => st).wf = true := fun typ i bs => by
      split
      · exact Stores.wf_write _ _ _ h
      · exact h
    split
    · exact Stores.wf_of_hbm (hanc _ _ fun _ => _) (publishIn_hbm ..)
    · exact Stores.wf_of_hbm (hanc _ _ fun _ => _) ((publishIn_hbm ..).trans (publishIn_hbm ..))

theorem writeSrds_wf (p : Pic) (i base : Nat) (hs : List Srd) (bs : List Byte) : (writeSrds p i base hs bs st).wf = true := by
  induction hs generalizing bs st with
  | nil => exact h
  | cons x xs ih =>
    rw [writeSrds]
    refine ih ?_ _
    split
    · exact Stores.wf_write _ _ _ h
    · exact h

theorem addPacket_wf (f seq : Nat) (bs : List Byte) (a : Assembly) (io : Io) : (addPacket f seq bs a io st).2.wf = true := by
  unfold addPacket
  dsimp only
  split
  · exact writeSrds_wf h _ _ _ _ _
  · exact h

theorem settleFrame_wf (f : Nat) (a : Assembly) (frames : List Assembly) (io : Io) (sv : Sieve) : (settleFrame f a frames io st sv).2.1.wf = true := by
  unfold settleFrame
  split
  · exact framePublish_wf h f a io
  · exact h

theorem depacketize_wf (f seq : Nat) (pkt : Pkt) (io : Io) (sv : Sieve) : (depacketize f seq pkt io st sv).2.1.wf = true := by
  have packet : ∀ (a : Assembly) (frames : Assembly → List Assembly) (io₁ io₂ : Io) (st₁ : Stores) (sv₁ : Sieve), st₁.hbm = st.hbm →
      (settleFrame f (addPacket f seq pkt.payload a io₁ st₁).1 (frames (addPacket f seq pkt.payload a io₁ st₁).1) io₂
        (addPacket f seq pkt.payload a io₁ st₁).2 sv₁).2.1.wf = true :=
    fun _ _ _ _ _ _ e => settleFrame_wf (addPacket_wf (Stores.wf_of_hbm h e) _ _ _ _ _) _ _ _ _ _
  unfold depacketize
  extract_lets v typ bs ts
  split
  · exact h
  · rename_i r _
    extract_lets newer first mark
    split
    · exact h
    · split
      · split <;> exact h
      · split
        · exact packet _ (fun _ => r.frames) _ _ _ _ rfl
        · split
          · split
            · exact packet _ (fun _ => r.frames) _ _ _ _ rfl
            · split
              · dsimp only
                exact packet _ (fun a => (laterArrived f io st r.frames).2.2 ++ [a]) _ _ _ _ (by simp)
              · exact h
          · split
            · dsimp only
              exact packet _ (fun a => [a]) _ _ _ _ (by simp)
            · exact h

theorem sdiFrame_wf (x : SdiFrame) (io : Io) (au : Audio) : (sdiFrame x io st au).2.1.wf = true := by
  unfold sdiFrame
  extract_lets v p lines i st₁ j st₂ r
  have picture : st₁.wf = true := by
    unfold st₁
    split
    · refine foldl_keeps (P := fun s : Stores => s.wf = true) _ (fun s l w => ?_) lines st h
      split
      · exact Stores.wf_write _ _ _ w
      · exact w
    · exact h
  show st₂.wf = true
  unfold st₂
  split
  · exact Stores.wf_of_hbm (Stores.wf_write _ _ _ picture) (Stores.hbm_publish ..)
  · exact picture

theorem writeBack_wf (p : Pic) (wb : Option (Nat × Nat)) (y : Nat) (picture : FMap (List Nat)) : (writeBack p wb y picture st).wf = true := by
  unfold writeBack
  split
  · exact Stores.wf_write _ _ _ h
  · exact h

end

end Sys2Proof.Machine

/-! The cells of the store stay canonical (R441): `Nvs.program` alone writes them, when a page write lands and when a spare page takes a page's place. -/
namespace Sys2Proof.Machine

namespace Nvs

theorem wf_program {n : Nvs} (w : PageWrite) (h : n.wf = true) : (n.program w).wf = true :=
  FMap.wf_foldl (fun _ e w' => FMap.wf_set (n.place (256 * w.page) + w.off + e.2) e.1 w') _ h

theorem wf_programs {n : Nvs} (ws : List PageWrite) (h : n.wf = true) : (ws.foldl program n).wf = true :=
  foldl_keeps (P := fun n : Nvs => n.wf = true) _ (fun _ w => wf_program w) ws n h

/-- The store is canonical where its cells are as they were. -/
theorem wf_of_cells {n n' : Nvs} (h : n.wf = true) (e : n'.cells = n.cells) : n'.wf = true := by rw [wf, e]; exact h

theorem wf_want {n : Nvs} (src : Option (Nat × Nat)) (k : NvKind) (h : n.wf = true) : (n.want src k).wf = true := h

theorem wf_afterReset {n : Nvs} (h : n.wf = true) : n.afterReset.wf = true := by
  unfold afterReset
  extract_lets landed
  have hl : landed.wf = true := by
    unfold landed
    split
    · exact wf_programs _ h
    · split
      · split
        · exact wf_program _ h
        · exact h
      · exact h
    · exact h
  exact hl

end Nvs

/-! Jobs of the store (R442 to R452, R457 to R468): what a job plans and what follows its last page write no cell. -/

section
variable (x : Nv)

@[simp] theorem Nv.reply_nv (src : Option (Nat × Nat)) (r : Reply) : (x.reply src r).nv = x.nv := by unfold Nv.reply; split <;> rfl

@[simp] theorem Nv.readRecord_nv (src : Option (Nat × Nat)) (slot addr : Nat) : (x.readRecord src slot addr).nv = x.nv := by
  unfold Nv.readRecord; dsimp only; split <;> simp

@[simp] theorem Nv.uncorr_nv (a : Nat) : (x.uncorr a).nv = x.nv := rfl

@[simp] theorem Nv.read_nv (src : Option (Nat × Nat)) (mode target len addr : Nat) : (x.read src mode target len addr).nv = x.nv := by
  unfold Nv.read; dsimp only; (repeat' split) <;> simp

@[simp] theorem Nv.setHead_cells (j : NvJob) : (x.setHead j).nv.cells = x.nv.cells := rfl

@[simp] theorem Nv.popHead_cells : x.popHead.nv.cells = x.nv.cells := rfl

@[simp] theorem Nv.destroy_nv (target : Nat) : (x.destroy target).nv = x.nv := rfl

@[simp] theorem Nv.destroyWrites_nv : x.destroyWrites.1.nv = x.nv := rfl

@[simp] theorem Nv.setSlot_nv (s : Nat) (k : Option KeySlot) : (x.setSlot s k).nv = x.nv := rfl

@[simp] theorem Nv.plan_nv (j : NvJob) : (x.plan j).1.nv = x.nv := by
  unfold Nv.plan; dsimp only; (repeat' split) <;> simp

@[simp] theorem Nv.compactIf_cells (sys : Bool) : (x.compactIf sys).nv.cells = x.nv.cells := by unfold Nv.compactIf; split <;> rfl

@[simp] theorem Nv.finish_cells (j : NvJob) : (x.finish j).1.nv.cells = x.nv.cells := by
  unfold Nv.finish; (repeat' split) <;> simp

@[simp] theorem Nv.starve_cells (j : NvJob) : (x.starve j).nv.cells = x.nv.cells := by simp [Nv.starve]

@[simp] theorem Nv.pump_cells (n : Nat) : (Nv.pump n x).nv.cells = x.nv.cells := by
  induction n generalizing x with
  | zero => rfl
  | succ n ih =>
    unfold Nv.pump
    dsimp only
    (repeat' split) <;> simp [ih]

@[simp] theorem Nv.run_cells : x.run.nv.cells = x.nv.cells := Nv.pump_cells ..

@[simp] theorem Nv.flush_cells : x.flush.nv.cells = x.nv.cells := by unfold Nv.flush; split <;> simp

@[simp] theorem Nv.idle_cells : x.idle.nv.cells = x.nv.cells := by unfold Nv.idle; (repeat' split) <;> simp

@[simp] theorem Nv.winTimeout_cells : x.winTimeout.nv.cells = x.nv.cells := rfl

@[simp] theorem Nv.gatherPage_cells (a : Nat) (bs : List Byte) : (x.gatherPage a bs).nv.cells = x.nv.cells := by
  unfold Nv.gatherPage; dsimp only; (repeat' split) <;> rfl

@[simp] theorem Nv.gather_cells (a : Nat) (bs : List Byte) : (x.gather a bs).nv.cells = x.nv.cells :=
  foldl_keeps (P := fun y : Nv => y.nv.cells = x.nv.cells) _ (fun _ _ h => by simpa using h) _ x rfl

@[simp] theorem Nv.access_cells (h : HeldAccess) : (x.access h).nv.cells = x.nv.cells := by unfold Nv.access; dsimp only; split <;> simp

@[simp] theorem Nv.accesses_cells (hs : List HeldAccess) : (hs.foldl Nv.access x).nv.cells = x.nv.cells :=
  foldl_keeps (P := fun y : Nv => y.nv.cells = x.nv.cells) _ (fun _ _ h => by simpa using h) hs x rfl

@[simp] theorem Nv.window_cells (off : Nat) (data : Option (List Byte)) (len : Nat) : (x.window off data len).nv.cells = x.nv.cells := by
  
  unfold Nv.window
  extract_lets refused
  split
  · rfl
  · split
    · rfl
    · simp

@[simp] theorem Nv.bootKeys_nv (e : Bool) : (x.bootKeys e).nv = x.nv := rfl

end

/-! A page write that lands, and a page that a spare page replaces (R441, R452). -/

namespace Nv

/-- The store that a job works on is canonical. -/
def Canonical (x : Nv) : Prop := x.nv.wf = true

/-- Rewrites of torn slots that are asked for. -/
theorem wants_wf (ss : List Nat) {n : Nvs} (h : n.wf = true) : (ss.foldl (fun nv s => nv.want none (.empty s)) n).wf = true :=
  foldl_keeps (P := fun m : Nvs => m.wf = true) (fun nv s => nv.want none (.empty s)) (fun _ _ h => h) ss n h

namespace Canonical

variable {x : Nv}

/-- Work that leaves the cells alone. -/
theorem of_cells {y : Nv} (h : x.Canonical) (e : y.nv.cells = x.nv.cells) : y.Canonical := Nvs.wf_of_cells h e

theorem run (h : x.Canonical) : x.run.Canonical := h.of_cells x.run_cells

theorem land (h : x.Canonical) : x.land.Canonical := by
  unfold Nv.land
  split
  · exact h
  · exact Nvs.wf_programs x.nv.flushing h
  · split
    · split
      · next w _ _ => exact Nvs.wf_program w h
      · exact h
    · exact h

theorem replace (page : Nat) (h : x.Canonical) : (x.replace page).1.Canonical := by
  unfold Nv.replace
  split
  · exact h
  · exact Nvs.wf_want _ _ (Nvs.wf_want _ _ (Nvs.wf_program _ h))

theorem pageDone (replaced : Bool) (h : x.Canonical) : (x.pageDone replaced).1.Canonical := by
  unfold Nv.pageDone
  split
  · exact h
  · extract_lets life y r
    refine run (of_cells (x := r.1.land) (land ?_) (accesses_cells ..))
    unfold r y
    split
    · refine replace _ ?_
      split <;> exact h
    · exact h

theorem finding (g kind : Nat) (h : x.Canonical) : (x.finding g kind).1.Canonical := by
  unfold Nv.finding
  dsimp only
  split
  · exact replace _ h
  · (repeat' split) <;> exact h

theorem scrub (fs : List (Nat × Nat)) (h : x.Canonical) : (x.scrub fs).1.Canonical := by
  unfold Nv.scrub
  split
  · exact h
  · have hr := foldl_keeps (P := fun r : Nv × List Nat => r.1.Canonical)
      (fun r f => ((r.1.finding f.1 f.2).1, r.2 ++ (r.1.finding f.1 f.2).2.toList)) (fun r f => finding f.1 f.2) fs (x, []) h
    exact of_cells hr (run_cells _)

theorem powerLoss (mv : Nat) (holdup : Bool) (h : x.Canonical) : (x.powerLoss mv holdup).Canonical :=
  run (land (x := { x with io := x.io.supply mv holdup }) h)

theorem startKeys (h : x.Canonical) : x.startKeys.Canonical := by
  unfold Nv.startKeys
  extract_lets _ _ wanted nv
  refine run (x := { x with nv := nv, io := _, ks := _ }) ?_
  have hw : wanted.wf = true := wants_wf _ h
  dsimp only [nv]
  split <;> exact hw

theorem fuseBlown (h : x.Canonical) : x.fuseBlown.Canonical := by
  unfold Nv.fuseBlown
  split
  · exact h
  · split
    · split
      · exact run h
      · exact h
    · exact h

end Canonical
end Nv

/-! The Larder (R421 to R436) asks the store for page writes and writes no cell itself. -/
namespace Lar

variable (x : Lar) (js : List Job)

@[simp] theorem show_cells : x.show.nv.cells = x.nv.cells := rfl

@[simp] theorem showMap_cells : x.showMap.nv.cells = x.nv.cells := rfl

@[simp] theorem repair_cells (kind state location : Nat) : (x.repair kind state location).nv.cells = x.nv.cells := by
  unfold repair; split <;> rfl

@[simp] theorem wear_cells (unit i : Nat) : (x.wear unit i).nv.cells = x.nv.cells := rfl

@[simp] theorem fail_cells (e : Nat) : (x.fail e).nv.cells = x.nv.cells := by simp [fail]

@[simp] theorem swapEnds_cells (w : Swap) : (x.swapEnds w).nv.cells = x.nv.cells := rfl

@[simp] theorem begin_cells (l p s : Nat) (ab : Bool) (why : Nat) : (x.begin js l p s ab why).nv.cells = x.nv.cells := by
  unfold begin; dsimp only; split <;> rfl

@[simp] theorem noSpare_cells (l : Nat) : (x.noSpare l).nv.cells = x.nv.cells := rfl

@[simp] theorem ask_cells (l why : Nat) : (x.ask js l why).nv.cells = x.nv.cells := by
  unfold ask; (repeat' split) <;> simp

@[simp] theorem next_cells (n : Nat) : (Lar.next js n x).nv.cells = x.nv.cells := by
  induction n generalizing x with
  | zero => rfl
  | succ n ih => unfold Lar.next; split <;> simp [ih]

@[simp] theorem outMoves_cells (o : Nat) : (x.outMoves js o).nv.cells = x.nv.cells := by
  have h (ws : List Swap) (y : Lar) : (ws.foldl swapEnds y).nv.cells = y.nv.cells :=
    foldl_keeps (P := fun z : Lar => z.nv.cells = y.nv.cells) swapEnds (fun _ _ h => h) ws y rfl
  simp [outMoves, h]

@[simp] theorem swapWrite_cells (v : Word) : (x.swapWrite js v).nv.cells = x.nv.cells := by
  unfold swapWrite; dsimp only; (repeat' split) <;> simp

@[simp] theorem engineFailed_cells (e : Nat) : (x.engineFailed js e).1.nv.cells = x.nv.cells := by
  unfold engineFailed; dsimp only; (repeat' split) <;> simp

@[simp] theorem passEnds_cells : x.passEnds.nv.cells = x.nv.cells := by unfold passEnds; split <;> rfl

@[simp] theorem istTile_cells (s t : Nat) : (istTile js s x t).nv.cells = x.nv.cells := by
  unfold istTile; dsimp only; (repeat' split) <;> simp

@[simp] theorem istStart_cells : (x.istStart js).nv.cells = x.nv.cells := by
  have h (ts : List Nat) (y : Lar) : (ts.foldl (istTile js x.io.istSlot) y).nv.cells = y.nv.cells :=
    foldl_keeps (P := fun z : Lar => z.nv.cells = y.nv.cells) _ (fun _ _ h => by simpa using h) ts y rfl
  simp [istStart, h]

@[simp] theorem istStep_cells : (x.istStep js).nv.cells = x.nv.cells := by unfold istStep; extract_lets; split <;> simp

@[simp] theorem istNow_cells : (x.istNow js).nv.cells = x.nv.cells := by unfold istNow; split <;> simp

@[simp] theorem testDone_cells (e : Nat) (pass : Bool) : (x.testDone e pass).nv.cells = x.nv.cells := by
  unfold testDone; dsimp only; (repeat' split) <;> simp

@[simp] theorem suspend_cells : x.suspend.nv.cells = x.nv.cells := by unfold suspend; dsimp only; split <;> simp

@[simp] theorem retiredDone_cells (e : Nat) (pass : Bool) : (x.retiredDone e pass).nv.cells = x.nv.cells := by
  unfold retiredDone; dsimp only; (repeat' split) <;> simp

@[simp] theorem coreFails_cells (k : Nat) : (x.coreFails k).nv.cells = x.nv.cells := by unfold coreFails; dsimp only; split <;> simp

@[simp] theorem sramRepaired_cells (a : Nat) : (x.sramRepaired a).nv.cells = x.nv.cells := by
  unfold sramRepaired; dsimp only; split <;> simp

@[simp] theorem pktRepaired_cells (d : Bool) (a : Nat) : (x.pktRepaired d a).nv.cells = x.nv.cells := by
  unfold pktRepaired; dsimp only; (repeat' split) <;> simp

@[simp] theorem mapWriteFails_cells : x.mapWriteFails.nv.cells = x.nv.cells := by
  unfold mapWriteFails; dsimp only; (repeat' split) <;> rfl

@[simp] theorem wears_cells (f : Nat → Nat) (i : Nat) (us : List Nat) : (us.foldl (fun x u => x.wear (f u) i) x).nv.cells = x.nv.cells :=
  foldl_keeps (P := fun z : Lar => z.nv.cells = x.nv.cells) (fun x u => x.wear (f u) i) (fun _ _ h => h) us x rfl

@[simp] theorem wearHour_cells : x.wearHour.nv.cells = x.nv.cells := by
  unfold wearHour
  split
  · rfl
  · exact (wears_cells _ (144 + ·) 0 _).trans (wears_cells _ id 0 _)

@[simp] theorem mapQuery_cells (v : Word) : (x.mapQuery v).nv.cells = x.nv.cells := by unfold mapQuery; dsimp only; split <;> rfl

@[simp] theorem startUp_cells (failed : List Nat) : (x.startUp failed).nv.cells = x.nv.cells := rfl

end Lar

end Sys2Proof.Machine

/-! Engines, swaps and write-back slots (R229, R425, R426): what the operations of the outputs need of them. -/
namespace Sys2Proof.Machine

/-- An engine that starts (R425). -/
theorem Lar.startEngine_cells (x : Lar) (e : Nat) : (x.startEngine e).nv.cells = x.nv.cells := by unfold Lar.startEngine; split <;> rfl

/-- Swaps that end one after another. -/
theorem Lar.swapsEnd_cells (g : Swap → Swap) (ws : List Swap) (x : Lar) : (ws.foldl (fun x w => x.swapEnds (g w)) x).nv.cells = x.nv.cells :=
  foldl_keeps (P := fun y : Lar => y.nv.cells = x.nv.cells) (fun x w => x.swapEnds (g w)) (fun _ _ h => h) ws x rfl

/-! Write-back slots of an output (R229, R327). -/

/-- A write-back slot that is opened, unless the output is quiet. -/
theorem openBack_quiet (quiet : Bool) (v : View) (o : Nat) (io : Io) (st : Stores) :
    (if quiet then (none, io, st) else openBack v o io st).2.2.hbm = st.hbm := by
  split
  · rfl
  · exact openBack_hbm ..

/-- Lines of a picture written back one after another. -/
theorem writeBacks_wf {st : Stores} (h : st.wf = true) (p : Pic) (wb : Option (Nat × Nat)) (pic : FMap (List Nat)) (ns : List Nat) :
    (ns.foldl (fun st n => writeBack p wb n pic st) st).wf = true :=
  foldl_keeps (P := fun st : Stores => st.wf = true) (fun st n => writeBack p wb n pic st) (fun _ n h => writeBack_wf h p wb n pic) ns st h

end Sys2Proof.Machine

/-! The part keeps its addressed memories canonical (R91, R212, R441): one rule per operation of the part. An operation that leaves the stores and the cells as they were has its hypothesis as its proof. -/
namespace Sys2Proof.Machine
namespace Dev

/-- HBM and the cells of the store are in canonical form: `State.Safe`, said of the part. -/
def Canonical (d : Dev) : Prop := d.st.wf = true ∧ d.nvs.wf = true

namespace Canonical

/-- A conditional keeps what both its branches keep. -/
theorem ite {p : Prop} [Decidable p] {a b : Dev} (ha : a.Canonical) (hb : b.Canonical) : (if p then a else b).Canonical := by
  split
  · exact ha
  · exact hb

/-- A fold keeps what each of its steps keeps. -/
theorem foldl {β : Type} {f : Dev → β → Dev} (hf : ∀ d x, d.Canonical → (f d x).Canonical) (xs : List β) {d : Dev} (h : d.Canonical) :
    (xs.foldl f d).Canonical := foldl_keeps (P := Canonical) f hf xs d h

variable {d : Dev} (h : d.Canonical)
include h

/-- An operation that keeps the stores' bytes and the cells. -/
theorem of_eq {e : Dev} (hst : e.st.hbm = d.st.hbm) (hnv : e.nvs.cells = d.nvs.cells) : e.Canonical :=
  ⟨Stores.wf_of_hbm h.1 hst, Nvs.wf_of_cells h.2 hnv⟩

/-- An operation that writes HBM in canonical form and keeps the cells. -/
theorem of_st {e : Dev} (hst : e.st.wf = true) (hnv : e.nvs.cells = d.nvs.cells) : e.Canonical := ⟨hst, Nvs.wf_of_cells h.2 hnv⟩

/-- An operation that changes neither the stores nor the cells but through a reply. -/
theorem of_replyOnly {e : Dev} (r : ReplyOnly d e) : e.Canonical := h.of_eq (congrArg Stores.hbm r.st) (congrArg Nvs.cells r.nvs)

/-! Work on a part of the device other than the stores. -/

theorem onIo (f : Io → Io) : (d.onIo f).Canonical := h.of_eq rfl rfl
theorem tick (dt : Nat) : (d.tick dt).Canonical := h.onIo _
theorem onSer (f : Io → Ser → Io × Ser) : (d.onSer f).Canonical := h.of_eq rfl rfl
theorem onPtp (f : Io → Ptp → Io × Ptp) : (d.onPtp f).Canonical := h.of_eq rfl rfl
theorem onHq (f : Io → Queues → Io × Queues) : (d.onHq f).Canonical := h.of_eq rfl rfl
theorem onSv (f : Io → Sieve → Io × Sieve) : (d.onSv f).Canonical := h.of_eq rfl rfl
theorem onTherm (f : Io → Thermal → Io × Thermal) : (d.onTherm f).Canonical := h.of_eq rfl rfl
theorem onPower (f : Io → Power → Io × Power) : (d.onPower f).Canonical := h.of_eq rfl rfl
theorem onAud (f : Io → Audio → Io × Audio) : (d.onAud f).Canonical := h.of_eq rfl rfl
theorem onTdm (f : Io → Tdm → Io × Tdm) : (d.onTdm f).Canonical := h.of_eq rfl rfl
theorem onKeys (f : Io → Keys → Io × Keys) : (d.onKeys f).Canonical := h.of_eq rfl rfl
theorem onSc (f : Io → Scanout → Io × Scanout) : (d.onSc f).Canonical := h.of_eq rfl rfl
theorem onSound (f : Io → Audio → Tdm → Io × Audio × Tdm) : (d.onSound f).Canonical := h.of_eq rfl rfl
theorem asrcs : d.asrcs.Canonical := h.onAud _

/-! Completions and the store's work. -/

theorem complete (q tag : Nat) (r : Reply) : (d.complete q tag r).Canonical := h
theorem reply (src : Option (Nat × Nat)) (r : Reply) : (d.reply src r).Canonical := h.of_replyOnly (d.reply_only src r)
theorem past (src : Option (Nat × Nat)) : (d.past src).Canonical := h.of_replyOnly (d.past_only src)
theorem markNv : d.markNv.Canonical := h.of_replyOnly d.markNv_only
theorem countMap : d.countMap.Canonical := by
  unfold Dev.countMap
  split
  · exact h
  · exact h

/-- The stores' own work, with the completions that it delivers. -/
theorem onNv {f : Nv → Nv} (hf : ∀ x : Nv, x.Canonical → (f x).Canonical) : (d.onNv f).Canonical := by
  unfold Dev.onNv
  extract_lets x e
  have he : e.Canonical := ⟨h.1, hf _ h.2⟩
  refine (foldl ?_ x.done he).markNv.countMap
  exact fun _ _ hd => hd.complete _ _ _

/-- The Larder's work, with what it asks of the store. -/
theorem onLar {f : Lar → Lar} (hf : ∀ x : Lar, (f x).nv.cells = x.nv.cells) : (d.onLar f).Canonical := by
  unfold Dev.onLar
  extract_lets x e
  have he : e.Canonical := h.of_eq rfl (hf _)
  exact .ite he (he.onNv fun _ => Nv.Canonical.run)

theorem repairPages (ps : List Nat) : (d.repairPages ps).Canonical :=
  foldl (f := fun d p => d.onLar (fun x => x.repair 7 0 p)) (fun _ _ h => h.onLar fun _ => Lar.repair_cells ..) ps h

theorem onSt {f : Io → Stores → Io × Stores} (hf : ∀ io st, st.wf = true → (f io st).2.wf = true) : (d.onSt f).Canonical :=
  ⟨hf _ _ h.1, h.2⟩

theorem showPend : d.showPend.Canonical := .ite h h

theorem finishCommits : d.finishCommits.Canonical := by
  unfold Dev.finishCommits
  split
  · exact h
  · refine (foldl ?_ _ ?_).showPend
    · exact fun _ _ h => h.reply _ _
    · exact h

theorem freeSlots : d.freeSlots.Canonical := h.of_eq (Stores.hbm_foldl (fun _ _ => Stores.hbm_toFree ..) _ _) rfl

theorem retire (i : Nat) (s : Store) (deferred : Bool) : (d.retire i s deferred).Canonical := by
  unfold Dev.retire
  refine reply ?_ _ _
  exact ⟨FMap.wf_filter _ h.1, h.2⟩

theorem settle : d.settle.Canonical :=
  foldl (f := fun (d : Dev) (e : Nat × Store) => d.retire e.1 e.2 true) (fun _ _ h => h.retire _ _ _) _ h.finishCommits.freeSlots

/-! Resets and start-up (ch. 4). -/

omit h in
theorem resetAs (h : d.nvs.wf = true) (cause : Nat) : (d.resetAs cause).Canonical := by
  refine ⟨rfl, ?_⟩
  have ha := Nvs.wf_afterReset h
  unfold Dev.resetAs
  dsimp only
  split <;> exact ha

theorem imageFetched (image : Option (List Byte)) : (d.imageFetched image).Canonical := by
  unfold Dev.imageFetched
  split
  · exact h
  · split
    · exact h
    · dsimp only
      split
      · refine reply ?_ _ _
        exact h
      · refine past ?_ _
        exact h

theorem verified : d.verified.Canonical := by
  unfold Dev.verified
  split
  · exact h
  · split
    · exact h
    · dsimp only
      split
      · refine reply ?_ _ _
        exact h
      · refine reply ?_ _ _
        exact h

theorem loadWrite : d.loadWrite.Canonical := by
  unfold Dev.loadWrite
  split <;> exact h

theorem secCommit (v : Word) : (d.secCommit v).Canonical := .ite h h

theorem bootRom (mv : Nat) (entropy : Bool) : (d.bootRom mv entropy).Canonical := by
  unfold Dev.bootRom
  split
  · exact h
  · extract_lets start _ cooled _ _ _ _ _ _ _ _ _ _ _ _ _ _ _ _ _ booting booted
    have hc : cooled.Canonical := .ite h h
    have hb : booting.Canonical := hc.of_eq rfl rfl
    have hk : booted.Canonical := hb.onNv (f := fun x => x.bootKeys entropy) fun x hx => hx.of_cells (congrArg Nvs.cells (x.bootKeys_nv entropy))
    split
    · exact hk
    · exact hk

theorem linkUp : d.linkUp.Canonical := .ite h (.ite h h)

theorem hbmTrained (failed : Option (Fin 4)) : (d.hbmTrained failed).Canonical := by
  unfold Dev.hbmTrained
  split
  · exact h
  · cases failed <;> exact h

theorem worideStart : d.worideStart.Canonical := by
  unfold Dev.worideStart
  split
  · exact h
  · have hw (ss : List (Repair × Nat)) : (ss.foldl (fun (n : Nvs) e => n.want none (.journal true e.2 (some e.1.bytes))) d.nvs).wf = true :=
      foldl_keeps (P := fun n : Nvs => n.wf = true) (fun (n : Nvs) e => n.want none (.journal true e.2 (some e.1.bytes))) (fun _ _ h => h) ss _ h.2
    refine onNv ?_ fun _ => Nv.Canonical.startKeys
    exact ⟨h.1, hw _⟩

theorem testFailed (kind location : Nat) (unit : Option Nat) : (d.testFailed kind location unit).Canonical :=
  h.onLar fun x => by
    dsimp only
    split <;> simp

theorem testsFailed (kind : Nat) (unit : Nat → Option Nat) (es : List Nat) :
    (es.foldl (fun d e => d.testFailed kind e (unit e)) d).Canonical :=
  foldl (f := fun d e => d.testFailed kind e (unit e)) (fun _ _ h => h.testFailed _ _ _) es h

theorem sparesTested (f : SpareFailures) : (d.sparesTested f).Canonical := by
  unfold Dev.sparesTested
  split
  · exact h
  · extract_lets spares bad plls core
    clear_value core
    cases core
    · refine testsFailed (testsFailed ?_ 0 some bad) 2 (fun _ => none) plls
      exact h
    · refine (testsFailed (testsFailed ?_ 0 some bad) 2 (fun _ => none) plls).testFailed _ _ _
      exact h

theorem tileUp (t : Fin 16) : (d.tileUp t).Canonical := .ite h h

theorem activeTested (t : Fin 16) (failed : BitVec 9) : (d.activeTested t failed).Canonical := by
  unfold Dev.activeTested
  split
  · exact h
  · refine testsFailed ?_ 0 some _
    exact h

theorem fwReady : d.fwReady.Canonical := by
  unfold Dev.fwReady
  split
  · exact h
  · refine onLar ?_ fun _ => Lar.startUp_cells ..
    exact h

theorem heartbeat : d.heartbeat.Canonical := .ite h h

theorem heartbeatLost : d.heartbeatLost.Canonical := .ite h h

theorem fuseBlown : d.fuseBlown.Canonical := by
  unfold Dev.fuseBlown
  split
  · exact h
  · exact h.onNv fun _ => Nv.Canonical.fuseBlown

/-! Links and time (ch. 5, ch. 6). -/

omit h in
theorem watching {f : Dev → Dev} (hf : (f d).Canonical) : (d.watching f).Canonical := by
  unfold Dev.watching
  dsimp only
  split
  · exact hf
  · refine foldl (fun x g hx => ?_) _ hf
    split <;> exact hx

theorem links (f : Io → Ser → Io × Ser) : (d.links f).Canonical := by
  unfold Dev.links
  extract_lets was e up lost new_ g
  have he : e.Canonical := h
  have hl : (lost.foldl (fun (d : Dev) p => d.onSv (portLegsLost p)) e).Canonical := 
    foldl (f := fun (d : Dev) p => d.onSv (portLegsLost p)) (fun _ _ h => h) lost he
  have hg : g.Canonical := .ite he (watching hl)
  exact hg

theorem spareResume (q : Fin 32) : (d.spareResume q).Canonical := .ite h (onLar (d := d.onSer _) h fun _ => Lar.repair_cells ..)

theorem stepped (before dt : Nat) : (d.stepped before dt).Canonical := .ite h h
end Canonical
end Dev
end Sys2Proof.Machine

/-! Commands in flight, temperature, and the store's commands (ch. 3, ch. 16, ch. 18, ch. 19). -/
namespace Sys2Proof.Machine
namespace Dev
namespace Canonical

variable {d : Dev} (h : d.Canonical)
include h

theorem withdraw (q tag : Nat) : (d.withdraw q tag).Canonical := h
theorem cancel (q tag status : Nat) : (d.cancel q tag status).Canonical := h

theorem command (op q tag : Nat) {f : Cmd → Dev → Dev} (hf : ∀ c d, d.Canonical → (f c d).Canonical) : (d.command op q tag f).Canonical := by
  unfold Dev.command
  split
  · exact h
  · split
    · exact h
    · dsimp only
      split
      · exact h
      · split
        · exact h
        · exact hf _ _ h

theorem vfReset (fn : Nat) : (d.vfReset fn).Canonical := .ite h h

theorem fwLoadCommand (c : Cmd) : (fwLoadCommand c d).Canonical := by
  unfold Machine.fwLoadCommand
  dsimp only
  (repeat' split) <;> exact h

theorem shutdown : d.shutdown.Canonical := h

theorem levelMoved (was : Nat) : (d.levelMoved was).Canonical :=
  .ite h (.ite (h.onLar Lar.suspend_cells) (h.onLar Lar.show_cells))

theorem evaluate (xs : List (Int × Fin 3)) : (d.evaluate xs).Canonical := by
  unfold Dev.evaluate
  extract_lets was r e
  have he : e.Canonical := h
  split
  · exact .ite he.shutdown he
  · exact he.levelMoved was

theorem hardTrip (late : Bool) : (d.hardTrip late).Canonical := .ite h ⟨h.1, Nvs.wf_afterReset h.2⟩

theorem lardCtl (v : Word) : (d.lardCtl v).Canonical := by
  unfold Dev.lardCtl
  extract_lets ok e
  have he : e.Canonical := h
  exact .ite he (.ite (he.onLar fun _ => Lar.istNow_cells ..) (he.onLar Lar.show_cells))

theorem wearSel (v : Word) : (d.wearSel v).Canonical := .ite h h

theorem pageWritten (replaced : Bool) : (d.pageWritten replaced).Canonical :=
  (h.onNv fun _ => Nv.Canonical.pageDone replaced).repairPages _

theorem winCtl (v : Word) : (d.winCtl v).Canonical := by
  unfold Dev.winCtl
  extract_lets ok e
  have he : e.Canonical := h
  exact .ite (he.onNv fun x hx => hx.of_cells x.flush_cells) he

theorem scrubNv (fs : List (Nat × Nat)) : (d.scrubNv fs).Canonical := (h.onNv fun _ => Nv.Canonical.scrub fs).repairPages _

/-- A job that a command asks of the store begins when its turn has come. -/
theorem onNv_run {f : Nv → Nv} (hf : ∀ x : Nv, (f x).nv.cells = x.nv.cells) : (d.onNv fun x => (f x).run).Canonical :=
  h.onNv fun x hx => (hx.of_cells (hf x)).run

theorem nvReadCommand (c : Cmd) : (nvReadCommand c d).Canonical := .ite h (.ite h (h.onNv_run fun _ => rfl))
theorem nvWriteCommand (data : List Byte) (c : Cmd) : (nvWriteCommand data c d).Canonical := .ite h (.ite h (h.onNv_run fun _ => rfl))
theorem keyWriteCommand (c : Cmd) : (keyWriteCommand c d).Canonical := .ite h (h.onNv_run fun _ => rfl)
theorem lifecycleCommand (c : Cmd) : (lifecycleCommand c d).Canonical := .ite h (.ite h (.ite h (h.onNv_run fun _ => rfl)))

/-! The commands of the queues and of the frame stores (ch. 3, ch. 8). -/

theorem abortCommand (c : Cmd) : (abortCommand c d).Canonical := by
  unfold Machine.abortCommand
  dsimp only
  (repeat' split) <;> exact h

theorem allocCommand (c : Cmd) : (allocCommand c d).Canonical :=
  .ite h (h.of_eq (fsAlloc_hbm ..) rfl)

theorem withHandle (c : Cmd) (k : Nat) {f : Store → Dev} (hf : ∀ s, (f s).Canonical) : (d.withHandle c k f).Canonical := by
  unfold Dev.withHandle
  split
  · exact h
  · exact .ite h (hf _)

theorem freeCommand (c : Cmd) : (freeCommand c d).Canonical := by
  refine h.withHandle c _ fun s0 => .ite h ?_
  extract_lets i s _ st e
  have he : e.Canonical := past (d := { d with io := d.io.showHandles st, st := st }) h _
  exact .ite (he.retire i s false) he

theorem mapCommand (c : Cmd) : (mapCommand c d).Canonical :=
  .ite h (.ite (h.of_eq (fsUnmap_hbm ..) rfl) (h.withHandle c _ fun _ => h.of_eq (fsMap_hbm ..) rfl))

theorem publishCommand (c : Cmd) (i k : Nat) (s : Store) : (publishCommand c i k s d).Canonical :=
  .ite h (.ite h (.ite h (h.of_eq (Stores.hbm_publish ..) rfl)))

theorem pinCommand (c : Cmd) (i slot : Nat) (s : Store) : (pinCommand c i slot s d).Canonical := by
  unfold Machine.pinCommand
  split
  · exact h
  · exact .ite h (.ite h (h.of_eq (Stores.hbm_modify ..) rfl))

theorem unpinCommand (c : Cmd) (i k : Nat) (s : Store) : (unpinCommand c i k s d).Canonical :=
  .ite h (h.of_eq (Stores.hbm_modify ..) rfl)

theorem fenceCommand (c : Cmd) : (fenceCommand c d).Canonical :=
  .ite h (h.withHandle c _ fun _ => .ite h (.ite (h.publishCommand ..) (.ite (h.pinCommand ..) (h.unpinCommand ..))))

theorem hbmError (e : HbmError) : (d.hbmError e).Canonical := by
  unfold Dev.hbmError
  have he : ({ d with io := (Machine.hbmError e d.io d.st).1, st := (Machine.hbmError e d.io d.st).2.1 } : Dev).Canonical :=
    h.of_eq (hbmError_hbm ..) rfl
  exact .ite (he.onLar fun _ => Lar.repair_cells ..) he

theorem hbmErrors (es : List HbmError) : (es.foldl Dev.hbmError d).Canonical := foldl (fun _ e h => h.hbmError e) es h

theorem fstrQuery (v : Word) : (d.fstrQuery v).Canonical := .ite h h

theorem checkCapacity : d.checkCapacity.Canonical := .ite h h
end Canonical
end Dev
end Sys2Proof.Machine

/-! Frames received, claims and releases (ch. 6, ch. 7). -/
namespace Sys2Proof.Machine
namespace Dev
namespace Canonical

variable {d : Dev} (h : d.Canonical)
include h

theorem released (f : Nat) (k : HeldPkt) : (d.released f k).Canonical := by
  unfold Dev.released
  have hw := depacketize_wf h.1 f k.seq k.pkt d.io d.sv
  split
  next io st sv sdi hs =>
  rw [hs] at hw
  extract_lets e t e1 e2
  have he : e.Canonical := ⟨hw, h.2⟩
  have h1 : e1.Canonical := .ite he he
  have h2 : e2.Canonical := by
    unfold e2
    split
    · exact ⟨sdiFrame_wf h1.1 _ _ e1.aud, h1.2⟩
    · exact h1
  refine foldl ?_ _ h2
  exact fun _ _ h => h

theorem releasedAll (f : Nat) (ks : List HeldPkt) : (d.releasedAll f ks).Canonical := foldl (fun _ k h => h.released f k) ks h

theorem flowArrives (f : Nat) (legB : Bool) (pkt : Pkt) : (d.flowArrives f legB pkt).Canonical := by
  unfold Dev.flowArrives
  split
  · exact h
  · refine releasedAll ?_ f _
    exact h

theorem sieve (p : Fin 128) (bs : List Byte) : (d.sieve p bs).Canonical := by
  unfold Dev.sieve
  dsimp only
  split
  · exact h
  · split
    · exact h.onIo _
    · exact (h.onPtp _).stepped _ _
    · exact h.onSv _
    · exact h.flowArrives ..
    · exact .ite (h.onSv _) h
    · exact h.of_eq rfl rfl
    · exact h.onIo _

theorem frame (p : Fin 128) (bytes : List Byte) (trunc phy : Bool) : (d.frame p bytes trunc phy).Canonical := by
  unfold Dev.frame
  dsimp only
  split
  · exact h
  · split
    · exact h
    · refine watching (sieve ?_ p _)
      exact h

theorem discardFrames (f : Nat) : (d.discardFrames f).Canonical := by
  unfold Dev.discardFrames
  split
  · exact h
  · exact h.of_eq (framesDrop_hbm ..) rfl

theorem seqLost (f : Nat) : (d.seqLost f).Canonical := by
  refine watching (releasedAll ?_ f _)
  exact h

theorem claimCommand (c : Cmd) : (claimCommand c d).Canonical := by
  unfold Machine.claimCommand
  extract_lets p0 egress seen used reject
  refine .ite h (.ite h (.ite h ?_))
  split
  · exact h
  · exact .ite h h

theorem flowOff (f : Nat) : (d.flowOff f).Canonical := watching (h.of_eq (framesDrop_hbm ..) rfl)

theorem releaseCommand (c : Cmd) : (releaseCommand c d).Canonical := by
  unfold Machine.releaseCommand
  extract_lets i egress reject
  refine .ite h ?_
  split
  · exact h
  · refine .ite h (.ite h ?_)
    dsimp only
    refine complete ?_ _ _ _
    have he : (if egress = true then d.egressOff i else d.flowOff i).Canonical := .ite h (h.flowOff i)
    exact he.of_eq rfl rfl
end Canonical
end Dev
end Sys2Proof.Machine

/-! Outputs: frames, lines and write-back (ch. 12, ch. 13). -/
namespace Sys2Proof.Machine
namespace Dev
namespace Canonical

variable {d : Dev} (h : d.Canonical)
include h

theorem setOut (o : Nat) (r : OutRt) : (d.setOut o r).Canonical := h.of_eq rfl rfl

theorem startFrame (o n : Nat) (r : OutRt) : (d.startFrame o n r).Canonical := by
  unfold Dev.startFrame
  extract_lets d1 flows d2 v t stopped slated st io ks quiet
  clear_value flows
  have h1 : d1.Canonical := h.onSc _
  have h2 : d2.Canonical := by
    refine foldl ?_ flows h1
    exact fun _ _ h => h.onSc _
  have hst : st.hbm = d2.st.hbm := Stores.hbm_dropBack ..
  split
  extract_lets st1 slate st2 _ loupe
  have hst2 : st2.hbm = d2.st.hbm := by
    unfold st2
    clear_value slate
    cases slate <;> exact hst
  split
  next wb io' st' hb =>
  have hst' : st'.hbm = d2.st.hbm := ((congrArg (fun x => x.2.2.hbm) hb).symm.trans (openBack_quiet quiet v o _ st2)).trans hst2
  split
  extract_lets io2 r2 d3 empty d4
  have h3 : d3.Canonical := setOut (d := { d2 with io := io2, st := st', sc := _ }) (h2.of_eq hst' rfl) o r2
  have h4 : d4.Canonical := by
    refine foldl ?_ flows h3
    intro x _ hx
    split
    · exact hx.onSc _
    · exact hx
  exact h4.onAud _

theorem underruns (o y : Nat) (late : List Nat) : (d.underruns o y late).Canonical := by
  unfold Dev.underruns
  split
  · exact h
  · refine foldl ?_ _ h
    exact fun _ _ h => (h.onSc _).onSc _

theorem composeAt (o k : Nat) (r : OutRt) : (d.composeAt o k r).Canonical := by
  unfold Dev.composeAt
  extract_lets v y p
  split
  · extract_lets pic st
    refine setOut ?_ o _
    refine h.of_st (?_ : st.wf = true) rfl
    unfold st
    split
    · exact writeBack_wf h.1 ..
    · exact h.1
  · dsimp only
    refine foldl ?_ _ ?_
    · exact fun _ _ h => h.onSc _
    · refine setOut ?_ o _
      exact h.of_st (writeBacks_wf h.1 ..) rfl

theorem secondField (o : Nat) (r : OutRt) : (d.secondField o r).Canonical := h.of_eq rfl rfl

theorem publishBack (o : Nat) (r : OutRt) : (d.publishBack o r).Canonical := by
  unfold Dev.publishBack
  split
  · exact h
  · exact h.of_eq (Stores.hbm_publish ..) rfl

theorem endActive (o : Nat) : (d.endActive o).Canonical := by
  unfold Dev.endActive
  split
  · exact h
  · next r _ =>
    have hp := h.publishBack o r
    dsimp only
    split
    · exact hp.of_eq rfl rfl
    · exact hp.of_eq rfl rfl

theorem poisonRead (o l : Nat) (e : HbmError) : (d.poisonRead o l e).Canonical := by
  unfold Dev.poisonRead
  have he := h.hbmError e
  refine .ite he ?_
  dsimp only
  split
  · exact he.onIo _
  · exact he

theorem rasterLine (o : Nat) (late : List Nat) (bad : List (Nat × HbmError)) : (d.rasterLine o late bad).Canonical := by
  unfold Dev.rasterLine
  split
  · exact h
  · next r _ =>
    extract_lets k again d1 d2 d3
    split
    · exact h
    · have h1 : d1.Canonical := .ite (h.secondField o r) h
      have h2 : d2.Canonical := by
        refine foldl ?_ bad h1
        exact fun _ x h => h.poisonRead o x.1 x.2
      have h3 : d3.Canonical := .ite h2 (h2.underruns ..)
      split
      · exact h3
      · next r' _ =>
        extract_lets d4
        have h4 : d4.Canonical := .ite (h3.setOut ..) (h3.composeAt ..)
        exact .ite (h4.endActive o) h4
end Canonical
end Dev
end Sys2Proof.Machine

/-! Commits: capture, acceptance and what becomes live (ch. 2). -/
namespace Sys2Proof.Machine
namespace Dev
namespace Canonical

variable {d : Dev} (h : d.Canonical)
include h

theorem outputsDone (p : Pend) : (d.outputsDone p).Canonical := h.onIo _
theorem showValidating : d.showValidating.Canonical := h.onIo _
theorem notice (fn code lo : Nat) : (d.notice fn code lo).Canonical := h.onHq _

theorem promote (e frame : Nat) (xs : List (Nat × Word)) : (d.promote e frame xs).Canonical := by
  unfold Dev.promote
  extract_lets was now d1
  have h1 : d1.Canonical := .ite (h.of_eq rfl rfl) h
  exact h1.of_eq rfl rfl

theorem liveOn (o frame : Nat) (xs : List (Nat × Word)) : (d.liveOn o frame xs).Canonical := by
  unfold Dev.liveOn
  dsimp only
  refine foldl ?_ _ ?_
  · exact fun _ _ h => h.promote ..
  · exact h.of_eq rfl rfl

theorem applyOutput (o seq fn acceptedAt frame time : Nat) (xs : List (Nat × Word)) :
    (d.applyOutput o seq fn acceptedAt frame time xs).Canonical := by
  unfold Dev.applyOutput
  extract_lets d1 d2
  have h2 : d2.Canonical := (h.liveOn o frame xs).onIo _
  split
  · exact .ite (h2.setOut ..) h2
  · exact h2

theorem updPend (seq : Nat) (f : Pend → Pend) : (d.updPend seq f).Canonical := by
  unfold Dev.updPend
  split
  · exact h
  · extract_lets p' _ e
    have he : e.Canonical := h.of_eq rfl rfl
    exact .ite (he.outputsDone _) he

theorem showCommitStat (o : Nat) : (d.showCommitStat o).Canonical := h.onIo _

theorem applyPend (o frame time : Nat) (kept : List Nat) (p : Pend) : (d.applyPend o frame time kept p).Canonical :=
  (h.applyOutput ..).updPend ..

theorem applyFrozen (o : Nat) : (d.applyFrozen o).Canonical := by
  unfold Dev.applyFrozen
  extract_lets held
  split
  extract_lets d1 _ d2 d3
  have h1 : d1.Canonical := by
    refine foldl ?_ held h
    exact fun _ _ h => (h.liveOn ..).onIo _
  have h2 : d2.Canonical := h1.of_eq rfl rfl
  have h3 : d3.Canonical := by
    refine foldl ?_ _ h2
    exact fun _ _ h => h.applyPend ..
  exact (h3.onIo _).showCommitStat o

theorem flowCaptured (f : Nat) (xs : List (Nat × Word)) : (d.flowCaptured f xs).Canonical := by
  unfold Dev.flowCaptured
  extract_lets mine was now
  split
  · exact (h.flowOff f).onIo _
  · split
    · exact watching (h.of_eq rfl rfl)
    · split
      · exact h.of_eq rfl rfl
      · exact h.onIo _

theorem egressCaptured (e : Nat) (xs : List (Nat × Word)) : (d.egressCaptured e xs).Canonical := by
  unfold Dev.egressCaptured
  extract_lets mine v after
  refine .ite (.ite (h.of_eq rfl rfl) (h.of_eq rfl rfl)) (.ite (h.of_eq rfl rfl) ?_)
  exact .ite (h.of_eq rfl rfl) (h.of_eq rfl rfl)

theorem enqueue (fn : Nat) (src : Option (Nat × Nat)) (salvo : Option (Nat × Bool)) (dry : Bool) : (d.enqueue fn src salvo dry).Canonical :=
  h.of_eq rfl rfl

theorem go (salvo dry : Bool) : (d.go salvo dry).Canonical := .ite (h.onIo _) (.ite (h.onIo _) (h.enqueue ..))

theorem commitWrite (v : Word) : (d.commitWrite v).Canonical := .ite (go (h.onIo _) _ _) (h.onIo _)

theorem legWrite (o : Nat) (v : Word) : (d.legWrite o v).Canonical := .ite (go (h.onIo _) _ _) (h.onIo _)

theorem commitCommand (c : Cmd) : (commitCommand c d).Canonical := .ite (h.complete ..) (h.enqueue ..)

theorem reject (r : CommitReq) (status code : Nat) (info : Option Nat) : (d.reject r status code info).Canonical := by
  unfold Dev.reject
  extract_lets d1 d2
  have h1 : d1.Canonical := h.onIo _
  have h2 : d2.Canonical := .ite h1 (h1.onIo _)
  exact h2.reply ..

theorem fastCaptured (e at_ seq : Nat) (base v : View) (xs : List (Nat × Word)) : (d.fastCaptured e at_ seq base v xs).Canonical := by
  unfold Dev.fastCaptured
  extract_lets mine
  exact .ite (h.onIo _) (h.of_eq rfl rfl)

theorem channelsCaptured (p : Proposal) (at_ seq : Nat) : (d.channelsCaptured p at_ seq).Canonical := h.of_eq rfl rfl

theorem portsCaptured (p : Proposal) (at_ seq : Nat) : (d.portsCaptured p at_ seq).Canonical := by
  unfold Dev.portsCaptured
  refine foldl ?_ _ h
  exact fun _ _ h => h.onTdm _

theorem applyOff (seq fn acceptedAt : Nat) (xs : List (Nat × Word)) (outOf : Nat → Option Nat) : (d.applyOff seq fn acceptedAt xs outOf).Canonical := by
  unfold Dev.applyOff
  dsimp only
  refine foldl ?_ _ h
  exact fun _ _ h => h.applyOutput ..

theorem placeJobs (jobs : List Job) : (d.placeJobs jobs).Canonical := h.of_eq rfl rfl

theorem showCommitStats (os : List Nat) : (os.foldl Dev.showCommitStat d).Canonical := foldl (fun _ o h => h.showCommitStat o) os h

theorem accept (r : CommitReq) (p : Proposal) (jobs : List Job) : (d.accept r p jobs).Canonical := by
  unfold Dev.accept
  extract_lets seq now at_ of on off outs d1 d2 d3 d4 d5 rest wait outOf d6 frame pend _ d7 promoted d8 d9
  have h1 : d1.Canonical := (h.onIo _).past _
  have h2 : d2.Canonical := by
    refine foldl ?_ _ h1
    exact fun _ _ h => h.flowCaptured ..
  have h3 : d3.Canonical := by
    refine foldl ?_ _ h2
    exact fun _ _ h => h.egressCaptured ..
  have h4 : d4.Canonical := by
    refine foldl ?_ _ h3
    exact fun _ _ h => h.fastCaptured ..
  have h5 : d5.Canonical := (h4.channelsCaptured ..).portsCaptured ..
  have h6 : d6.Canonical := .ite h5 ((h5.onIo _).applyOff ..)
  have h7 : d7.Canonical := h6.of_eq rfl rfl
  have h9 : d9.Canonical := ((h7.onIo _).showCommitStats outs).placeJobs jobs
  exact .ite (h9.outputsDone pend) h9

theorem validationEnds : d.validationEnds.Canonical := by
  unfold Dev.validationEnds
  split
  · exact h
  · next r rest _ =>
    extract_lets _ d1 xs p d2
    have h1 : d1.Canonical := h.of_eq rfl rfl
    have h2 : d2.Canonical := by
      unfold d2
      split
      · exact h1.reject ..
      · exact .ite ((h1.onIo _).reply ..) (h1.accept ..)
    exact h2.showValidating.showPend

theorem salvosDue : d.salvosDue.Canonical := by
  unfold Dev.salvosDue
  refine foldl ?_ _ h
  exact fun _ _ h => ((h.onIo _).applyOff ..).updPend ..

/-! Latch lines and frame boundaries (ch. 2, ch. 13). -/

theorem fastReached (e : Nat) (seq : Option Nat) : (d.fastReached e seq).Canonical := by
  unfold Dev.fastReached
  split
  · exact .ite h (h.of_eq rfl rfl)
  · exact h

theorem fastSwitch (e : Nat) : (d.fastSwitch e).Canonical := by
  unfold Dev.fastSwitch
  split
  next c io rt _ =>
  extract_lets d1
  have h1 : d1.Canonical := h.of_eq rfl rfl
  split
  · exact h1
  · next c _ =>
    have h2 := h1.fastReached e c.seq
    dsimp only
    split
    · exact .ite (h2.of_eq rfl rfl) h2
    · exact h2

theorem releaseHeld (o frame : Nat) : (d.releaseHeld o frame).1.Canonical := by
  unfold Dev.releaseHeld
  refine foldl_keeps (P := fun x : Dev × List Nat => x.1.Canonical) _ (fun x k hx => ?_) _ (d, []) h
  dsimp only
  split
  · exact hx
  · have hl := hx.liveOn o frame (k.over x.1.io.live)
    exact hl.of_eq rfl rfl

theorem keepBack (o l k : Nat) (xs : List (Nat × Word)) : (d.keepBack o l k xs).Canonical := h.of_eq rfl rfl

theorem holdLayer (o l k : Nat) (xs : List (Nat × Word)) : (d.holdLayer o l k xs).Canonical := (h.keepBack ..).onIo _

theorem applyDue (o : Nat) (r : OutRt) (salvosOnly : Bool) : (d.applyDue o r salvosOnly).d.Canonical := by
  unfold Dev.applyDue
  extract_lets was
  have hr := h.releaseHeld o (nextFrame was o r)
  split
  next d1 released he =>
  rw [he] at hr
  have h1 : d1.Canonical := hr
  extract_lets freed due xs after slots layers named bad still n _ _ _ pairs waits kept ens
  split
  · exact h1
  · split
    · exact h1.of_eq rfl rfl
    · split
      next frame time _ =>
      extract_lets d2 d3 d4 d5 d6
      have h2 : d2.Canonical := by
        refine foldl ?_ due h1
        exact fun _ _ h => h.applyPend ..
      have h3 : d3.Canonical := h2.onIo _
      have h4 : d4.Canonical := by
        refine foldl ?_ waits h3
        exact fun _ _ h => h.keepBack ..
      have h5 : d5.Canonical := by
        refine foldl ?_ pairs h4
        exact fun _ _ h => h.holdLayer ..
      have h6 : d6.Canonical := h5.onIo _
      exact h6.showCommitStat o

theorem showRate (fn : Nat) : (d.showRate fn).Canonical := .ite h (h.onIo _)

theorem rankCuts (o : Nat) : (d.rankCuts o).Canonical := by
  unfold Dev.rankCuts
  refine foldl ?_ _ h
  intro x f hx
  extract_lets ms _ e
  have he : e.Canonical := hx.of_eq rfl rfl
  exact .ite (he.onIo _) he

theorem rankShed : d.rankShed.Canonical := .ite h (h.of_eq rfl rfl)

theorem hide (frame l cause : Nat) : (d.hide frame l cause).Canonical := h.of_eq rfl rfl

theorem hideLayers (o frame : Nat) : (d.hideLayers o frame).1.Canonical := by
  unfold Dev.hideLayers
  dsimp only
  refine foldl ?_ _ (h.rankCuts o).rankShed
  exact fun _ _ h => h.hide ..

theorem rehome (o : Nat) : (d.rehome o).Canonical := h.of_eq rfl rfl

theorem moveJobs (o : Nat) : (d.moveJobs o).Canonical := h.of_eq rfl rfl

theorem latchSteps (o : Nat) (r : OutRt) (salvosOnly : Bool) : (d.latchSteps o r salvosOnly).Canonical := by
  unfold Dev.latchSteps
  extract_lets a was
  have ha : a.d.Canonical := h.applyDue o r salvosOnly
  split
  next io rt _ =>
  extract_lets d1
  have h1 : d1.Canonical := ha.of_eq rfl rfl
  have hh := h1.hideLayers o (d1.io.live.nextBoundary o r).1
  split
  next d2 hidden e =>
  rw [e] at hh
  have h2 : d2.Canonical := hh
  split
  · exact h2
  · extract_lets acted
    split
    extract_lets d3 d4
    have h3 : d3.Canonical := h2.of_eq rfl rfl
    have h4 : d4.Canonical := .ite (h3.of_eq rfl rfl) h3
    exact h4.onSc _

theorem latchLine (o : Nat) : (d.latchLine o).Canonical := by
  unfold Dev.latchLine
  split
  · exact h
  · split
    · exact h
    · split
      · exact h
      · extract_lets d1
        have h1 : d1.Canonical := h.onSc _
        split
        · exact h1
        · extract_lets d2 d3 d4 d5
          have h3 : d3.Canonical := ((h1.latchSteps ..).rehome o).moveJobs o
          have h4 : d4.Canonical := (h3.onLar fun _ => Lar.outMoves_cells ..).onSc _
          clear_value d4
          have h5 : d5.Canonical := by
            unfold d5
            split
            · split
              exact h4.of_eq rfl rfl
            · exact h4
          exact h5.showRate _

theorem enabledDone (o n : Nat) : (d.enabledDone o n).Canonical := by
  unfold Dev.enabledDone
  refine foldl ?_ _ h
  exact fun _ _ h => h.complete ..

theorem waitSteps (o : Nat) (r : OutRt) : (d.waitSteps o r).Canonical := .ite h (h.latchSteps ..)

theorem frameBoundary (o : Nat) : (d.frameBoundary o).Canonical := by
  unfold Dev.frameBoundary
  split
  · exact h
  · split
    · exact h
    · split
      · extract_lets d1
        have h1 : d1.Canonical := h.onSc _
        split
        · exact (h1.onIo _).setOut ..
        · exact h1
      · split
        split
        · exact h
        · extract_lets d1
          have h1 : d1.Canonical := .ite h (h.waitSteps ..)
          split
          · exact h1
          · extract_lets n d2
            have h2 : d2.Canonical := .ite (h1.onIo _) h1
            exact (h2.startFrame ..).enabledDone ..
end Canonical
end Dev
end Sys2Proof.Machine

/-! Layers and owners (ch. 3). -/
namespace Sys2Proof.Machine
namespace Dev
namespace Canonical

variable {d : Dev} (h : d.Canonical)
include h

theorem layerAllocCommand (c : Cmd) : (layerAllocCommand c d).Canonical := by
  unfold Machine.layerAllocCommand
  extract_lets o any v
  refine .ite (h.complete ..) (.ite (h.complete ..) (.ite (h.complete ..) (.ite (h.complete ..) ?_)))
  split
  · exact h.complete ..
  · exact .ite (h.complete ..) ((h.onIo _).complete ..)

theorem freeLayer (l : Nat) : (d.freeLayer l).Canonical := h.of_eq rfl rfl

theorem layerFreeCommand (c : Cmd) : (layerFreeCommand c d).Canonical :=
  .ite (h.complete ..) (.ite (h.complete ..) (.ite (h.complete ..) (.ite (h.complete ..) ((h.freeLayer _).complete ..))))

theorem pass (kind fn i : Nat) : (d.pass kind fn i).Canonical :=
  .ite h (.ite (h.of_eq rfl rfl) (.ite (h.onIo _) (.ite (h.of_eq rfl rfl)
    (.ite (h.of_eq (Stores.hbm_modify d.st i _) rfl) (h.of_eq rfl rfl)))))

theorem passAll (kind fn first n : Nat) : (d.passAll kind fn first n).Canonical := by
  induction n with
  | zero => exact h
  | succ n ih => exact ih.pass ..

theorem withdrawn (fns : List Nat) : (d.withdrawn fns).Canonical := by
  unfold Dev.withdrawn
  refine foldl ?_ fns h
  exact fun _ _ h => (h.notice ..).onIo _

theorem showRates (fns : List Nat) : (fns.foldl Dev.showRate d).Canonical := foldl (fun _ f h => h.showRate f) fns h

theorem setOwnerCommand (c : Cmd) : (setOwnerCommand c d).Canonical := by
  unfold Machine.setOwnerCommand
  extract_lets kind fn first n range lost e
  refine .ite (h.complete ..) (.ite (h.complete ..) ?_)
  have he : e.Canonical := h.passAll ..
  split
  · exact h.complete ..
  · exact ((he.showRates _).withdrawn lost).complete ..

/-! Blocks: enable, disable, drain and reset (ch. 2). -/

theorem salvosJoin (o : Nat) : (d.salvosJoin o).Canonical := h.of_eq rfl rfl

theorem startOutput (o : Nat) : (d.startOutput o).Canonical := by
  unfold Dev.startOutput
  extract_lets d1 io d2
  have h1 : d1.Canonical := h.salvosJoin o
  have h2 : d2.Canonical := h1.of_eq rfl rfl
  exact (h2.onIo _).checkCapacity.showRate _

theorem startBlock (p : PageRef) : (d.startBlock p).Canonical := by
  have h1 := h.onIo (fun io => (io.put p Reg.PAGE_CTL 1).setState p 2)
  unfold Dev.startBlock
  dsimp only
  split
  · exact h1.links _
  · exact h1.onIo _
  · exact h1.onPtp _
  · exact h1.onTdm _
  · exact h1.asrcs
  · exact h1.startOutput _
  · exact h1.onLar fun _ => Lar.startEngine_cells ..
  · exact h1.onIo _
  · exact h1

theorem startBlocks (ps : List PageRef) : (ps.foldl Dev.startBlock d).Canonical := foldl (fun _ p h => h.startBlock p) ps h

theorem evict (l : Nat) (runs : Bool) : (d.evict l runs).Canonical := h.of_eq rfl rfl

theorem stopEngine (e : Nat) : (d.stopEngine e).Canonical := by
  unfold Dev.stopEngine
  extract_lets st x alone
  split
  · split
    · exact h
    · extract_lets d1
      have h1 : d1.Canonical := h.onLar fun _ => Lar.ask_cells ..
      exact .ite (h1.evict ..).checkCapacity h1
  · split
    · split
      · exact h.onLar fun _ => rfl
      · exact h
    · split
      · exact h.onLar fun _ => rfl
      · exact h

theorem stopIntake (p : PageRef) : (d.stopIntake p).Canonical := by
  unfold Dev.stopIntake
  split
  · exact h.links _
  · exact h.links _
  · exact h.onIo _
  · exact h.applyFrozen _
  · exact h.stopEngine _
  · exact h

theorem fade (p : PageRef) : (d.fade p).Canonical := by
  unfold Dev.fade
  split
  · exact .ite h (h.of_eq rfl rfl)
  · exact h

theorem beginDrain (p : PageRef) (ctl : Nat) : (d.beginDrain p ctl).Canonical := by
  unfold Dev.beginDrain
  extract_lets fresh d1
  have h1 : d1.Canonical := h.onIo _
  exact fade (.ite h1 (h1.stopIntake p)) p

theorem outputStopped (o : Nat) : (d.outputStopped o).Canonical := by
  unfold Dev.outputStopped
  split
  · exact h
  · next r _ =>
    extract_lets d1 d2
    have h1 : d1.Canonical := h.onSc _
    have h2 : d2.Canonical := by
      refine foldl ?_ _ h1
      exact fun _ _ h => h.onSc _
    clear_value d2
    split
    refine showRate (onLar ?_ fun _ => Lar.outMoves_cells ..) _
    exact h2.of_eq (Stores.hbm_dropBack (d2.st.retireOut o) r.wb) rfl

theorem tileStopped (t : Nat) : (d.tileStopped t).Canonical := by
  unfold Dev.tileStopped
  refine foldl ?_ _ h
  intro x e hx
  extract_lets d1 st
  have h1 : d1.Canonical := by
    refine foldl ?_ _ hx
    exact fun _ _ h => h.onSc _
  refine setOut ?_ _ _
  exact h1.of_eq (Stores.hbm_dropBack ..) rfl

theorem sieveStopped (t : Nat) : (d.sieveStopped t).Canonical := by
  unfold Dev.sieveStopped
  refine foldl ?_ _ h
  intro x e hx
  have hd := framesDrop_hbm x.io x.st e.1 e.2.frames
  dsimp only
  generalize e.2.frames.foldl _ _ = r at hd ⊢
  exact hx.of_eq hd rfl

theorem engineStopped (e : Nat) : (d.engineStopped e).Canonical := by
  unfold Dev.engineStopped
  extract_lets d1 off
  have h1 : d1.Canonical := .ite (h.onLar fun _ => Lar.swapsEnd_cells ..) h
  clear_value d1
  split
  · exact h1
  · split
    · exact h1.onLar fun _ => rfl
    · extract_lets d2
      have h2 : d2.Canonical := h1.evict ..
      clear_value d2
      exact checkCapacity (h2.onLar fun _ => rfl)

theorem stopBlock (p : PageRef) (disabled : Bool) : (d.stopBlock p disabled).Canonical := by
  cases p with
  | outc o => exact h.outputStopped o
  | comp t => exact h.tileStopped t
  | scan t => exact h.tileStopped t
  | siev t => exact h.sieveStopped t
  | tdmp q => exact h.onTdm _
  | audm => exact h.of_eq rfl rfl
  | asrc => exact h.asrcs
  | prsm e => exact .ite (h.engineStopped e) h
  | _ => exact h

theorem disablesDone : d.disablesDone.Canonical := by
  unfold Dev.disablesDone
  refine foldl ?_ _ h
  exact fun _ _ h => h.complete ..

theorem cancelEnables (p : PageRef) : (d.cancelEnables p).Canonical := by
  unfold Dev.cancelEnables
  refine foldl ?_ _ h
  exact fun _ _ h => h.complete ..

theorem resetRegs (p : PageRef) : (d.resetRegs p).Canonical := by
  unfold Dev.resetRegs
  split
  · exact h.onIo _
  · extract_lets mine d1
    have h1 : d1.Canonical := by
      refine foldl ?_ mine h
      exact fun _ _ h => h.cancel ..
    exact h1.of_eq rfl rfl
  · exact h.onIo _

theorem closeDrain (p : PageRef) : (d.closeDrain p).Canonical := by
  unfold Dev.closeDrain
  extract_lets ctl d1
  have h1 : d1.Canonical := h.onIo _
  refine .ite (h1.onIo _) (onIo ?_ _)
  exact .ite (resetRegs (h1.onIo _) p) h1

theorem endDrain (p : PageRef) : (d.endDrain p).Canonical := by
  unfold Dev.endDrain
  extract_lets off d1 d2
  have h1 : d1.Canonical := ((h.cancelEnables p).stopBlock p off).closeDrain p
  have h2 : d2.Canonical := by
    unfold d2
    split
    · exact .ite (h1.closeDrain _) h1
    · exact h1
  exact h2.disablesDone

theorem forceDrain (p : PageRef) : (d.forceDrain p).Canonical := by
  refine endDrain ?_ p
  exact h.of_eq rfl rfl

theorem enableWrite (p : PageRef) (drain : Bool) : (d.enableWrite p drain).Canonical := by
  unfold Dev.enableWrite
  refine .ite (h.startBlock p) (.ite (.ite (h.beginDrain ..) h) ?_)
  split
  · exact h.onIo _
  · exact h.startBlock p

theorem disableWrite (p : PageRef) (reset : Bool) : (d.disableWrite p reset).Canonical := by
  unfold Dev.disableWrite
  refine .ite (h.onIo _) (.ite (h.onIo _) (.ite ?_ (.ite (h.beginDrain ..) (.ite ?_ (.ite (h.beginDrain ..) h)))))
  · exact .ite (stopIntake (h.onIo _) p) (h.onIo _)
  · extract_lets d1
    have h1 : d1.Canonical := (h.stopIntake p).onIo _
    refine disablesDone ?_
    split
    · exact h1.engineStopped _
    · exact h1

theorem disableWrites (ps : List PageRef) : (ps.foldl (fun (d : Dev) p => d.disableWrite p false) d).Canonical := by
  refine foldl ?_ ps h
  exact fun _ p h => h.disableWrite p false

theorem pageCtl (p : PageRef) (v : Word) : (d.pageCtl p v).Canonical := .ite (h.disableWrite ..) (.ite (h.enableWrite ..) (h.disableWrite ..))

theorem objectCommand {f : Cmd → Nat → Nat → Dev → Dev} (hf : ∀ c kind i, (f c kind i d).Canonical) (c : Cmd) : (objectCommand f c d).Canonical :=
  .ite (h.complete ..) (.ite (h.complete ..) (.ite (h.complete ..) (hf ..)))

theorem objectRefused (c : Cmd) (p : PageRef) (reason code : Nat) : (d.objectRefused c p reason code).Canonical := (h.onIo _).complete ..

theorem enableObject (c : Cmd) (kind i : Nat) : (enableObject c kind i d).Canonical := by
  unfold Machine.enableObject
  extract_lets pages refusal
  refine .ite (h.complete ..) ?_
  split
  · exact h.objectRefused ..
  · have h1 := h.startBlocks pages
    refine .ite (past ?_ _) (h1.complete ..)
    exact h1.of_eq rfl rfl

theorem disableObject (c : Cmd) (kind i : Nat) : (disableObject c kind i d).Canonical := by
  unfold Machine.disableObject
  extract_lets pages
  refine .ite (h.complete ..) ?_
  split
  · exact h.objectRefused ..
  · refine disablesDone (disableWrites (past ?_ _) pages)
    exact h.of_eq rfl rfl
end Canonical
end Dev
end Sys2Proof.Machine

/-! Accesses of the bus (ch. 2). -/
namespace Sys2Proof.Machine
namespace Dev
namespace Canonical

variable {d : Dev} (h : d.Canonical)
include h

theorem lutWrite (off : Nat) (v : Word) : (d.lutWrite off v).Canonical := by
  unfold Dev.lutWrite
  split
  · exact h
  · exact .ite h (.ite (h.onIo _) (.ite (h.onIo _) (h.onIo _)))

theorem quotaWrite (f r : Nat) (v : Word) : (d.quotaWrite f r v).Canonical := by
  unfold Dev.quotaWrite
  split
  · exact h
  · refine .ite (h.onIo _) (.ite (h.onIo _) ?_)
    extract_lets d1
    have h1 : d1.Canonical := h.onIo _
    refine .ite ?_ h1
    have h2 := h1.showRate f
    exact .ite (h2.of_eq rfl rfl) h2

theorem hqWrite (off : Nat) (v : Word) : (d.hqWrite off v).Canonical := .ite (h.quotaWrite ..) (.ite (h.onHq _) h)

theorem ptpWrite (off : Nat) (v : Word) : (d.ptpWrite off v).Canonical := by
  unfold Dev.ptpWrite
  refine .ite (stepped (h.onPtp _) _ _) (.ite ?_ (h.onIo _))
  extract_lets e
  have he : e.Canonical := .ite (stepped (h.onIo _) _ _) h
  exact .ite (he.onPtp _) he

theorem msecWrite (p : Fin 128) (off : Nat) (v : Word) : (d.msecWrite p off v).Canonical :=
  .ite (h.onIo _) (.ite (h.onIo _) (.ite (h.onIo _) (h.onIo _)))

theorem outcWrite (o : Fin 512) (off : Nat) (v : Word) : (d.outcWrite o off v).Canonical := .ite (h.legWrite ..) (.ite (h.onSc _) (h.onIo _))

theorem mapQuery (v : Word) : (d.onLar fun x => x.mapQuery v).Canonical := h.onLar fun _ => Lar.mapQuery_cells ..

theorem swapWrite (js : List Job) (v : Word) : (d.onLar fun x => x.swapWrite js v).Canonical := h.onLar fun _ => Lar.swapWrite_cells ..

theorem lardWrite (off : Nat) (v : Word) : (d.lardWrite off v).Canonical :=
  .ite (h.lardCtl v) (.ite (h.mapQuery v) (.ite (h.wearSel v) (.ite (h.swapWrite ..) (h.onIo _))))

theorem pwrWrite (off : Nat) (v : Word) : (d.pwrWrite off v).Canonical := .ite (h.onPower _) (.ite (h.onPower _) (h.onIo _))

theorem fwWrite (off : Nat) (v : Word) : (d.fwWrite off v).Canonical := .ite h.loadWrite (.ite (h.secCommit v) (h.onIo _))

theorem clears (p : PageRef) (off lo n : Nat) (v : Word) : (d.clears p off lo n v).Canonical := h.onIo _

theorem mapQueryWrite (v : Word) : (d.mapQueryWrite v).Canonical := h.onIo _

theorem blockWrite (p : PageRef) (off : Nat) (v : Word) : (d.blockWrite p off v).Canonical := by
  have plain := h.onIo (fun io => io.regWrite 0 p off v)
  cases p with
  | top => exact .ite (h.commitWrite v) plain
  | hq => exact h.hqWrite off v
  | evt => exact plain
  | fw => exact h.fwWrite off v
  | pcie => exact plain
  | lane l => exact h.links _
  | pcs l => exact h.links _
  | mac l => exact .ite (h.onIo _) plain
  | msec l => exact h.msecWrite l off v
  | ptp => exact h.ptpWrite off v
  | siev t => exact h.onIo _
  | rout => exact h.onIo _
  | fstr => exact .ite (h.fstrQuery v) (.ite (h.mapQueryWrite v) (.ite (h.clears ..) plain))
  | hbmc _ => exact .ite (h.clears ..) plain
  | prsm _ => exact .ite (h.clears ..) plain
  | frc e => exact .ite (h.onIo _) (.ite (h.clears ..) plain)
  | comp _ => exact .ite (h.clears ..) plain
  | scan t => exact h.onIo _
  | outc o => exact h.outcWrite o off v
  | loup => exact .ite (h.clears ..) plain
  | audm => exact .ite (h.clears ..) plain
  | asrc => exact .ite (h.clears ..) plain
  | tdmp q => exact .ite (h.onTdm _) (.ite (h.clears ..) plain)
  | thrm => exact h.onIo _
  | pwr => exact h.pwrWrite off v
  | lard => exact h.lardWrite off v
  | nvs => exact .ite (h.winCtl v) (.ite (h.clears ..) plain)
  | keys => exact .ite (h.onIo _) plain

theorem headerWrite (p : PageRef) (off : Nat) (v : Word) : (d.headerWrite p off v).Canonical :=
  .ite (h.pageCtl p v) (.ite (h.onIo _) (.ite (h.onIo _) (.ite (h.onIo _) (.ite (.ite (h.onIo _) h) (.ite (h.onIo _) h)))))

theorem window (off : Nat) (data : Option (List Byte)) (len : Nat) : (d.onNv fun x => x.window off data len).Canonical :=
  h.onNv fun x hx => hx.of_cells (x.window_cells off data len)

theorem busWrite (a : Nat) (v : Word) : (d.busWrite a v).Canonical := by
  unfold Dev.busWrite
  split
  · exact .ite (h.headerWrite ..) (h.blockWrite ..)
  · exact h.onIo _
  · exact h.window ..
  · exact h.lutWrite ..
  · exact h.onIo _
  · exact h.onIo _
  · exact h.onIo _
  all_goals exact h

theorem vfWrite (fn a : Nat) (v : Word) : (d.vfWrite fn a v).Canonical := .ite (h.onHq _) (.ite (h.onIo _) h)

theorem present (a : Nat) (live : Bool) : (d.present a live).2.Canonical := by
  unfold Dev.present
  split
  · exact h.onIo _
  · exact h

theorem snapshot (a : Nat) (live : Bool) (n : Nat) : (d.snapshot a live n).Canonical := by
  unfold Dev.snapshot
  refine foldl ?_ _ h
  exact fun _ _ h => (h.present ..).onIo _

theorem readAt (a : Nat) (live : Bool) : (d.readAt a live).2.Canonical := by
  unfold Dev.readAt
  split
  · exact (h.snapshot ..).present ..
  · split
    · exact h
    · exact h.present ..
  · exact h.present ..

omit h in
theorem answer {r : Word × Dev} (hr : r.2.Canonical) : (d.answer r).Canonical := hr.onIo _

theorem busRead (a : Nat) : (d.busRead a).Canonical := by
  unfold Dev.busRead
  split
  · exact h.window ..
  · exact .ite (h.onIo _) (answer (h.readAt ..))

theorem vfPageWord (fn off : Nat) : (d.vfPageWord fn off).2.Canonical := by
  unfold Dev.vfPageWord
  (repeat' split)
  · exact h
  · exact h
  · exact h.onIo _
  · exact h
  · exact h.readAt ..
  · exact h

theorem vfRead (fn a : Nat) : (d.vfRead fn a).Canonical :=
  .ite (answer (h.vfPageWord ..)) (.ite (answer (h.readAt ..)) (.ite (answer (h.readAt ..)) (.ite (.ite (answer (h.readAt ..)) (answer h)) (answer h))))

/-! Failures of engines and of memories (ch. 17). -/

theorem withhold (l o : Nat) : (d.withhold l o).Canonical := by
  unfold Dev.withhold
  split
  · exact h
  · split
    · exact h
    · dsimp only
      refine foldl ?_ _ h
      intro x _ hx
      split
      · exact (hx.setOut ..).onIo _
      · exact hx

theorem engineFails (e : Nat) : (d.engineFails e).Canonical := by
  unfold Dev.engineFails
  have hc := Lar.engineFailed_cells { io := d.io, ld := d.lard, nv := d.nvs } d.sc.jobs e
  split
  next x hit lost he =>
  rw [he] at hc
  have hx : (d.onLar fun _ => x).Canonical := by
    unfold Dev.onLar
    extract_lets y e'
    have h' : e'.Canonical := h.of_eq rfl hc
    exact .ite h' (h'.onNv fun _ => Nv.Canonical.run)
  extract_lets d1
  have h1 : d1.Canonical := by
    unfold d1
    split
    · refine foldl ?_ _ hx
      exact fun _ _ h => h.withhold ..
    · exact hx
  split
  · exact (h1.evict ..).checkCapacity
  · exact h1

theorem planeLost (o layer : Nat) : (d.planeLost o layer).Canonical := by
  unfold Dev.planeLost
  split
  · exact h
  · extract_lets n xs flat y _ sc io _ d1
    have h1 : d1.Canonical := h.of_eq rfl rfl
    split
    · exact h1
    · exact .ite (h1.of_eq rfl rfl) h1

theorem packetLost (f : Nat) : (d.packetLost f).Canonical := by
  unfold Dev.packetLost
  extract_lets d1
  have h1 : d1.Canonical := h.onSv _
  split
  · exact h1
  · exact h1.of_eq rfl rfl

theorem coreFails (k : Nat) : (d.onLar fun x => x.coreFails k).Canonical := h.onLar fun _ => Lar.coreFails_cells ..

theorem sramError (site : SramSite) : (d.sramError site).Canonical := by
  have h1 := h.onIo (fun io => io.recordOpen .lard 0x1014)
  cases site with
  | line e => exact h1.engineFails e
  | stockpot o l => exact h1.planeLost o l
  | packet f => exact h1.packetLost f
  | table _ => exact h1
  | core k => exact h1.coreFails k
  | audio ch back => exact h1.of_eq rfl rfl

theorem retiredTested (e : Nat) (pass : Bool) : (d.retiredTested e pass).Canonical := by
  unfold Dev.retiredTested
  refine .ite h ?_
  extract_lets d1
  have h1 : d1.Canonical := h.onLar fun _ => Lar.retiredDone_cells ..
  refine foldl ?_ _ h1
  exact fun _ _ h => h.complete ..

/-! Shadow commands (ch. 3). -/

theorem shadowWriteCommand (c : Cmd) : (shadowWriteCommand c d).Canonical := by
  unfold Machine.shadowWriteCommand
  extract_lets kind n i
  refine .ite (h.complete ..) (.ite (h.complete ..) ?_)
  split
  · exact h.complete ..
  · exact (h.onIo _).complete ..

theorem objectRead (kind i off : Nat) (live : Bool) : (d.objectRead kind i off live).2.Canonical := by
  unfold Dev.objectRead
  split
  · exact h.readAt ..
  · exact h.readAt ..

theorem shadowReadCommand (c : Cmd) : (shadowReadCommand c d).Canonical := by
  unfold Machine.shadowReadCommand
  extract_lets kind i off
  exact .ite (h.complete ..) (.ite (h.complete ..) ((h.objectRead ..).complete ..))
end Canonical
end Dev
end Sys2Proof.Machine

/-! What a command asks of the part. -/
namespace Sys2Proof.Machine
namespace Dev
namespace Canonical

variable {d : Dev} (h : d.Canonical)
include h

theorem drainEnds (r : DrainRef) : (d.drainEnds r).Canonical := by
  cases r with
  | page p => exact .ite (h.endDrain p) h
  | pair q tags => exact .ite (h.onHq _) h

theorem drainForced (r : DrainRef) : (d.drainForced r).Canonical := by
  cases r with
  | page p => exact .ite (h.forceDrain p) h
  | pair q tags => exact .ite (onHq (h.onIo _) _) h

theorem timedOut (q tag : Nat) :
    (match d.hq.cmd q tag with
     | some c => if c.past ∨ d.io.up < c.since + c.timeout ∨ d.io.halted then d else d.cancel c.q c.tag 6
     | none => d).Canonical := by
  split
  · exact .ite h (h.cancel ..)
  · exact h

theorem apRead (bad : Option HbmError) (f : Dev → Io → Io) :
    (let e := match bad with
       | some e => d.hbmError e
       | none => d
     e.onIo (f e)).Canonical := by
  cases bad with
  | none => exact h.onIo _
  | some e => exact (h.hbmError e).onIo _

theorem loupeResult (o : Fin 512) (r : Fin 8) :
    (match d.outRt o with
     | some rt => d.onSc (fun io sc => Machine.loupeResult o r (rt.clock io) io sc)
     | none => d).Canonical := by
  split
  · exact h.onSc _
  · exact h

theorem estimated (o : Fin 512) (l : Fin 4096) :
    (match d.outRt o with
     | some r => { d with sc := Machine.estimated o l d.io d.st d.sc (r.tm.instantOf (r.frame + 1) 0) }
     | none => d).Canonical := by
  split
  · exact h.of_eq rfl rfl
  · exact h

theorem pchLost (k : Fin 4) (c : Fin 32) : (d.onSt (Machine.pchLost k c)).Canonical :=
  h.onSt fun io st hw => Stores.wf_of_hbm hw (pchLost_hbm io st k c)

theorem scrubbed (es : List HbmError) (f : Io → Io) : ((es.foldl (fun (d : Dev) e => d.hbmError e) d).onIo f).Canonical :=
  (h.hbmErrors es).onIo f
end Canonical
end Dev
end Sys2Proof.Machine

/-! Every command, and every step (R91, R212, R441). -/
namespace Sys2Proof.Machine
namespace Dev

/-- A command that ends keeps the part canonical. -/
def KeepsCanonical (r : Host.Outcome State Fault Refusal) : Prop := ∀ t, r = .next t → t.dev.Canonical

namespace KeepsCanonical

variable {s : State} {f : Dev → Dev}

theorem run (h : (f s.dev).Canonical) : KeepsCanonical (s.run f) := by
  rintro _ ⟨⟩
  exact h

theorem settled (h : (f s.dev).Canonical) : KeepsCanonical (s.settled f) := run h.settle

theorem runIf {ok : Bool} (h : (f s.dev).Canonical) : KeepsCanonical (s.runIf ok f) := by
  unfold State.runIf
  split
  · exact run h
  · rintro _ ⟨⟩

/-- Every command keeps HBM and the cells canonical; the commands that the last alternative answers touch neither. -/
theorem exec (c : Instr) {s : State} (h : s.dev.Canonical) : KeepsCanonical (exec c s) := by
  have hs : ∀ dt, (s.dev.tick dt).Canonical := h.tick
  unfold Machine.exec
  cases c with
  | partnerArrived l dt => exact run ((hs dt).links _)
  | partnerDeparted l dt => exact run ((hs dt).links _)
  | pcsStagePass p ob dt => exact run ((hs dt).links _)
  | stageTimeout p ob dt => exact run ((hs dt).links _)
  | cdrLockLost p dt => exact run ((hs dt).links _)
  | blockLockLoss p dt => exact run ((hs dt).links _)
  | amLockLoss p dt => exact run ((hs dt).links _)
  | fecLoss p dt => exact run ((hs dt).links _)
  | pllLockLost q dt => exact run ((hs dt).links _)
  | sparePllResume q dt => exact run ((hs dt).spareResume q)
  | laneRefLost k dt => exact run ((hs dt).links _)
  | laneEqRestart l => exact run (h.links _)
  | txSleep l on => exact run (h.links _)
  | rxSleep l on => exact run (h.links _)
  | wakeDone l rx dt => exact run ((hs dt).links _)
  | pcsAnRestart p => exact run (h.links _)
  | ptpMessage p m dt => exact run (((hs dt).onPtp _).stepped ..)
  | ppsPulse dt => exact run (((hs dt).onPtp _).stepped ..)
  | ptpSet => exact run ((h.onIo _).stepped ..)
  | ptpSourceWrite v => exact run ((h.onPtp _).stepped ..)
  | powerOnReset => exact run (.resetAs h.2 0)
  | perstAssert => exact run (.resetAs h.2 1)
  | hotReset => exact run (.ite h (.resetAs h.2 2))
  | pf0Flr => exact run (.ite (.resetAs h.2 3) h)
  | vfFlr fn => exact settled (h.vfReset fn)
  | bootRomStart mv e dt => exact run ((hs dt).bootRom mv e)
  | pcieLinkUp dt => exact run (hs dt).linkUp
  | hbmTrainingDone failed dt => exact run ((hs dt).hbmTrained failed)
  | fwLoad => exact run (.ite h.loadWrite (h.onIo _))
  | cmdFwLoad q tag => exact run (h.command _ _ _ fun c _ h => h.fwLoadCommand c)
  | fwImageFetched image dt => exact run ((hs dt).imageFetched image)
  | fwVerifyDone dt => exact run (hs dt).verified
  | fwSecCommit v => exact run (.ite (h.secCommit v) (h.onIo _))
  | worideStart dt => exact run (hs dt).worideStart
  | spareSelfTestDone failed dt => exact run ((hs dt).sparesTested failed)
  | fwTileUp t dt => exact run ((hs dt).tileUp t)
  | activeSelfTestDone t failed dt => exact run ((hs dt).activeTested t failed)
  | fwReady dt => exact run (hs dt).fwReady
  | fwHeartbeatTick dt => exact run (hs dt).heartbeat
  | fwHeartbeatLost dt => exact run (hs dt).heartbeatLost
  | fuseBlowDone dt => exact run (hs dt).fuseBlown
  | thermalEvaluate xs dt => exact runIf ((hs dt).evaluate xs)
  | levelDown dt => exact run (((hs dt).onTherm _).levelMoved _)
  | thrmHardTrip late dt => exact run ((hs dt).hardTrip late)
  | domainOn k dt => exact run (((hs dt).onPower _).onLar Lar.show_cells)
  | domainOff k dt => exact run (((hs dt).onPower _).onLar Lar.show_cells)
  | lardSwap v => exact run (h.swapWrite _ v)
  | istStep dt => exact run ((hs dt).onLar fun _ => Lar.istStep_cells ..)
  | istNow => exact run (h.lardCtl _)
  | istTestDone e pass dt => exact run ((hs dt).onLar fun _ => Lar.testDone_cells ..)
  | coreTakeover k dt => exact run ((hs dt).coreFails k)
  | sramRepaired a dt => exact run ((hs dt).onLar fun _ => Lar.sramRepaired_cells ..)
  | pktbufRepaired a dt => exact run ((hs dt).onLar fun _ => Lar.pktRepaired_cells ..)
  | mapWriteFail dt => exact run ((hs dt).onLar Lar.mapWriteFails_cells)
  | wearHourTick dt => exact run ((hs dt).onLar Lar.wearHour_cells)
  | lardMapQuery v => exact run (h.mapQuery v)
  | lardWearSel v => exact run (h.wearSel v)
  | nvPageWriteDone replaced dt => exact run ((hs dt).pageWritten replaced)
  | nvWindowWrite off bytes => exact runIf (h.window ..)
  | nvWindowRead off len => exact runIf (h.window ..)
  | nvsFlush => exact run (h.winCtl _)
  | nvWindowIdle dt => exact run ((hs dt).onNv fun x hx => hx.of_cells x.idle_cells)
  | nvsWinTimeout dt => exact run ((hs dt).onNv fun x hx => hx.of_cells x.winTimeout_cells)
  | nvsScrub fs dt => exact run ((hs dt).scrubNv _)
  | powerLoss mv holdup dt => exact run ((hs dt).onNv fun _ => Nv.Canonical.powerLoss mv holdup)
  | cmdNvRead q tag => exact run (h.command _ _ _ fun c _ h => h.nvReadCommand c)
  | cmdNvWrite q tag data => exact runIf (h.command _ _ _ fun c _ h => h.nvWriteCommand data c)
  | cmdKeyWrite q tag => exact run (h.command _ _ _ fun c _ h => h.keyWriteCommand c)
  | cmdLifecycle q tag => exact run (h.command _ _ _ fun c _ h => h.lifecycleCommand c)
  | commandFetch q entry dt => exact runIf (.ite ((hs dt).onHq _) (hs dt))
  | commandTimeout q tag dt => exact settled ((hs dt).timedOut q tag.toNat)
  | cmdNop q tag => exact run (h.command _ _ _ fun _ _ h => h.complete ..)
  | cmdAbort q tag => exact settled (h.command _ _ _ fun c _ h => h.abortCommand c)
  | cmdFsAlloc q tag => exact run (h.command _ _ _ fun c _ h => h.allocCommand c)
  | cmdFree q tag => exact run (h.command _ _ _ fun c _ h => h.freeCommand c)
  | cmdFsMap q tag => exact run (h.command _ _ _ fun c _ h => h.mapCommand c)
  | cmdFence q tag => exact settled (h.command _ _ _ fun c _ h => h.fenceCommand c)
  | apWrite fn addr bytes => exact runIf (h.onSt fun io _ hw => apWrite_wf io fn addr bytes hw)
  | apRead fn addr len bad => exact runIf (h.apRead bad fun d io => io.emit (.readBytes (d.st.apBytes fn addr len) (d.st.apPoisoned fn addr len)))
  | fstrQuery v => exact run (h.fstrQuery v)
  | fstrMapQuery v => exact run (h.mapQueryWrite v)
  | hbmScrub k errs dt => exact run (.ite ((hs dt).scrubbed _ _) (hs dt))
  | pchLost k c dt => exact run (.ite ((hs dt).pchLost k c).checkCapacity (hs dt))
  | refresh2x k celsius dt => exact run (.ite ((hs dt).onIo _) (hs dt))
  | audioSample ch dt => exact settled ((hs dt).onAud _)
  | zcTimeout ch dt => exact settled ((hs dt).onAud _).asrcs
  | tdmFrameSync p off din dt => exact runIf ((hs dt).onSound _).settle
  | tdmpRestart p => exact settled (h.onTdm _)
  | clockLost p cause dt => exact settled ((hs dt).onSound _)
  | clockRestored p dt => exact settled ((hs dt).onTdm _)
  | tdmRateMeasure p ppm hz dt => exact settled ((hs dt).onSound _)
  | slotZcTimeout p tx slot dt => exact settled ((hs dt).onTdm _)
  | macRxFrame p bytes trunc phy dt => exact settled ((hs dt).frame p bytes trunc phy)
  | frameDiscard f dt => exact settled ((hs dt).discardFrames f)
  | mirrorSeqLost f dt => exact settled ((hs dt).seqLost f)
  | legLost f legB dt => exact run (.ite (.watching ((hs dt).onSv _)) (hs dt))
  | cmdFlowClaim q tag => exact run (h.command _ _ _ fun c _ h => h.claimCommand c)
  | cmdFlowRelease q tag => exact settled (h.command _ _ _ fun c _ h => h.releaseCommand c)
  | fpHoldTimeout e dt => exact run ((hs dt).of_eq rfl rfl)
  | fpRevert e dt => exact run ((hs dt).of_eq rfl rfl)
  | rasterLine o late bad dt => exact settled ((hs dt).rasterLine ..)
  | loupeResult o r dt => exact run ((hs dt).loupeResult o r)
  | htxSend t slot dt => exact runIf ((hs dt).onSc _)
  | estimationDone o l dt => exact settled ((hs dt).estimated o l)
  | commitGo => exact run (h.commitWrite 1)
  | commitSalvo => exact run (h.commitWrite 3)
  | commitDryRun salvo => exact run (h.commitWrite _)
  | legUpdate o v => exact run (h.legWrite o v)
  | cmdCommit q tag => exact run (h.command _ _ _ fun c _ h => h.commitCommand c)
  | commitValidationEnd dt => exact settled (hs dt).validationEnds
  | salvoActivation dt => exact settled (hs dt).salvosDue
  | audioChangePoint ch dt => exact settled ((hs dt).salvosDue.onAud _).asrcs
  | fpSwitch e dt => exact settled ((hs dt).fastSwitch e)
  | latchLine o dt => exact settled ((hs dt).latchLine o)
  | frameBoundary o dt => exact settled ((hs dt).frameBoundary o)
  | cmdLayerAlloc q tag => exact run (h.command _ _ _ fun c _ h => h.layerAllocCommand c)
  | cmdLayerFree q tag => exact settled (h.command _ _ _ fun c _ h => h.layerFreeCommand c)
  | cmdSetOwner q tag => exact run (h.command _ _ _ fun c _ h => h.setOwnerCommand c)
  | pageEnable p => exact settled (h.pageCtl p 1)
  | pageDisable p => exact settled (h.pageCtl p 0)
  | pageDrain p => exact settled (h.pageCtl p _)
  | pageReset p => exact settled (h.pageCtl p 4)
  | drainEnd r dt => exact settled ((hs dt).drainEnds r)
  | drainForced r dt => exact settled ((hs dt).drainForced r)
  | cmdEnable q tag => exact settled (h.command _ _ _ fun c _ h => h.objectCommand (fun c k i => h.enableObject c k i) c)
  | cmdDisable q tag => exact settled (h.command _ _ _ fun c _ h => h.objectCommand (fun c k i => h.disableObject c k i) c)
  | regWrite fn addr v => exact settled (.ite h (.ite (h.busWrite ..) (h.vfWrite ..)))
  | coherentSnapshotRead fn addr => exact run (.ite (.answer h) (.ite (h.busRead _) (h.vfRead ..)))
  | engineFailed e dt => exact settled ((hs dt).engineFails e)
  | sramUncorr site dt => exact settled ((hs dt).sramError site)
  | retiredEngineTestDone e pass dt => exact run ((hs dt).retiredTested e pass)
  | cmdShadowWrite q tag => exact run (h.command _ _ _ fun c _ h => h.shadowWriteCommand c)
  | cmdShadowRead q tag => exact run (h.command _ _ _ fun c _ h => h.shadowReadCommand c)
  | _ => exact run (h.of_eq rfl rfl)

end KeepsCanonical
end Dev

/-- Every step keeps the addressed memories canonical. -/
theorem step_keeps_safe {s t : State} (h : s.Safe) (hst : step s = .next t) : t.Safe := by
  unfold step at hst
  split at hst
  · obtain rfl := Host.Outcome.next.inj hst
    exact h
  · next c rest _ => exact Dev.KeepsCanonical.exec c (s := { s with pending := rest }) h t hst

/-- Settles O6: the bytes of HBM change only by `Stores.write` and with a store that is retired, the cells only by `Nvs.program`; each keeps the canonical form,
and every other operation leaves both as they are. -/
theorem memoriesStayCanonical : Obligations.MemoriesStayCanonical := by
  unfold Obligations.MemoriesStayCanonical
  exact fun _ _ h hst => step_keeps_safe h hst

end Sys2Proof.Machine

/-! Resets (R83, R89, R90): what a device-level reset leaves, and that what a function-level reset stops stays stopped while references retire. -/
namespace Sys2Proof.Machine

/-! Device-level resets. -/

/-- The registers that a device-level reset leaves: at their reset values, but for what the trip log keeps and the cause (R89, R90). -/
def Dev.clearedIo (d : Dev) (cause : Nat) : Io :=
  let io := { Io.reset with up := if cause = 0 then 0 else d.io.up, freeCtr := d.io.freeCtr, out := d.io.out }
  let io := if cause = 0 then io else io.put .thrm Reg.THRM_TRIP_LOG (d.io.reg .thrm Reg.THRM_TRIP_LOG)
  io.put .fw Reg.FW_RESET_CAUSE (Word.of cause)

/-- The pins that a reset drives are no registers. -/
theorem Dev.resetAs_io (d : Dev) (cause : Nat) : (d.resetAs cause).io.regs = (d.clearedIo cause).regs ∧ (d.resetAs cause).io.up = (d.clearedIo cause).up
    ∧ (d.resetAs cause).io.shadow = (d.clearedIo cause).shadow := by
  unfold Dev.resetAs Dev.clearedIo
  simp only [decide_eq_true_eq]
  split_ifs <;> exact ⟨rfl, rfl, rfl⟩

theorem Dev.resetAs_rd (d : Dev) (cause a : Nat) : (d.resetAs cause).io.rd a = (d.clearedIo cause).rd a := by
  rw [Io.rd, (d.resetAs_io cause).1]
  rfl

section
variable (d : Dev) (cause : Nat)

theorem Dev.resetAs_cause : (d.resetAs cause).io.reg .fw Reg.FW_RESET_CAUSE = Word.of cause :=
  (d.resetAs_rd cause _).trans (Io.reg_put_self _ _ _ _)

theorem Dev.resetAs_up : (d.resetAs cause).io.up = if cause = 0 then 0 else d.io.up := by
  rw [(d.resetAs_io cause).2.1, Dev.clearedIo]
  split <;> rfl

theorem Dev.resetAs_tripLog :
    (d.resetAs cause).io.reg .thrm Reg.THRM_TRIP_LOG = if cause = 0 then 0 else d.io.reg .thrm Reg.THRM_TRIP_LOG := by
  refine (d.resetAs_rd cause _).trans ?_
  show (d.clearedIo cause).reg .thrm Reg.THRM_TRIP_LOG = _
  rw [Dev.clearedIo, Io.reg_put_page _ _ (by decide) (by decide) (by decide)]
  split
  · show resetVal (regAddr .thrm Reg.THRM_TRIP_LOG) = 0
    decide
  · exact Io.reg_put_self _ _ _ _

theorem Dev.resetAs_regs {a : Nat} (hc : a ≠ regAddr .fw Reg.FW_RESET_CAUSE) (ht : a ≠ regAddr .thrm Reg.THRM_TRIP_LOG) :
    (d.resetAs cause).io.rd a = resetVal a := by
  rw [Dev.resetAs_rd, Dev.clearedIo, Io.put, Io.rd_wr_ne _ _ hc]
  split
  · rfl
  · exact Io.rd_wr_ne _ _ ht

theorem Dev.resetAs_shadow : (d.resetAs cause).io.shadow = [] := by
  rw [(d.resetAs_io cause).2.2, Dev.clearedIo]
  split <;> rfl

/-- A reset empties what waits in the store, and cuts no page write that does not run (R443). -/
theorem Dev.resetAs_store : (d.resetAs cause).nvs.jobs = [] ∧ (d.resetAs cause).nvs.running = none
    ∧ (d.nvs.running = none → (d.resetAs cause).nvs.cells = d.nvs.cells) := by
  have hcells : d.nvs.running = none → d.nvs.afterReset.cells = d.nvs.cells := fun h => by simp only [Nvs.afterReset, h]
  by_cases h : cause = 0 <;> simpa [Dev.resetAs, h, Nvs.afterReset] using hcells

theorem Dev.resetAs_wiped : Dev.wiped cause d (d.resetAs cause) := by
  obtain ⟨hjobs, hrunning, hcells⟩ := d.resetAs_store cause
  exact ⟨d.resetAs_cause cause, fun _ => d.resetAs_regs cause, d.resetAs_shadow cause, rfl, rfl, rfl, rfl, rfl, hjobs, hrunning, hcells, rfl, rfl, rfl, rfl⟩

end

theorem runs_powerOnReset (s : State) : Runs .powerOnReset s fun d d' =>
    Dev.wiped 0 d d' ∧ d'.io.reg .thrm Reg.THRM_TRIP_LOG = 0 ∧ d'.io.up = 0 ∧ d'.boot.inReset = true :=
  Runs.intro (f := fun d => d.resetAs 0) rfl ⟨Dev.resetAs_wiped _ 0, Dev.resetAs_tripLog _ 0, Dev.resetAs_up _ 0, rfl⟩

theorem runs_perstAssert (s : State) : Runs .perstAssert s fun d d' =>
    Dev.wiped 1 d d' ∧ d'.io.reg .thrm Reg.THRM_TRIP_LOG = d.io.reg .thrm Reg.THRM_TRIP_LOG ∧ d'.io.up = d.io.up ∧ d'.boot.inReset = true :=
  Runs.intro (f := fun d => d.resetAs 1) rfl ⟨Dev.resetAs_wiped _ 1, Dev.resetAs_tripLog _ 1, Dev.resetAs_up _ 1, rfl⟩

theorem runs_hotReset {s : State} (h : s.dev.boot.inReset = false) : Runs .hotReset s fun d d' =>
    Dev.wiped 2 d d' ∧ d'.io.reg .thrm Reg.THRM_TRIP_LOG = d.io.reg .thrm Reg.THRM_TRIP_LOG ∧ d'.boot.inReset = true := by
  refine Runs.intro (f := fun d => if d.boot.inReset then d else d.resetAs 2) rfl ?_
  rw [if_neg (by simp [h])]
  exact ⟨Dev.resetAs_wiped _ 2, Dev.resetAs_tripLog _ 2, rfl⟩

theorem runs_pf0Flr {s : State} (h : s.dev.boot.link = true) : Runs .pf0Flr s fun d d' =>
    Dev.wiped 3 d d' ∧ d'.io.reg .thrm Reg.THRM_TRIP_LOG = d.io.reg .thrm Reg.THRM_TRIP_LOG ∧ d'.boot.inReset = false := by
  refine Runs.intro (f := fun d => if d.boot.link then d.resetAs 3 else d) rfl ?_
  rw [if_pos h]
  exact ⟨Dev.resetAs_wiped _ 3, Dev.resetAs_tripLog _ 3, rfl⟩

/-! What settling keeps. -/

/-- A property that completions, frees and the counts of commits keep, settling keeps. -/
theorem Dev.settle_preserves {P : Dev → Prop} (hcom : ∀ d com, P d → P { d with com := com }) (hreply : ∀ d src r, P d → P (d.reply src r))
    (hshow : ∀ d, P d → P d.showPend) (hfree : ∀ d, P d → P d.freeSlots) (hretire : ∀ d i x, P d → P (d.retire i x true)) {d : Dev} (h : P d) :
    P d.settle := by
  refine foldl_keeps (fun d (e : Nat × Store) => d.retire e.1 e.2 true) (fun d e => hretire d e.1 e.2) _ d.finishCommits.freeSlots (hfree _ ?_)
  rw [Dev.finishCommits_eq]
  split
  · exact h
  · exact hshow _ (foldl_keeps _ (fun d (p : Pend) => hreply d p.src p.reply) _ _ (hcom _ _ h))

/-! Pairs that are off (R60). -/

theorem qpReg_apart {a b : Nat} (ha : a < 0x40) (hb : b < 0x40) (h : a ≠ b) (p q : Nat) : qpReg p a ≠ qpReg q b := by
  simp only [qpReg]
  omega

section
variable (io : Io) (p q : Nat)

@[simp] theorem Io.qpOn_setQp {off : Nat} (v : Nat) (ho : off < 0x40) (h : off ≠ Reg.HQ_QP_CFG) : (io.setQp p off v).qpOn q = io.qpOn q :=
  congrArg (bit · 0) (Io.reg_put_off _ _ (qpReg_apart (by decide) ho h.symm q p))

@[simp] theorem Io.qpOn_setFn (f v : Nat) {off : Nat} (h : off < 0x80) : (io.setFn f off v).qpOn q = io.qpOn q := by
  unfold Io.setFn
  split
  · rfl
  · refine congrArg (bit · 0) (Io.reg_put_off _ _ ?_)
    simp only [qpReg, fnReg]
    omega

@[simp] theorem Io.qpOn_showFlight (hq : Queues) : (io.showFlight hq p).qpOn q = io.qpOn q := by
  rw [Io.showFlight, Io.qpOn_setFn _ _ _ _ (by decide), Io.qpOn_setQp _ _ _ _ (by decide) (by decide)]

theorem Io.qpOn_put (page : PageRef) {off : Nat} (v : Word) (h : off < pageSpan page) (hp : page ≠ .hq) : (io.put page off v).qpOn q = io.qpOn q :=
  congrArg (bit · 0) (Io.reg_put_page _ _ h (qpReg_lt q (by decide)) hp.symm)

@[simp] theorem Io.qpOn_raise (page : PageRef) (b : Nat) : (io.raise page b).qpOn q = io.qpOn q :=
  congrArg (bit · 0) (Io.reg_raise _ _ (qpReg_lt q (by decide)) (by simp) (.inr (by simp only [qpReg, Reg.EVT_PEND]; omega)))

end

theorem Queues.draining_setPair {hq : Queues} {q : Nat} (p : PairRt) (x : Nat) (h : p.draining = (hq.pair q).draining) :
    ((hq.setPair q p).pair x).draining = (hq.pair x).draining := by
  by_cases hx : x = q
  · rw [hx, Queues.pair_setPair_self, h]
  · rw [Queues.pair, Queues.setPair, FMap.find_insert_ne _ _ hx]
    rfl

/-- A pair is on in both or in neither, drains in both or in neither, and the commands are among those of before. -/
structure PairsKept (io : Io) (hq : Queues) (r : Io × Queues) : Prop where
  on : ∀ q, r.1.qpOn q = io.qpOn q
  draining : ∀ q, (r.2.pair q).draining = (hq.pair q).draining
  cmds : ∀ c ∈ r.2.cmds, c ∈ hq.cmds

theorem PairsKept.pairMessage (q : Nat) (io : Io) (hq : Queues) : PairsKept io hq (pairMessage q io hq) := by
  refine ⟨fun p => congrArg (bit · 0) (pairMessage_qp q p _ io hq), fun p => ?_, fun c hc => by rwa [pairMessage_cmds] at hc⟩
  obtain h | ⟨vec, h⟩ := pairMessage_cases q io hq <;> rw [h]
  exact Queues.draining_setPair _ p rfl

theorem PairsKept.writeEntry (q tag status code hi lo : Nat) (io : Io) (hq : Queues) : PairsKept io hq (writeEntry q tag status code hi lo io hq) := by
  unfold Machine.writeEntry
  extract_lets _ t w0 io₁ n io₂ hq₁
  obtain ⟨hon, hdraining, hcmds⟩ := PairsKept.pairMessage q io₂ hq₁
  exact ⟨fun p => (hon p).trans (Io.qpOn_setQp _ _ _ _ (by decide) (by decide)), fun p => (hdraining p).trans (Queues.draining_setPair _ p rfl), hcmds⟩

theorem PairsKept.complete (q tag : Nat) (r : Reply) (io : Io) (hq : Queues) : PairsKept io hq (complete q tag r io hq) := by
  unfold Machine.complete
  split
  · exact ⟨fun _ => rfl, fun _ => rfl, fun _ hc => hc⟩
  · extract_lets hq₁ io₁
    have shown : ∀ p, io₁.qpOn p = io.qpOn p := fun p => Io.qpOn_showFlight io q p hq₁
    have fewer : ∀ c ∈ hq₁.cmds, c ∈ hq.cmds := fun _ hc => (List.mem_filter.1 hc).1
    split
    · exact ⟨shown, fun _ => rfl, fewer⟩
    · obtain ⟨hon, hdraining, hcmds⟩ := PairsKept.writeEntry q tag r.status r.code r.hi r.lo io₁ hq₁
      exact ⟨fun p => (hon p).trans (shown p), hdraining, fun c hc => fewer c (hcmds c hc)⟩

/-! Entries of a map. -/

theorem FMap.mem_of_erase {α : Type} {m : FMap α} {a : Nat} {e : Nat × α} (h : e ∈ FMap.erase m a) : e ∈ m := by
  induction m with
  | nil => exact h
  | cons x m ih =>
    simp only [FMap.erase] at h
    split at h
    · exact List.mem_cons_of_mem _ h
    · exact (List.mem_cons.1 h).elim (fun he => he ▸ List.mem_cons_self) (fun he => List.mem_cons_of_mem _ (ih he))

theorem FMap.mem_insert {α : Type} {m : FMap α} {a : Nat} {v : α} {e : Nat × α} (h : e ∈ FMap.insert m a v) : e = (a, v) ∨ e ∈ m := by
  induction m with
  | nil => exact .inl (List.mem_singleton.1 h)
  | cons x m ih =>
    simp only [FMap.insert] at h
    grind

/-! A function that has been reset (R83). -/

theorem Io.qpOn_shown (io : Io) (q n : Nat) (b : Bool) :
    ((io.put .top Reg.TOP_COMMIT_PEND (Word.of n)).setFlag .top Reg.TOP_COMMIT_STAT 3 b).qpOn q = io.qpOn q :=
  (Io.qpOn_put _ _ _ _ (by decide) (by decide)).trans (Io.qpOn_put _ _ _ _ (by decide) (by decide))

theorem Io.qpOn_setFree_ (io : Io) (q n : Nat) : (io.setFree_ n).qpOn q = io.qpOn q := by
  unfold Io.setFree_
  extract_lets old low io₁
  have hput : io₁.qpOn q = io.qpOn q := Io.qpOn_put _ _ _ _ (by decide) (by decide)
  split
  · rw [Io.qpOn_raise, hput]
  · exact hput

theorem Stores.toFree_pins (st : Stores) (i k : Nat) {P : List (Nat × Nat) → Prop} (h : ∀ e ∈ st.table, P e.2.pins) :
    ∀ e ∈ (st.toFree i k).table, P e.2.pins := by
  unfold Stores.toFree Stores.modify
  dsimp only
  split
  · next s hs =>
    intro e he
    rcases FMap.mem_insert he with rfl | he
    · exact h (i, s) (FMap.mem_of_find hs)
    · exact h e he
  · exact h

/-- Nothing of the function runs: its pairs are off and none drains, its commands finish silently, and no store is pinned for it. -/
structure Dev.FnStopped (fn : Nat) (d : Dev) : Prop where
  off : ∀ k < 4, d.io.qpOn (qOf fn k) = false
  still : ∀ k < 4, (d.hq.pair (qOf fn k)).draining = false
  cmds : ∀ c ∈ d.hq.cmds, c.fn = fn → c.past = true ∧ c.silent = true
  pins : ∀ e ∈ d.st.table, ∀ p ∈ e.2.pins, p.1 ≠ fn

namespace Dev.FnStopped
variable {fn : Nat} {d : Dev} (h : d.FnStopped fn)
include h

theorem reply (src : Option (Nat × Nat)) (r : Reply) : (d.reply src r).FnStopped fn := by
  cases src with
  | none => exact h
  | some x =>
    obtain ⟨hon, hdraining, hcmds⟩ := PairsKept.complete x.1 x.2 r d.io d.hq
    exact ⟨fun k hk => (hon _).trans (h.off k hk), fun k hk => (hdraining _).trans (h.still k hk), fun c hc => h.cmds c (hcmds c hc), h.pins⟩

theorem showPend : d.showPend.FnStopped fn := by
  unfold Dev.showPend
  extract_lets n
  split
  · exact h
  · exact ⟨fun k hk => (Io.qpOn_shown _ _ _ _).trans (h.off k hk), h.still, h.cmds, h.pins⟩

theorem freeSlots : d.freeSlots.FnStopped fn := by
  refine ⟨h.off, h.still, h.cmds, ?_⟩
  unfold Dev.freeSlots
  exact foldl_keeps (P := fun st : Stores => ∀ e ∈ st.table, ∀ p ∈ e.2.pins, p.1 ≠ fn) _
    (fun st g hst => st.toFree_pins _ _ (P := fun pins : List (Nat × Nat) => ∀ p ∈ pins, p.1 ≠ fn) hst) _ _ h.pins

theorem retire (i : Nat) (x : Store) : (d.retire i x true).FnStopped fn := by
  unfold Dev.retire
  extract_lets _ st bad io₁ io₂ io₃ io₄
  have hpins : ∀ e ∈ st.table, ∀ p ∈ e.2.pins, p.1 ≠ fn := fun e he => h.pins e (FMap.mem_of_erase he)
  refine FnStopped.reply (d := { d with io := io₄, st := st }) ⟨?_, h.still, h.cmds, hpins⟩ _ _
  intro k hk
  have hio₃ : io₃.qpOn (qOf fn k) = d.io.qpOn (qOf fn k) :=
    calc io₃.qpOn (qOf fn k)
      _ = (io₂.showHandles st).qpOn (qOf fn k) := Io.qpOn_setFn _ _ _ _ (by decide)
      _ = io₂.qpOn (qOf fn k) := Io.qpOn_put _ _ _ _ (by decide) (by decide)
      _ = io₁.qpOn (qOf fn k) := Io.qpOn_setFree_ _ _ _
      _ = d.io.qpOn (qOf fn k) := Io.qpOn_put _ _ _ _ (by decide) (by decide)
  have hio₄ : io₄.qpOn (qOf fn k) = io₃.qpOn (qOf fn k) := Io.qpOn_raise _ _ _ _
  exact (hio₄.trans hio₃).trans (h.off k hk)

theorem showValidating : d.showValidating.FnStopped fn :=
  ⟨fun k hk => (Io.qpOn_put _ _ _ _ (by decide) (by decide)).trans (h.off k hk), h.still, h.cmds, h.pins⟩

theorem settle : d.settle.FnStopped fn :=
  Dev.settle_preserves (P := Dev.FnStopped fn) (fun _ _ h => ⟨h.off, h.still, h.cmds, h.pins⟩) (fun _ src r h => h.reply src r) (fun _ h => h.showPend)
    (fun _ h => h.freeSlots) (fun _ i x h => h.retire i x) h

end Dev.FnStopped

/-! What a function-level reset does before references retire. -/

/-- The registers once the function's pairs are off. -/
def Io.pairsOff (io : Io) (qs : List Nat) : Io :=
  qs.foldl (fun io q => (io.setFlag .hq (qpReg q Reg.HQ_QP_CFG) 0 false).setFlag .hq (qpReg q Reg.HQ_QP_STAT) 0 false) io

theorem qpOn_pairOff (io : Io) (q : Nat) :
    ((io.setFlag .hq (qpReg q Reg.HQ_QP_CFG) 0 false).setFlag .hq (qpReg q Reg.HQ_QP_STAT) 0 false).qpOn q = false := by
  rw [Io.qpOn, Io.qp_setFlag_off _ _ _ _ (by decide)]
  exact Io.flag_setFlag_self _ _ _ _ _ (by decide)

/-- Turning a pair off turns none on. -/
theorem qpOn_pairOff_of_off {io : Io} {p : Nat} (h : io.qpOn p = false) (q : Nat) :
    ((io.setFlag .hq (qpReg q Reg.HQ_QP_CFG) 0 false).setFlag .hq (qpReg q Reg.HQ_QP_STAT) 0 false).qpOn p = false := by
  by_cases he : qpReg p Reg.HQ_QP_CFG = qpReg q Reg.HQ_QP_CFG
  · have hq := qpOn_pairOff io q
    rw [Io.qpOn, Io.qp] at hq ⊢
    rwa [he]
  · rw [Io.qpOn, Io.qp, Io.reg_setFlag_off _ _ _ (qpReg_apart (by decide) (by decide) (by decide) p q), Io.reg_setFlag_off _ _ _ he]
    exact h

theorem Io.pairsOff_off {qs : List Nat} {q : Nat} (h : q ∈ qs) (io : Io) : (io.pairsOff qs).qpOn q = false := by
  induction qs generalizing io with
  | nil => exact absurd h (by simp)
  | cons p qs ih =>
    rcases List.mem_cons.1 h with rfl | h
    · exact foldl_keeps (P := fun io : Io => io.qpOn q = false) _ (fun _ p hp => qpOn_pairOff_of_off hp p) qs _ (qpOn_pairOff io q)
    · exact ih h _

theorem FMap.find_filter_keys {α : Type} (m : FMap α) {ks : List Nat} {k : Nat} (h : k ∈ ks) : FMap.find (m.filter fun e => !ks.contains e.1) k = none := by
  rw [Option.eq_none_iff_forall_ne_some]
  intro v hv
  have := (List.mem_filter.1 (FMap.mem_of_find hv)).2
  simp [h] at this

/-- The shadows that are dirty for the function are gone. -/
@[simp] theorem Io.dirtyOf_discardOf (io : Io) (fn : Nat) : (io.discardOf fn).dirtyOf fn = [] := by
  simp only [Io.dirtyOf, Io.discardOf, List.filterMap_eq_nil_iff, List.mem_filter]
  rintro e ⟨-, he⟩
  rw [if_neg]
  simpa [imp_iff_not_or] using he

/-- A function-level reset stops the function, leaves it no dirty shadow, and raises its event. -/
theorem Dev.vfReset_stops {fn : Nat} (hfn : fn ≠ 0) (d : Dev) :
    (d.vfReset fn).FnStopped fn ∧ (d.vfReset fn).io.dirtyOf fn = [] ∧ (d.vfReset fn).io.flag .hq Reg.EVT_PEND 7 = true := by
  unfold Dev.vfReset
  rw [if_neg hfn]
  extract_lets mine dropped gone qs io cmds _ hq io' _ com _ nvs _ st
  have hmem : ∀ k < 4, qOf fn k ∈ qs := fun k hk => List.mem_map_of_mem (List.mem_range.2 hk)
  have hdropped : ∀ c ∈ d.hq.cmds, c.fn = fn → c.past = false → (c.q, c.tag) ∈ dropped := fun c hc hf hp =>
    List.mem_map_of_mem (f := fun c : Cmd => (c.q, c.tag)) (List.mem_filter.2 ⟨List.mem_filter.2 ⟨hc, by simpa using hf⟩, by simpa using hp⟩)
  have hoff : ∀ k < 4, io'.qpOn (qOf fn k) = false := fun k hk =>
    foldl_keeps (P := fun io : Io => io.qpOn (qOf fn k) = false) (fun io q => (io.showFlight hq q).drained (2 ^ 32 + q))
      (fun io q h => (Io.qpOn_showFlight io q _ hq).trans h) qs io (Io.pairsOff_off (hmem k hk) d.io)
  have hstopped : Dev.FnStopped fn { d with io := io'.raise .hq 7, st := st, hq := hq, com := com, nvs := nvs } := by
    refine ⟨fun k hk => (Io.qpOn_raise _ _ _ _).trans (hoff k hk), fun k hk => ?_, fun c hc hf => ?_, fun e he p hp => ?_⟩
    · show ((FMap.find (d.hq.pairs.filter fun e => !qs.contains e.1) (qOf fn k)).getD PairRt.fresh).draining = false
      rw [FMap.find_filter_keys _ (hmem k hk)]
      rfl
    · obtain ⟨c₀, hc₀, rfl⟩ := List.mem_map.1 hc
      obtain ⟨hin, hkept⟩ := List.mem_filter.1 hc₀
      have hf₀ : c₀.fn = fn := by split at hf <;> exact hf
      rw [if_pos hf₀]
      refine ⟨?_, rfl⟩
      by_contra hp
      exact absurd (hdropped c₀ hin hf₀ (by simpa using hp)) (by simpa using hkept)
    · obtain ⟨e₀, -, rfl⟩ := List.mem_map.1 he
      simpa using (List.mem_filter.1 hp).2
  refine ⟨hstopped.showValidating, ?_, ?_⟩
  · rw [Dev.showValidating_dirtyOf, Io.dirtyOf, (Io.Same.raise (T := fun _ => true) (fun _ _ => rfl) io' 7 rfl).shadow]
    exact Io.dirtyOf_discardOf _ fn
  · refine (congrArg (bit · 7) (Io.reg_setFlag_page _ _ _ (by decide) (by decide) (by decide))).trans ?_
    exact (congrArg (bit · 7) (Io.reg_raise_pend ..)).trans (bit_setBit_self _ _ _ (by decide))

theorem runs_vfFlr {fn : Fin 64} (hfn : fn ≠ 0) (s : State) : Runs (.vfFlr fn) s fun _ d' =>
    (∀ k < 4, d'.io.qpOn (qOf fn k) = false ∧ (d'.hq.pair (qOf fn k)).draining = false) ∧ (∀ c ∈ d'.hq.cmds, c.fn = fn → c.past = true ∧ c.silent = true)
      ∧ d'.io.dirtyOf fn = [] ∧ (∀ e ∈ d'.st.table, ∀ p ∈ e.2.pins, p.1 ≠ fn) ∧ d'.io.flag .hq Reg.EVT_PEND 7 = true := by
  obtain ⟨hstop, hdirty, hevent⟩ := Dev.vfReset_stops (fun h => hfn (Fin.ext h)) s.dev
  have same := (s.dev.vfReset fn).settle_same
  obtain ⟨off, still, cmds, pins⟩ := hstop.settle
  refine Runs.settle (f := fun d => d.vfReset fn) rfl ⟨fun k hk => ⟨off k hk, still k hk⟩, cmds, ?_, pins, ?_⟩
  · rw [Io.dirtyOf, same.shadow]
    exact hdirty
  · rw [Io.flag, same.reg (by decide)]
    exact hevent

/-- Settles O38: the device-level resets by `Dev.resetAs_wiped`, the function-level one by `Dev.vfReset_stops` and that settling keeps a stopped function stopped. -/
theorem resetsRestore : Obligations.ResetsRestore := by
  unfold Obligations.ResetsRestore
  exact ⟨fun s => ⟨runs_powerOnReset s, runs_perstAssert s, runs_hotReset, runs_pf0Flr⟩, fun fn s hfn => runs_vfFlr hfn s⟩

end Sys2Proof.Machine

/-! Work that leaves the FW page alone: the registers of the store, the Larder, the keys, the MACsec tables and the tiles all lie beside it, so what start-up
asks of either keeps what FW_STAT shows (R101, R441, R447). -/
namespace Sys2Proof.Machine

/-- The address is none of the FW page. -/
def offFw (a : Nat) : Bool := decide (a < 0x4000 ∨ 0x5000 ≤ a)

/-- A page above that of FW. -/
theorem offFw_page {p : PageRef} (h : 0x5000 ≤ pageBase p) (off : Nat) : offFw (regAddr p off) = true :=
  decide_eq_true (.inr (by unfold regAddr; omega))

theorem offFw_fw {off : Nat} (h : off < 0x1000) : offFw (regAddr .fw off) = false :=
  decide_eq_false (by simp only [regAddr, pageBase]; omega)

/-- The FW page holds every address that `offFw` leaves out. -/
theorem offFw_cases (a : Nat) : offFw a = true ∨ ∃ off < 0x1000, a = regAddr .fw off := by
  by_cases h : a < 0x4000 ∨ 0x5000 ≤ a
  · exact .inl (decide_eq_true h)
  · refine .inr ⟨a - 0x4000, by omega, ?_⟩
    simp only [regAddr, pageBase]
    omega

theorem offFw_event {a : Nat} (h : eventPlace a = true) : offFw a = true := by
  rcases offFw_cases a with ha | ⟨off, hoff, rfl⟩
  · exact ha
  · rw [eventPlace_page hoff (by simp)] at h
    exact Bool.noConfusion h

theorem offFw_reply {a : Nat} (h : replyPlace a = true) : offFw a = true := by
  rcases offFw_cases a with ha | ⟨off, hoff, rfl⟩
  · exact ha
  · rw [replyPlace_page hoff (by simp)] at h
    exact Bool.noConfusion h

theorem pageBase_prsm (e : Nat) : 0x5000 ≤ pageBase (prsmPage e) := by
  simp only [prsmPage, pageBase]
  omega

theorem pageBase_frc (e : Nat) : 0x5000 ≤ pageBase (frcPage e) := by
  simp only [frcPage, pageBase]
  omega

theorem pageBase_msec (p : Fin 128) : 0x5000 ≤ pageBase (.msec p) := by
  simp only [pageBase]
  omega

/-- Registers, shadows and time are as before, but for live values beside the FW page. -/
def Io.FwKept (io io' : Io) : Prop := Io.Same offFw io io'

namespace Io.FwKept

theorem reg {io io' : Io} (h : Io.FwKept io io') {off : Nat} (hoff : off < 0x1000) : io'.reg .fw off = io.reg .fw off :=
  Io.Same.reg h (offFw_fw hoff)

theorem refl (io : Io) : Io.FwKept io io := Io.Same.refl _ _

theorem trans {a b c : Io} (h : Io.FwKept a b) (k : Io.FwKept b c) : Io.FwKept a c := Io.Same.trans h k

theorem foldl {α : Type} {f : Io → α → Io} (h : ∀ io x, Io.FwKept io (f io x)) (xs : List α) (io : Io) : Io.FwKept io (xs.foldl f io) :=
  Io.Same.foldl h xs io

theorem iteSelf {io io' : Io} (b : Prop) [Decidable b] (h : Io.FwKept io io') : Io.FwKept io (if b then io' else io) := by
  split
  · exact h
  · exact refl _

variable {io : Io} {p : PageRef} (hp : 0x5000 ≤ pageBase p)

theorem emit (x : Out) : Io.FwKept io (io.emit x) := Io.Same.emit _ _

section
include hp

theorem put (off : Nat) (v : Word) : Io.FwKept io (io.put p off v) := Io.Same.put _ _ (offFw_page hp _)
theorem setFld (off lo len v : Nat) : Io.FwKept io (io.setFld p off lo len v) := put hp _ _
theorem setFlag (off i : Nat) (b : Bool) : Io.FwKept io (io.setFlag p off i b) := put hp _ _
theorem count48 (off n : Nat) : Io.FwKept io (io.count48 p off n) := Io.Same.putWide _ _ (offFw_page hp _) (offFw_page hp _)
theorem raise (b : Nat) : Io.FwKept io (io.raise p b) := Io.Same.raise (fun _ => offFw_event) _ _ (offFw_page hp _)
theorem recordErr (code info : Nat) : Io.FwKept io (io.recordErr p code info) :=
  Io.Same.recordErr (fun _ => offFw_event) _ _ _ (offFw_page hp _) (offFw_page hp _) (offFw_page hp _)
theorem recordOpen (code : Nat) : Io.FwKept io (io.recordOpen p code) := (recordErr hp _ _).trans (Io.Same.took _)

end

theorem tookMany (n : Nat) : Io.FwKept io (io.tookMany n) := ⟨fun _ _ => rfl, rfl, rfl, rfl, rfl, rfl, rfl, rfl, [], rfl⟩

/-! Of the store and the keys. -/

theorem showNv (n : Nvs) : Io.FwKept io (io.showNv n) :=
  (((setFlag (by decide) _ _ _).trans (setFlag (by decide) _ _ _)).trans (setFld (by decide) _ _ _ _)).trans (put (by decide) _ _)

theorem lowSupply : Io.FwKept io io.lowSupply := (recordErr (by decide) _ _).trans (raise (by decide) _)

theorem showKeys (ks : Keys) : Io.FwKept io (io.showKeys ks) := put (by decide) _ _

theorem showLc (state : Nat) (destroying : Bool) (target : Nat) (ks : Keys) (transitions time : Nat) :
    Io.FwKept io (io.showLc state destroying target ks transitions time) := (put (by decide) _ _).trans (put (by decide) _ _)

theorem dropAssociations : Io.FwKept io io.dropAssociations := by
  refine foldl (fun io p => ?_) _ _
  have saOff : ∀ (io : Io) (n : Nat), Io.FwKept io (if io.saOn p n then io.saOff p n else io) := fun io n => iteSelf _ (put (pageBase_msec p) _ _)
  have all := foldl saOff (List.range 20) io
  dsimp only
  split
  · exact (all.trans (recordOpen (pageBase_msec p) _)).trans (raise (pageBase_msec p) _)
  · exact all

/-! Of the Larder. -/

theorem showCores : Io.FwKept io io.showCores := (setFlag (by decide) _ _ _).trans (setFld (by decide) _ _ _ _)

theorem setEngine (e st : Nat) : Io.FwKept io (io.setEngine e st) :=
  ((setFld (by decide) _ _ _ _).trans (setFld (pageBase_prsm e) _ _ _ _)).trans (setFld (pageBase_frc e) _ _ _ _)

theorem mapEngine (l e : Nat) : Io.FwKept io (io.mapEngine l e) :=
  ((((put (by decide) _ _).trans (setFld (by decide) _ _ _ _)).trans (setFlag (by decide) _ _ _)).trans (setFld (pageBase_prsm e) _ _ _ _)).trans
    (setFlag (pageBase_prsm e) _ _ _)

end Io.FwKept

/-! Jobs of the store (R446 to R451). -/

namespace Nv
variable {x : Nv}

theorem reply_io (x : Nv) (src : Option (Nat × Nat)) (r : Reply) : (x.reply src r).io = x.io := by
  cases src <;> rfl

theorem compactIf_io (x : Nv) (sys : Bool) : (x.compactIf sys).io = x.io := by
  unfold compactIf
  split <;> rfl

/-- An answer shows nothing in the registers. -/
theorem fwKept_reply {y : Nv} (h : Io.FwKept x.io y.io) (src : Option (Nat × Nat)) (r : Reply) : Io.FwKept x.io (y.reply src r).io :=
  y.reply_io src r ▸ h

theorem fwKept_uncorr (a : Nat) : Io.FwKept x.io (x.uncorr a).io :=
  ((Io.FwKept.count48 (by decide) _ _).trans (.recordErr (by decide) _ _)).trans (.raise (by decide) _)

/-- Two outcomes of a job. -/
theorem fwKept_ite {α : Type} {b : Prop} [Decidable b] {y z : Nv × α} (hy : Io.FwKept x.io y.1.io) (hz : Io.FwKept x.io z.1.io) :
    Io.FwKept x.io (if b then y else z).1.io := by
  split
  · exact hy
  · exact hz

/-- A finding of the store is recorded, or there is none. -/
theorem fwKept_found {io : Io} (found : Bool) (code b : Nat) : Io.FwKept io (if found then (io.recordOpen .nvs code).raise .nvs b else io) :=
  .iteSelf _ ((Io.FwKept.recordOpen (by decide) _).trans (.raise (by decide) _))

theorem fwKept_readRecord (src : Option (Nat × Nat)) (slot addr : Nat) : Io.FwKept x.io (x.readRecord src slot addr).io := by
  unfold readRecord
  dsimp only
  split
  · exact fwKept_reply (fwKept_found _ _ _) _ _
  · exact fwKept_reply ((fwKept_found _ _ _).trans (.emit _)) _ _

theorem fwKept_read (src : Option (Nat × Nat)) (mode target len addr : Nat) : Io.FwKept x.io (x.read src mode target len addr).io := by
  unfold read
  dsimp only
  split
  · have hbad : Io.FwKept x.io (if x.nv.bad target len then x.uncorr target else x).io := by
      split
      · exact fwKept_uncorr _
      · exact .refl _
    exact fwKept_reply (hbad.trans (.emit _)) _ _
  · split
    · exact fwKept_readRecord _ _ _
    · split
      · exact fwKept_reply (.refl _) _ _
      · split
        · exact fwKept_reply ((fwKept_found _ _ _).trans (.emit _)) _ _
        · exact fwKept_reply (fwKept_found _ _ _) _ _

theorem fwKept_destroy (target : Nat) : Io.FwKept x.io (x.destroy target).io :=
  ((Io.FwKept.dropAssociations.trans (.showKeys _)).trans (.setFlag (by decide) _ _ _)).trans (.setFld (by decide) _ _ _ _)

theorem fwKept_plan (j : NvJob) : Io.FwKept x.io (x.plan j).1.io := by
  unfold plan
  split
  case h_1 => exact fwKept_read ..
  case h_4 k _ =>
    extract_lets w y
    have hcell : Io.FwKept x.io y.io := by
      unfold y
      split
      · exact fwKept_uncorr _
      · exact .refl _
    exact fwKept_ite hcell hcell
  case h_5 => split <;> exact .refl _
  case h_6 =>
    split
    · exact .refl _
    · split
      · exact .tookMany _
      · split
        · exact .refl _
        · exact .tookMany _
  case h_7 =>
    split
    · exact .lowSupply
    · exact .refl _
    · exact (fwKept_destroy _).trans (.tookMany _)
  all_goals exact .refl _

theorem fwKept_finish (j : NvJob) : Io.FwKept x.io (x.finish j).1.io := by
  unfold finish
  split
  case h_2 | h_3 => exact fwKept_reply (.refl _) _ _
  case h_4 =>
    dsimp only
    split
    · exact .refl _
    · rw [compactIf_io]
      exact fwKept_reply (.refl _) _ _
  case h_5 =>
    rw [compactIf_io]
    exact fwKept_reply (.refl _) _ _
  case h_6 => exact fwKept_reply (.showKeys _) _ _
  case h_7 =>
    refine fwKept_ite (.refl _) (fwKept_ite (.refl _) ?_)
    exact fwKept_reply (((Io.FwKept.showLc _ _ _ _ _ _).trans (.raise (p := .keys) (by decide) _)).trans (.showKeys _)) _ _
  case h_8 => exact .count48 (by decide) _ _
  case h_10 => exact .raise (by decide) _
  all_goals exact .refl _

theorem fwKept_starve (j : NvJob) : Io.FwKept x.io (x.starve j).io :=
  fwKept_reply (y := { x with io := x.io.lowSupply }) .lowSupply _ _

/-- One turn of the pump: it stops with registers that keep FW's, or goes on from such. -/
theorem fwKept_pump (n : Nat) (x : Nv) : Io.FwKept x.io (pump n x).io := by
  induction n generalizing x with
  | zero => exact .refl _
  | succ n ih =>
    have goes : ∀ y : Nv, Io.FwKept x.io y.io → Io.FwKept x.io (pump n y).io := fun y h => h.trans (ih y)
    unfold pump
    split
    · exact .refl _
    · split
      · next j _ _ =>
        split
        · split
          · exact .refl _
          · split
            · dsimp only
              split <;> exact goes _ (fwKept_finish j)
            · split
              · exact goes _ (fwKept_starve j)
              · exact .refl _
        · split
          · split
            · exact goes _ .lowSupply
            · exact .refl _
          · split
            · exact goes _ (.refl _)
            · dsimp only
              split
              · exact goes _ (fwKept_reply (fwKept_plan j) _ _)
              · split
                · exact goes _ ((fwKept_plan j).trans (fwKept_starve (x := (x.plan j).1.setHead _) j))
                · exact goes _ (fwKept_plan j)
      · split
        · exact .refl _
        · split
          · exact .lowSupply
          · exact .refl _

theorem fwKept_run : Io.FwKept x.io x.run.io := (fwKept_pump _ x).trans (.showNv _)

theorem fwKept_startKeys : Io.FwKept x.io x.startKeys.io := by
  have torn : Io.FwKept x.io (if x.ks.torn.isEmpty then x.io else x.io.raise .keys 3) := by
    split
    · exact .refl _
    · exact .raise (by decide) _
  unfold startKeys
  extract_lets io io' nv nv' _
  have restored : Io.FwKept io io' := .iteSelf _ (.raise (by decide) _)
  exact (torn.trans restored).trans (fwKept_run (x := { x with io := io', nv := nv', ks := { x.ks with torn := [] } }))

theorem fwKept_bootKeys (entropy : Bool) : Io.FwKept x.io (x.bootKeys entropy).io := by
  unfold bootKeys
  extract_lets lc broken loaded _ ks bs target io₁ io₂ io₃ io₄ io₅ io₆
  have shown : Io.FwKept x.io io₃ := ((Io.FwKept.showLc _ _ _ _ _ _).trans (.showKeys _)).trans (.setFlag (by decide) _ _ _)
  have torn : Io.FwKept io₃ io₄ := .foldl (fun _ _ => .recordErr (by decide) _ _) _ _
  have broken : Io.FwKept io₄ io₅ := .iteSelf _ (.recordOpen (by decide) _)
  exact ((shown.trans torn).trans broken).trans (.foldl (fun _ _ => .put (by decide) _ _) _ _)

end Nv
end Sys2Proof.Machine

/-! Start-up and the heartbeat (R92, R101, R104, R105): what each step shows in FW_STAT, and that the work it asks of the store and of the Larder leaves that standing. -/
namespace Sys2Proof.Machine

/-! What the Larder and the part's own bookkeeping leave of the FW page. -/

namespace Io.FwKept

/-- An event that is raised or not. -/
theorem raiseIf {io : Io} {p : PageRef} (hp : 0x5000 ≤ pageBase p) (b : Prop) [Decidable b] (n : Nat) :
    Io.FwKept io (if b then io.raise p n else io) := .iteSelf b (.raise hp n)

theorem larShow (x : Lar) : Io.FwKept x.io x.show.io :=
  ((((((setFld (by decide) _ _ _ _).trans (setFld (by decide) _ _ _ _)).trans (setFlag (by decide) _ _ _)).trans (setFlag (by decide) _ _ _)).trans
    (raiseIf (by decide) _ _)).trans (raiseIf (by decide) _ _))

theorem larRepair (x : Lar) (kind state location : Nat) : Io.FwKept x.io (x.repair kind state location).io := by
  unfold Lar.repair
  split
  · exact refl _
  · exact put (by decide) _ _

theorem larStartUp (x : Lar) (failed : List Nat) : Io.FwKept x.io (x.startUp failed).io := by
  unfold Lar.startUp
  extract_lets m io₁ io₂ io₃
  have engines : Io.FwKept x.io io₁ := foldl (fun io e => ((setEngine _ _).trans (put (pageBase_prsm e) _ _)).trans (put (pageBase_frc e) _ _)) _ _
  have mapped : Io.FwKept io₁ io₂ := foldl (fun _ _ => (mapEngine _ _).trans (setEngine _ _)) _ _
  have limit : Io.FwKept io₂ io₃ := Io.Same.put _ _ (by decide)
  exact ((engines.trans mapped).trans limit).trans (larShow { x with io := io₃ })

theorem ofComplete (d : Dev) (q tag : Nat) (r : Reply) : Io.FwKept d.io (d.complete q tag r).io := Io.Same.complete (fun _ => offFw_reply) ..

end Io.FwKept

theorem Dev.markNv_io (d : Dev) : d.markNv.io = d.io := by
  unfold Dev.markNv Dev.past
  split
  · split <;> rfl
  · rfl

theorem Dev.countMap_fwKept (d : Dev) : Io.FwKept d.io d.countMap.io := by
  unfold Dev.countMap
  split
  · exact .refl _
  · exact .put (by decide) _ _

/-- What a job of the store leaves of the FW page, the part leaves of it. -/
theorem Dev.onNv_fwKept (d : Dev) {f : Nv → Nv} (h : ∀ x, Io.FwKept x.io (f x).io) : Io.FwKept d.io (d.onNv f).io := by
  unfold Dev.onNv
  extract_lets x e
  have work : Io.FwKept d.io e.io := h { io := d.io, nv := d.nvs, ks := d.keys, done := [] }
  have answered : Io.FwKept e.io (x.done.foldl (fun (d : Dev) (r : (Nat × Nat) × Reply) => d.complete r.1.1 r.1.2 r.2) e).io :=
    Dev.foldl_rel Io.FwKept.refl .trans (fun d r => .ofComplete d ..) x.done e
  refine (work.trans answered).trans (.trans ?_ (Dev.countMap_fwKept _))
  rw [Dev.markNv_io]
  exact .refl _

/-- What an operation on the Larder leaves of the FW page, the part leaves of it. -/
theorem Dev.onLar_fwKept (d : Dev) {f : Lar → Lar} (h : ∀ x, Io.FwKept x.io (f x).io) : Io.FwKept d.io (d.onLar f).io := by
  unfold Dev.onLar
  extract_lets x e
  split
  · exact h d.lar
  · exact (h d.lar).trans (e.onNv_fwKept fun x => Nv.fwKept_run)

theorem Dev.onNv_keys (d : Dev) (f : Nv → Nv) : (d.onNv f).keys = (f { io := d.io, nv := d.nvs, ks := d.keys, done := [] }).ks := by
  unfold Dev.onNv
  extract_lets x e
  have answered : (x.done.foldl (fun (d : Dev) r => d.complete r.1.1 r.1.2 r.2) e).keys = x.ks :=
    foldl_keeps (P := fun d : Dev => d.keys = x.ks) _ (fun b r h => (b.complete_only _ _ _).keys.trans h) _ _ rfl
  have counted : ∀ d : Dev, d.countMap.keys = d.keys := fun d => by
    unfold Dev.countMap
    split <;> rfl
  rw [counted, (Dev.markNv_only _).keys, answered]

/-- A failed self-test keeps the FW page, and all but registers, queues, store, keys and Larder. -/
theorem Dev.testFailed_fwKept (d : Dev) (kind location : Nat) (unit : Option Nat) : Io.FwKept d.io (d.testFailed kind location unit).io := by
  refine d.onLar_fwKept fun x => ?_
  cases unit <;> exact .larRepair x kind 2 location

/-- Self-tests that failed, one after another. -/
def Dev.FailsKept (d d' : Dev) : Prop := Io.FwKept d.io d'.io ∧ Dev.StoreOnly d d'

theorem Dev.FailsKept.refl (d : Dev) : Dev.FailsKept d d := ⟨.refl _, .rfl' _⟩

theorem Dev.FailsKept.trans {a b c : Dev} (h : Dev.FailsKept a b) (k : Dev.FailsKept b c) : Dev.FailsKept a c := ⟨h.1.trans k.1, h.2.trans k.2⟩

theorem Dev.FailsKept.one (d : Dev) (kind location : Nat) (unit : Option Nat) : Dev.FailsKept d (d.testFailed kind location unit) :=
  ⟨d.testFailed_fwKept kind location unit, d.onLar_only _⟩

theorem Dev.FailsKept.all (d : Dev) (kind : Nat) (unit : Nat → Option Nat) (es : List Nat) :
    Dev.FailsKept d (es.foldl (fun d e => d.testFailed kind e (unit e)) d) :=
  foldl_keeps (P := fun d' => Dev.FailsKept d d') _ (fun b e h => h.trans (.one b kind e (unit e))) es d (.refl d)

/-! FW_STAT (R101). -/

section
variable (io : Io)

theorem Io.FwKept.stat {io io' : Io} (h : Io.FwKept io io') : io'.reg .fw Reg.FW_STAT = io.reg .fw Reg.FW_STAT := h.reg (by decide)

theorem Io.fwState_of_stat {io io' : Io} (h : io'.reg .fw Reg.FW_STAT = io.reg .fw Reg.FW_STAT) : io'.fwState = io.fwState := by
  rw [Io.fwState, Io.fld, h]
  rfl

theorem Io.flag_of_reg {io io' : Io} {p : PageRef} {off : Nat} (h : io'.reg p off = io.reg p off) (i : Nat) : io'.flag p off i = io.flag p off i := by
  rw [Io.flag, h]
  rfl

theorem Io.fwState_setFw {n : Nat} (h : n < 16) : (io.setFw n).fwState = n :=
  (Io.fld_setFld_self _ _ _ _ _ _ (by decide)).trans (Nat.mod_eq_of_lt h)

/-- The flags of FW_STAT lie above STATE. -/
theorem Io.flag_setFw (n : Nat) {i : Nat} (h : 4 ≤ i) : (io.setFw n).flag .fw Reg.FW_STAT i = io.flag .fw Reg.FW_STAT i := by
  rw [Io.flag, Io.setFw, Io.reg_setFld_self, bit_setBits_ne _ _ _ _ _ (by decide) (.inr h)]
  rfl

theorem Io.fwState_setFlag {i : Nat} (b : Bool) (h : 4 ≤ i) (hi : i < 32) : (io.setFlag .fw Reg.FW_STAT i b).fwState = io.fwState := by
  rw [Io.fwState, Io.fld, Io.reg_setFlag_self, bits_setBit_ne _ _ _ _ _ hi (.inl h)]
  rfl

theorem Io.stat_raise (b : Nat) : (io.raise .fw b).reg .fw Reg.FW_STAT = io.reg .fw Reg.FW_STAT := Io.reg_raise_off _ _ _ (by decide) (by decide)

theorem Io.stat_summary (lo len n : Nat) : (io.summary lo len n).reg .fw Reg.FW_STAT = io.reg .fw Reg.FW_STAT := Io.reg_put_off _ _ (by decide)

theorem Io.raised (p : PageRef) {b : Nat} (h : b < 32) : (io.raise p b).flag p Reg.EVT_PEND b = true := by
  rw [Io.flag, Io.reg_raise_pend]
  exact bit_setBit_self _ _ _ h

end

theorem lt_pageSpan {off : Nat} (h : off < 0x1000) (p : PageRef) : off < pageSpan p := lt_of_lt_of_le h (le_pageSpan p)

/-- FAULT or FAILED, shown after an error of FW, with its event. -/
theorem Io.code_of_raised (io : Io) {code : Nat} (n b : Nat) (h : code < 2 ^ 16) :
    (((io.recordOpen .fw code).setFw n).raise .fw b).fld .fw Reg.ERR_CODE 0 16 = code := by
  rw [Io.fld, Io.reg_raise_off _ _ _ (by decide) (by decide), Io.setFw, Io.reg_setFld_off _ _ _ _ (by decide)]
  exact Io.code_recordErr _ _ _ h

/-! The boot ROM (R92). -/

section
variable (io : Io)

/-- A page that opens runs, and one that runs goes on. -/
theorem Io.running_opened (p : PageRef) : (io.opened p).running p = true :=
  decide_eq_true (Io.fld_setFld_self _ _ _ _ _ _ (by decide))

theorem Io.running_opened_of_running {io : Io} {q : PageRef} (h : io.running q = true) (p : PageRef) : (io.opened p).running q = true := by
  by_cases hp : q = p
  · rw [hp]
    exact io.running_opened p
  · rw [Io.running, Io.stateOf, Io.fld, Io.opened, Io.setState, Io.reg_setFld_page _ _ _ _ (lt_pageSpan (by decide) _) (lt_pageSpan (by decide) _) hp,
      Io.reg_put_page _ _ (lt_pageSpan (by decide) _) (lt_pageSpan (by decide) _) hp]
    exact h

theorem Io.running_openeds {ps : List PageRef} {q : PageRef} (h : q ∈ ps) : (ps.foldl Io.opened io).running q = true := by
  induction ps generalizing io with
  | nil => exact absurd h (by simp)
  | cons p ps ih =>
    rcases List.mem_cons.1 h with rfl | h
    · exact foldl_keeps (P := fun io : Io => io.running q = true) _ (fun _ p h => Io.running_opened_of_running h p) ps _ (io.running_opened q)
    · exact ih _ h

/-- Opening a page keeps FW_STAT, of FW itself too. -/
theorem Io.stat_opened (p : PageRef) : (io.opened p).reg .fw Reg.FW_STAT = io.reg .fw Reg.FW_STAT := by
  by_cases hp : p = .fw
  · rw [hp, Io.opened, Io.setState, Io.reg_setFld_off _ _ _ _ (by decide), Io.reg_put_off _ _ (by decide)]
  · rw [Io.opened, Io.setState, Io.reg_setFld_page _ _ _ _ (lt_pageSpan (by decide) _) (by decide) (Ne.symm hp),
      Io.reg_put_page _ _ (lt_pageSpan (by decide) _) (by decide) (Ne.symm hp)]

theorem Io.stat_openeds (ps : List PageRef) : (ps.foldl Io.opened io).reg .fw Reg.FW_STAT = io.reg .fw Reg.FW_STAT :=
  foldl_keeps (P := fun io' : Io => io'.reg .fw Reg.FW_STAT = io.reg .fw Reg.FW_STAT) _ (fun io' p h => (io'.stat_opened p).trans h) ps io rfl

end

/-- The boot ROM runs once, after any shutdown has cooled (R92, R413, R470). -/
theorem Dev.bootRom_shows {d : Dev} (hrom : d.boot.rom = false) (htrip : d.therm.trip = false) (mv : Nat) (entropy : Bool) :
    ∃ e : Dev, d.bootRom mv entropy = (if entropy then e else e.onIo fun io => ((io.setFw 8).recordOpen .keys 0x1216).raise .keys 4)
      ∧ e.boot.rom = true ∧ e.boot.inReset = false ∧ e.keys.failed = !entropy ∧ e.io.reg .fw Reg.FW_STAT = d.io.reg .fw Reg.FW_STAT
      ∧ e.io.reg .fw Reg.FW_SEC_MIN = Word.of d.boot.secMin ∧ e.io.running .fw = true := by
  unfold Dev.bootRom
  rw [if_neg (by simp [hrom, Dev.mayBoot, htrip])]
  extract_lets start _ d₁ io₁ io₂ io₃ key io₄ m cores rom io₅ io₆ io₇ pkt _ lard _ boot _ e f
  have hd : d₁ = d := if_neg (by simp [htrip])
  have supplied : Io.FwKept io₂ io₄ :=
    (((Io.FwKept.setFld (by decide) _ _ _ _).trans (.setFlag (by decide) _ _ _)).trans (.setFlag (p := .nvs) (by decide) _ _ _)).trans (Io.Same.took _)
  have listed : Io.FwKept io₅ f.io :=
    ((Io.FwKept.foldl (fun _ _ => .setFld (by decide) _ _ _ _) _ _).trans (.put (p := .lard) (by decide) _ _)).trans
      (e.onNv_fwKept fun x => Nv.fwKept_bootKeys entropy)
  have later : ∀ off < 0x1000, off ≠ Reg.FW_ST_SUMMARY → f.io.reg .fw off = io₂.reg .fw off := fun off ho hne =>
    calc f.io.reg .fw off
      _ = io₅.reg .fw off := listed.reg ho
      _ = io₄.reg .fw off := Io.reg_setFlag_off _ _ _ hne
      _ = io₂.reg .fw off := supplied.reg ho
  refine ⟨f, rfl, ?_, ?_, ?_, ?_, ?_, ?_⟩
  · exact congrArg Boot.rom (e.onNv_only _).boot
  · exact congrArg Boot.inReset (e.onNv_only _).boot
  · rw [Dev.onNv_keys]
    rfl
  · rw [later _ (by decide) (by decide), Io.reg_put_off _ _ (by decide), Io.stat_openeds, hd]
  · rw [later _ (by decide) (by decide), Io.reg_put_self, hd]
  · rw [Io.running, Io.stateOf, Io.fld, later _ (by decide) (by decide), Io.reg_put_off _ _ (by decide)]
    exact Io.running_openeds d₁.io (by decide)

section
variable {s : State} (hrom : s.dev.boot.rom = false) (htrip : s.dev.therm.trip = false) (mv : Fin 4096) (dt : Nat)
include hrom htrip

theorem runs_bootRomStart : Runs (.bootRomStart mv true dt) s fun d d' =>
    d'.boot.rom = true ∧ d'.boot.inReset = false ∧ d'.io.fwState = d.io.fwState ∧ d'.io.reg .fw Reg.FW_SEC_MIN = Word.of d.boot.secMin
      ∧ d'.keys.failed = false ∧ d'.io.running .fw = true := by
  obtain ⟨e, he, hr, hreset, hkeys, hstat, hmin, hrun⟩ := Dev.bootRom_shows (d := s.dev.tick dt) hrom htrip mv true
  refine Runs.intro (f := fun d => (d.tick dt).bootRom mv true) rfl ?_
  rw [he, if_pos rfl]
  exact ⟨hr, hreset, Io.fwState_of_stat hstat, hmin, hkeys, hrun⟩

/-- A start-up failure of the entropy source ends in FAULT (R470). -/
theorem runs_bootRomStart_faulty : Runs (.bootRomStart mv false dt) s fun _ d' =>
    d'.boot.rom = true ∧ d'.io.fwState = 8 ∧ d'.io.fld .keys Reg.ERR_CODE 0 16 = 0x1216 ∧ d'.keys.failed = true := by
  obtain ⟨e, he, hr, -, hkeys, -⟩ := Dev.bootRom_shows (d := s.dev.tick dt) hrom htrip mv false
  refine Runs.intro (f := fun d => (d.tick dt).bootRom mv false) rfl ?_
  rw [he, if_neg (by simp)]
  have recorded : Io.FwKept (e.io.setFw 8) (((e.io.setFw 8).recordOpen .keys 0x1216).raise .keys 4) :=
    (Io.FwKept.recordOpen (by decide) _).trans (.raise (by decide) _)
  refine ⟨hr, (Io.fwState_of_stat recorded.stat).trans (Io.fwState_setFw _ (by decide)), ?_, hkeys⟩
  show (((e.io.setFw 8).recordOpen .keys 0x1216).raise .keys 4).fld .keys Reg.ERR_CODE 0 16 = 0x1216
  rw [Io.fld, Io.reg_raise_off _ _ _ (by decide) (by decide)]
  exact Io.code_recordErr _ _ _ (by decide)

end

/-! The link and the training of HBM (R101, R104). -/

theorem runs_pcieLinkUp {s : State} (h : s.dev.boot.inReset = false) (dt : Nat) : Runs (.pcieLinkUp dt) s fun d d' =>
    d'.boot = { d.boot with link := true } := by
  refine Runs.intro (f := fun d => (d.tick dt).linkUp) rfl ?_
  unfold Dev.linkUp
  rw [if_neg (by simp [h]), if_neg (by simp [h])]
  rfl

/-- The link ends a hot reset (R89). -/
theorem runs_pcieLinkUp_hot {s : State} (hc : s.dev.io.reg .fw Reg.FW_RESET_CAUSE = 2) (h : s.dev.boot.inReset = true) (dt : Nat) :
    Runs (.pcieLinkUp dt) s fun d d' => d'.boot = { d.boot with link := true, inReset := false, start := d.io.up + dt } := by
  refine Runs.intro (f := fun d => (d.tick dt).linkUp) rfl ?_
  unfold Dev.linkUp
  rw [if_pos ⟨hc, h⟩]
  rfl

theorem Io.showTrained_fwKept (io : Io) (failed : Option (Fin 4)) : Io.FwKept io (io.showTrained failed) :=
  .foldl (fun _ k => .setFlag (by simp only [pageBase]; omega) _ _ _) _ _

/-- A fold of flags over stacks shows each of them. -/
theorem Io.trained_of_mem {ks : List (Fin 4)} {i : Fin 4} (h : i ∈ ks) (io : Io) :
    (ks.foldl (fun io k => io.setFlag (.hbmc k) Reg.HBMC_STAT 0 true) io).flag (.hbmc i) Reg.HBMC_STAT 0 = true := by
  have one : ∀ (io : Io) (k : Fin 4), (io.setFlag (.hbmc k) Reg.HBMC_STAT 0 true).flag (.hbmc k) Reg.HBMC_STAT 0 = true := fun io k =>
    Io.flag_setFlag_self _ _ _ _ _ (by decide)
  have stays : ∀ (io : Io) (k : Fin 4), io.flag (.hbmc i) Reg.HBMC_STAT 0 = true →
      (io.setFlag (.hbmc k) Reg.HBMC_STAT 0 true).flag (.hbmc i) Reg.HBMC_STAT 0 = true := fun io k h => by
    by_cases hk : i = k
    · rw [hk]
      exact one io k
    · exact (Io.flag_of_reg (Io.reg_setFlag_page _ _ _ (lt_pageSpan (by decide) _) (lt_pageSpan (by decide) _) (by simpa using hk)) 0).trans h
  induction ks generalizing io with
  | nil => exact absurd h (by simp)
  | cons k ks ih =>
    rcases List.mem_cons.1 h with rfl | h
    · exact foldl_keeps (P := fun io : Io => io.flag (.hbmc i) Reg.HBMC_STAT 0 = true) _ stays ks _ (one io i)
    · exact ih h _

theorem Dev.hbmTrained_eq {d : Dev} (hrom : d.boot.rom = true) (hstat : d.io.flag .fw Reg.FW_STAT 4 = false) (hh : d.io.halted = false)
    (failed : Option (Fin 4)) : d.hbmTrained failed = match failed with
      | none => d.onIo fun io => (io.showTrained none).setFlag .fw Reg.FW_STAT 4 true
      | some k => { d with io := (((d.io.showTrained (some k)).recordOpen .fw 0x031D).setFw 8).raise .fw 7, boot := { d.boot with load := none } } := by
  unfold Dev.hbmTrained
  rw [if_neg (by simp [hrom, hstat, hh])]
  cases failed <;> rfl

section
variable {s : State} (hrom : s.dev.boot.rom = true) (hstat : s.dev.io.flag .fw Reg.FW_STAT 4 = false) (hh : s.dev.io.halted = false) (dt : Nat)
include hrom hstat hh

theorem runs_hbmTrainingDone : Runs (.hbmTrainingDone none dt) s fun d d' =>
    d'.io.flag .fw Reg.FW_STAT 4 = true ∧ d'.io.fwState = d.io.fwState ∧ ∀ i : Fin 4, d'.io.flag (.hbmc i) Reg.HBMC_STAT 0 = true := by
  refine Runs.intro (f := fun d => (d.tick dt).hbmTrained none) rfl ?_
  rw [Dev.hbmTrained_eq (d := s.dev.tick dt) hrom hstat hh]
  refine ⟨Io.flag_setFlag_self _ _ _ _ _ (by decide), ?_, fun i => ?_⟩
  · exact (Io.fwState_setFlag _ _ (by decide) (by decide)).trans (Io.fwState_of_stat (Io.showTrained_fwKept _ none).stat)
  · exact (Io.flag_of_reg (Io.reg_setFlag_page _ _ _ (by decide) (lt_pageSpan (by decide) _) (by simp)) 0).trans (Io.trained_of_mem (by simp) _)

/-- A stack that cannot be trained ends in FAULT (R104). -/
theorem runs_hbmTrainingDone_failed (k : Fin 4) : Runs (.hbmTrainingDone (some k) dt) s fun _ d' =>
    d'.io.fwState = 8 ∧ d'.io.fld .fw Reg.ERR_CODE 0 16 = 0x031D ∧ d'.io.flag .fw Reg.EVT_PEND 7 = true := by
  refine Runs.intro (f := fun d => (d.tick dt).hbmTrained (some k)) rfl ?_
  rw [Dev.hbmTrained_eq (d := s.dev.tick dt) hrom hstat hh]
  refine ⟨(Io.fwState_of_stat (Io.stat_raise _ 7)).trans (Io.fwState_setFw _ (by decide)), ?_, Io.raised _ _ (by decide)⟩
  exact Io.code_of_raised _ 8 7 (by decide)

end

/-! Woride starts, and the spares are tested (R101, R104). -/

theorem Io.startCores_fwKept (io : Io) : Io.FwKept io io.startCores := by
  have set : ∀ (v : Nat) (io : Io) (cs : List Nat), Io.FwKept io (cs.foldl (fun io c => io.setFld .lard (Reg.LARD_CORE + 4 * c) 0 2 v) io) :=
    fun v io cs => .foldl (fun _ _ => .setFld (by decide) _ _ _ _) cs io
  exact ((set 0 _ _).trans (set 1 _ _)).trans .showCores

theorem Dev.worideStart_shows {d : Dev} (ha : d.boot.accepted = true) (hw : d.boot.woride = false) (ht : d.io.flag .fw Reg.FW_STAT 4 = true)
    (hs : d.io.fwState = 3) : d.worideStart.io.fwState = 4 ∧ d.worideStart.boot.woride = true ∧ d.worideStart.boot.beatAt = d.io.up := by
  unfold Dev.worideStart
  rw [if_neg (by simp [ha, hw, ht, hs])]
  extract_lets io _ d₁ stale nvs _
  have cores : Io.FwKept ((d.io.setFw 4).raise .fw 4) io := Io.startCores_fwKept _
  have keys : Io.FwKept d₁.io (Dev.onNv { d₁ with nvs := nvs, lard := { d₁.lard with unwritten := stale.length } } Nv.startKeys).io :=
    Dev.onNv_fwKept { d₁ with nvs := nvs, lard := { d₁.lard with unwritten := stale.length } } fun x => Nv.fwKept_startKeys
  have hboot := (Dev.onNv_only { d₁ with nvs := nvs, lard := { d₁.lard with unwritten := stale.length } } Nv.startKeys).boot
  have hup : io.up = d.io.up := (Io.Same.up cores).trans (Io.Same.raise (T := fun _ => true) (fun _ _ => rfl) _ 4 rfl).up
  refine ⟨?_, congrArg Boot.woride hboot, (congrArg Boot.beatAt hboot).trans hup⟩
  exact (Io.fwState_of_stat ((cores.trans keys).stat.trans (Io.stat_raise _ _))).trans (Io.fwState_setFw _ (by decide))

/-- What a spare core that has failed shows, where there is one, and its entry into the repair map. -/
def Io.coreFailed (io : Io) (core : Option Nat) : Io :=
  match core with
  | some c => ((io.setFld .lard (Reg.LARD_CORE + 4 * c) 0 2 2).setFlag .fw Reg.FW_ST_SUMMARY 16 true).showCores
  | none => io

def Dev.coreFailed (d : Dev) (core : Option Nat) : Dev :=
  match core with
  | some c => d.testFailed 1 c (some (144 + c))
  | none => d

theorem Io.stat_coreFailed (io : Io) (core : Option Nat) : (io.coreFailed core).reg .fw Reg.FW_STAT = io.reg .fw Reg.FW_STAT := by
  cases core with
  | none => rfl
  | some c =>
    rw [Io.coreFailed, Io.FwKept.showCores.stat, Io.reg_setFlag_off _ _ _ (by decide)]
    exact (Io.FwKept.setFld (by decide) _ _ _ _).stat

theorem Dev.coreFailed_fails (d : Dev) (core : Option Nat) : Dev.FailsKept d (d.coreFailed core) := by
  cases core with
  | none => exact .refl d
  | some c => exact .one ..

/-- The self-test of the spares ends (R101 step 10); no failure leaves the part as good as it was (R104). -/
theorem Dev.sparesTested_shows {d : Dev} (hs : d.io.fwState = 4) (f : SpareFailures) :
    (d.sparesTested f).io.fwState = 5 ∧ (d.sparesTested f).io.flag .fw Reg.FW_STAT 5 = true
      ∧ (f.engines = [] → f.plls = [] → f.core = false → f.sram.val = 0 → f.pkt0.val = 0 → f.pkt1.val = 0 →
          (d.sparesTested f).boot.bad = d.boot.bad ∧ (d.sparesTested f).io.flag .fw Reg.FW_STAT 8 = d.io.flag .fw Reg.FW_STAT 8) := by
  unfold Dev.sparesTested
  rw [if_neg (by simp [hs])]
  extract_lets spares bad plls core banks degraded io₁ io₂ io₃ io₄ _ lard _ d₁ d₂ d₃
  have fails : Dev.FailsKept d₁ (d₃.coreFailed core) :=
    ((Dev.FailsKept.all d₁ 0 some bad).trans (.all d₂ 2 (fun _ => none) plls)).trans (d₃.coreFailed_fails core)
  have summed : io₃.reg .fw Reg.FW_STAT = io₂.reg .fw Reg.FW_STAT := (Io.stat_summary _ _ _ _).trans (Io.stat_summary _ _ _ _)
  have hstat : (d₃.coreFailed core).io.reg .fw Reg.FW_STAT = io₂.reg .fw Reg.FW_STAT := (fails.1.stat.trans (io₃.stat_coreFailed core)).trans summed
  have hstate : io₁.fwState = 5 := Io.fwState_setFw _ (by decide)
  have htested : io₁.flag .fw Reg.FW_STAT 5 = true := (Io.flag_setFw _ _ (by decide)).trans (Io.flag_setFlag_self _ _ _ _ _ (by decide))
  refine ⟨?_, ?_, fun he hp hc hsram h0 h1 => ?_⟩
  · refine (Io.fwState_of_stat hstat).trans ?_
    unfold io₂
    split
    · rw [Io.fwState_setFlag _ _ (by decide) (by decide), hstate]
    · exact hstate
  · refine (Io.flag_of_reg hstat 5).trans ?_
    unfold io₂
    split
    · rw [Io.flag_setFlag_bit _ _ (by decide) (by decide), htested]
    · exact htested
  · have hbad : bad = [] := by simp [bad, he]
    have hgood : degraded = false := by simp [degraded, hbad, plls, hp, core, hc, banks, hsram, h0, h1]
    refine ⟨(congrArg Boot.bad fails.2.boot).trans ?_, ?_⟩
    · show d.boot.bad ++ bad = d.boot.bad
      rw [hbad, List.append_nil]
    · refine (Io.flag_of_reg hstat 8).trans ?_
      unfold io₂
      rw [hgood, if_neg (by simp), Io.flag_setFw _ _ (by decide), Io.flag_setFlag_bit _ _ (by decide) (by decide)]

theorem pageBase_lane (l : Fin 128) : 0x5000 ≤ pageBase (.lane l) := by
  simp only [pageBase]
  omega

theorem Io.pllBack_fwKept (io : Io) (q : Nat) (spare : Bool) : Io.FwKept io (io.pllBack q spare) := by
  refine .foldl (fun io l => ?_) _ _
  extract_lets pg io₁ io₂
  have back : Io.FwKept io io₂ := (Io.FwKept.setFlag (pageBase_lane _) _ _ _).trans (.iteSelf _ (.setFlag (pageBase_lane _) _ _ _))
  split
  · exact back
  · exact back.trans (.setFlag (pageBase_lane _) _ _ _)

/-- A tile comes up, in ascending order on its die (R101 step 11, R404). -/
theorem Dev.tileUp_shows {d : Dev} {t : Fin 16} (hs : d.io.fwState = 5) (hup : d.io.flag .fw Reg.FW_STAT (16 + t) = false)
    (hbefore : t.val % 8 = 0 ∨ d.io.flag .fw Reg.FW_STAT (16 + (t.val - 1)) = true) :
    (d.tileUp t).io.flag .fw Reg.FW_STAT (16 + t) = true ∧ (d.tileUp t).therm.calibrated.contains t.val = true := by
  unfold Dev.tileUp
  extract_lets up io io' c _
  have hmay : ¬(d.io.fwState ≠ 5 ∨ up t.val = true ∨ t.val % 8 ≠ 0 ∧ (!up (t.val - 1)) = true) := by
    rintro (h | h | ⟨h, h'⟩)
    · exact h hs
    · exact Bool.noConfusion (hup.symm.trans h)
    · simp [hbefore.resolve_left h, up] at h'
  rw [if_neg hmay]
  have locks : Io.FwKept io io' := by
    unfold io'
    split
    · exact .refl _
    · exact .foldl (fun _ _ => Io.pllBack_fwKept ..) _ _
  refine ⟨?_, ?_⟩
  · exact (Io.flag_of_reg (locks.stat.trans (Io.stat_raise _ _)) _).trans (Io.flag_setFlag_self _ _ _ _ _ (by omega))
  · show (if c.contains t.val then c else t.val :: c).contains t.val = true
    split
    · assumption
    · simp

/-- The engines of a tile that a self-test finds failed leave the good ones (R101 step 12, R104). -/
theorem Dev.activeTested_shows {d : Dev} {t : Fin 16} (hs : d.io.fwState = 5) (hup : d.io.flag .fw Reg.FW_STAT (16 + t) = true)
    (ht : d.boot.tested.contains t.val = false) (failed : BitVec 9) :
    (d.activeTested t failed).boot.tested = t.val :: d.boot.tested
      ∧ (d.activeTested t failed).boot.bad = d.boot.bad ++ ((d.boot.goodOf t).take 8).filter (fun e => failed.toNat.testBit (e % 9))
      ∧ (d.activeTested t failed).io.flag .fw Reg.FW_STAT 6 = decide (d.boot.tested.length = 15) := by
  unfold Dev.activeTested
  rw [if_neg (by simpa [hs, hup] using ht)]
  extract_lets bad tested io _ d₁
  have fails : Dev.FailsKept d₁ (bad.foldl (fun d e => d.testFailed 0 e (some e)) d₁) := .all d₁ 0 some bad
  refine ⟨congrArg Boot.tested fails.2.boot, congrArg Boot.bad fails.2.boot, ?_⟩
  refine (Io.flag_of_reg fails.1.stat 6).trans ((Io.flag_setFlag_self _ _ _ _ _ (by decide)).trans ?_)
  simp [tested]

/-- READY (R101 step 13). -/
theorem Dev.fwReady_shows {d : Dev} (hs : d.io.fwState = 5) (ht : d.io.flag .fw Reg.FW_STAT 6 = true) :
    d.fwReady.io.fwState = 6 ∧ d.fwReady.io.ready = true ∧ d.fwReady.io.flag .fw Reg.EVT_PEND 5 = true := by
  unfold Dev.fwReady
  rw [if_neg (by simp [hs, ht])]
  extract_lets io₁ io₂ io₃ io₄ _ d₁
  have started : Io.FwKept d₁.io (d₁.onLar fun x => x.startUp d₁.boot.bad).io := d₁.onLar_fwKept fun x => .larStartUp x _
  have hstat : (d₁.onLar fun x => x.startUp d₁.boot.bad).io.reg .fw Reg.FW_STAT = io₃.reg .fw Reg.FW_STAT :=
    (started.stat.trans (Io.stat_raise _ _)).trans (Io.reg_setFld_off _ _ _ _ (by decide))
  have hstate : io₂.fwState = 6 := (Io.fwState_setFlag _ _ (by decide) (by decide)).trans (Io.fwState_setFw _ (by decide))
  have hready : io₂.flag .fw Reg.FW_STAT 7 = true := Io.flag_setFlag_self _ _ _ _ _ (by decide)
  refine ⟨(Io.fwState_of_stat hstat).trans ?_, (Io.flag_of_reg hstat 7).trans ?_, ?_⟩
  · unfold io₃
    split
    · rw [Io.fwState_setFlag _ _ (by decide) (by decide), hstate]
    · exact hstate
  · unfold io₃
    split
    · rw [Io.flag_setFlag_bit _ _ (by decide) (by decide), hready]
    · exact hready
  · exact (Io.flag_of_reg (started.reg (by decide)) 5).trans (Io.raised _ _ (by decide))

/-! The heartbeat (R105). -/

section
variable {s : State} (hw : s.dev.boot.woride = true) (hh : s.dev.io.halted = false) {dt : Nat}
include hw hh

theorem runs_fwHeartbeatTick (hb : s.dev.boot.beatAt + 10000000 ≤ s.dev.io.up + dt) : Runs (.fwHeartbeatTick dt) s fun d d' =>
    d'.io.reg .fw Reg.FW_HEARTBEAT = d.io.reg .fw Reg.FW_HEARTBEAT + 1 ∧ d'.boot.beatAt = d.io.up + dt
      ∧ Dev.SameIo (within .fw [Reg.FW_HEARTBEAT]) { d.tick dt with boot := d'.boot } d' := by
  refine Runs.intro (f := fun d => (d.tick dt).heartbeat) rfl ?_
  have hh' : (s.dev.tick dt).io.halted = false := hh
  have hb' : ¬(s.dev.tick dt).io.up < s.dev.boot.beatAt + 10000000 := Nat.not_lt.2 hb
  unfold Dev.heartbeat
  rw [if_neg (by simp only [Dev.tick_boot, hw, hh', hb']; decide)]
  exact ⟨Io.reg_put_self _ _ _ _, rfl, rfl, .put _ _ (within_self (by simp))⟩

theorem runs_fwHeartbeatLost (hb : s.dev.boot.beatAt + 100000000 ≤ s.dev.io.up + dt) : Runs (.fwHeartbeatLost dt) s fun _ d' =>
    d'.io.fwState = 7 ∧ d'.hq.cmds = [] ∧ d'.hq.waiting = [] ∧ d'.com.queue = [] ∧ d'.io.fld .fw Reg.ERR_CODE 0 16 = 0x031E
      ∧ d'.io.flag .fw Reg.EVT_PEND 6 = true := by
  refine Runs.intro (f := fun d => (d.tick dt).heartbeatLost) rfl ?_
  have hh' : (s.dev.tick dt).io.halted = false := hh
  have hb' : ¬(s.dev.tick dt).io.up < s.dev.boot.beatAt + 100000000 := Nat.not_lt.2 hb
  unfold Dev.heartbeatLost
  rw [if_neg (by simp only [Dev.tick_boot, hw, hh', hb']; decide)]
  have hstat : ∀ io : Io, ((io.recordOpen .fw 0x031E).raise .fw 6).reg .fw Reg.FW_STAT = io.reg .fw Reg.FW_STAT := fun io =>
    (Io.stat_raise _ 6).trans (Io.reg_recordErr_off _ _ _ _ (by decide) (by decide) (by decide) (by decide))
  refine ⟨(Io.fwState_of_stat (hstat _)).trans (Io.fwState_setFw _ (by decide)), rfl, rfl, rfl, ?_, Io.raised _ _ (by decide)⟩
  refine (congrArg (bits · 0 16) (Io.reg_raise_off _ _ _ (by decide) (by decide))).trans ?_
  exact Io.code_recordErr _ _ _ (by decide)

end

/-- Settles O39: the boot ROM by `Dev.bootRom_shows`, each later step by the lemma that says what it shows, the heartbeat by what its tick and its loss write. -/
theorem startUpAdvances : Obligations.StartUpAdvances := by
  unfold Obligations.StartUpAdvances
  refine ⟨fun mv k t failed f dt s => ⟨?_, ?_, ?_, ?_, ?_, ?_, ?_, fun hs => ⟨?_, ?_, ?_⟩⟩, fun dt s hw hh => ⟨?_, ?_⟩⟩
  · exact fun hrom htrip => runs_bootRomStart hrom htrip mv dt
  · exact fun hrom htrip => runs_bootRomStart_faulty hrom htrip mv dt
  · exact fun h => runs_pcieLinkUp h dt
  · exact fun hc h => runs_pcieLinkUp_hot hc h dt
  · exact fun hrom hstat hh => ⟨runs_hbmTrainingDone hrom hstat hh dt, runs_hbmTrainingDone_failed hrom hstat hh dt k⟩
  · exact fun ha hw ht hs => Runs.intro (f := fun d => (d.tick dt).worideStart) rfl (Dev.worideStart_shows (d := s.dev.tick dt) ha hw ht hs)
  · exact fun hs => Runs.intro (f := fun d => (d.tick dt).sparesTested f) rfl (Dev.sparesTested_shows (d := s.dev.tick dt) hs f)
  · exact fun hup hbefore => Runs.intro (f := fun d => (d.tick dt).tileUp t) rfl (Dev.tileUp_shows (d := s.dev.tick dt) hs hup hbefore)
  · exact fun hup ht => Runs.intro (f := fun d => (d.tick dt).activeTested t failed) rfl (Dev.activeTested_shows (d := s.dev.tick dt) hs hup ht failed)
  · exact fun ht => Runs.intro (f := fun d => (d.tick dt).fwReady) rfl (Dev.fwReady_shows (d := s.dev.tick dt) hs ht)
  · exact fun hb => runs_fwHeartbeatTick hw hh hb
  · exact fun hb => runs_fwHeartbeatLost hw hh hb

end Sys2Proof.Machine

/-! Lanes and ports (R110, R119): what a write of a LANE page leaves of a PCS page and the other way round, and what a saturating field, a latched event and a
record's count read. -/
namespace Sys2Proof.Machine

@[simp] theorem laneIx_val (l : Fin 128) : laneIx l.val = l := Fin.ofNat_eq_self 128 l _ rfl

theorem sat_lt (n x : Nat) : sat n x < 2 ^ n := by
  have := Nat.two_pow_pos n
  unfold sat
  omega

theorem bit_setBit (w : Word) {i : Nat} (j : Nat) (b : Bool) (h : i < 32) : bit (setBit w i b) j = if j = i then b else bit w j := by
  split
  next hj => rw [hj, bit_setBit_self w i b h]
  next hj => exact bit_setBit_ne w b h hj

theorem Io.wide_of_reg {io io' : Io} {p : PageRef} {off : Nat} (h : io'.reg p off = io.reg p off) (h' : io'.reg p (off + 4) = io.reg p (off + 4)) :
    io'.wide p off = io.wide p off := by
  rw [Io.wide, h, h', Io.wide]

section
variable (io : Io)

theorem Io.pcs_put_lane {l p : Fin 128} {a off : Nat} (v : Word) (ha : a < 0x1000) (h : off < 0x1000) :
    (io.put (.lane l) a v).reg (.pcs p) off = io.reg (.pcs p) off := Io.reg_put_page io v ha h (by simp)

theorem Io.lane_put_pcs {l p : Fin 128} {a off : Nat} (v : Word) (ha : a < 0x1000) (h : off < 0x1000) :
    (io.put (.pcs p) a v).reg (.lane l) off = io.reg (.lane l) off := Io.reg_put_page io v ha h (by simp)

theorem Io.lane_raise_pcs {l p : Fin 128} {off : Nat} (b : Nat) (h : off < 0x1000) : (io.raise (.pcs p) b).reg (.lane l) off = io.reg (.lane l) off :=
  Io.reg_raise io b h (by simp) (.inl (by simp))

theorem Io.lane_raise {l : Fin 128} {off : Nat} (b : Nat) (h : off < 0x1000) (hn : off ≠ Reg.EVT_PEND) :
    (io.raise (.lane l) b).reg (.lane l) off = io.reg (.lane l) off := Io.reg_raise io b h (by simp) (.inr hn)

theorem Io.fld_addSat (p : PageRef) (off lo len n : Nat) (h : lo + len ≤ 32) :
    (io.addSat p off lo len n).fld p off lo len = sat len (io.fld p off lo len + n) := by
  rw [Io.addSat, Io.fld_setFld_self _ _ _ _ _ _ h, Nat.mod_eq_of_lt (sat_lt _ _)]

/-- A latched event stays latched when another occurs (R37). -/
theorem Io.pend_raise (p : PageRef) {b i : Nat} (h : b < 32) : (io.raise p b).flag p Reg.EVT_PEND i = (decide (i = b) || io.flag p Reg.EVT_PEND i) := by
  rw [Io.flag, Io.reg_raise_pend, bit_setBit _ _ _ h]
  by_cases hi : i = b <;> simp [hi, Io.flag]

theorem Io.pend_recordErr (p : PageRef) (code info i : Nat) :
    (io.recordErr p code info).flag p Reg.EVT_PEND i = (decide (i = 0) || io.flag p Reg.EVT_PEND i) := by
  rw [Io.flag, Io.reg_recordErr_pend, bit_setBit _ _ _ (by decide)]
  by_cases hi : i = 0 <;> simp [hi, Io.flag]

theorem Io.pend_recordOpen (p : PageRef) (code : Nat) {i : Nat} (h : io.flag p Reg.EVT_PEND i = true) :
    (io.recordOpen p code).flag p Reg.EVT_PEND i = true := by
  have := io.pend_recordErr p code (io.freeNat 32) i
  rwa [h, Bool.or_true] at this

/-- A record advances COUNT of ERR_CODE (R34). -/
theorem Io.count_recordErr (p : PageRef) {code : Nat} (info : Nat) (h : code < 2 ^ 16) :
    (io.recordErr p code info).fld p Reg.ERR_CODE 16 8 = sat 8 (io.fld p Reg.ERR_CODE 16 8 + 1) := by
  have hlt := sat_lt 8 (io.fld p Reg.ERR_CODE 16 8 + 1)
  rw [Io.fld, Io.reg_recordErr_code, bits_of _ _ _ (by omega)]
  omega

theorem sat_succ_sat_succ (n x : Nat) : sat n (sat n (x + 1) + 1) = sat n (x + 2) := by
  unfold sat
  omega

end

end Sys2Proof.Machine

/-! A stage that exceeds its maximum (R121): what is recorded before the port restarts, and that the restart leaves the record alone. -/
namespace Sys2Proof.Machine

section
variable (io : Io) (ser : Ser) (p : Fin 128)

theorem Io.pcs_laneFlags (ls : List Nat) (i : Nat) (b : Bool) {off : Nat} (h : off < 0x1000) :
    (io.laneFlags ls i b).reg (.pcs p) off = io.reg (.pcs p) off := by
  induction ls generalizing io with
  | nil => rfl
  | cons l ls ih => exact (ih _).trans (io.pcs_put_lane _ (by decide) h)

theorem restartCdr_pcs (warm : Bool) {off : Nat} (h : off < 0x1000) (hn : off ≠ Reg.PCS_STAT) :
    (restartCdr p warm io ser).1.reg (.pcs p) off = io.reg (.pcs p) off := by
  have hset : ∀ x : Io, (x.setStage p 3).reg (.pcs p) off = x.reg (.pcs p) off := fun x => by
    rw [Io.setStage, laneIx_val]
    exact x.reg_setFld_off _ _ _ hn
  cases warm <;> simp [restartCdr, hset, Io.pcs_laneFlags, h]

theorem restartCdr_stage (warm : Bool) : (restartCdr p warm io ser).1.stage p = 3 := by
  simp [restartCdr, Io.stage, Io.setStage]

/-- The record of a stage that exceeds its maximum. -/
def Io.stageOver : Io := (io.recordErr (.pcs p) 0x0412 (io.stage p)).raise (.pcs p) 4

/-- The record of lanes that arrive too far apart. -/
def Io.skewOver (skew : Nat) : Io := ((io.put (.pcs p) Reg.PCS_SKEW (Word.of skew)).recordOpen (.pcs p) 0x0413).raise (.pcs p) 5

theorem Io.stageOver_info : (io.stageOver p).reg (.pcs p) Reg.ERR_INFO = Word.of (io.stage p) := by
  simp (disch := decide) only [Io.stageOver, Io.reg_raise_off, Io.reg_recordErr_info]

theorem Io.stageOver_code : (io.stageOver p).fld (.pcs p) Reg.ERR_CODE 0 16 = 0x0412
    ∧ (io.stageOver p).fld (.pcs p) Reg.ERR_CODE 16 8 = sat 8 (io.fld (.pcs p) Reg.ERR_CODE 16 8 + 1) := by
  have h : (io.stageOver p).reg (.pcs p) Reg.ERR_CODE = (io.recordErr (.pcs p) 0x0412 (io.stage p)).reg (.pcs p) Reg.ERR_CODE :=
    Io.reg_raise_off _ _ _ (by decide) (by decide)
  rw [Io.fld, Io.fld, h]
  exact ⟨Io.code_recordErr _ _ _ (by decide), Io.count_recordErr _ _ _ (by decide)⟩

theorem Io.stageOver_pend : (io.stageOver p).flag (.pcs p) Reg.EVT_PEND 4 = true := by
  rw [Io.stageOver, Io.pend_raise _ _ (by decide)]
  rfl

theorem Io.stageOver_cfg : (io.stageOver p).reg (.pcs p) Reg.PCS_CFG = io.reg (.pcs p) Reg.PCS_CFG := by
  simp (disch := decide) only [Io.stageOver, Io.reg_raise_off, Io.reg_recordErr_off]

variable (skew : Nat)

theorem Io.skewOver_cfg : (io.skewOver p skew).reg (.pcs p) Reg.PCS_CFG = io.reg (.pcs p) Reg.PCS_CFG := by
  simp (disch := decide) only [Io.skewOver, Io.recordOpen, Io.reg_raise_off, Io.took_reg, Io.reg_recordErr_off, Io.reg_put_off]

theorem Io.skewOver_code : (io.skewOver p skew).fld (.pcs p) Reg.ERR_CODE 0 16 = 0x0413
    ∧ (io.skewOver p skew).fld (.pcs p) Reg.ERR_CODE 16 8 = sat 8 (io.fld (.pcs p) Reg.ERR_CODE 16 8 + 1) := by
  have h : (io.skewOver p skew).reg (.pcs p) Reg.ERR_CODE
      = ((io.put (.pcs p) Reg.PCS_SKEW (Word.of skew)).recordErr (.pcs p) 0x0413 (Io.freeNat (io.put (.pcs p) Reg.PCS_SKEW (Word.of skew)) 32)).reg
          (.pcs p) Reg.ERR_CODE := Io.reg_raise_off _ _ _ (by decide) (by decide)
  have hold : (io.put (.pcs p) Reg.PCS_SKEW (Word.of skew)).reg (.pcs p) Reg.ERR_CODE = io.reg (.pcs p) Reg.ERR_CODE := Io.reg_put_off _ _ (by decide)
  rw [Io.fld, Io.fld, h, Io.fld, ← hold]
  exact ⟨Io.code_recordErr _ _ _ (by decide), Io.count_recordErr _ _ _ (by decide)⟩

theorem Io.skewOver_pend {i : Nat} (h : io.flag (.pcs p) Reg.EVT_PEND i = true ∨ i = 5) : (io.skewOver p skew).flag (.pcs p) Reg.EVT_PEND i = true := by
  rw [Io.skewOver, Io.pend_raise _ _ (by decide), Bool.or_eq_true, decide_eq_true_eq]
  refine h.symm.imp_right fun hi => Io.pend_recordOpen _ _ _ ?_
  rwa [Io.flag, Io.reg_put_off _ _ (by decide)]

end

section
variable (io : Io) (ser : Ser) (p : Fin 128) (ob : StageObs)

/-- What a port records when its stage exceeds its maximum (R121, R123). -/
def Io.timedOut : Io :=
  let io' := if io.stage p = 7 ∧ 20000 < ob.skew.val then (io.stageOver p).skewOver p ob.skew else io.stageOver p
  if io.stage p = 7 ∧ io'.flag (.pcs p) Reg.PCS_CFG 8 = false
      ∧ orderOf (lanesOfSpeed (io.speedOf p)) ob.order ≠ straightOrder (lanesOfSpeed (io.speedOf p)) then io'.recordOpen (.pcs p) 0x0414 else io'

/-- The port accepts its lanes in the order in which they were found (R123, R137). -/
abbrev Io.inOrder : Prop := io.flag (.pcs p) Reg.PCS_CFG 8 = true
  ∨ orderOf (lanesOfSpeed (io.speedOf p)) ob.order = straightOrder (lanesOfSpeed (io.speedOf p))

theorem stageTimeout_eq (h3 : 3 ≤ io.stage p) (h8 : io.stage p ≤ 8) : stageTimeout p ob io ser = restartCdr p false (io.timedOut p ob) ser := by
  simp only [stageTimeout, laneIx_val, h3, h8, and_self, if_true, gt_iff_lt]
  rfl

/-- Without fault of the skew or the order, the stage's record stands alone. -/
theorem Io.timedOut_plain (h : io.stage p ≠ 7 ∨ (ob.skew.val ≤ 20000 ∧ io.inOrder p ob)) : io.timedOut p ob = io.stageOver p := by
  have hskew : ¬(io.stage p = 7 ∧ 20000 < ob.skew.val) := by omega
  simp only [Io.timedOut, if_neg hskew]
  refine if_neg ?_
  rintro ⟨h7, hcfg, horder⟩
  rw [Io.flag, Io.stageOver_cfg] at hcfg
  rcases (h.resolve_left (· h7)).2 with hon | hstraight
  · exact absurd (hon.symm.trans hcfg) (by decide)
  · exact horder hstraight

/-- Beyond the skew that R121 allows, in order, the record of the skew follows that of the stage. -/
theorem Io.timedOut_skew (h7 : io.stage p = 7) (hskew : 20000 < ob.skew.val) (h : io.inOrder p ob) :
    io.timedOut p ob = (io.stageOver p).skewOver p ob.skew := by
  simp only [Io.timedOut, if_pos (And.intro h7 hskew)]
  refine if_neg ?_
  rintro ⟨-, hcfg, horder⟩
  rw [Io.flag, Io.skewOver_cfg, Io.stageOver_cfg] at hcfg
  rcases h with hon | hstraight
  · exact absurd (hon.symm.trans hcfg) (by decide)
  · exact horder hstraight

theorem Io.timedOut_pend : (io.timedOut p ob).flag (.pcs p) Reg.EVT_PEND 4 = true
    ∧ (io.stage p = 7 → 20000 < ob.skew.val → (io.timedOut p ob).flag (.pcs p) Reg.EVT_PEND 5 = true) := by
  have keeps : ∀ (c : Prop) [Decidable c] (x : Io) (i : Nat), x.flag (.pcs p) Reg.EVT_PEND i = true →
      (if c then x.recordOpen (.pcs p) 0x0414 else x).flag (.pcs p) Reg.EVT_PEND i = true := fun c _ x i h => by
    split
    · exact x.pend_recordOpen _ _ h
    · exact h
  refine ⟨keeps _ _ _ ?_, fun h7 hskew => keeps _ _ _ ?_⟩
  · split
    · exact Io.skewOver_pend _ _ _ (.inl (io.stageOver_pend p))
    · exact io.stageOver_pend p
  · rw [if_pos ⟨h7, hskew⟩]
    exact Io.skewOver_pend _ _ _ (.inr rfl)

end

/-- Settles O11: the restart leaves what `Io.timedOut` records, the stage's record alone (`Io.timedOut_plain`) or that of the skew after it (`Io.timedOut_skew`). -/
theorem stageTimeoutsRestart : Obligations.StageTimeoutsRestart := by
  unfold Obligations.StageTimeoutsRestart
  intro p ob dt s h3 h8
  refine Runs.intro (f := fun d => (d.tick dt).links (stageTimeout p ob)) rfl ?_
  generalize hd : (s.dev.tick dt).links (stageTimeout p ob) = d'
  have hreg : ∀ {off}, off < 0x1000 → d'.io.reg (.pcs p) off = (restartCdr p false ((s.dev.io.tick dt).timedOut p ob) s.dev.ser).1.reg (.pcs p) off := by
    intro off h
    rw [← hd, Dev.links_pcs _ _ _ h]
    exact congrArg (fun x : Io × Ser => x.1.reg (.pcs p) off) (stageTimeout_eq _ _ p ob h3 h8)
  have hrec : ∀ {off}, off < 0x1000 → off ≠ Reg.PCS_STAT → d'.io.reg (.pcs p) off = ((s.dev.io.tick dt).timedOut p ob).reg (.pcs p) off :=
    fun h hn => (hreg h).trans (restartCdr_pcs _ _ p false h hn)
  have hpend := (s.dev.io.tick dt).timedOut_pend p ob
  refine ⟨?_, ?_, ?_, fun hplain => ?_, fun h7 hskew => ⟨?_, fun horder => ?_⟩⟩
  · have := restartCdr_stage ((s.dev.io.tick dt).timedOut p ob) s.dev.ser p false
    rw [Io.stage, Io.fld, laneIx_val] at this ⊢
    rwa [hreg (by decide)]
  · rw [← hd, Dev.links_ser]
    exact congrArg (fun x : Io × Ser => x.2.warm) (stageTimeout_eq (s.dev.io.tick dt) s.dev.ser p ob h3 h8)
  · rw [Io.flag, hrec (by decide) (by decide)]
    exact hpend.1
  · rw [Io.fld, Io.fld, hrec (by decide) (by decide), hrec (by decide) (by decide), Io.timedOut_plain (s.dev.io.tick dt) p ob hplain]
    obtain ⟨hcode, hcount⟩ := (s.dev.io.tick dt).stageOver_code p
    exact ⟨hcode, (s.dev.io.tick dt).stageOver_info p, hcount⟩
  · rw [Io.flag, hrec (by decide) (by decide)]
    exact hpend.2 h7 hskew
  · rw [Io.fld, Io.fld, hrec (by decide) (by decide), Io.timedOut_skew (s.dev.io.tick dt) p ob h7 hskew horder]
    obtain ⟨hcode, hcount⟩ := ((s.dev.io.tick dt).stageOver p).skewOver_code p ob.skew
    refine ⟨hcode, hcount.trans ?_⟩
    rw [((s.dev.io.tick dt).stageOver_code p).2]
    exact sat_succ_sat_succ 8 _

end Sys2Proof.Machine

/-! Bits written back to a register of a LANE page (R38, R133): a command that sets or clears one bit of its register writes the others as they read. -/
namespace Sys2Proof.Machine

/-- The row of a register that takes a write at once, into the bits of `mask` alone. -/
structure LiveRow (p : PageRef) (off mask : Nat) (r : Row) : Prop where
  row : rowAt p off = some r
  live : r.shadowed = false
  defd : r.undef = false
  mask : r.wmask = mask

theorem liveRow_sleep (l : Fin 128) : ∃ r, LiveRow (.lane l) Reg.LANE_SLEEP 0x3 r := ⟨_, rfl, rfl, rfl, rfl⟩

theorem liveRow_prbsCtl (l : Fin 128) : ∃ r, LiveRow (.lane l) Reg.LANE_PRBS_CTL 0x3F1F r := ⟨_, rfl, rfl, rfl, rfl⟩

theorem bit_merge (r : Row) (old v : Word) {i : Nat} (h : i < 32) : bit (r.merge old v) i = if bit (Word.of r.wmask) i then bit v i else bit old i := by
  rw [Row.merge, bit_or, bit_and, bit_and, bit_not _ _ h]
  cases bit (Word.of r.wmask) i <;> simp

theorem Row.merge_setBit (r : Row) (old : Word) {i : Nat} (b : Bool) (hi : i < 32) :
    r.merge old (setBit old i b) = if bit (Word.of r.wmask) i then setBit old i b else old := by
  refine word_ext fun j hj => ?_
  rw [bit_merge _ _ _ hj, bit_setBit _ _ _ hi, apply_ite (bit · j), bit_setBit _ _ _ hi]
  by_cases hji : j = i
  · simp [hji]
  · simp [hji]

section
variable {p : PageRef} {off mask : Nat} {r : Row} {io : Io}

theorem LiveRow.regWrite (h : LiveRow p off mask r) {v : Word} (ha : io.accepts p off v = true) :
    io.regWrite 0 p off v = io.put p off (r.merge (io.reg p off) v) := by
  have hpass : io.writeReason p r v = none := by simpa [Io.accepts, h.row] using ha
  simp [Io.regWrite_pass h.row hpass, Io.store, Io.markWritten, h.live, h.defd, Io.put, Io.reg]

/-- A bit that is stored takes its value; the rest of the register stays as it was. -/
theorem LiveRow.writeBit (h : LiveRow p off mask r) {i : Nat} (hi : i < 32) (hm : bit (Word.of mask) i = true) {b : Bool}
    (ha : io.accepts p off (setBit (io.reg p off) i b) = true) : io.regWrite 0 p off (setBit (io.reg p off) i b) = io.setFlag p off i b := by
  rw [h.regWrite ha, Row.merge_setBit _ _ _ hi, h.mask, if_pos hm, Io.setFlag]

/-- A bit that only starts an action leaves the register as it was. -/
theorem LiveRow.writePulse (h : LiveRow p off mask r) {i : Nat} (hi : i < 32) (hm : bit (Word.of mask) i = false) {b : Bool}
    (ha : io.accepts p off (setBit (io.reg p off) i b) = true) : io.regWrite 0 p off (setBit (io.reg p off) i b) = io.put p off (io.reg p off) := by
  rw [h.regWrite ha, Row.merge_setBit _ _ _ hi, h.mask, if_neg (by simp [hm])]

@[simp] theorem Io.reg_put_reg (io : Io) (p q : PageRef) (off o : Nat) : (io.put p off (io.reg p off)).reg q o = io.reg q o :=
  (Io.Same.wr_rd (fun _ => false) io (regAddr p off)).rd _ rfl

end

end Sys2Proof.Machine

/-! The PRBS checker and the eye scan (R128 to R134): what each operation on them leaves in the lane's registers. -/
namespace Sys2Proof.Machine

section
variable (l : Fin 128) (io : Io) (ser : Ser)

/-! The PRBS checker (R128, R129). -/

/-- Counting touches the two counters alone. -/
theorem prbsSync_reg (errs : Nat) {off : Nat} (h : off < Reg.LANE_PRBS_ERR_LO ∨ Reg.LANE_PRBS_BITS_HI < off) :
    (prbsSync l errs io ser).1.reg (.lane l) off = io.reg (.lane l) off := by
  have hne : off ≠ Reg.LANE_PRBS_BITS_LO ∧ off ≠ Reg.LANE_PRBS_BITS_LO + 4 ∧ off ≠ Reg.LANE_PRBS_ERR_LO ∧ off ≠ Reg.LANE_PRBS_ERR_LO + 4 := by
    simp only [Reg.LANE_PRBS_ERR_LO, Reg.LANE_PRBS_BITS_HI, Reg.LANE_PRBS_BITS_LO] at h ⊢
    omega
  obtain ⟨hbits, hbits', herr, herr'⟩ := hne
  unfold prbsSync
  split
  · rfl
  · dsimp only
    split
    · rfl
    · rw [Io.reg_putWide_off _ _ _ _ herr herr', Io.reg_putWide_off _ _ _ _ hbits hbits']

/-- While the compared-bit counter is not full, the error counter takes the errors, saturating (R129). -/
theorem prbsSync_errors (errs : Nat) (hlock : (FMap.find ser.prbsSince l).isSome = true) (h : io.wide (.lane l) Reg.LANE_PRBS_BITS_LO < 2 ^ 48 - 1) :
    (prbsSync l errs io ser).1.wide (.lane l) Reg.LANE_PRBS_ERR_LO = min (2 ^ 48 - 1) (io.wide (.lane l) Reg.LANE_PRBS_ERR_LO + errs) := by
  obtain ⟨t, ht⟩ := Option.isSome_iff_exists.1 hlock
  simp only [prbsSync, ht, if_neg (Nat.not_le.2 h), Io.wide_putWide]
  omega

theorem prbsStop_reg (errs : Nat) {off : Nat} (h : off < Reg.LANE_PRBS_STAT ∨ Reg.LANE_PRBS_BITS_HI < off) :
    (prbsStop l errs io ser).1.reg (.lane l) off = io.reg (.lane l) off := by
  have hs : off < Reg.LANE_PRBS_ERR_LO ∨ Reg.LANE_PRBS_BITS_HI < off := h.imp_left fun h => lt_trans h (by decide)
  have hne : off ≠ Reg.LANE_PRBS_STAT := by
    rintro rfl
    exact absurd h (by decide)
  exact (Io.reg_setFlag_off _ _ _ hne).trans (prbsSync_reg l io ser errs hs)

theorem prbsStop_stat (errs : Nat) :
    (prbsStop l errs io ser).1.reg (.lane l) Reg.LANE_PRBS_STAT = setBit (io.reg (.lane l) Reg.LANE_PRBS_STAT) 0 false := by
  have hsync := prbsSync_reg l io ser errs (off := Reg.LANE_PRBS_STAT) (.inl (by decide))
  simp only [prbsStop, Io.reg_setFlag_self, hsync]

variable {l io ser}

theorem prbsLock_shows {inverted : Bool} (hon : io.flag (.lane l) Reg.LANE_PRBS_CTL 12 = true) (hrx : io.flag (.lane l) Reg.LANE_STAT 4 = true)
    (hinv : inverted = false ∨ io.flag (.lane l) Reg.LANE_PRBS_CTL 13 = true) (hfree : FMap.find ser.prbsSince l = none) :
    let x := prbsLock l inverted io ser
    x.1.flag (.lane l) Reg.LANE_PRBS_STAT 0 = true ∧ x.1.flag (.lane l) Reg.LANE_PRBS_STAT 1 = inverted ∧ FMap.find x.2.prbsSince l = some io.up := by
  have hallow : (!inverted || io.flag (.lane l) Reg.LANE_PRBS_CTL 13) = true := by rcases hinv with h | h <;> simp [h]
  simp [prbsLock, hon, hrx, hallow, hfree]

theorem prbsLost_shows {errs : Nat} (hlock : (FMap.find ser.prbsSince l).isSome = true) (herrs : 256 < errs) :
    let x := (prbsLost l errs io ser).1
    x.flag (.lane l) Reg.LANE_PRBS_STAT 0 = false
      ∧ x.fld (.lane l) Reg.LANE_PRBS_STAT 8 8 = sat 8 (io.fld (.lane l) Reg.LANE_PRBS_STAT 8 8 + 1) ∧ x.flag (.lane l) Reg.EVT_PEND 6 = true := by
  have hx : (prbsLost l errs io ser).1 = ((prbsStop l errs io ser).1.addSat (.lane l) Reg.LANE_PRBS_STAT 8 8 1).raise (.lane l) 6 := by
    simp [prbsLost, hlock, herrs]
  have hold : (prbsStop l errs io ser).1.fld (.lane l) Reg.LANE_PRBS_STAT 8 8 = io.fld (.lane l) Reg.LANE_PRBS_STAT 8 8 := by
    rw [Io.fld, prbsStop_stat, bits_setBit_ne _ _ _ _ _ (by decide) (by decide), Io.fld]
  have hstat : ((prbsStop l errs io ser).1.addSat (.lane l) Reg.LANE_PRBS_STAT 8 8 1).flag (.lane l) Reg.LANE_PRBS_STAT 0 = false := by
    rw [Io.flag, Io.addSat, Io.reg_setFld_self, bit_setBits_ne _ _ _ _ _ (by decide) (by decide), prbsStop_stat, bit_setBit_self _ _ _ (by decide)]
  dsimp only
  rw [hx, Io.flag, Io.fld, Io.lane_raise _ _ (by decide) (by decide), Io.pend_raise _ _ (by decide), ← hold, ← Io.fld_addSat _ _ _ _ _ _ (by decide)]
  exact ⟨hstat, rfl, rfl⟩

/-- What a write of LANE_PRBS_CTL sets in motion once it is stored: CLEAR, then INJECT (R129, R134). -/
def prbsActs (l : Fin 128) (v : Word) (io : Io) (ser : Ser) : Io × Ser :=
  let io := (io.regWrite 0 (.lane l) Reg.LANE_PRBS_CTL v).setFlag (.lane l) Reg.LANE_PRBS_STAT 2 (bit v 4)
  let x := if bit v 17 then prbsClear l io ser else (io, ser)
  if bit v 16 then prbsInject l x.1 x.2 else x

/-- A write back of LANE_PRBS_CTL with a bit beyond the enables set enables nothing, so that only a lack of PAM4 could refuse it (R128, R134). -/
theorem prbsCtlWrite_pulse {k : Nat} (hk : 16 ≤ k) (hk' : k < 32)
    (ha : io.accepts (.lane l) Reg.LANE_PRBS_CTL (setBit (io.reg (.lane l) Reg.LANE_PRBS_CTL) k true) = true) (hpam : io.nrz l = false) :
    prbsCtlWrite l (setBit (io.reg (.lane l) Reg.LANE_PRBS_CTL) k true) io ser
      = (let x := if io.flag (.lane l) Reg.LANE_PRBS_CTL 12 then (io, ser) else prbsStop l 0 io ser
         prbsActs l (setBit (io.reg (.lane l) Reg.LANE_PRBS_CTL) k true) x.1 x.2) := by
  have hkeep : ∀ i, i < 16 → bit (setBit (io.reg (.lane l) Reg.LANE_PRBS_CTL) k true) i = io.flag (.lane l) Reg.LANE_PRBS_CTL i :=
    fun i hi => bit_setBit_ne _ _ hk' (by omega)
  have hold : ∀ i, bit (io.reg (.lane l) Reg.LANE_PRBS_CTL) i = io.flag (.lane l) Reg.LANE_PRBS_CTL i := fun _ => rfl
  simp only [prbsCtlWrite, ha, hkeep 4 (by decide), hkeep 12 (by decide), hold, hpam, Bool.and_not_self, Bool.or_self, Bool.false_and, Bool.and_false,
    Bool.not_true, Bool.false_eq_true, if_false, prbsActs]

theorem prbsClear_shows (io : Io) (ser : Ser) : let x := (prbsClear l io ser).1
    x.wide (.lane l) Reg.LANE_PRBS_ERR_LO = 0 ∧ x.wide (.lane l) Reg.LANE_PRBS_BITS_LO = 0 ∧ x.fld (.lane l) Reg.LANE_PRBS_STAT 8 8 = 0 := by
  have hwide : ∀ (y : Io) (off : Nat), off ≠ Reg.LANE_PRBS_STAT → off + 4 ≠ Reg.LANE_PRBS_STAT →
      (y.setFld (.lane l) Reg.LANE_PRBS_STAT 8 8 0).wide (.lane l) off = y.wide (.lane l) off :=
    fun y off h h' => Io.wide_of_reg (y.reg_setFld_off _ _ _ h) (y.reg_setFld_off _ _ _ h')
  have hbeside : ∀ y : Io, (y.putWide (.lane l) Reg.LANE_PRBS_BITS_LO 0).wide (.lane l) Reg.LANE_PRBS_ERR_LO = y.wide (.lane l) Reg.LANE_PRBS_ERR_LO :=
    fun y => Io.wide_of_reg (y.reg_putWide_off _ _ _ (by decide) (by decide)) (y.reg_putWide_off _ _ _ (by decide) (by decide))
  exact ⟨(hwide _ _ (by decide) (by decide)).trans ((hbeside _).trans (Io.wide_putWide ..)),
    (hwide _ _ (by decide) (by decide)).trans (Io.wide_putWide ..), Io.fld_setFld_self _ _ _ _ _ _ (by decide)⟩

/-- CLEAR, written while INJECT reads 0. -/
theorem prbsCtlWrite_clear (ha : io.accepts (.lane l) Reg.LANE_PRBS_CTL (setBit (io.reg (.lane l) Reg.LANE_PRBS_CTL) 17 true) = true)
    (hpam : io.nrz l = false) (hinj : io.flag (.lane l) Reg.LANE_PRBS_CTL 16 = false) :
    ∃ io' ser', prbsCtlWrite l (setBit (io.reg (.lane l) Reg.LANE_PRBS_CTL) 17 true) io ser = prbsClear l io' ser' := by
  have hset := bit_setBit_self (io.reg (.lane l) Reg.LANE_PRBS_CTL) 17 true (by decide)
  have hno : bit (setBit (io.reg (.lane l) Reg.LANE_PRBS_CTL) 17 true) 16 = false := (bit_setBit_ne _ _ (by decide) (by decide)).trans hinj
  rw [prbsCtlWrite_pulse (by decide) (by decide) ha hpam]
  simp only [prbsActs, hset, hno, if_true, Bool.false_eq_true, if_false]
  exact ⟨_, _, rfl⟩

/-- INJECT, written while CLEAR reads 0 and the checker is on: the error is counted where the generator is on and near-end loopback feeds the checker (R129, R130). -/
theorem prbsCtlWrite_inject (ha : io.accepts (.lane l) Reg.LANE_PRBS_CTL (setBit (io.reg (.lane l) Reg.LANE_PRBS_CTL) 16 true) = true)
    (hpam : io.nrz l = false) (hclr : io.flag (.lane l) Reg.LANE_PRBS_CTL 17 = false) (hgen : io.flag (.lane l) Reg.LANE_PRBS_CTL 4 = true)
    (hchk : io.flag (.lane l) Reg.LANE_PRBS_CTL 12 = true) (hloop : io.fld (.lane l) Reg.LANE_CFG 4 2 = 1) :
    ∃ io', (∀ off, off ≠ Reg.LANE_PRBS_STAT → io'.reg (.lane l) off = io.reg (.lane l) off)
      ∧ prbsCtlWrite l (setBit (io.reg (.lane l) Reg.LANE_PRBS_CTL) 16 true) io ser = prbsSync l 1 io' ser := by
  obtain ⟨r, hrow⟩ := liveRow_prbsCtl l
  have hset := bit_setBit_self (io.reg (.lane l) Reg.LANE_PRBS_CTL) 16 true (by decide)
  have hno : bit (setBit (io.reg (.lane l) Reg.LANE_PRBS_CTL) 16 true) 17 = false := (bit_setBit_ne _ _ (by decide) (by decide)).trans hclr
  rw [prbsCtlWrite_pulse (by decide) (by decide) ha hpam]
  simp only [hchk, if_true, prbsActs, hset, hno, Bool.false_eq_true, if_false, hrow.writePulse (by decide) (by decide) ha]
  generalize hio : (io.put (.lane l) Reg.LANE_PRBS_CTL (io.reg (.lane l) Reg.LANE_PRBS_CTL)).setFlag (.lane l) Reg.LANE_PRBS_STAT 2 _ = io'
  have hreg : ∀ off, off ≠ Reg.LANE_PRBS_STAT → io'.reg (.lane l) off = io.reg (.lane l) off := fun off h => by
    rw [← hio, Io.reg_setFlag_off _ _ _ h, Io.reg_put_reg]
  have hfeeds : (io'.flag (.lane l) Reg.LANE_PRBS_CTL 4 && decide (io'.fld (.lane l) Reg.LANE_CFG 4 2 = 1)) = true := by
    rw [Io.flag, Io.fld, hreg _ (by decide), hreg _ (by decide), Bool.and_eq_true, decide_eq_true_eq]
    exact ⟨hgen, hloop⟩
  exact ⟨io', hreg, by simp only [prbsInject, hfeeds, if_true]⟩

/-! The eye scan (R131, R132). -/

/-- START of a scan that nothing refuses. -/
theorem eyeStart_starts (hpow : io.powered (.lane l) = true) (hlock : io.flag (.lane l) Reg.PAGE_LOCK 1 = false)
    (hfree : io.flag (.lane l) Reg.LANE_EYE_STAT 0 = false) (hok : io.eyeRefused l = false) :
    eyeStart l io ser = (io.put (.lane l) Reg.LANE_EYE_STAT 1, { ser with eyeSince := FMap.insert ser.eyeSince l io.up }) := by
  simp [eyeStart, hpow, hlock, hfree, hok]

/-- START of a scan that R132 refuses. -/
theorem eyeStart_refused (hpow : io.powered (.lane l) = true) (hlock : io.flag (.lane l) Reg.PAGE_LOCK 1 = false)
    (hfree : io.flag (.lane l) Reg.LANE_EYE_STAT 0 = false) (hno : io.eyeRefused l = true) :
    eyeStart l io ser = ((io.ignored (.lane l) Reg.LANE_EYE_CTL 0).recordOpen (.lane l) 0x0411, ser) := by
  simp [eyeStart, hpow, hlock, hfree, hno]

theorem Io.eyeRefusal_shows (io : Io) : let x := (io.ignored (.lane l) Reg.LANE_EYE_CTL 0).recordOpen (.lane l) 0x0411
    x.reg (.lane l) Reg.LANE_EYE_STAT = io.reg (.lane l) Reg.LANE_EYE_STAT ∧ x.fld (.lane l) Reg.ERR_CODE 0 16 = 0x0411 := by
  have hrec : ∀ (y : Io) (code info : Nat), (y.recordErr (.lane l) code info).reg (.lane l) Reg.LANE_EYE_STAT = y.reg (.lane l) Reg.LANE_EYE_STAT :=
    fun y code info => by
      rw [Io.recordErr, Io.lane_raise _ _ (by decide) (by decide), Io.reg_put_off _ _ (by decide), Io.reg_put_off _ _ (by decide)]
  exact ⟨(hrec _ _ _).trans (hrec _ _ _), Io.code_recordErr _ _ _ (by decide)⟩

/-- A scan that ends shows how, and with how many points. -/
theorem eyeEnd_shows {t : Nat} (aborted : Bool) (h : FMap.find ser.eyeSince l = some t) : let x := (eyeEnd l aborted io ser).1
    x.reg (.lane l) Reg.LANE_EYE_STAT
        = Word.of ((if aborted then 4 else 2) + (if aborted then min (io.eyeGrid l).length (io.eyePoints l t) else (io.eyeGrid l).length) * 16)
      ∧ x.flag (.lane l) Reg.EVT_PEND 7 = true := by
  simp only [eyeEnd, h]
  rw [Io.lane_raise _ _ (by decide) (by decide), Io.reg_put_self, Io.pend_raise _ _ (by decide)]
  exact ⟨rfl, rfl⟩

end

/-! The commands. -/

section
variable {l : Fin 128} {s : State}

theorem runs_prbsClear (ha : s.dev.io.accepts (.lane l) Reg.LANE_PRBS_CTL (setBit (s.dev.io.reg (.lane l) Reg.LANE_PRBS_CTL) 17 true) = true)
    (hpam : s.dev.io.nrz l = false) (hinj : s.dev.io.flag (.lane l) Reg.LANE_PRBS_CTL 16 = false) : Runs (.prbsClear l) s fun _ d' =>
      d'.io.wide (.lane l) Reg.LANE_PRBS_ERR_LO = 0 ∧ d'.io.wide (.lane l) Reg.LANE_PRBS_BITS_LO = 0 ∧ d'.io.fld (.lane l) Reg.LANE_PRBS_STAT 8 8 = 0 := by
  obtain ⟨io', ser', hclear⟩ := prbsCtlWrite_clear (ser := s.dev.ser) ha hpam hinj
  refine Runs.intro (f := fun d => d.onSer (prbsCtlWrite l (setBit (d.io.reg (.lane l) Reg.LANE_PRBS_CTL) 17 true))) rfl ?_
  rw [Dev.onSer_io, hclear]
  exact prbsClear_shows io' ser'

theorem runs_prbsInject (ha : s.dev.io.accepts (.lane l) Reg.LANE_PRBS_CTL (setBit (s.dev.io.reg (.lane l) Reg.LANE_PRBS_CTL) 16 true) = true)
    (hpam : s.dev.io.nrz l = false) (hclr : s.dev.io.flag (.lane l) Reg.LANE_PRBS_CTL 17 = false) (hgen : s.dev.io.flag (.lane l) Reg.LANE_PRBS_CTL 4 = true)
    (hchk : s.dev.io.flag (.lane l) Reg.LANE_PRBS_CTL 12 = true) (hloop : s.dev.io.fld (.lane l) Reg.LANE_CFG 4 2 = 1)
    (hlock : (FMap.find s.dev.ser.prbsSince l).isSome = true) (hroom : s.dev.io.wide (.lane l) Reg.LANE_PRBS_BITS_LO < 2 ^ 48 - 1) :
    Runs (.prbsInject l) s fun d d' =>
      d'.io.wide (.lane l) Reg.LANE_PRBS_ERR_LO = min (2 ^ 48 - 1) (d.io.wide (.lane l) Reg.LANE_PRBS_ERR_LO + 1) := by
  obtain ⟨io', hreg, hsync⟩ := prbsCtlWrite_inject (ser := s.dev.ser) ha hpam hclr hgen hchk hloop
  have hwide : ∀ off, off ≠ Reg.LANE_PRBS_STAT → off + 4 ≠ Reg.LANE_PRBS_STAT → io'.wide (.lane l) off = s.dev.io.wide (.lane l) off :=
    fun off h h' => Io.wide_of_reg (hreg _ h) (hreg _ h')
  refine Runs.intro (f := fun d => d.onSer (prbsCtlWrite l (setBit (d.io.reg (.lane l) Reg.LANE_PRBS_CTL) 16 true))) rfl ?_
  rw [Dev.onSer_io, hsync, ← hwide _ (by decide) (by decide)]
  exact prbsSync_errors l io' _ 1 hlock (by rwa [hwide _ (by decide) (by decide)])

theorem runs_eyeScanStart (hpow : s.dev.io.powered (.lane l) = true) (hlock : s.dev.io.flag (.lane l) Reg.PAGE_LOCK 1 = false)
    (hfree : s.dev.io.flag (.lane l) Reg.LANE_EYE_STAT 0 = false) :
    (s.dev.io.eyeRefused l = false → Runs (.eyeScanStart l) s fun d d' =>
        d'.io.reg (.lane l) Reg.LANE_EYE_STAT = 1 ∧ FMap.find d'.ser.eyeSince l = some d.io.up)
      ∧ (s.dev.io.eyeRefused l = true → Runs (.eyeScanStart l) s fun d d' =>
        d'.io.reg (.lane l) Reg.LANE_EYE_STAT = d.io.reg (.lane l) Reg.LANE_EYE_STAT ∧ d'.ser = d.ser ∧ d'.io.fld (.lane l) Reg.ERR_CODE 0 16 = 0x0411) := by
  refine ⟨fun hok => Runs.intro (f := fun d => d.onSer (eyeStart l)) rfl ?_, fun hno => Runs.intro (f := fun d => d.onSer (eyeStart l)) rfl ?_⟩
  · rw [Dev.onSer_io, Dev.onSer_ser, eyeStart_starts hpow hlock hfree hok]
    exact ⟨Io.reg_put_self .., FMap.find_insert_self ..⟩
  · rw [Dev.onSer_io, Dev.onSer_ser, eyeStart_refused hpow hlock hfree hno]
    obtain ⟨hstat, hcode⟩ := Io.eyeRefusal_shows (l := l) s.dev.io
    exact ⟨hstat, rfl, hcode⟩

theorem runs_eyeScanDone {t dt : Nat} (h : FMap.find s.dev.ser.eyeSince l = some t) (hall : (s.dev.io.eyeGrid l).length ≤ (s.dev.io.tick dt).eyePoints l t) :
    Runs (.eyeScanDone l dt) s fun d d' =>
      d'.io.reg (.lane l) Reg.LANE_EYE_STAT = Word.of (2 + (d.io.eyeGrid l).length * 16) ∧ d'.io.flag (.lane l) Reg.EVT_PEND 7 = true := by
  refine ⟨{ s with dev := (s.dev.tick dt).onSer (eyeEnd l false) }, ?_, rfl, eyeEnd_shows false h⟩
  show Host.Outcome.next _ = _
  have hgrid : ((s.dev.tick dt).io.eyeGrid l).length ≤ (s.dev.tick dt).io.eyePoints l t := hall
  simp only [Dev.onSer, Dev.tick_ser, h, hgrid, if_true]

theorem runs_eyeScanAbort {t : Nat} (h : FMap.find s.dev.ser.eyeSince l = some t)
    (ha : s.dev.io.accepts (.lane l) Reg.LANE_EYE_CTL (s.dev.io.reg (.lane l) Reg.LANE_EYE_CTL) = true) : Runs (.eyeScanAbort l) s fun d d' =>
      d'.io.reg (.lane l) Reg.LANE_EYE_STAT = Word.of (4 + min (d.io.eyeGrid l).length (d.io.eyePoints l t) * 16)
        ∧ d'.io.flag (.lane l) Reg.EVT_PEND 7 = true := by
  refine Runs.intro (f := fun d => d.onSer (eyeAbort l)) rfl ?_
  rw [Dev.onSer_io, eyeAbort, if_pos ha]
  exact eyeEnd_shows true h

end

/-- Settles O21: the checker by `prbsLock_shows`, `prbsLost_shows` and what a write back of LANE_PRBS_CTL with CLEAR or INJECT sets in motion (`prbsActs`), the scan by
`eyeStart_starts`, `eyeStart_refused` and `eyeEnd_shows`. -/
theorem laneTestsRun : Obligations.LaneTestsRun := by
  unfold Obligations.LaneTestsRun
  refine ⟨fun l inverted errs dt s => ⟨fun hon hrx hinv hfree => ?_, fun hlock herrs => ?_, runs_prbsClear, runs_prbsInject⟩,
    fun l t dt s => ⟨runs_eyeScanStart, runs_eyeScanDone, runs_eyeScanAbort⟩⟩
  · exact Runs.intro (f := fun d => (d.tick dt).onSer (prbsLock l inverted)) rfl (prbsLock_shows (io := s.dev.io.tick dt) hon hrx hinv hfree)
  · exact Runs.intro (f := fun d => (d.tick dt).onSer (prbsLost l errs)) rfl (prbsLost_shows (io := s.dev.io.tick dt) hlock herrs)

end Sys2Proof.Machine

/-! Partners and sleep (R124 to R126): what an arrival or a departure notes, what sleep stops, and that what a port does then leaves the rest of the lane alone. -/
namespace Sys2Proof.Machine

/-! What a port does to its lanes: CDR lock and adaptation of LANE_STAT, and nothing else (R117, R122). -/

/-- The lane stands as it did, but for CDR lock and adaptation in LANE_STAT. -/
structure Io.LaneStands (l : Fin 128) (io io' : Io) : Prop where
  reg : ∀ {off}, off < 0x1000 → off ≠ Reg.LANE_STAT → io'.reg (.lane l) off = io.reg (.lane l) off
  flag : ∀ {i}, i ≠ 1 → i ≠ 5 → io'.flag (.lane l) Reg.LANE_STAT i = io.flag (.lane l) Reg.LANE_STAT i

/-- Every other bit of a register stays when one is replaced, whichever page it is of. -/
theorem Io.flag_setFlag_other (io : Io) (p q : PageRef) (off : Nat) {i j : Nat} (b : Bool) (hi : i < 32) (h : j ≠ i) :
    (io.setFlag p off i b).flag q off j = io.flag q off j := by
  by_cases ha : regAddr q off = regAddr p off
  · simp only [Io.flag, Io.reg, ha]
    exact Io.flag_setFlag_bit io b hi h
  · rw [Io.flag, Io.reg, Io.setFlag, Io.rd_put_ne _ _ ha, Io.flag, Io.reg]

namespace Io.LaneStands
variable {l : Fin 128} {io x y z : Io}

theorem refl (io : Io) : Io.LaneStands l io io := ⟨fun _ _ => rfl, fun _ _ => rfl⟩

theorem trans (h : Io.LaneStands l x y) (k : Io.LaneStands l y z) : Io.LaneStands l x z :=
  ⟨fun ho hn => (k.reg ho hn).trans (h.reg ho hn), fun h₁ h₅ => (k.flag h₁ h₅).trans (h.flag h₁ h₅)⟩

theorem of_reg (h : ∀ off, off < 0x1000 → y.reg (.lane l) off = x.reg (.lane l) off) : Io.LaneStands l x y :=
  ⟨fun ho _ => h _ ho, fun _ _ => by rw [Io.flag, h _ (by decide), Io.flag]⟩

theorem put (io : Io) (p : Fin 128) {off : Nat} (v : Word) (h : off < 0x1000) : Io.LaneStands l io (io.put (.pcs p) off v) :=
  .of_reg fun _ ho => io.lane_put_pcs v h ho

theorem raise (io : Io) (p : Fin 128) (b : Nat) : Io.LaneStands l io (io.raise (.pcs p) b) := .of_reg fun _ ho => io.lane_raise_pcs b ho

theorem laneFlags (io : Io) (ls : List Nat) {i : Nat} (b : Bool) (hi : i = 1 ∨ i = 5) : Io.LaneStands l io (io.laneFlags ls i b) := by
  induction ls generalizing io with
  | nil => exact .refl io
  | cons k ls ih =>
    refine trans ⟨fun ho hn => ?_, fun h₁ h₅ => ?_⟩ (ih _)
    · exact Io.rd_put_ne _ _ (regAddr_ne (p := .lane l) (q := .lane (laneIx k)) ho (show Reg.LANE_STAT < 0x1000 by decide) (.inr hn))
    · exact io.flag_setFlag_other _ _ _ _ (by omega) (by omega)

theorem setStage (io : Io) (p st : Nat) : Io.LaneStands l io (io.setStage p st) := put io (laneIx p) _ (by decide)

theorem linkDown (io : Io) (p cause : Nat) : Io.LaneStands l io (io.linkDown p cause) := by
  unfold Io.linkDown
  dsimp only
  split
  · exact (((put _ _ _ (by decide)).trans (put _ _ _ (by decide))).trans (put _ _ _ (by decide))).trans
      (((put _ _ _ (by decide)).trans (put _ _ _ (by decide))).trans (raise _ _ 3))
  · exact .refl io

theorem restartCdr (p : Nat) (warm : Bool) (io : Io) (ser : Ser) : Io.LaneStands l io (restartCdr p warm io ser).1 := by
  unfold Machine.restartCdr
  dsimp only
  split
  · exact (laneFlags _ _ _ (.inl rfl)).trans (setStage _ p 3)
  · exact ((laneFlags _ _ _ (.inl rfl)).trans (laneFlags _ _ _ (.inr rfl))).trans (setStage _ p 3)

theorem loseLink (p cause st : Nat) (io : Io) (ser : Ser) : Io.LaneStands l io (loseLink p cause st io ser).1 := by
  refine (linkDown io p cause).trans ?_
  unfold Machine.loseLink
  dsimp only
  split
  · exact restartCdr p true _ _
  · split
    · exact ((laneFlags _ _ _ (.inl rfl)).trans (put _ _ _ (by decide))).trans (setStage _ p st)
    · exact setStage _ p st

/-- What the links mean for flows leaves the lane as it stands. -/
theorem links (d : Dev) (f : Io → Ser → Io × Ser) : Io.LaneStands l (f d.io d.ser).1 (d.links f).io := .of_reg fun _ h => d.links_lane f l h

end Io.LaneStands

/-! Partners (R124). -/

/-- A partner's arrival or departure, as it is noted: the flag, the count in its half of LANE_PARTNER_CNT, the time and the event. -/
def Io.partnerNoted (io : Io) (l : Fin 128) (there : Bool) (half ev : Nat) : Io :=
  (((io.setFlag (.lane l) Reg.LANE_STAT 0 there).addSat (.lane l) Reg.LANE_PARTNER_CNT half 16 1).putWide (.lane l) Reg.LANE_PARTNER_TS_LO io.ns64).raise
    (.lane l) ev

section
variable {l : Fin 128} {io : Io} {ser : Ser}

theorem Io.partnerNoted_shows (io : Io) (there : Bool) {half ev : Nat} (hh : half ≤ 16) (he : ev < 32) :
    let x := io.partnerNoted l there half ev
    x.flag (.lane l) Reg.LANE_STAT 0 = there
      ∧ x.fld (.lane l) Reg.LANE_PARTNER_CNT half 16 = sat 16 (io.fld (.lane l) Reg.LANE_PARTNER_CNT half 16 + 1)
      ∧ x.wide (.lane l) Reg.LANE_PARTNER_TS_LO = io.now % 2 ^ 64 ∧ x.flag (.lane l) Reg.EVT_PEND ev = true := by
  refine ⟨?_, ?_, ?_, ?_⟩
  · rw [Io.flag, Io.partnerNoted, Io.lane_raise _ _ (by decide) (by decide), Io.reg_putWide_off _ _ _ _ (by decide) (by decide), Io.addSat,
      Io.reg_setFld_off _ _ _ _ (by decide), Io.reg_setFlag_self, bit_setBit_self _ _ _ (by decide)]
  · have hcnt := Io.fld_addSat (io.setFlag (.lane l) Reg.LANE_STAT 0 there) (.lane l) Reg.LANE_PARTNER_CNT half 16 1 (by omega)
    rw [Io.fld, Io.partnerNoted, Io.lane_raise _ _ (by decide) (by decide), Io.reg_putWide_off _ _ _ _ (by decide) (by decide)]
    rw [Io.fld, Io.fld, Io.reg_setFlag_off _ _ _ (by decide)] at hcnt
    exact hcnt
  · have hts := Io.wide_putWide ((io.setFlag (.lane l) Reg.LANE_STAT 0 there).addSat (.lane l) Reg.LANE_PARTNER_CNT half 16 1) (.lane l)
      Reg.LANE_PARTNER_TS_LO io.ns64
    rw [Io.ns64, Nat.mod_mod] at hts
    exact (Io.wide_of_reg (Io.lane_raise _ _ (by decide) (by decide)) (Io.lane_raise _ _ (by decide) (by decide))).trans hts
  · rw [Io.partnerNoted, Io.pend_raise _ _ he, decide_eq_true rfl, Bool.true_or]

/-- The note leaves the configuration and the sleep of the lane alone. -/
theorem Io.partnerNoted_reg (io : Io) (there : Bool) (half ev : Nat) {off : Nat} (h : off < Reg.LANE_STAT) (hn : off ≠ Reg.EVT_PEND) :
    (io.partnerNoted l there half ev).reg (.lane l) off = io.reg (.lane l) off := by
  have hne : ∀ {k}, Reg.LANE_STAT ≤ k → off ≠ k := fun hk => (lt_of_lt_of_le h hk).ne
  rw [Io.partnerNoted, Io.lane_raise _ _ (h.trans (by decide)) hn, Io.reg_putWide_off _ _ _ _ (hne (by decide)) (hne (by decide)), Io.addSat,
    Io.reg_setFld_off _ _ _ _ (hne (by decide)), Io.reg_setFlag_off _ _ _ (hne le_rfl)]

theorem partnerArrived_eq (hw : io.watches l = true) (hp : ser.present.contains l.val = false) :
    partnerArrived l io ser = (let x := io.partnerNoted l true 0 2
      if x.flag (.lane l) Reg.LANE_CFG 8 then x.setFlag (.lane l) Reg.LANE_SLEEP 1 false else x, { ser with present := l.val :: ser.present }) := by
  simp only [partnerArrived, hw, hp, Bool.not_false, Bool.and_self, if_true]
  rfl

theorem partnerDeparted_eq (hw : io.watches l = true) (hp : ser.present.contains l.val = true) :
    partnerDeparted l io ser = (io.partnerNoted l false 16 3, { ser with present := ser.present.erase l.val }) := by
  simp only [partnerDeparted, hw, hp, Bool.and_self, if_true]
  rfl

/-- What a departure does to the port leaves the lane as the departure notes it. -/
theorem signalGone_stands : Io.LaneStands l (partnerDeparted l io ser).1 (signalGone l io ser).1 := by
  unfold signalGone
  dsimp only
  split
  · split
    · exact .loseLink ..
    · exact .refl _
  · exact .refl _

theorem loseLink_present (p cause st : Nat) (io : Io) (ser : Ser) : (loseLink p cause st io ser).2.present = ser.present := by
  have hup : (if io.stage p = 9 then { ser with lastUp := FMap.insert ser.lastUp p io.up } else ser).present = ser.present := by split <;> rfl
  unfold loseLink
  dsimp only
  split
  · exact hup
  · split <;> exact hup

theorem signalGone_present : (signalGone l io ser).2.present = (partnerDeparted l io ser).2.present := by
  unfold signalGone
  dsimp only
  split
  · split
    · exact loseLink_present ..
    · rfl
  · rfl

end

section
variable {l : Fin 128} {dt : Nat} {s : State}

theorem runs_partnerArrived (hw : s.dev.io.watches l = true) (hp : s.dev.ser.present.contains l.val = false) : Runs (.partnerArrived l dt) s fun d d' =>
    d'.ser.present = l.val :: d.ser.present ∧ d'.io.flag (.lane l) Reg.LANE_STAT 0 = true
      ∧ d'.io.fld (.lane l) Reg.LANE_PARTNER_CNT 0 16 = sat 16 (d.io.fld (.lane l) Reg.LANE_PARTNER_CNT 0 16 + 1)
      ∧ d'.io.wide (.lane l) Reg.LANE_PARTNER_TS_LO = (d.io.now + dt) % 2 ^ 64
      ∧ d'.io.flag (.lane l) Reg.EVT_PEND 2 = true
      ∧ d'.io.flag (.lane l) Reg.LANE_SLEEP 1 = (d.io.flag (.lane l) Reg.LANE_SLEEP 1 && !d.io.flag (.lane l) Reg.LANE_CFG 8) := by
  refine Runs.intro (f := fun d => (d.tick dt).links (partnerArrived l)) rfl ?_
  have heq := partnerArrived_eq (io := s.dev.io.tick dt) hw hp
  obtain ⟨hstat, hcnt, hts, hpend⟩ := (s.dev.io.tick dt).partnerNoted_shows (l := l) true (half := 0) (ev := 2) (by decide) (by decide)
  have hcfg := (s.dev.io.tick dt).partnerNoted_reg (l := l) true 0 2 (off := Reg.LANE_CFG) (by decide) (by decide)
  have hslp := (s.dev.io.tick dt).partnerNoted_reg (l := l) true 0 2 (off := Reg.LANE_SLEEP) (by decide) (by decide)
  generalize (s.dev.io.tick dt).partnerNoted l true 0 2 = x at heq hstat hcnt hts hpend hcfg hslp
  generalize hd : (s.dev.tick dt).links (partnerArrived l) = d'
  have hreg : ∀ {off}, off < 0x1000 → d'.io.reg (.lane l) off
      = (if x.flag (.lane l) Reg.LANE_CFG 8 then x.setFlag (.lane l) Reg.LANE_SLEEP 1 false else x).reg (.lane l) off := fun h => by
    rw [← hd, Dev.links_lane _ _ _ h, Dev.tick_io, Dev.tick_ser, heq]
  have hkept : ∀ {off}, off < 0x1000 → off ≠ Reg.LANE_SLEEP → d'.io.reg (.lane l) off = x.reg (.lane l) off := fun h hn => by
    rw [hreg h]
    split
    · exact x.reg_setFlag_off _ _ hn
    · rfl
  refine ⟨?_, ?_, ?_, ?_, ?_, ?_⟩
  · rw [← hd, Dev.links_ser, Dev.tick_io, Dev.tick_ser, heq]
  · rwa [Io.flag, hkept (by decide) (by decide)]
  · rwa [Io.fld, hkept (by decide) (by decide)]
  · exact (Io.wide_of_reg (hkept (by decide) (by decide)) (hkept (by decide) (by decide))).trans hts
  · rwa [Io.flag, hkept (by decide) (by decide)]
  · have hsleep : x.flag (.lane l) Reg.LANE_SLEEP 1 = s.dev.io.flag (.lane l) Reg.LANE_SLEEP 1 := by rw [Io.flag, hslp]; rfl
    have hauto : x.flag (.lane l) Reg.LANE_CFG 8 = s.dev.io.flag (.lane l) Reg.LANE_CFG 8 := by rw [Io.flag, hcfg]; rfl
    rw [Io.flag, hreg (by decide), ← hsleep, ← hauto]
    cases x.flag (.lane l) Reg.LANE_CFG 8
    · simp [Io.flag]
    · simp [bit_setBit_self]

theorem runs_partnerDeparted (hw : s.dev.io.watches l = true) (hp : s.dev.ser.present.contains l.val = true) : Runs (.partnerDeparted l dt) s fun d d' =>
    d'.ser.present = d.ser.present.erase l.val ∧ d'.io.flag (.lane l) Reg.LANE_STAT 0 = false
      ∧ d'.io.fld (.lane l) Reg.LANE_PARTNER_CNT 16 16 = sat 16 (d.io.fld (.lane l) Reg.LANE_PARTNER_CNT 16 16 + 1)
      ∧ d'.io.wide (.lane l) Reg.LANE_PARTNER_TS_LO = (d.io.now + dt) % 2 ^ 64
      ∧ d'.io.flag (.lane l) Reg.EVT_PEND 3 = true := by
  refine Runs.intro (f := fun d => (d.tick dt).links (signalGone l)) rfl ?_
  have heq := partnerDeparted_eq (io := s.dev.io.tick dt) hw hp
  obtain ⟨hstat, hcnt, hts, hpend⟩ := (s.dev.io.tick dt).partnerNoted_shows (l := l) false (half := 16) (ev := 3) (by decide) (by decide)
  have hgone := signalGone_stands (l := l) (io := s.dev.io.tick dt) (ser := s.dev.ser)
  have hlinks := Io.LaneStands.links (l := l) (s.dev.tick dt) (signalGone l)
  rw [heq] at hgone
  have hstands := hgone.trans hlinks
  refine ⟨?_, ?_, ?_, ?_, ?_⟩
  · rw [Dev.links_ser, signalGone_present, Dev.tick_io, Dev.tick_ser, heq]
  · exact (hstands.flag (by decide) (by decide)).trans hstat
  · rwa [Io.fld, hstands.reg (by decide) (by decide)]
  · exact (Io.wide_of_reg (hstands.reg (by decide) (by decide)) (hstands.reg (by decide) (by decide))).trans hts
  · rwa [Io.flag, hstands.reg (by decide) (by decide)]

/-! Sleep (R125, R126). -/

theorem Io.eyeWrite_reg (io : Io) (n : Nat) {off : Nat} (h : off < Reg.LANE_EYE_RES) : (io.eyeWrite l n).reg (.lane l) off = io.reg (.lane l) off := by
  refine foldl_keeps (P := fun x : Io => x.reg (.lane l) off = io.reg (.lane l) off) _ (fun x e hx => ?_) _ io rfl
  rw [Io.took_reg, Io.reg_put_off _ _ (by omega), hx]

/-- The end of a scan touches the result words, its status and the lane's events alone. -/
theorem eyeEnd_reg (aborted : Bool) (io : Io) (ser : Ser) {off : Nat} (h : off < Reg.LANE_EYE_STAT) (hn : off ≠ Reg.EVT_PEND) :
    (eyeEnd l aborted io ser).1.reg (.lane l) off = io.reg (.lane l) off := by
  unfold eyeEnd
  split
  · rfl
  · dsimp only
    rw [Io.lane_raise _ _ (h.trans (by decide)) hn, Io.reg_put_off _ _ h.ne, Io.eyeWrite_reg _ _ (h.trans (by decide))]

/-- A transmitter that LANE_SLEEP puts to sleep is silent. -/
def Io.txAsleep (io : Io) (l : Fin 128) : Io := if io.flag (.lane l) Reg.LANE_SLEEP 0 then io.setFlag (.lane l) Reg.LANE_STAT 3 false else io

/-- A receiver that goes to sleep ends its scan, stops its checker and loses its lock. -/
def Io.rxAsleep (io : Io) (l : Fin 128) (ser : Ser) : Io :=
  ((prbsStop l 0 (eyeEnd l true io ser).1 (eyeEnd l true io ser).2).1.setFlag (.lane l) Reg.LANE_STAT 4 false).setFlag (.lane l) Reg.LANE_STAT 1 false

theorem sleepEffect_io (io : Io) (ser : Ser) : (sleepEffect l io ser).1
    = if (io.txAsleep l).flag (.lane l) Reg.LANE_SLEEP 1 && (io.txAsleep l).flag (.lane l) Reg.LANE_STAT 4 then (io.txAsleep l).rxAsleep l ser
      else io.txAsleep l := by
  exact apply_ite Prod.fst _ _ _

theorem Io.txAsleep_reg (io : Io) {off : Nat} (h : off ≠ Reg.LANE_STAT) : (io.txAsleep l).reg (.lane l) off = io.reg (.lane l) off := by
  unfold Io.txAsleep
  split
  · exact io.reg_setFlag_off _ _ h
  · rfl

theorem Io.rxAsleep_reg (io : Io) (ser : Ser) {off : Nat} (h : off < Reg.LANE_PRBS_STAT) (hs : off ≠ Reg.LANE_STAT) (hp : off ≠ Reg.EVT_PEND) :
    (io.rxAsleep l ser).reg (.lane l) off = io.reg (.lane l) off := by
  rw [Io.rxAsleep, Io.reg_setFlag_off _ _ _ hs, Io.reg_setFlag_off _ _ _ hs, prbsStop_reg _ _ _ _ (.inl h), eyeEnd_reg _ _ _ (h.trans (by decide)) hp]

theorem Io.rxAsleep_stat (io : Io) (ser : Ser) : (io.rxAsleep l ser).reg (.lane l) Reg.LANE_STAT
    = setBit (setBit (io.reg (.lane l) Reg.LANE_STAT) 4 false) 1 false := by
  rw [Io.rxAsleep, Io.reg_setFlag_self, Io.reg_setFlag_self, prbsStop_reg _ _ _ _ (.inl (by decide)), eyeEnd_reg _ _ _ (by decide) (by decide)]

/-- Sleep leaves what the lane's header and its settings hold, but for events and LANE_STAT. -/
theorem sleepEffect_reg (io : Io) (ser : Ser) {off : Nat} (h : off < Reg.LANE_PRBS_STAT) (hs : off ≠ Reg.LANE_STAT) (hp : off ≠ Reg.EVT_PEND) :
    (sleepEffect l io ser).1.reg (.lane l) off = io.reg (.lane l) off := by
  rw [sleepEffect_io]
  split
  · rw [Io.rxAsleep_reg _ _ h hs hp, Io.txAsleep_reg _ hs]
  · exact Io.txAsleep_reg _ hs

theorem sleepEffect_tx (io : Io) (ser : Ser) (h : io.flag (.lane l) Reg.LANE_SLEEP 0 = true) :
    (sleepEffect l io ser).1.flag (.lane l) Reg.LANE_STAT 3 = false := by
  have htx : (io.txAsleep l).flag (.lane l) Reg.LANE_STAT 3 = false := by
    rw [Io.txAsleep, if_pos h, Io.flag_setFlag_self _ _ _ _ _ (by decide)]
  rw [sleepEffect_io]
  split
  · rwa [Io.flag, Io.rxAsleep_stat, bit_setBit_ne _ _ (by decide) (by decide), bit_setBit_ne _ _ (by decide) (by decide)]
  · exact htx

theorem sleepEffect_rx (io : Io) (ser : Ser) (h : io.flag (.lane l) Reg.LANE_SLEEP 1 = true) :
    (sleepEffect l io ser).1.flag (.lane l) Reg.LANE_STAT 4 = false := by
  have hrx : (io.txAsleep l).flag (.lane l) Reg.LANE_SLEEP 1 = true := by rwa [Io.flag, Io.txAsleep_reg _ (by decide)]
  rw [sleepEffect_io, hrx, Bool.true_and]
  split
  · rw [Io.flag, Io.rxAsleep_stat, bit_setBit_ne _ _ (by decide) (by decide), bit_setBit_self _ _ _ (by decide)]
  · next hoff => simpa using hoff

/-- What a sleeping receiver does to its port leaves the lane as sleep leaves it. -/
theorem sleepReg_stands (v : Word) (io : Io) (ser : Ser) : Io.LaneStands l (sleepEffect l (io.sleepWrite l v) ser).1 (sleepReg l v io ser).1 := by
  unfold sleepReg
  dsimp only
  split
  · split
    · split
      · exact .loseLink ..
      · exact .refl _
    · exact .refl _
  · exact .refl _

/-- A write back of LANE_SLEEP that asks for no sleep that R126 forbids. -/
theorem Io.sleepWrite_stored {io : Io} {i : Nat} (hi : i < 2) {on : Bool}
    (ha : io.accepts (.lane l) Reg.LANE_SLEEP (setBit (io.reg (.lane l) Reg.LANE_SLEEP) i on) = true)
    (hok : bit (setBit (io.reg (.lane l) Reg.LANE_SLEEP) i on) 0 = false ∨ io.anOnLane l = false) :
    io.sleepWrite l (setBit (io.reg (.lane l) Reg.LANE_SLEEP) i on) = io.setFlag (.lane l) Reg.LANE_SLEEP i on := by
  obtain ⟨r, hrow⟩ := liveRow_sleep l
  have hmask : bit (Word.of 0x3) i = true := by
    rcases (show i = 0 ∨ i = 1 by omega) with rfl | rfl <;> decide
  rw [Io.sleepWrite, if_neg, hrow.writeBit (by omega) hmask ha]
  rcases hok with h | h <;> simp [h]

/-- TX_SLEEP and RX_SLEEP, where the bit is taken: sleep follows it. -/
theorem sleepReg_shows {io : Io} {i : Nat} (hi : i < 2) {on : Bool} (ser : Ser)
    (ha : io.accepts (.lane l) Reg.LANE_SLEEP (setBit (io.reg (.lane l) Reg.LANE_SLEEP) i on) = true)
    (hok : bit (setBit (io.reg (.lane l) Reg.LANE_SLEEP) i on) 0 = false ∨ io.anOnLane l = false) :
    let x := (sleepReg l (setBit (io.reg (.lane l) Reg.LANE_SLEEP) i on) io ser).1
    x.flag (.lane l) Reg.LANE_SLEEP i = on ∧ (on = true → x.flag (.lane l) Reg.LANE_STAT (3 + i) = false) := by
  have hstands := sleepReg_stands (l := l) (setBit (io.reg (.lane l) Reg.LANE_SLEEP) i on) io ser
  rw [Io.sleepWrite_stored hi ha hok] at hstands
  have hset : (io.setFlag (.lane l) Reg.LANE_SLEEP i on).flag (.lane l) Reg.LANE_SLEEP i = on := Io.flag_setFlag_self _ _ _ _ _ (by omega)
  refine ⟨?_, fun hon => ?_⟩
  · rwa [Io.flag, hstands.reg (by decide) (by decide), sleepEffect_reg _ _ (by decide) (by decide) (by decide)]
  · rw [hstands.flag (by omega) (by omega)]
    rw [hon] at hset ⊢
    rcases (show i = 0 ∨ i = 1 by omega) with rfl | rfl
    · exact sleepEffect_tx _ _ hset
    · exact sleepEffect_rx _ _ hset

theorem runs_txSleep {on : Bool} (ha : s.dev.io.accepts (.lane l) Reg.LANE_SLEEP (setBit (s.dev.io.reg (.lane l) Reg.LANE_SLEEP) 0 on) = true)
    (hok : on = false ∨ s.dev.io.anOnLane l = false) : Runs (.txSleep l on) s fun _ d' =>
      d'.io.flag (.lane l) Reg.LANE_SLEEP 0 = on ∧ (on = true → d'.io.flag (.lane l) Reg.LANE_STAT 3 = false) := by
  refine Runs.intro (f := fun d => d.links (sleepReg l (setBit (d.io.reg (.lane l) Reg.LANE_SLEEP) 0 on))) rfl ?_
  have hlinks := Io.LaneStands.links (l := l) s.dev (sleepReg l (setBit (s.dev.io.reg (.lane l) Reg.LANE_SLEEP) 0 on))
  obtain ⟨hbit, hoff⟩ := sleepReg_shows (by decide) s.dev.ser ha (hok.imp_left fun h => by rw [bit_setBit_self _ _ _ (by decide), h])
  refine ⟨?_, fun hon => (hlinks.flag (by decide) (by decide)).trans (hoff hon)⟩
  rwa [Io.flag, hlinks.reg (by decide) (by decide)]

theorem runs_rxSleep {on : Bool} (ha : s.dev.io.accepts (.lane l) Reg.LANE_SLEEP (setBit (s.dev.io.reg (.lane l) Reg.LANE_SLEEP) 1 on) = true)
    (hok : s.dev.io.flag (.lane l) Reg.LANE_SLEEP 0 = false ∨ s.dev.io.anOnLane l = false) : Runs (.rxSleep l on) s fun _ d' =>
      d'.io.flag (.lane l) Reg.LANE_SLEEP 1 = on ∧ (on = true → d'.io.flag (.lane l) Reg.LANE_STAT 4 = false) := by
  refine Runs.intro (f := fun d => d.links (sleepReg l (setBit (d.io.reg (.lane l) Reg.LANE_SLEEP) 1 on))) rfl ?_
  have hlinks := Io.LaneStands.links (l := l) s.dev (sleepReg l (setBit (s.dev.io.reg (.lane l) Reg.LANE_SLEEP) 1 on))
  obtain ⟨hbit, hoff⟩ := sleepReg_shows (by decide) s.dev.ser ha (hok.imp_left fun h => (bit_setBit_ne _ _ (by decide) (by decide)).trans h)
  refine ⟨?_, fun hon => (hlinks.flag (by decide) (by decide)).trans (hoff hon)⟩
  rwa [Io.flag, hlinks.reg (by decide) (by decide)]

/-- A transmitter of a port that negotiates or trains is not put to sleep, and the write is recorded (R126). -/
theorem runs_txSleep_refused (ha : s.dev.io.accepts (.lane l) Reg.LANE_SLEEP (setBit (s.dev.io.reg (.lane l) Reg.LANE_SLEEP) 0 true) = true)
    (han : s.dev.io.anOnLane l = true) : Runs (.txSleep l true) s fun d d' =>
      d'.io.flag (.lane l) Reg.LANE_SLEEP 0 = d.io.flag (.lane l) Reg.LANE_SLEEP 0
        ∧ d'.io.fld (.lane l) Reg.ERR_CODE 0 16 = 0x0401 ∧ d'.io.reg (.lane l) Reg.ERR_INFO = Word.of Reg.LANE_SLEEP := by
  refine Runs.intro (f := fun d => d.links (sleepReg l (setBit (d.io.reg (.lane l) Reg.LANE_SLEEP) 0 true))) rfl ?_
  have hstands := (sleepReg_stands (l := l) (setBit (s.dev.io.reg (.lane l) Reg.LANE_SLEEP) 0 true) s.dev.io s.dev.ser).trans (.links s.dev _)
  have hwrite : s.dev.io.sleepWrite l (setBit (s.dev.io.reg (.lane l) Reg.LANE_SLEEP) 0 true) = s.dev.io.ignored (.lane l) Reg.LANE_SLEEP 0 := by
    rw [Io.sleepWrite, if_pos]
    rw [ha, han, bit_setBit_self _ _ _ (by decide)]
    rfl
  rw [hwrite] at hstands
  have hreg : ∀ {off}, off < Reg.LANE_PRBS_STAT → off ≠ Reg.LANE_STAT → off ≠ Reg.EVT_PEND →
      (s.dev.links (sleepReg l (setBit (s.dev.io.reg (.lane l) Reg.LANE_SLEEP) 0 true))).io.reg (.lane l) off
        = (s.dev.io.ignored (.lane l) Reg.LANE_SLEEP 0).reg (.lane l) off := fun h hs hp =>
    (hstands.reg (h.trans (by decide)) hs).trans (sleepEffect_reg _ _ h hs hp)
  refine ⟨?_, ?_, ?_⟩
  · rw [Io.flag, hreg (by decide) (by decide) (by decide), Io.reg_ignored_beyond _ _ _ (by simp) (by decide) (show _ < 0x1000 by decide), Io.flag]
  · rw [Io.fld, hreg (by decide) (by decide) (by decide)]
    exact (Io.code_recordErr _ _ _ (codeIgnored_lt _)).trans (by simp [codeIgnored, errClass])
  · rw [hreg (by decide) (by decide) (by decide)]
    exact Io.reg_recordErr_info ..

/-! Waking (R125). -/

/-- A receiver that wakes shows it; what the port does then leaves the lane so. -/
theorem wakeDone_rx {io : Io} (hoff : io.isOff (.lane l) = false) (hpow : io.powered (.lane l) = true)
    (hslp : io.flag (.lane l) Reg.LANE_SLEEP 1 = false) (hrx : io.flag (.lane l) Reg.LANE_STAT 4 = false) (ser : Ser) :
    Io.LaneStands l (((io.setFlag (.lane l) Reg.LANE_STAT 4 true).setFlag (.lane l) Reg.LANE_STAT 1 (ser.present.contains l.val)).raise (.lane l) 9)
      (wakeDone l true io ser).1 := by
  simp only [wakeDone, hoff, hpow, hslp, hrx, Bool.not_true, Bool.not_false, Bool.or_self, Bool.and_self, Bool.false_eq_true, if_true, if_false]
  split
  · split
    · exact .setStage ..
    · exact .refl _
  · exact .refl _

theorem wakeDone_tx {io : Io} (hoff : io.isOff (.lane l) = false) (hpow : io.powered (.lane l) = true)
    (hslp : io.flag (.lane l) Reg.LANE_SLEEP 0 = false) (htx : io.flag (.lane l) Reg.LANE_STAT 3 = false)
    (hpll : io.flag (.lane l) Reg.LANE_STAT 6 = true) (ser : Ser) :
    (wakeDone l false io ser).1 = (io.setFlag (.lane l) Reg.LANE_STAT 3 true).raise (.lane l) 9 := by
  simp [wakeDone, hoff, hpow, hslp, htx, hpll]

theorem runs_wakeDone (hoff : s.dev.io.isOff (.lane l) = false) (hpow : s.dev.io.powered (.lane l) = true) :
    (s.dev.io.flag (.lane l) Reg.LANE_SLEEP 1 = false → s.dev.io.flag (.lane l) Reg.LANE_STAT 4 = false → Runs (.wakeDone l true dt) s fun _ d' =>
        d'.io.flag (.lane l) Reg.LANE_STAT 4 = true ∧ d'.io.flag (.lane l) Reg.EVT_PEND 9 = true)
      ∧ (s.dev.io.flag (.lane l) Reg.LANE_SLEEP 0 = false → s.dev.io.flag (.lane l) Reg.LANE_STAT 3 = false →
        s.dev.io.flag (.lane l) Reg.LANE_STAT 6 = true → Runs (.wakeDone l false dt) s fun _ d' =>
          d'.io.flag (.lane l) Reg.LANE_STAT 3 = true ∧ d'.io.flag (.lane l) Reg.EVT_PEND 9 = true) := by
  refine ⟨fun hslp hrx => Runs.intro (f := fun d => (d.tick dt).links (wakeDone l true)) rfl ?_,
    fun hslp htx hpll => Runs.intro (f := fun d => (d.tick dt).links (wakeDone l false)) rfl ?_⟩
  · have hstands := (wakeDone_rx (io := s.dev.io.tick dt) hoff hpow hslp hrx s.dev.ser).trans (.links (s.dev.tick dt) _)
    refine ⟨(hstands.flag (by decide) (by decide)).trans ?_, ?_⟩
    · rw [Io.flag, Io.lane_raise _ _ (by decide) (by decide), ← Io.flag, Io.flag_setFlag_bit _ _ (by decide) (by decide),
        Io.flag_setFlag_self _ _ _ _ _ (by decide)]
    · rw [Io.flag, hstands.reg (by decide) (by decide), ← Io.flag, Io.pend_raise _ _ (by decide)]
      rfl
  · have hstands := Io.LaneStands.links (l := l) (s.dev.tick dt) (wakeDone l false)
    rw [Dev.tick_io, wakeDone_tx (io := s.dev.io.tick dt) hoff hpow hslp htx hpll] at hstands
    refine ⟨(hstands.flag (by decide) (by decide)).trans ?_, ?_⟩
    · rw [Io.flag, Io.lane_raise _ _ (by decide) (by decide), ← Io.flag, Io.flag_setFlag_self _ _ _ _ _ (by decide)]
    · rw [Io.flag, hstands.reg (by decide) (by decide), ← Io.flag, Io.pend_raise _ _ (by decide)]
      rfl

end

/-- Settles O18: partners by `Io.partnerNoted_shows`, sleep by `sleepReg_shows` or its refusal, waking by `wakeDone_rx` and `wakeDone_tx`; what a port does after any
of them leaves the lane as it stands (`Io.LaneStands`). -/
theorem partnersAndSleep : Obligations.PartnersAndSleep := by
  unfold Obligations.PartnersAndSleep
  refine ⟨fun l dt s hw => ⟨runs_partnerArrived hw, runs_partnerDeparted hw⟩,
    fun l on dt s => ⟨fun ha => ⟨runs_txSleep ha, fun hon han => ?_⟩, runs_rxSleep, runs_wakeDone⟩⟩
  subst hon
  exact runs_txSleep_refused ha han

end Sys2Proof.Machine

/-! A scan whose grid is widened while it runs (R131, R132). START admits a grid of 256 points at most, but LANE_EYE_PHASE and LANE_EYE_VOLT take any grid of their ranges
while a scan runs, and what ends the scan writes a result word for each point of the grid that stands then. Beyond point 255 these words lie past LANE_EYE_RES, and
from point 7,936 on in the PCS page of the same lane. The host's two writes and ten seconds of line rate are enough for a scan on lane 0 to write over PCS_LINK_CNT of
port 0 when it is aborted. -/
namespace Sys2Proof.Machine

/-! The words that a scan writes (R131). -/

/-- A result word: the errors of a point, its phase and its voltage. -/
def eyeWord (errs : Nat) (e : Int × Int) : Word := Word.of (errs + unsigned 8 e.1 * 2 ^ 16 + unsigned 8 e.2 * 2 ^ 24)

/-- The result word of the point `e.1`, whose place in the scan is `e.2`. -/
def Io.eyePoint (io : Io) (l : Fin 128) (e : (Int × Int) × Nat) : Io :=
  (io.put (.lane l) (Reg.LANE_EYE_RES + 4 * e.2) (eyeWord (io.freeNat 16) e.1)).took

theorem Io.eyeWrite_eq (io : Io) (l : Fin 128) (n : Nat) : io.eyeWrite l n = ((io.eyeGrid l).take n).zipIdx.foldl (fun x e => x.eyePoint l e) io := rfl

/-- Points after the `j`-th leave its word alone. -/
theorem Io.reg_eyePoints_after (l : Fin 128) {j : Nat} (xs : List (Int × Int)) : ∀ (io : Io) (k : Nat), j < k →
    ((xs.zipIdx k).foldl (fun x e => x.eyePoint l e) io).reg (.lane l) (Reg.LANE_EYE_RES + 4 * j) = io.reg (.lane l) (Reg.LANE_EYE_RES + 4 * j) := by
  induction xs with
  | nil => exact fun _ _ _ => rfl
  | cons x xs ih =>
    intro io k h
    rw [List.zipIdx_cons, List.foldl_cons, ih _ _ (by omega), Io.eyePoint, Io.took_reg, Io.reg_put_off _ _ (by omega)]

/-- Each point of the scan leaves its word. -/
theorem Io.reg_eyePoints (l : Fin 128) {j : Nat} (xs : List (Int × Int)) : ∀ (io : Io) (k : Nat), k ≤ j → j < k + xs.length →
    ∃ e ∈ xs, ∃ errs < 2 ^ 16, ((xs.zipIdx k).foldl (fun x e => x.eyePoint l e) io).reg (.lane l) (Reg.LANE_EYE_RES + 4 * j) = eyeWord errs e := by
  induction xs with
  | nil => exact fun _ k h h' => absurd h' (by simp; omega)
  | cons x xs ih =>
    intro io k h h'
    rw [List.zipIdx_cons, List.foldl_cons]
    by_cases hk : k = j
    · refine ⟨x, by simp, io.freeNat 16, Nat.mod_lt _ (by decide), ?_⟩
      rw [Io.reg_eyePoints_after _ _ _ _ (by omega), hk, Io.eyePoint, Io.took_reg, Io.reg_put_self]
    · obtain ⟨e, he, hword⟩ := ih (io.eyePoint l (x, k)) (k + 1) (by omega) (by simp at h'; omega)
      exact ⟨e, List.mem_cons_of_mem _ he, hword⟩

theorem Io.reg_eyeWrite (io : Io) (l : Fin 128) {n j : Nat} (hn : j < n) (hg : j < (io.eyeGrid l).length) :
    ∃ e ∈ io.eyeGrid l, ∃ errs < 2 ^ 16, (io.eyeWrite l n).reg (.lane l) (Reg.LANE_EYE_RES + 4 * j) = eyeWord errs e := by
  obtain ⟨e, he, hword⟩ := Io.reg_eyePoints l ((io.eyeGrid l).take n) io 0 (Nat.zero_le j) (by rw [Nat.zero_add, List.length_take]; omega)
  exact ⟨e, List.mem_of_mem_take he, hword⟩

/-- The low byte of the upper half of a result word is the point's phase. -/
theorem eyeWord_phase {errs : Nat} (h : errs < 2 ^ 16) (e : Int × Int) : bits (eyeWord errs e) 16 16 % 256 = unsigned 8 e.1 := by
  have hbyte : ∀ x : Int, unsigned 8 x < 256 := fun x => by unfold unsigned; omega
  have h₁ := hbyte e.1
  have h₂ := hbyte e.2
  rw [eyeWord, bits_of _ _ _ (by omega)]
  omega

/-! The grid of all points, and what ends a scan of it. -/

/-- LANE_EYE_PHASE with every phase, −32 to 31. -/
def everyPhase : Word := 0x011FE0
/-- LANE_EYE_VOLT with every voltage, −127 to 127. -/
def everyVolt : Word := 0x017F81

theorem eyeAxis_length {w : Word} (h : ¬signed 8 (bits w 8 8) < signed 8 (bits w 0 8)) :
    (eyeAxis w).length = (signed 8 (bits w 8 8) - signed 8 (bits w 0 8)).toNat / bits w 16 8 + 1 := by
  simp [eyeAxis, h]

theorem everyPhase_length : (eyeAxis everyPhase).length = 64 := (eyeAxis_length (by decide)).trans (by decide)
theorem everyVolt_length : (eyeAxis everyVolt).length = 255 := (eyeAxis_length (by decide)).trans (by decide)
/-- Phases −32 to 31 read 224 to 255 and 0 to 31 in their byte. -/
theorem everyPhase_bytes : ∀ x ∈ eyeAxis everyPhase, unsigned 8 x < 32 ∨ 224 ≤ unsigned 8 x := by decide

section
variable {io : Io} {l : Fin 128}

theorem Io.everyPoint_length (hphase : io.reg (.lane l) Reg.LANE_EYE_PHASE = everyPhase) (hvolt : io.reg (.lane l) Reg.LANE_EYE_VOLT = everyVolt) :
    (io.eyeGrid l).length = 16320 := by
  simp [Io.eyeGrid, hphase, hvolt, List.length_flatMap, everyPhase_length, everyVolt_length]

theorem Io.everyPoint_phase (hphase : io.reg (.lane l) Reg.LANE_EYE_PHASE = everyPhase) {e : Int × Int} (h : e ∈ io.eyeGrid l) :
    unsigned 8 e.1 < 32 ∨ 224 ≤ unsigned 8 e.1 := by
  rw [Io.eyeGrid, hphase] at h
  obtain ⟨x, hx, hmem⟩ := List.mem_flatMap.1 h
  obtain ⟨v, -, rfl⟩ := List.mem_map.1 hmem
  exact everyPhase_bytes x hx

end

/-- The count of losses of the port's link has been written over by a result word, whose phase byte lies below 32 or above 223. -/
def Io.countStrays (io : Io) (p : Fin 128) : Prop :=
  io.fld (.pcs p) Reg.PCS_LINK_CNT 16 16 % 256 < 32 ∨ 224 ≤ io.fld (.pcs p) Reg.PCS_LINK_CNT 16 16 % 256

/-- Result word 7,956 of a lane is PCS_LINK_CNT of its port. -/
theorem eyeRes_is_linkCount (p : Fin 128) : regAddr (.lane p) (Reg.LANE_EYE_RES + 4 * 7956) = regAddr (.pcs p) Reg.PCS_LINK_CNT := by
  simp only [regAddr, pageBase, Reg.LANE_EYE_RES, Reg.PCS_LINK_CNT]
  omega

section
variable {io : Io} {ser : Ser} {p : Fin 128} {t : Nat}

/-- An aborted scan of all points, with time enough, writes over the count. -/
theorem eyeEnd_strays (hsince : FMap.find ser.eyeSince p = some t) (hphase : io.reg (.lane p) Reg.LANE_EYE_PHASE = everyPhase)
    (hvolt : io.reg (.lane p) Reg.LANE_EYE_VOLT = everyVolt) (hpts : 7956 < io.eyePoints p t) : (eyeEnd p true io ser).1.countStrays p := by
  have hlen : 7956 < (io.eyeGrid p).length := by
    rw [Io.everyPoint_length hphase hvolt]
    decide
  obtain ⟨e, he, errs, herrs, hword⟩ := io.reg_eyeWrite p (n := min (io.eyeGrid p).length (io.eyePoints p t)) (lt_min hlen hpts) hlen
  have hcnt : (eyeEnd p true io ser).1.reg (.pcs p) Reg.PCS_LINK_CNT = eyeWord errs e := by
    simp only [eyeEnd, hsince, if_true]
    rw [Io.reg_raise _ _ (show _ < 0x1000 by decide) (by simp) (.inl (by simp)), Io.pcs_put_lane _ _ (by decide) (by decide), ← hword, Io.reg,
      ← eyeRes_is_linkCount, Io.reg]
  rw [Io.countStrays, Io.fld, hcnt, eyeWord_phase herrs]
  exact Io.everyPoint_phase hphase he

/-- A loss adds one to the count at most. -/
theorem Io.linkDown_count (io : Io) (p : Fin 128) (cause : Nat) :
    (io.linkDown p cause).fld (.pcs p) Reg.PCS_LINK_CNT 16 16 = io.fld (.pcs p) Reg.PCS_LINK_CNT 16 16
      ∨ (io.linkDown p cause).fld (.pcs p) Reg.PCS_LINK_CNT 16 16 = sat 16 (io.fld (.pcs p) Reg.PCS_LINK_CNT 16 16 + 1) := by
  simp only [Io.linkDown, laneIx_val]
  split
  · right
    generalize hx : (io.setFlag (.pcs p) Reg.PCS_STAT 4 false).setFld (.pcs p) Reg.PCS_STAT 5 3 cause = x
    have hold : x.fld (.pcs p) Reg.PCS_LINK_CNT 16 16 = io.fld (.pcs p) Reg.PCS_LINK_CNT 16 16 := by
      rw [← hx, Io.fld, Io.reg_setFld_off _ _ _ _ (by decide), Io.reg_setFlag_off _ _ _ (by decide), Io.fld]
    rw [← hold, ← x.fld_addSat _ _ _ _ _ (by decide), Io.fld, Io.reg_raise_off _ _ _ (by decide) (by decide),
      Io.reg_putWide_off _ _ _ _ (by decide) (by decide), Io.fld]
  · exact .inl rfl

/-- A count that a result word has written over is no 101, nor is it so after a loss. -/
theorem Io.countStrays.notCounted (h : io.countStrays p) (cause : Nat) (ser : Ser) (warm : Bool) :
    (restartCdr p warm (io.linkDown p cause) ser).1.fld (.pcs p) Reg.PCS_LINK_CNT 16 16 ≠ 101 := by
  have hlt : io.fld (.pcs p) Reg.PCS_LINK_CNT 16 16 < 2 ^ 16 := bits_lt ..
  have hcount := io.linkDown_count p cause
  rw [Io.countStrays] at h
  rw [Io.fld, restartCdr_pcs _ _ _ _ (by decide) (by decide), ← Io.fld]
  unfold sat at hcount
  omega

/-! The two ways on from the abort: CDR lock is lost, or RESTART reruns adaptation. -/

theorem cdrLost_notCounted (hlanes : io.portLanes p = [p.val]) (hend : (eyeEnd p true io ser).1.countStrays p) (hpast : io.pastStage p 3 = true) :
    (cdrLost p io ser).1.fld (.pcs p) Reg.PCS_LINK_CNT 16 16 ≠ 101 := by
  have hraised : ((eyeEnd p true io ser).1.raise (.lane p) 4).countStrays p := by
    rwa [Io.countStrays, Io.fld, Io.reg_raise _ _ (show _ < 0x1000 by decide) (by simp) (.inl (by simp))]
  simp only [cdrLost, hpast, hlanes, eyeAbortAll, List.foldl_cons, List.foldl_nil, laneIx_val, loseLink, if_true]
  exact hraised.notCounted 2 _ true

theorem eqRestart_notCounted (hlanes : io.portLanes p = [p.val]) {y : Io} (hset : y.setFlag (.lane p) Reg.LANE_STAT 5 false = io)
    (hend : (eyeEnd p true io ser).1.countStrays p) (hport : io.portOfLane p = some p.val) (hstage : 3 ≤ io.stage p) :
    (eqRestart p y ser).1.fld (.pcs p) Reg.PCS_LINK_CNT 16 16 ≠ 101 := by
  simp only [eqRestart, hset, hport, if_neg (Nat.not_lt.2 hstage), hlanes, eyeAbortAll, List.foldl_cons, List.foldl_nil, laneIx_val]
  exact hend.notCounted 2 _ false

end

/-! The state. -/

/-- Port 0 is up after 100 losses on lane 0, where a scan has run for ten seconds and the host has then widened its grid. -/
def widenedIo : Io :=
  [(PageRef.fw, Reg.FW_STAT, 0x10000), (.lane 0, Reg.PAGE_STAT, 4), (.lane 0, Reg.LANE_STAT, 0x7B), (.lane 0, Reg.LANE_EYE_STAT, 1),
    (.lane 0, Reg.LANE_EYE_PHASE, everyPhase), (.lane 0, Reg.LANE_EYE_VOLT, everyVolt), (.pcs 0, Reg.PAGE_STAT, 4), (.pcs 0, Reg.PCS_CFG, 0x132),
    (.pcs 0, Reg.PCS_STAT, 0x19), (.pcs 0, Reg.PCS_LINK_CNT, 0x640065)].foldl (fun io e => io.put e.1 e.2.1 e.2.2) { Io.reset with up := 10000000000 }

/-- The lanes of that part. -/
def widenedSer : Ser := { Ser.reset with present := [0], eyeSince := [(0, 0)] }

/-- The machine of that part, with no command waiting. -/
def widenedState : State := { State.reset with dev := { Dev.reset with io := widenedIo, ser := widenedSer } }

theorem widenedState_io : widenedState.dev.io = widenedIo := rfl

theorem exec_cdrLockLost (p : Fin 128) (dt : Nat) (s : State) : exec (.cdrLockLost p dt) s = s.run fun d => (d.tick dt).links (cdrLost p) := rfl

theorem exec_laneEqRestart (l : Fin 128) (s : State) :
    exec (.laneEqRestart l) s = s.run fun d => d.links (eqWrite l (setBit (d.io.reg (.lane l) Reg.LANE_EQ_CTL) 8 true)) := rfl

theorem Dev.links_count (d : Dev) (f : Io → Ser → Io × Ser) (p : Fin 128) :
    (d.links f).io.fld (.pcs p) Reg.PCS_LINK_CNT 16 16 = (f d.io d.ser).1.fld (.pcs p) Reg.PCS_LINK_CNT 16 16 := by
  rw [Io.fld, Dev.links_pcs _ _ _ (by decide), Io.fld]

/-- The loss counted as R122 asks would be the 101st. -/
theorem widened_counted : sat 16 (widenedState.dev.io.fld (.pcs 0) Reg.PCS_LINK_CNT 16 16 + 1) = 101 := by decide

/-- Refutes O17: CDR lock of port 0 is lost while a scan on its lane, its grid widened since START, has run for ten seconds. The words of the scan that the loss aborts
write over PCS_LINK_CNT, so that the loss is not counted from 100 to 101. -/
theorem not_linksComeAndGo : ¬ Obligations.LinksComeAndGo := by
  unfold Obligations.LinksComeAndGo
  rintro ⟨-, hlosses⟩
  obtain ⟨-, hloss⟩ := ((hlosses 0 0 widenedState).1 (by decide)).after (exec_cdrLockLost 0 0 widenedState)
  obtain ⟨-, -, hcount, -⟩ := hloss (by decide)
  rw [Dev.links_count, Dev.tick_io, Dev.tick_ser, widened_counted] at hcount
  have hstrays : (eyeEnd 0 true (widenedIo.tick 0) widenedSer).1.countStrays 0 := eyeEnd_strays (p := 0) (t := 0) rfl (by decide) (by decide) (by decide)
  exact cdrLost_notCounted (by decide) hstrays (by decide) hcount

/-- LANE_EQ_CTL as RESTART writes it back. -/
abbrev restartWord : Word := setBit (widenedIo.reg (.lane 0) Reg.LANE_EQ_CTL) 8 true

/-- The part after the write of RESTART, when bring-up is about to resume. -/
def restartedIo : Io := (widenedIo.eqCtlWrite 0 restartWord).setFlag (.lane 0) Reg.LANE_STAT 5 false

theorem eqWrite_restart {l : Fin 128} {v : Word} {io : Io} (ha : io.accepts (.lane l) Reg.LANE_EQ_CTL v = true) (hv : bit v 8 = true) (ser : Ser) :
    eqWrite l v io ser = eqRestart l (io.eqCtlWrite l v) ser := by
  simp [eqWrite, ha, hv]

/-- Refutes O20: RESTART is written to LANE_EQ_CTL of lane 0 in the same state. The scan that ends when bring-up resumes at CDR_LOCK writes over PCS_LINK_CNT, so that the
loss of the link is not counted from 100 to 101. -/
theorem not_equalisersAndNegotiation : ¬ Obligations.EqualisersAndNegotiation := by
  unfold Obligations.EqualisersAndNegotiation
  rintro ⟨hequaliser, -⟩
  have haccepts : widenedIo.accepts (.lane 0) Reg.LANE_EQ_CTL restartWord = true := by decide
  obtain ⟨-, -, -, hloss⟩ := ((hequaliser 0 0 .vga 0 widenedState).2.2 haccepts (by decide) (by decide)).after (exec_laneEqRestart 0 widenedState)
  obtain ⟨-, -, hcount, -⟩ := hloss (by decide)
  rw [Dev.links_count, widened_counted, widenedState_io, eqWrite_restart haccepts (bit_setBit_self _ _ _ (by decide))] at hcount
  have hstrays : (eyeEnd 0 true restartedIo widenedSer).1.countStrays 0 := eyeEnd_strays (p := 0) (t := 0) rfl (by decide) (by decide) (by decide)
  exact eqRestart_notCounted (io := restartedIo) (by decide) rfl hstrays (by decide) (by decide) hcount

end Sys2Proof.Machine

/-! The time base steps (R154, R155, R388): what a step sets, and that the TDM ports that restart on the stepped grid change nothing but their own status. -/
namespace Sys2Proof.Machine

/-! What an event and an ignored write leave of the time. -/

@[simp] theorem Io.raise_now (io : Io) (p : PageRef) (b : Nat) : (io.raise p b).now = io.now :=
  (Io.Same.raise (T := fun _ => true) (fun _ _ => rfl) io b rfl).now

@[simp] theorem Io.raise_up (io : Io) (p : PageRef) (b : Nat) : (io.raise p b).up = io.up :=
  (Io.Same.raise (T := fun _ => true) (fun _ _ => rfl) io b rfl).up

@[simp] theorem Io.ignored_now (io : Io) (p : PageRef) (off reason : Nat) : (io.ignored p off reason).now = io.now :=
  (Io.Same.ignored (T := fun _ => true) (fun _ _ => rfl) io off reason rfl rfl rfl).now

/-! The step itself (R155). -/

/-- A step by the distance to `t` arrives there. -/
theorem Io.stepTime_to (io : Io) (t : Nat) : (io.stepTime (Int.ofNat t - Int.ofNat io.now)).now = t := by
  rw [Io.stepTime, Io.raise_now]
  show (Int.ofNat io.now + (Int.ofNat t - Int.ofNat io.now)).toNat = t
  simp

@[simp] theorem Io.stepTime_up (io : Io) (by_ : Int) : (io.stepTime by_).up = io.up := Io.raise_up ..

theorem Io.stepTime_pend (io : Io) (by_ : Int) : (io.stepTime by_).flag .ptp Reg.EVT_PEND 5 = true := by
  rw [Io.stepTime, Io.pend_raise _ _ (by decide)]
  rfl

/-! What follows a step (R388). -/

/-- The address is that of the status of a TDM port. -/
def tdmStatus (a : Nat) : Bool := decide (∃ q : Fin 16, a = regAddr (.tdmp q) Reg.TDMP_STAT)

theorem tdmStatus_self (p : Nat) : tdmStatus (regAddr (tdmPage p) Reg.TDMP_STAT) = true := decide_eq_true ⟨_, rfl⟩

theorem tdmStatus_ptp {off : Nat} (h : off < 0x1000) : tdmStatus (regAddr .ptp off) = false := by
  refine decide_eq_false ?_
  rintro ⟨q, hq⟩
  exact regAddr_ne (p := .ptp) (q := .tdmp q) h (show Reg.TDMP_STAT < 0x1000 by decide) (.inl (by simp)) hq

theorem Io.Same.tdmRestart (p : Nat) (io : Io) (tdm : Tdm) : Io.Same tdmStatus io (tdmRestart p io tdm).1 := by
  unfold Machine.tdmRestart
  split
  · exact .setFld _ _ _ _ (tdmStatus_self p)
  · exact .refl _ _

theorem Io.Same.tdmTimeStep (io : Io) (tdm : Tdm) : Io.Same tdmStatus io (tdmTimeStep io tdm).1 := by
  refine .foldl₁ (x := (io, tdm)) (fun x p => ?_) _
  dsimp only
  split
  · exact .tdmRestart p x.1 x.2
  · exact .refl _ _

namespace Dev
variable (d : Dev) (before dt : Nat)

/-- Time that has only passed is no step. -/
theorem stepped_still {d : Dev} {before dt : Nat} (h : d.io.now = before + dt) : d.stepped before dt = d := if_pos h

theorem stepped_io : Io.Same tdmStatus d.io (d.stepped before dt).io := by
  unfold stepped
  split
  · exact .refl _ _
  · exact .tdmTimeStep _ _

@[simp] theorem stepped_now : (d.stepped before dt).io.now = d.io.now := (d.stepped_io before dt).now

@[simp] theorem stepped_up : (d.stepped before dt).io.up = d.io.up := (d.stepped_io before dt).up

@[simp] theorem stepped_ptp : (d.stepped before dt).ptp = d.ptp := by
  unfold stepped
  split <;> rfl

theorem stepped_flag_ptp {off : Nat} (h : off < 0x1000) (i : Nat) : (d.stepped before dt).io.flag .ptp off i = d.io.flag .ptp off i := by
  rw [Io.flag, (d.stepped_io before dt).reg (tdmStatus_ptp h), Io.flag]

end Dev
end Sys2Proof.Machine

/-! Time is set and labelled from its sources (R154, R156, R157): the fields of PTP_STAT and PTP_CTL that the servo's rules write, and one rule per command. -/
namespace Sys2Proof.Machine

/-! STATE and the flags of PTP_STAT, and SOURCE of PTP_CTL. -/

section
variable (io : Io)

theorem Io.ptpState_setPtpState {st : Nat} (h : st < 8) : (io.setPtpState st).ptpState = st := by
  rw [Io.setPtpState, Io.ptpState, Io.fld_setFld_self _ _ _ _ _ _ (by decide)]
  exact Nat.mod_eq_of_lt h

@[simp] theorem Io.ptpSource_setPtpState (st : Nat) : (io.setPtpState st).ptpSource = io.ptpSource := by
  rw [Io.ptpSource, Io.fld, Io.setPtpState, Io.reg_setFld_off _ _ _ _ (by decide), Io.ptpSource, Io.fld]

theorem Io.statFlag_setPtpState (st : Nat) {i : Nat} (h : 3 ≤ i) : (io.setPtpState st).flag .ptp Reg.PTP_STAT i = io.flag .ptp Reg.PTP_STAT i := by
  rw [Io.setPtpState, Io.flag, Io.reg_setFld_self, bit_setBits_ne _ _ _ _ _ (by decide) (by omega), Io.flag]

/-- A flag of PTP_STAT lies beside STATE. -/
theorem Io.ptpState_setFlag {i : Nat} (b : Bool) (h : 3 ≤ i) (h' : i < 32) : (io.setFlag .ptp Reg.PTP_STAT i b).ptpState = io.ptpState := by
  rw [Io.ptpState, Io.fld, Io.reg_setFlag_self, bits_setBit_ne _ _ _ _ _ h' (by omega), Io.ptpState, Io.fld]

@[simp] theorem Io.ptpSource_setFlag (i : Nat) (b : Bool) : (io.setFlag .ptp Reg.PTP_STAT i b).ptpSource = io.ptpSource := by
  rw [Io.ptpSource, Io.fld, Io.reg_setFlag_off _ _ _ (by decide), Io.ptpSource, Io.fld]

end

/-- Entering ACQUIRING (R154). -/
theorem acquire_state (io : Io) (ptp : Ptp) : (acquire io ptp).1.ptpState = 2 := io.ptpState_setPtpState (by decide)

theorem liveRow_ptpCtl : ∃ r, LiveRow .ptp Reg.PTP_CTL 0x3 r := ⟨_, rfl, rfl, rfl, rfl⟩

/-- A write that PTP_CTL accepts selects its SOURCE and leaves the rest of the page. -/
theorem Io.ptpCtl_written {io : Io} {v : Word} (h : io.accepts .ptp Reg.PTP_CTL v = true) :
    ∃ w : Word, io.regWrite 0 .ptp Reg.PTP_CTL v = io.put .ptp Reg.PTP_CTL w ∧ bits w 0 2 = bits v 0 2 := by
  obtain ⟨r, hr⟩ := liveRow_ptpCtl
  refine ⟨r.merge (io.reg .ptp Reg.PTP_CTL) v, hr.regWrite h, Nat.eq_of_testBit_eq fun i => ?_⟩
  rw [testBit_bits, testBit_bits]
  by_cases hi : i < 2
  · have hmask : ∀ i < 2, bit (Word.of 0x3) (0 + i) = true := by decide
    have hbit := bit_merge r (io.reg .ptp Reg.PTP_CTL) v (i := 0 + i) (by omega)
    rw [hr.mask, hmask i hi, if_pos rfl] at hbit
    exact congrArg _ hbit
  · simp [hi]

/-! SET and PPS_ARM (R156). -/

section
variable {s : State} (hlock : s.dev.io.flag .ptp Reg.PAGE_LOCK 1 = false)
include hlock

theorem runs_ptpSet_loads (hsource : s.dev.io.ptpSource = 2) : Runs .ptpSet s fun d d' =>
    d'.io.now = d.io.setSeconds * nsPerSec + (d.io.reg .ptp Reg.PTP_SET_NS).toNat ∧ d'.io.flag .ptp Reg.EVT_PEND 5 = true ∧ d'.io.up = d.io.up := by
  have hset : s.dev.io.ptpSet
      = s.dev.io.stepTime (Int.ofNat (s.dev.io.setSeconds * nsPerSec + (s.dev.io.reg .ptp Reg.PTP_SET_NS).toNat) - Int.ofNat s.dev.io.now) := by
    simp [Io.ptpSet, hlock, hsource]
  refine Runs.intro (f := fun d => (d.onIo Io.ptpSet).stepped d.io.now 0) rfl ⟨?_, ?_, ?_⟩
  · rw [Dev.stepped_now, Dev.onIo_io, hset, Io.stepTime_to]
  · rw [Dev.stepped_flag_ptp _ _ _ (by decide), Dev.onIo_io, hset, Io.stepTime_pend]
  · rw [Dev.stepped_up, Dev.onIo_io, hset, Io.stepTime_up]

theorem runs_ptpSet_ignored (hsource : s.dev.io.ptpSource ≠ 2) : Runs .ptpSet s fun d d' =>
    d'.io.now = d.io.now ∧ d'.io.fld .ptp Reg.ERR_CODE 0 16 = codeIgnored .ptp ∧ d'.io.reg .ptp Reg.ERR_INFO = Word.of Reg.PTP_SET_CTL := by
  have hset : s.dev.io.ptpSet = s.dev.io.ignored .ptp Reg.PTP_SET_CTL 0 := by simp [Io.ptpSet, hlock, hsource]
  have hnow : (s.dev.onIo Io.ptpSet).io.now = s.dev.io.now := by rw [Dev.onIo_io, hset, Io.ignored_now]
  refine Runs.intro (f := fun d => (d.onIo Io.ptpSet).stepped d.io.now 0) rfl ?_
  rw [Dev.stepped_still hnow, Dev.onIo_io, hset]
  exact ⟨Io.ignored_now .., Io.code_recordErr _ _ _ (codeIgnored_lt _), Io.reg_recordErr_info ..⟩

theorem runs_ppsArm : Runs .ppsArm s fun d d' => d'.ptp.armed = some d.io.setSeconds ∧ d'.io = d.io :=
  Runs.intro (f := fun d => d.onPtp ppsArm) rfl (by simp [ppsArm, hlock])

end

/-! The labelled pulse (R156). -/

/-- An armed pulse brings the time to its label, whether by a step or because it stands there. -/
theorem ppsPulse_armed {io : Io} {ptp : Ptp} {sec : Nat} (hsource : io.ptpSource = 1) (hstate : io.ptpState = 2 ∨ io.ptpState = 3)
    (harmed : ptp.armed = some sec) :
    (ppsPulse io ptp).1.now = sec * nsPerSec ∧ (ppsPulse io ptp).2 = { ptp with armed := none, labelled := true, jumps := 0 } := by
  have hrun : ¬ (io.ptpSource ≠ 1 ∨ io.ptpState = 0 ∨ io.ptpState = 5) := by omega
  have hheld : ¬ (io.ptpState = 4 ∧ ptp.ref10 = true) := by omega
  simp only [ppsPulse, if_neg hrun, if_neg hheld, harmed, and_true]
  split
  next h0 => exact Int.ofNat.inj (sub_eq_zero.1 h0).symm
  next => exact Io.stepTime_to _ _

theorem runs_ppsPulse {s : State} {sec : Nat} (dt : Nat) (hsource : s.dev.io.ptpSource = 1) (hstate : s.dev.io.ptpState = 2 ∨ s.dev.io.ptpState = 3)
    (harmed : s.dev.ptp.armed = some sec) : Runs (.ppsPulse dt) s fun _ d' =>
      d'.io.now = sec * nsPerSec ∧ d'.ptp.armed = none ∧ d'.ptp.labelled = true := by
  obtain ⟨hnow, hptp⟩ := ppsPulse_armed (io := s.dev.io.tick dt) hsource hstate harmed
  refine Runs.intro (f := fun d => ((d.tick dt).onPtp ppsPulse).stepped d.io.now dt) rfl ?_
  rw [Dev.stepped_now, Dev.stepped_ptp, Dev.onPtp_io, Dev.onPtp_ptp, Dev.tick_io, Dev.tick_ptp, hptp]
  exact ⟨hnow, rfl, rfl⟩

/-! A change of SOURCE (R157). -/

section
variable {io : Io}

theorem sourceState_freeRun (h : io.ptpSource = 2) (ptp : Ptp) : sourceState io ptp = (io.setPtpState 1, ptp) := if_pos h

/-- With SOURCE 1 the 10 MHz input alone tells whether the servo may acquire. -/
theorem sourceState_ref (h : io.ptpSource = 1) (ptp : Ptp) : (sourceState io ptp).1 = io.setPtpState (if ptp.ref10 then 2 else 5) := by
  have hfree : io.ptpSource ≠ 2 := by omega
  simp only [sourceState, if_neg hfree, if_pos h]
  cases ptp.ref10 <;> rfl

@[simp] theorem ptpState_put_ctl (w : Word) : (io.put .ptp Reg.PTP_CTL w).ptpState = io.ptpState := by
  rw [Io.ptpState, Io.fld, Io.reg_put_off _ _ (by decide), Io.ptpState, Io.fld]

@[simp] theorem ptpSource_put_ctl (w : Word) : (io.put .ptp Reg.PTP_CTL w).ptpSource = bits w 0 2 := by rw [Io.ptpSource, Io.fld, Io.reg_put_self]

variable {v : Word} (hv : io.accepts .ptp Reg.PTP_CTL v = true) (hon : io.ptpState ≠ 0) (hnew : bits v 0 2 ≠ io.ptpSource)
include hv hon hnew

/-- An enabled page takes the state of the source that it changes to. -/
theorem ptpSourceWrite_changed (ptp : Ptp) : ∃ io' : Io, io'.now = io.now ∧ io'.ptpSource = bits v 0 2
    ∧ ptpSourceWrite v io ptp = sourceState io' { ptp with labelled := false } := by
  obtain ⟨w, hw, hbits⟩ := Io.ptpCtl_written hv
  refine ⟨io.put .ptp Reg.PTP_CTL w, rfl, by rw [ptpSource_put_ctl, hbits], ?_⟩
  simp [ptpSourceWrite, hw, hbits, hon, hnew]

end

section
variable {v : Word} {s : State} (hv : s.dev.io.accepts .ptp Reg.PTP_CTL v = true) (hon : s.dev.io.ptpState ≠ 0) (hnew : bits v 0 2 ≠ s.dev.io.ptpSource)
include hv hon hnew

theorem runs_ptpSourceWrite_freeRun (h : bits v 0 2 = 2) : Runs (.ptpSourceWrite v) s fun _ d' =>
    d'.io.ptpSource = 2 ∧ d'.io.ptpState = 1 ∧ d'.ptp.labelled = false := by
  obtain ⟨io', hnow, hsource, hwrite⟩ := ptpSourceWrite_changed hv hon hnew s.dev.ptp
  rw [h] at hsource
  rw [sourceState_freeRun hsource] at hwrite
  refine Runs.intro (f := fun d => (d.onPtp (ptpSourceWrite v)).stepped d.io.now 0) rfl ?_
  rw [Dev.stepped_still (by rw [Dev.onPtp_io, hwrite]; exact hnow), Dev.onPtp_io, Dev.onPtp_ptp, hwrite]
  exact ⟨(io'.ptpSource_setPtpState 1).trans hsource, io'.ptpState_setPtpState (by decide), rfl⟩

theorem runs_ptpSourceWrite_ref (h : bits v 0 2 = 1) : Runs (.ptpSourceWrite v) s fun d d' =>
    d'.io.ptpSource = 1 ∧ d'.io.ptpState = (if d.ptp.ref10 then 2 else 5) := by
  obtain ⟨io', hnow, hsource, hwrite⟩ := ptpSourceWrite_changed hv hon hnew s.dev.ptp
  rw [h] at hsource
  have hio : (ptpSourceWrite v s.dev.io s.dev.ptp).1 = io'.setPtpState (if s.dev.ptp.ref10 then 2 else 5) := by rw [hwrite, sourceState_ref hsource]
  refine Runs.intro (f := fun d => (d.onPtp (ptpSourceWrite v)).stepped d.io.now 0) rfl ?_
  rw [Dev.stepped_still (by rw [Dev.onPtp_io, hio]; exact hnow), Dev.onPtp_io, hio]
  exact ⟨(io'.ptpSource_setPtpState _).trans hsource, io'.ptpState_setPtpState (by split <;> decide)⟩

end

/-! The 10 MHz input comes and goes (R154, R156). -/

theorem runs_ref10mPresent {s : State} (dt : Nat) (hsource : s.dev.io.ptpSource = 1) (hstate : s.dev.io.ptpState = 4 ∨ s.dev.io.ptpState = 5) :
    Runs (.ref10mPresent dt) s fun _ d' => d'.io.ptpState = 2 ∧ d'.io.flag .ptp Reg.PTP_STAT 4 = true ∧ d'.ptp.ref10 = true := by
  have hgo : (s.dev.io.tick dt).ptpSource = 1 ∧ ((s.dev.io.tick dt).ptpState = 5 ∨ (s.dev.io.tick dt).ptpState = 4) := ⟨hsource, hstate.symm⟩
  have hpres : ref10mPresent (s.dev.io.tick dt) s.dev.ptp
      = acquire ((s.dev.io.tick dt).setFlag .ptp Reg.PTP_STAT 4 true) { s.dev.ptp with ref10 := true } := by
    simp only [ref10mPresent, Io.ptpSource_setFlag, Io.ptpState_setFlag _ true (show 3 ≤ 4 by decide) (by decide), if_pos hgo]
  refine Runs.intro (f := fun d => (d.tick dt).onPtp ref10mPresent) rfl ?_
  rw [Dev.onPtp_io, Dev.onPtp_ptp, Dev.tick_io, Dev.tick_ptp, hpres]
  refine ⟨acquire_state _ _, ?_, rfl⟩
  rw [acquire, Io.statFlag_setPtpState _ _ (by decide), Io.flag_setFlag_self _ _ _ _ _ (by decide)]

/-- HOLDOVER with its record and its event. -/
theorem Io.holdover_shows (io : Io) : let x := ((io.setPtpState 4).recordOpen .ptp 0x0510).raise .ptp 6
    x.ptpState = 4 ∧ x.flag .ptp Reg.PTP_STAT 4 = io.flag .ptp Reg.PTP_STAT 4 ∧ x.fld .ptp Reg.ERR_CODE 0 16 = 0x0510
      ∧ x.flag .ptp Reg.EVT_PEND 6 = true := by
  intro x
  have hstat : x.reg .ptp Reg.PTP_STAT = (io.setPtpState 4).reg .ptp Reg.PTP_STAT := by
    simp (disch := decide) only [x, Io.recordOpen, Io.reg_raise_off, Io.took_reg, Io.reg_recordErr_off]
  have hcode : x.reg .ptp Reg.ERR_CODE = ((io.setPtpState 4).recordErr .ptp 0x0510 ((io.setPtpState 4).freeNat 32)).reg .ptp Reg.ERR_CODE := by
    simp (disch := decide) only [x, Io.recordOpen, Io.reg_raise_off, Io.took_reg]
  refine ⟨?_, ?_, ?_, ?_⟩
  · rw [Io.ptpState, Io.fld, hstat]
    exact io.ptpState_setPtpState (by decide)
  · rw [Io.flag, hstat]
    exact io.statFlag_setPtpState 4 (by decide)
  · rw [Io.fld, hcode]
    exact Io.code_recordErr _ _ _ (by decide)
  · rw [Io.pend_raise _ _ (by decide)]
    rfl

theorem runs_refLost {s : State} (tenMhz : Bool) (dt : Nat) (hsource : s.dev.io.ptpSource = 1) (hstate : s.dev.io.ptpState = 2 ∨ s.dev.io.ptpState = 3) :
    Runs (.refLost tenMhz dt) s fun d d' =>
      d'.io.ptpState = 4 ∧ d'.io.flag .ptp Reg.PTP_STAT 4 = false ∧ d'.io.fld .ptp Reg.ERR_CODE 0 16 = 0x0510
        ∧ d'.io.flag .ptp Reg.EVT_PEND 6 = true ∧ d'.ptp.ref10 = (d.ptp.ref10 && !tenMhz) := by
  have hgo : (s.dev.io.tick dt).ptpSource = 1 ∧ ((s.dev.io.tick dt).ptpState = 2 ∨ (s.dev.io.tick dt).ptpState = 3) := ⟨hsource, hstate⟩
  have hlost : refLost tenMhz (s.dev.io.tick dt) s.dev.ptp
      = (((((s.dev.io.tick dt).setFlag .ptp Reg.PTP_STAT 4 false).setPtpState 4).recordOpen .ptp 0x0510).raise .ptp 6,
          if tenMhz then { s.dev.ptp with ref10 := false } else s.dev.ptp) := by
    simp only [refLost, Io.ptpSource_setFlag, Io.ptpState_setFlag _ false (show 3 ≤ 4 by decide) (by decide), if_pos hgo]
  obtain ⟨hst, hflag, hcode, hpend⟩ := ((s.dev.io.tick dt).setFlag .ptp Reg.PTP_STAT 4 false).holdover_shows
  refine Runs.intro (f := fun d => (d.tick dt).onPtp (refLost tenMhz)) rfl ?_
  rw [Dev.onPtp_io, Dev.onPtp_ptp, Dev.tick_io, Dev.tick_ptp, hlost]
  refine ⟨hst, hflag.trans (Io.flag_setFlag_self _ _ _ _ _ (by decide)), hcode, hpend, ?_⟩
  cases tenMhz <;> simp

/-- Settles O43, by one rule for each command that sets or labels the time. -/
theorem timeIsSetAndLabelled : Obligations.TimeIsSetAndLabelled := by
  unfold Obligations.TimeIsSetAndLabelled
  intro v sec dt s
  exact ⟨fun hlock => ⟨runs_ptpSet_loads hlock, runs_ptpSet_ignored hlock, runs_ppsArm hlock⟩, runs_ppsPulse dt,
    fun hv hon hnew => ⟨runs_ptpSourceWrite_freeRun hv hon hnew, runs_ptpSourceWrite_ref hv hon hnew⟩, runs_ref10mPresent dt,
    fun tenMhz => runs_refLost tenMhz dt⟩

end Sys2Proof.Machine

/-! Frames at a MAC (R147, R149): a frame that a port receives advances the counter of the first condition that it meets, or those of the frames that pass; what a
passed frame leaves for its Sieve to read. -/
namespace Sys2Proof.Machine

/-! Counters of a page. -/

theorem Io.wide_count48 (io : Io) (p : PageRef) (off n : Nat) : (io.count48 p off n).wide p off = sat 48 (io.wide p off + n) := by
  rw [Io.count48, Io.wide_putWide, Nat.mod_eq_of_lt ((sat_lt 48 _).trans (by decide))]

theorem Io.wide_count48_off (io : Io) (p : PageRef) {off b : Nat} (n : Nat) (h : b + 8 ≤ off ∨ off + 8 ≤ b) :
    (io.count48 p off n).wide p b = io.wide p b :=
  Io.wide_of_reg (Io.reg_putWide_off _ _ _ _ (by omega) (by omega)) (Io.reg_putWide_off _ _ _ _ (by omega) (by omega))

/-- An event of a page leaves the counters beside EVT_PEND. -/
theorem Io.wide_raise (io : Io) {p : PageRef} (b : Nat) {off : Nat} (hp : p ≠ .evt) (h : off + 4 < pageSpan p) (hn : Reg.EVT_PEND < off) :
    (io.raise p b).wide p off = io.wide p off :=
  Io.wide_of_reg (Io.reg_raise io b (by omega) hp (.inr (by omega))) (Io.reg_raise io b h hp (.inr (by omega)))

/-! What the checks of R147 make of a frame. -/

/-- The event that goes with the counter of a drop. -/
def rxEvent (c : Nat) : Option Nat :=
  if c = Reg.MAC_RX_PHY_ERR_LO then some 4 else if c = Reg.MAC_RX_OVERSIZE_LO then some 3 else if c = Reg.MAC_RX_FCS_ERR_LO then some 2 else none

/-- A frame is dropped under counter `c`. -/
def Io.dropped (io : Io) (p : Fin 128) (c : Nat) : Io := ((rxEvent c).elim io (io.raise (.mac p))).count48 (.mac p) c 1

/-- A frame of `n` bytes with its FCS passes. -/
def Io.passed (io : Io) (p : Fin 128) (n : Nat) : Io := (io.count48 (.mac p) Reg.MAC_RX_FRAMES_LO 1).count48 (.mac p) Reg.MAC_RX_BYTES_LO n

section
variable (io : Io) (p : Fin 128) (bs : List Byte) (trunc phy : Bool)

theorem firstCounter_cons (b : Bool) (c : Nat) (xs : List (Bool × Nat)) :
    (((b, c) :: xs).find? (·.1)).map (·.2) = if b then some c else (xs.find? (·.1)).map (·.2) := by cases b <;> rfl

/-- The conditions of R147 in their order. -/
theorem Io.rxDrop_eq : io.rxDrop p bs trunc phy =
    if trunc then some Reg.MAC_RX_TRUNC_LO
    else if phy then some Reg.MAC_RX_PHY_ERR_LO
    else if bs.length < 64 then some Reg.MAC_RX_RUNT_LO
    else if bs.length > io.fld (.mac p) Reg.MAC_MAXLEN 0 14 then some Reg.MAC_RX_OVERSIZE_LO
    else if leAt bs (bs.length - 4) 4 ≠ crc32 (bs.take (bs.length - 4)) then some Reg.MAC_RX_FCS_ERR_LO
    else if beAt bs 12 2 = 0x8808 then some Reg.MAC_RX_PAUSE_LO
    else if !io.macFilter p (beAt bs 0 6) then some Reg.MAC_RX_FILTERED_LO
    else none := by
  simp only [Io.rxDrop, firstCounter_cons, List.find?_nil, Option.map_none, decide_eq_true_eq, gt_iff_lt]

variable {io p bs trunc phy}

theorem macReceive_off (h : io.macReceives p = false) : macReceive p bs trunc phy io = (none, io) := by simp [macReceive, h]

theorem macReceive_on (h : io.macReceives p = true) : macReceive p bs trunc phy io
    = (io.rxDrop p bs trunc phy).elim (some (bs.take (bs.length - 4)), io.passed p bs.length) fun c => (none, io.dropped p c) := by
  rw [Io.rxDrop_eq]
  simp only [macReceive, h, Bool.not_true, Bool.false_eq_true, if_false]
  split_ifs <;> rfl

/-- The counters of drops lie beyond those of the frames that pass. -/
theorem Io.rxDrop_counter {c : Nat} (h : io.rxDrop p bs trunc phy = some c) : 0x110 ≤ c ∧ c < 0x148 := by
  rw [Io.rxDrop_eq] at h
  split_ifs at h <;> (cases h; decide)

/-- A dropped frame advances its counter and none of the frames received. -/
theorem Io.dropped_counts {c : Nat} (h : 0x110 ≤ c ∧ c < 0x148) : (io.dropped p c).wide (.mac p) c = sat 48 (io.wide (.mac p) c + 1)
    ∧ (io.dropped p c).wide (.mac p) Reg.MAC_RX_FRAMES_LO = io.wide (.mac p) Reg.MAC_RX_FRAMES_LO := by
  have hevent : ∀ off, 0x100 ≤ off → off < 0x148 → ((rxEvent c).elim io (io.raise (.mac p))).wide (.mac p) off = io.wide (.mac p) off := by
    intro off hlo hhi
    cases rxEvent c with
    | none => rfl
    | some b => exact io.wide_raise b (by simp) (show off + 4 < 0x1000 by omega) (show 0x28 < off by omega)
  rw [Io.dropped, Io.wide_count48, Io.wide_count48_off _ _ _ (.inl (show 0x100 + 8 ≤ c by omega)), hevent c (by omega) h.2,
    hevent _ (by decide) (by decide)]
  exact ⟨rfl, rfl⟩

end

/-- The tile of a port, whose Sieve its frames meet (R165). -/
abbrev portTile (p : Fin 128) : Fin 16 := Fin.ofNat 16 (p / 8)

/-! What a passed frame changes: two counters of its MAC. -/

section
variable (io : Io) (p : Fin 128) (n : Nat)

theorem Io.passed_counts : (io.passed p n).wide (.mac p) Reg.MAC_RX_FRAMES_LO = sat 48 (io.wide (.mac p) Reg.MAC_RX_FRAMES_LO + 1)
    ∧ (io.passed p n).wide (.mac p) Reg.MAC_RX_BYTES_LO = sat 48 (io.wide (.mac p) Reg.MAC_RX_BYTES_LO + n) := by
  rw [Io.passed, Io.wide_count48, Io.wide_count48_off _ _ _ (.inl (by decide)), Io.wide_count48, Io.wide_count48_off _ _ _ (.inr (by decide))]
  exact ⟨rfl, rfl⟩

@[simp] theorem Io.passed_now : (io.passed p n).now = io.now := rfl
@[simp] theorem Io.passed_up : (io.passed p n).up = io.up := rfl
@[simp] theorem Io.passed_out : (io.passed p n).out = io.out := rfl

theorem Io.passed_rd {a : Nat} (h : a < regAddr (.mac p) 0x100 ∨ regAddr (.mac p) 0x110 ≤ a) : (io.passed p n).rd a = io.rd a := by
  have hne : ∀ off, 0x100 ≤ off → off < 0x110 → a ≠ regAddr (.mac p) off := by
    intro off hlo hhi
    unfold regAddr at h ⊢
    omega
  simp only [Io.passed, Io.count48, Io.putWide]
  rw [Io.rd_put_ne _ _ (hne _ (by decide) (by decide)), Io.rd_put_ne _ _ (hne _ (by decide) (by decide)),
    Io.rd_put_ne _ _ (hne _ (by decide) (by decide)), Io.rd_put_ne _ _ (hne _ (by decide) (by decide))]

theorem Io.passed_reg_mac {off : Nat} (h : off < 0x100) : (io.passed p n).reg (.mac p) off = io.reg (.mac p) off :=
  io.passed_rd p n (.inl (by unfold regAddr; omega))

theorem Io.passed_reg_msec (off : Nat) : (io.passed p n).reg (.msec p) off = io.reg (.msec p) off :=
  io.passed_rd p n (.inr (by simp only [regAddr, pageBase]; omega))

/-- The Sieve of the port's tile. -/
@[simp] theorem Io.passed_reg_siev (off : Nat) : (io.passed p n).reg (.siev (portTile p)) off = io.reg (.siev (portTile p)) off :=
  io.passed_rd p n (.inr (by simp only [regAddr, pageBase, Fin.ofNat]; omega))

@[simp] theorem Io.passed_fld_siev (off lo len : Nat) :
    (io.passed p n).fld (.siev (portTile p)) off lo len = io.fld (.siev (portTile p)) off lo len := by
  rw [Io.fld, Io.passed_reg_siev, Io.fld]

@[simp] theorem Io.passed_wide_siev (off : Nat) :
    (io.passed p n).wide (.siev (portTile p)) off = io.wide (.siev (portTile p)) off :=
  Io.wide_of_reg (io.passed_reg_siev p n off) (io.passed_reg_siev p n (off + 4))

/-- The flow tables. -/
theorem Io.passed_rd_table {a : Nat} (h : 0x2300000 ≤ a) : (io.passed p n).rd a = io.rd a :=
  io.passed_rd p n (.inr (by simp only [regAddr, pageBase]; omega))

end

end Sys2Proof.Machine

/-! What the Sieve reads (R165, R166, R235): the flow table, whose entries a register below it cannot touch, and the class of a frame, which the counters of the MAC
leave as it is. -/
namespace Sys2Proof.Machine

/-! Entries of a table. -/

/-- A key that `g` passes over leaves what `g` picks of the keys. -/
theorem FMap.filterMap_keys_insert {α β : Type} {g : Nat → Option β} {a : Nat} (h : g a = none) (m : FMap α) (v : α) :
    ((FMap.insert m a v).map Prod.fst).filterMap g = (m.map Prod.fst).filterMap g := by
  induction m with
  | nil => simp [FMap.insert, h]
  | cons e m ih =>
    obtain ⟨k, w⟩ := e
    simp only [FMap.insert]
    split_ifs with hlt heq
    · simp [h]
    · simp [heq]
    · simp only [List.map_cons, List.filterMap_cons, ih]

theorem Io.entries_wr {io : Io} {a base size w n : Nat} (v : Word) (h : a < base) :
    (io.wr a v).live.entries base size w n = io.live.entries base size w n := by
  simp only [View.entries, Io.live, Io.wr]
  rw [FMap.filterMap_keys_insert (if_neg (by omega))]

theorem Io.entries_passed (io : Io) (p : Fin 128) (n size w k : Nat) :
    (io.passed p n).live.entries 0x2300000 size w k = io.live.entries 0x2300000 size w k := by
  have hbelow : ∀ off < 0x1000, regAddr (.mac p) off < 0x2300000 := by
    intro off h
    simp only [regAddr, pageBase]
    omega
  simp only [Io.passed, Io.count48, Io.putWide, Io.put]
  rw [Io.entries_wr _ (hbelow _ (by decide)), Io.entries_wr _ (hbelow _ (by decide)), Io.entries_wr _ (hbelow _ (by decide)),
    Io.entries_wr _ (hbelow _ (by decide))]

/-- Views that agree on the flow table match a datagram alike (R166). -/
theorem View.flowMatch_congr {v w : View} (hget : ∀ a, 0x2300000 ≤ a → w.get a = v.get a)
    (hentries : w.entries 0x2300000 0x100 0 4096 = v.entries 0x2300000 0x100 0 4096) (d : Pkt) : w.flowMatch d = v.flowMatch d := by
  have hflow : w.flow = v.flow := funext fun f => funext fun i => hget _ (by unfold flowAddr; omega)
  have hvalid : w.flowValid = v.flowValid := funext fun f => by rw [View.flowValid, hflow, View.flowValid]
  unfold View.flowMatch View.flows View.matchesLeg View.flowAddrBytes View.flowPort View.flowMirror
  rw [hentries, hvalid, hflow]

/-! The class of a passed frame (R165). -/

section
variable (io : Io) (p : Fin 128) (n : Nat)

@[simp] theorem Io.passed_stamp : (io.passed p n).stamp p Reg.MAC_TS_RX_ADJ = io.stamp p Reg.MAC_TS_RX_ADJ := by
  rw [Io.stamp, Io.passed_now, Io.fld, Io.passed_reg_mac _ _ _ (by decide), Io.stamp, Io.fld]

@[simp] theorem Io.passed_station : (io.passed p n).station p = io.station p := by
  rw [Io.station, Io.passed_reg_mac _ _ _ (by decide), Io.fld, Io.passed_reg_mac _ _ _ (by decide), Io.station, Io.fld]

@[simp] theorem Io.passed_listens (k : Nat) (d : Pkt) :
    (io.passed p n).listens (portTile p) k d = io.listens (portTile p) k d := by
  have hlisten : (io.passed p n).listen (portTile p) = io.listen (portTile p) :=
    funext fun j => funext fun w => io.passed_reg_siev p n _
  unfold Io.listens
  rw [hlisten]

@[simp] theorem Io.passed_flowMatch (d : Pkt) : (io.passed p n).live.flowMatch d = io.live.flowMatch d :=
  View.flowMatch_congr (fun _ h => io.passed_rd_table p n h) (io.entries_passed p n _ _ _) d

@[simp] theorem classify_passed (bs : List Byte) : classify (io.passed p n) p bs = classify io p bs := by
  simp only [classify, Io.passed_stamp, Io.passed_station, Io.passed_listens, Io.passed_flowMatch]

end

/-! Presence of flows (R235). -/

/-- The address lies below the flow tables. -/
def belowTables (a : Nat) : Bool := decide (a < 0x2300000)

theorem belowTables_event {a : Nat} (h : eventPlace a = true) : belowTables a = true := by
  refine decide_eq_true (Nat.lt_of_not_le fun hle => ?_)
  unfold eventPlace placeOf at h
  rw [if_neg (by omega), if_neg (by omega), if_neg (by omega)] at h
  split_ifs at h

theorem belowTables_siev (t : Fin 16) {off : Nat} (h : off < 0x4000) : belowTables (regAddr (.siev t) off) = true := by
  refine decide_eq_true ?_
  simp only [regAddr, pageBase]
  omega

theorem Io.Same.count48_siev (io : Io) (t : Fin 16) {off : Nat} (n : Nat) (h : off + 4 < 0x4000) :
    Io.Same belowTables io (io.count48 (.siev t) off n) := .putWide _ _ (belowTables_siev t (by omega)) (belowTables_siev t h)

theorem Io.Same.raise_siev (io : Io) (t : Fin 16) (b : Nat) : Io.Same belowTables io (io.raise (.siev t) b) :=
  .raise (fun _ h => belowTables_event h) _ _ (belowTables_siev t (by decide))

theorem Io.flowPresent_same {io io' : Io} (h : Io.Same belowTables io io') (g : Nat) : io'.flowPresent g = io.flowPresent g := by
  have hflow : ∀ w, io'.rd (flowAddr g w) = io.rd (flowAddr g w) := fun w => h.rd _ (decide_eq_false (by unfold flowAddr; omega))
  have hstate : io'.flowState g = io.flowState g := congrArg (bits · 0 3) (hflow 32)
  have hvalid : io'.live.flowValid g = io.live.flowValid g := congrArg (bit · 0) (hflow 0)
  rw [Io.flowPresent, hstate, hvalid, Io.flowPresent]

/-- What leaves every flow as present as it was switches no fast-path entry. -/
theorem Dev.watching_quiet {d : Dev} {f : Dev → Dev} (h : Io.Same belowTables d.io (f d).io) : d.watching f = f d := by
  unfold Dev.watching
  dsimp only
  split
  · rfl
  · simp only [Io.flowPresent_same h, if_true]
    exact List.foldl_fixed _

end Sys2Proof.Machine

/-! Frames meet the Sieve of their tile (R165, R183, R188, R189): what each class does to the Sieve's page and to what it keeps. -/
namespace Sys2Proof.Machine

/-! A frame on its way to the Sieve. -/

section
variable {d : Dev} {p : Fin 128} {bs : List Byte} {trunc phy : Bool}

theorem msecReceive_off {key : Nat → Option (List Byte)} {io : Io} (h : io.running (.msec p) = false) : msecReceive key p bs io = (some bs, io) := by
  simp [msecReceive, h]

theorem Dev.frame_off (h : d.io.macReceives p = false) : d.frame p bs trunc phy = d := by
  simp only [Dev.frame, macReceive_off h]

theorem Dev.frame_dropped {c : Nat} (h : d.io.macReceives p = true) (hdrop : d.io.rxDrop p bs trunc phy = some c) :
    d.frame p bs trunc phy = d.onIo fun io => io.dropped p c := by
  simp only [Dev.frame, macReceive_on h, hdrop, Option.elim_some]
  rfl

/-- The part once its MAC has passed a frame of `n` bytes. -/
def Dev.passed (d : Dev) (p : Fin 128) (n : Nat) : Dev := d.onIo fun io => io.passed p n

@[simp] theorem Dev.passed_io (d : Dev) (p : Fin 128) (n : Nat) : (d.passed p n).io = d.io.passed p n := rfl
@[simp] theorem Dev.passed_sv (d : Dev) (p : Fin 128) (n : Nat) : (d.passed p n).sv = d.sv := rfl

theorem Dev.frame_passed (h : d.io.macReceives p = true) (hpass : d.io.rxDrop p bs trunc phy = none) (hmsec : d.io.running (.msec p) = false) :
    d.frame p bs trunc phy = (d.passed p bs.length).watching fun d => d.sieve p (bs.take (bs.length - 4)) := by
  have hoff : (d.io.passed p bs.length).running (.msec p) = false := by
    rwa [Io.running, Io.stateOf, Io.fld, Io.passed_reg_msec]
  simp only [Dev.frame, macReceive_on h, hpass, Option.elim_none, msecReceive_off hoff]
  rfl

end

/-! The classes (R165). -/

section
variable {d : Dev} {p : Fin 128} {bs : List Byte}

theorem Dev.sieve_off (h : d.io.running (.siev (portTile p)) = false) : d.sieve p bs = d := by simp only [Dev.sieve, h, Bool.not_false, if_true]

variable (h : d.io.running (.siev (portTile p)) = true)
include h

theorem Dev.sieve_other (hc : classify d.io p bs = .other) :
    d.sieve p bs = d.onIo fun io => io.count48 (.siev (portTile p)) Reg.SIEV_UNMATCHED_LO 1 := by simp only [Dev.sieve, h, hc, Bool.not_true, Bool.false_eq_true, if_false]

theorem Dev.sieve_l3Error (hc : classify d.io p bs = .l3Error) :
    d.sieve p bs = d.onIo fun io => io.count48 (.siev (portTile p)) Reg.SIEV_L3_ERR_LO 1 := by simp only [Dev.sieve, h, hc, Bool.not_true, Bool.false_eq_true, if_false]

theorem Dev.sieve_punt {n : Nat} (hc : classify d.io p bs = .punt n) (hp : d.io.punts p n = true) : d.sieve p bs = d.onSv (punt p bs) := by
  simp only [Dev.sieve, h, hc, hp, Bool.not_true, Bool.false_eq_true, if_false, if_true]

theorem Dev.sieve_listen {k : Nat} {pkt : Pkt} (hc : classify d.io p bs = .listen k pkt) :
    d.sieve p bs = { d with sv := discover (portTile p) k pkt d.io d.sv } := by simp only [Dev.sieve, h, hc, Bool.not_true, Bool.false_eq_true, if_false]

end

/-! Host packets (R188). -/

/-- The item of the interfaces that a punted frame is written with. -/
def puntedFrame (p : Fin 128) (bs : List Byte) (io : Io) : Out :=
  .hostWrite (io.wide (.siev (portTile p)) Reg.SIEV_PUNT_BASE_LO + 2048 * io.fld (.siev (portTile p)) Reg.SIEV_PUNT_TAIL 0 12)
    (leBytes 4 p.val ++ leBytes 4 (bs.length % 2 ^ 14 + b2n (decide (bs.length > 2032)) * 2 ^ 31) ++ leBytes 8 (io.stamp p Reg.MAC_TS_RX_ADJ % 2 ^ 64)
      ++ bs.take 2032)

/-- The slot that the tail moves to. -/
def Io.puntNext (io : Io) (t : Fin 16) : Nat := (io.fld (.siev t) Reg.SIEV_PUNT_TAIL 0 12 + 1) % 2 ^ io.fld (.siev t) Reg.SIEV_PUNT_CFG 1 4

/-- The head within the ring. -/
def Io.puntHead (io : Io) (t : Fin 16) : Nat := io.fld (.siev t) Reg.SIEV_PUNT_HEAD 0 12 % 2 ^ io.fld (.siev t) Reg.SIEV_PUNT_CFG 1 4

/-- The ring is full: the frame is dropped, counted and announced. -/
def Io.puntDropped (io : Io) (t : Fin 16) : Io := (io.count48 (.siev t) Reg.SIEV_PUNT_DROP_LO 1).raise (.siev t) 11

/-- The frame is in its slot, the tail has moved, and the frame is counted. -/
def Io.puntStored (io : Io) (t : Fin 16) (x : Out) : Io :=
  ((io.emit x).put (.siev t) Reg.SIEV_PUNT_TAIL (Word.of (io.puntNext t))).count48 (.siev t) Reg.SIEV_PUNTED_LO 1

/-- As `puntStored`, announced where the ring was empty. -/
def Io.puntWritten (io : Io) (t : Fin 16) (x : Out) : Io :=
  if io.fld (.siev t) Reg.SIEV_PUNT_TAIL 0 12 = io.puntHead t then (io.puntStored t x).raise (.siev t) 10 else io.puntStored t x

section
variable (io : Io) (p : Fin 128) (n : Nat)

@[simp] theorem Io.passed_puntNext : (io.passed p n).puntNext (portTile p) = io.puntNext (portTile p) := by
  rw [Io.puntNext, Io.passed_fld_siev, Io.passed_fld_siev, Io.puntNext]

@[simp] theorem Io.passed_puntHead : (io.passed p n).puntHead (portTile p) = io.puntHead (portTile p) := by
  rw [Io.puntHead, Io.passed_fld_siev, Io.passed_fld_siev, Io.puntHead]

@[simp] theorem puntedFrame_passed (bs : List Byte) : puntedFrame p bs (io.passed p n) = puntedFrame p bs io := by
  rw [puntedFrame, Io.passed_wide_siev, Io.passed_fld_siev, Io.passed_stamp, puntedFrame]

/-- A ring has at most 2^15 slots. -/
theorem Io.puntNext_lt (t : Fin 16) : io.puntNext t < 2 ^ 32 := by
  have hsize : io.fld (.siev t) Reg.SIEV_PUNT_CFG 1 4 < 2 ^ 4 := bits_lt _ _ _
  calc io.puntNext t < 2 ^ io.fld (.siev t) Reg.SIEV_PUNT_CFG 1 4 := Nat.mod_lt _ (by positivity)
    _ ≤ 2 ^ 32 := Nat.pow_le_pow_right (by decide) (by omega)

end

/-- A punted frame is dropped when the ring is full or the tile has had its frames of this second, and written otherwise. A tile without a record of the second has had
none. The two limits become variables before the matches on pairs are opened, since the kernel would count them down. -/
theorem punt_cases (p : Fin 128) (bs : List Byte) (io : Io) (sv : Sieve) :
    let t : Fin 16 := portTile p
    ∃ had : Nat, (FMap.find sv.puntRate t.val = none → had = 0) ∧
      (punt p bs io sv).1 = if io.puntNext t = io.puntHead t ∨ had ≥ 100000 then io.puntDropped t else io.puntWritten t (puntedFrame p bs io) := by
  intro t
  generalize hr : punt p bs io sv = r
  conv at hr => lhs; fun; fun; fun; fun; delta punt
  obtain ⟨second, hsecond⟩ : ∃ n, 1000000000 = n := ⟨_, rfl⟩
  obtain ⟨most, hmost⟩ : ∃ n, 100000 = n := ⟨_, rfl⟩
  rw [hsecond, hmost] at hr
  extract_lets +onlyGivenNames t' pg size head tail next at hr
  split at hr
  next since n hfound =>
  split at hr
  next since' had hwindow =>
  refine ⟨had, fun hnone => ?_, ?_⟩
  · rw [show FMap.find sv.puntRate t'.val = none from hnone, Option.getD_none, Prod.mk.injEq] at hfound
    rw [if_neg (by omega), Prod.mk.injEq] at hwindow
    omega
  · rw [← hr, hmost]
    by_cases hdrop : io.puntNext t = io.puntHead t ∨ had ≥ most
    · rw [if_pos hdrop]
      exact congrArg Prod.fst (if_pos hdrop)
    · rw [if_neg hdrop]
      exact congrArg Prod.fst (if_neg hdrop)

/-! What a punted frame shows. -/

section
variable (io : Io) (t : Fin 16) (x : Out)

theorem Io.puntStored_shows : (io.puntStored t x).wide (.siev t) Reg.SIEV_PUNTED_LO = sat 48 (io.wide (.siev t) Reg.SIEV_PUNTED_LO + 1)
    ∧ (io.puntStored t x).reg (.siev t) Reg.SIEV_PUNT_TAIL = Word.of (io.puntNext t) ∧ (io.puntStored t x).out = x :: io.out := by
  refine ⟨?_, ?_, rfl⟩
  · rw [Io.puntStored, Io.wide_count48]
    exact congrArg (sat 48 <| · + 1) (Io.wide_of_reg (Io.reg_put_off _ _ (by decide)) (Io.reg_put_off _ _ (by decide)))
  · rw [Io.puntStored, Io.count48, Io.reg_putWide_off _ _ _ _ (by decide) (by decide), Io.reg_put_self]

theorem Io.puntWritten_shows : (io.puntWritten t x).wide (.siev t) Reg.SIEV_PUNTED_LO = sat 48 (io.wide (.siev t) Reg.SIEV_PUNTED_LO + 1)
    ∧ (io.puntWritten t x).reg (.siev t) Reg.SIEV_PUNT_TAIL = Word.of (io.puntNext t) ∧ ∃ xs, (io.puntWritten t x).out = xs ++ x :: io.out := by
  obtain ⟨hcount, htail, hout⟩ := io.puntStored_shows t x
  unfold Io.puntWritten
  split
  · obtain ⟨xs, hxs⟩ := (Io.Same.raise_siev (io.puntStored t x) t 10).out
    rw [Io.wide_raise _ _ (by simp) (show _ < 0x4000 by decide) (by decide), Io.reg_raise_off _ _ _ (by decide) (by decide)]
    exact ⟨hcount, htail, xs, hxs.trans (by rw [hout])⟩
  · exact ⟨hcount, htail, [], hout⟩

theorem Io.puntDropped_shows : (io.puntDropped t).wide (.siev t) Reg.SIEV_PUNT_DROP_LO = sat 48 (io.wide (.siev t) Reg.SIEV_PUNT_DROP_LO + 1)
    ∧ (io.puntDropped t).flag (.siev t) Reg.EVT_PEND 11 = true := by
  rw [Io.puntDropped, Io.wide_raise _ _ (by simp) (show _ < 0x4000 by decide) (by decide), Io.wide_count48, Io.pend_raise _ _ (by decide)]
  exact ⟨rfl, rfl⟩

theorem Io.Same.puntDropped : Io.Same belowTables io (io.puntDropped t) := (Io.Same.count48_siev _ _ _ (by decide)).trans (.raise_siev _ _ _)

theorem Io.Same.puntStored : Io.Same belowTables io (io.puntStored t x) :=
  ((Io.Same.emit _ _).trans (.put _ _ (belowTables_siev t (by decide)))).trans (.count48_siev _ _ _ (by decide))

theorem Io.Same.puntWritten : Io.Same belowTables io (io.puntWritten t x) := by
  unfold Io.puntWritten
  split
  · exact (Io.Same.puntStored _ _ _).trans (.raise_siev _ _ _)
  · exact .puntStored _ _ _

end

/-- `punt_cases` of the whole part. It is derived through `Dev.onSv_io`, as the kernel would run `punt` to see that the two sides of that equation agree. -/
theorem Dev.onSv_punt (d : Dev) (p : Fin 128) (bs : List Byte) :
    let t : Fin 16 := portTile p
    ∃ had : Nat, (FMap.find d.sv.puntRate t.val = none → had = 0) ∧ (d.onSv (punt p bs)).io
      = if d.io.puntNext t = d.io.puntHead t ∨ had ≥ 100000 then d.io.puntDropped t else d.io.puntWritten t (puntedFrame p bs d.io) := by
  obtain ⟨had, hfresh, hpunt⟩ := punt_cases p bs d.io d.sv
  exact ⟨had, hfresh, (d.onSv_io (punt p bs)).trans hpunt⟩

theorem Dev.onSv_punt_same (d : Dev) (p : Fin 128) (bs : List Byte) : Io.Same belowTables d.io (d.onSv (punt p bs)).io := by
  obtain ⟨had, -, hpunt⟩ := d.onSv_punt p bs
  rw [hpunt]
  split
  · exact .puntDropped _ _
  · exact .puntWritten _ _ _

/-- An item put on the interfaces since, whatever has followed. -/
theorem Io.puts_of_out {io io' : Io} {x : Out} {xs : List Out} (h : io'.out = xs ++ x :: io.out) : io.puts io' x = true := by
  have hlen : io'.out.length - io.out.length = (xs ++ [x]).length := by
    rw [h]
    simp only [List.length_append, List.length_cons, List.length_nil]
    omega
  have hout : io'.out = (xs ++ [x]) ++ io.out := by simp [h]
  rw [Io.puts, hlen, hout, List.take_left]
  simp

/-! Discovery (R183). -/

/-- The first datagram of a key that a tile hears is watched. -/
theorem discover_first {t : Fin 16} {k : Nat} {pkt : Pkt} {io : Io} {sv : Sieve} (hon : io.flag (.siev t) Reg.SIEV_SEEN_CFG 16 = true)
    (hnone : sv.watches = []) :
    (discover t k pkt io sv).watches.map (fun w => (w.tile, w.listen, w.first, w.count, w.reported)) = [(t.val, k, pkt, 1, none)] := by
  rw [Io.flag] at hon
  simp [discover, hon, hnone]

end Sys2Proof.Machine

/-! Received frames are checked and classified (R147, R165, R183, R188, R189): one rule per fate of a frame, and settling touches neither MAC nor Sieve. -/
namespace Sys2Proof.Machine

/-! What settling leaves. -/

section
variable (d : Dev)

theorem Dev.settle_wide_mac (p : Fin 128) {off : Nat} (h : off + 4 < 0x1000) : d.settle.io.wide (.mac p) off = d.io.wide (.mac p) off :=
  have kept : ∀ {o}, o < 0x1000 → d.settle.io.reg (.mac p) o = d.io.reg (.mac p) o := fun ho =>
    d.settle_same.reg ((settlePlace_page (p := .mac p) ho (by simp)).trans rfl)
  Io.wide_of_reg (kept (by omega)) (kept h)

theorem Dev.settle_reg_siev (t : Fin 16) {off : Nat} (h : off < 0x4000) : d.settle.io.reg (.siev t) off = d.io.reg (.siev t) off :=
  d.settle_same.reg ((settlePlace_page (p := .siev t) h (by simp)).trans rfl)

theorem Dev.settle_wide_siev (t : Fin 16) {off : Nat} (h : off + 4 < 0x4000) : d.settle.io.wide (.siev t) off = d.io.wide (.siev t) off :=
  Io.wide_of_reg (d.settle_reg_siev t (by omega)) (d.settle_reg_siev t h)

@[simp] theorem Dev.settle_sv : d.settle.sv = d.sv := d.settle_only.sv

end

section
variable {p : Fin 128} {bytes : List Byte} {trunc phy : Bool} {dt : Nat} {s : State} {P : Dev → Dev → Prop}

theorem Runs.frame {e : Dev} (h : (s.dev.tick dt).frame p bytes trunc phy = e) (k : P s.dev e.settle) : Runs (.macRxFrame p bytes trunc phy dt) s P :=
  Runs.settle (f := fun d => (d.tick dt).frame p bytes trunc phy) rfl (by rwa [h])

/-! Frames that end at the MAC (R147). -/

theorem runs_frame_off (h : s.dev.io.macReceives p = false) : Runs (.macRxFrame p bytes trunc phy dt) s fun d d' =>
    d'.sv = d.sv ∧ d'.io.wide (.mac p) Reg.MAC_RX_FRAMES_LO = d.io.wide (.mac p) Reg.MAC_RX_FRAMES_LO :=
  Runs.frame (Dev.frame_off h) ⟨Dev.settle_sv _, Dev.settle_wide_mac _ p (by decide)⟩

theorem runs_frame_dropped {c : Nat} (h : s.dev.io.macReceives p = true) (hdrop : s.dev.io.rxDrop p bytes trunc phy = some c) :
    Runs (.macRxFrame p bytes trunc phy dt) s fun d d' =>
      d'.sv = d.sv ∧ d'.io.wide (.mac p) c = sat 48 (d.io.wide (.mac p) c + 1)
        ∧ d'.io.wide (.mac p) Reg.MAC_RX_FRAMES_LO = d.io.wide (.mac p) Reg.MAC_RX_FRAMES_LO := by
  have hc := Io.rxDrop_counter hdrop
  obtain ⟨hcount, hframes⟩ := Io.dropped_counts (io := s.dev.io.tick dt) (p := p) hc
  exact Runs.frame (Dev.frame_dropped h hdrop)
    ⟨Dev.settle_sv _, (Dev.settle_wide_mac _ p (by omega)).trans hcount, (Dev.settle_wide_mac _ p (by decide)).trans hframes⟩

/-! Frames that reach the Sieve. -/

variable (h : s.dev.io.macReceives p = true) (hpass : s.dev.io.rxDrop p bytes trunc phy = none) (hmsec : s.dev.io.running (.msec p) = false)
include h hpass hmsec

/-- What a class of frames does, where it leaves the flow tables alone. -/
theorem Runs.sieved {e : Dev} (he : ((s.dev.tick dt).passed p bytes.length).sieve p (bytes.take (bytes.length - 4)) = e)
    (hquiet : Io.Same belowTables ((s.dev.tick dt).passed p bytes.length).io e.io) (k : P s.dev e.settle) :
    Runs (.macRxFrame p bytes trunc phy dt) s P := by
  have hframe : (s.dev.tick dt).frame p bytes trunc phy = _ := Dev.frame_passed h hpass hmsec
  rw [Dev.watching_quiet (he.symm ▸ hquiet), he] at hframe
  exact Runs.frame hframe k

theorem runs_frame_unsieved (hoff : s.dev.io.running (.siev (portTile p)) = false) : Runs (.macRxFrame p bytes trunc phy dt) s fun d d' =>
    d'.sv = d.sv ∧ d'.io.wide (.mac p) Reg.MAC_RX_FRAMES_LO = sat 48 (d.io.wide (.mac p) Reg.MAC_RX_FRAMES_LO + 1)
      ∧ d'.io.wide (.mac p) Reg.MAC_RX_BYTES_LO = sat 48 (d.io.wide (.mac p) Reg.MAC_RX_BYTES_LO + bytes.length) := by
  have hstill : ((s.dev.tick dt).passed p bytes.length).io.running (.siev (portTile p)) = false := by
    rwa [Io.running, Io.stateOf, Dev.passed_io, Io.passed_fld_siev]
  obtain ⟨hframes, hbytes⟩ := (s.dev.io.tick dt).passed_counts p bytes.length
  exact Runs.sieved h hpass hmsec (Dev.sieve_off hstill) (.refl _ _)
    ⟨Dev.settle_sv _, (Dev.settle_wide_mac _ p (by decide)).trans hframes, (Dev.settle_wide_mac _ p (by decide)).trans hbytes⟩

/-- A class that only counts. -/
theorem runs_frame_counted {off : Nat} (hoff : off + 4 < 0x4000)
    (he : ((s.dev.tick dt).passed p bytes.length).sieve p (bytes.take (bytes.length - 4))
      = ((s.dev.tick dt).passed p bytes.length).onIo fun io => io.count48 (.siev (portTile p)) off 1) :
    Runs (.macRxFrame p bytes trunc phy dt) s fun d d' =>
      d'.sv = d.sv ∧ d'.io.wide (.siev (portTile p)) off = sat 48 (d.io.wide (.siev (portTile p)) off + 1) := by
  refine Runs.sieved h hpass hmsec he (.count48_siev _ _ _ hoff) ⟨Dev.settle_sv _, ?_⟩
  rw [Dev.settle_wide_siev _ _ hoff, Dev.onIo_io, Io.wide_count48, Dev.passed_io, Io.passed_wide_siev]
  rfl

variable (hrun : s.dev.io.running (.siev (portTile p)) = true)
include hrun

omit h hpass hmsec in
theorem Dev.passed_running : ((s.dev.tick dt).passed p bytes.length).io.running (.siev (portTile p)) = true := by
  rwa [Io.running, Io.stateOf, Dev.passed_io, Io.passed_fld_siev]

theorem runs_frame_unmatched (hc : classify (s.dev.tick dt).io p (bytes.take (bytes.length - 4)) = .other) :
    Runs (.macRxFrame p bytes trunc phy dt) s fun d d' =>
      d'.sv = d.sv ∧ d'.io.wide (.siev (portTile p)) Reg.SIEV_UNMATCHED_LO
        = sat 48 (d.io.wide (.siev (portTile p)) Reg.SIEV_UNMATCHED_LO + 1) :=
  runs_frame_counted h hpass hmsec (by decide) (Dev.sieve_other (Dev.passed_running hrun) ((classify_passed _ p _ _).trans hc))

theorem runs_frame_l3Error (hc : classify (s.dev.tick dt).io p (bytes.take (bytes.length - 4)) = .l3Error) :
    Runs (.macRxFrame p bytes trunc phy dt) s fun d d' =>
      d'.sv = d.sv ∧ d'.io.wide (.siev (portTile p)) Reg.SIEV_L3_ERR_LO
        = sat 48 (d.io.wide (.siev (portTile p)) Reg.SIEV_L3_ERR_LO + 1) :=
  runs_frame_counted h hpass hmsec (by decide) (Dev.sieve_l3Error (Dev.passed_running hrun) ((classify_passed _ p _ _).trans hc))

theorem runs_frame_listened {k : Nat} {pkt : Pkt} (hc : classify (s.dev.tick dt).io p (bytes.take (bytes.length - 4)) = .listen k pkt)
    (hon : s.dev.io.flag (.siev (portTile p)) Reg.SIEV_SEEN_CFG 16 = true) (hnone : s.dev.sv.watches = []) :
    Runs (.macRxFrame p bytes trunc phy dt) s fun _ d' =>
      d'.sv.watches.map (fun w => (w.tile, w.listen, w.first, w.count, w.reported)) = [((portTile p).val, k, pkt, 1, none)] := by
  refine Runs.sieved h hpass hmsec (Dev.sieve_listen (Dev.passed_running hrun) ((classify_passed _ p _ _).trans hc)) (.refl _ _) ?_
  rw [Dev.settle_sv]
  refine discover_first ?_ hnone
  rwa [Io.flag, Dev.passed_io, Io.passed_reg_siev]

/-! Punted frames (R188). -/

variable {n : Nat} (hc : classify (s.dev.tick dt).io p (bytes.take (bytes.length - 4)) = .punt n) (hp : s.dev.io.punts p n = true)
include hc hp

theorem Runs.punted (k : P s.dev (((s.dev.tick dt).passed p bytes.length).onSv (punt p (bytes.take (bytes.length - 4)))).settle) :
    Runs (.macRxFrame p bytes trunc phy dt) s P := by
  refine Runs.sieved h hpass hmsec (Dev.sieve_punt (Dev.passed_running hrun) ((classify_passed _ p _ _).trans hc) ?_) (Dev.onSv_punt_same _ _ _) k
  rwa [Io.punts, Dev.passed_io, Io.passed_reg_siev]

theorem runs_frame_puntDropped (hfull : s.dev.io.puntNext (portTile p) = s.dev.io.puntHead (portTile p)) :
    Runs (.macRxFrame p bytes trunc phy dt) s fun d d' =>
      d'.io.wide (.siev (portTile p)) Reg.SIEV_PUNT_DROP_LO = sat 48 (d.io.wide (.siev (portTile p)) Reg.SIEV_PUNT_DROP_LO + 1)
        ∧ d'.io.flag (.siev (portTile p)) Reg.EVT_PEND 11 = true := by
  obtain ⟨had, -, hpunt⟩ := ((s.dev.tick dt).passed p bytes.length).onSv_punt p (bytes.take (bytes.length - 4))
  rw [if_pos (.inl (by rwa [Dev.passed_io, Io.passed_puntNext, Io.passed_puntHead]))] at hpunt
  obtain ⟨hcount, hevent⟩ := ((s.dev.tick dt).passed p bytes.length).io.puntDropped_shows (portTile p)
  rw [← hpunt] at hcount hevent
  refine Runs.punted h hpass hmsec hrun hc hp ⟨?_, ?_⟩
  · rw [Dev.settle_wide_siev _ _ (by decide), hcount, Dev.passed_io, Io.passed_wide_siev]
    rfl
  · rwa [Io.flag, Dev.settle_reg_siev _ _ (by decide)]

theorem runs_frame_puntStored (hfits : s.dev.io.puntNext (portTile p) ≠ s.dev.io.puntHead (portTile p))
    (hrate : FMap.find s.dev.sv.puntRate (portTile p).val = none) : Runs (.macRxFrame p bytes trunc phy dt) s fun d d' =>
      d'.io.wide (.siev (portTile p)) Reg.SIEV_PUNTED_LO = sat 48 (d.io.wide (.siev (portTile p)) Reg.SIEV_PUNTED_LO + 1)
        ∧ d'.io.fld (.siev (portTile p)) Reg.SIEV_PUNT_TAIL 0 12 = d.io.puntNext (portTile p) % 4096
        ∧ d.io.puts d'.io (puntedFrame p (bytes.take (bytes.length - 4)) (d.io.tick dt)) = true := by
  obtain ⟨had, hfresh, hpunt⟩ := ((s.dev.tick dt).passed p bytes.length).onSv_punt p (bytes.take (bytes.length - 4))
  have hhad := hfresh hrate
  have hroom : ¬ ((s.dev.io.tick dt).puntNext (portTile p) = (s.dev.io.tick dt).puntHead (portTile p) ∨ had ≥ 100000) :=
    not_or.2 ⟨hfits, by omega⟩
  rw [Dev.passed_io, Dev.tick_io, Io.passed_puntNext, Io.passed_puntHead, puntedFrame_passed, if_neg hroom] at hpunt
  obtain ⟨hcount, htail, xs, hout⟩ := ((s.dev.io.tick dt).passed p bytes.length).puntWritten_shows (portTile p)
    (puntedFrame p (bytes.take (bytes.length - 4)) (s.dev.io.tick dt))
  rw [← hpunt] at hcount htail hout
  refine Runs.punted h hpass hmsec hrun hc hp ⟨?_, ?_, ?_⟩
  · rw [Dev.settle_wide_siev _ _ (by decide), hcount, Io.passed_wide_siev]
    rfl
  · rw [Io.fld, Dev.settle_reg_siev _ _ (by decide), htail, Io.passed_puntNext, bits_of _ _ _ (Io.puntNext_lt _ _), pow_zero, Nat.div_one]
    rfl
  · obtain ⟨ys, hys⟩ := (((s.dev.tick dt).passed p bytes.length).onSv (punt p (bytes.take (bytes.length - 4)))).settle_same.out
    rw [hout, ← List.append_assoc] at hys
    exact Io.puts_of_out hys

end

/-- Settles O56, by one rule for each fate of a received frame. -/
theorem framesAreClassified : Obligations.FramesAreClassified := by
  unfold Obligations.FramesAreClassified
  intro p bytes trunc phy c n k dt pkt s t body cls head tail size
  exact ⟨runs_frame_off, fun h => ⟨runs_frame_dropped h, fun hpass hmsec => ⟨runs_frame_unsieved h hpass hmsec, fun hrun =>
    ⟨runs_frame_unmatched h hpass hmsec hrun, runs_frame_l3Error h hpass hmsec hrun,
      fun hc hp => ⟨runs_frame_puntDropped h hpass hmsec hrun hc hp, runs_frame_puntStored h hpass hmsec hrun hc hp⟩,
      runs_frame_listened h hpass hmsec hrun⟩⟩⟩⟩

end Sys2Proof.Machine

/-! A packet that a check drops, while a store waits to be given back to which nothing refers any longer (R173, R208). The drop itself leaves HBM alone, but
MAC_RX_FRAME settles, and settling retires that store: its bytes leave HBM. Nothing in the statement asks that no store waits so. -/
namespace Sys2Proof.Machine

/-- An empty UDP datagram over IPv4, from port 0 of 0.0.0.0 to port 0 of 0.0.0.0: its payload is no RTP packet. -/
def strayBody : List Byte :=
  List.replicate 12 0 ++ [0x08, 0x00, 0x45, 0x00, 0x00, 0x2E] ++ List.replicate 5 0 ++ [0x11, 0xBA, 0xC0] ++ List.replicate 12 0 ++ [0x00, 0x1A]
    ++ List.replicate 20 0

/-- The frame that carries it, with its FCS. -/
def strayFrame : List Byte := strayBody ++ leBytes 4 (crc32 strayBody)

/-- The datagram as the Sieve handles it. -/
def strayPkt (arrival : Nat) : Pkt :=
  { port := 0, vlan := none, ipv6 := false, dst := List.replicate 4 0, src := List.replicate 4 0, udpSrc := 0, udpDst := 0, payload := List.replicate 18 0
    arrival := arrival }

/-- A store of generation 1, in which no slot is left, waits for its last reference. -/
def waitingStore : Store :=
  { gen := 1, owner := 0, kind := 0, writer := 0, auth := false, keySlot := 0, width := 0, height := 0, slotBytes := 0, format := 0, slotG := 0, slots := []
    fence := false, freeing := true, published := 0, pins := [], waiter := none, bad := [] }

/-- Port 0 receives all frames, the Sieve of its tile runs, and flow 0 is valid and takes what comes for port 0 of 0.0.0.0. -/
def strayIo : Io :=
  (((((Io.reset.put (.pcs 0) Reg.PCS_STAT 9).put (.mac 0) Reg.PAGE_STAT 4).put (.mac 0) Reg.MAC_CFG 5).put (.siev 0) Reg.PAGE_STAT 4).wr (flowAddr 0 0) 1)

/-- What the Sieve keeps of flow 0. -/
def strayRt : FlowRt := { newFlowRt 0 with started := true }

/-- The machine of that part, with a byte of the store in HBM. -/
def strayState : State :=
  { State.reset with
    dev := { Dev.reset with
      io := strayIo, sv := { Sieve.reset with flows := [(0, strayRt)] }, st := { Stores.reset with table := [(0, waitingStore)], hbm := [(0, 1)] } } }

/-- The instant that the MAC gives the frame. -/
abbrev strayArrival : Nat := (strayState.dev.tick 0).io.stamp 0 Reg.MAC_TS_RX_ADJ

theorem strayFrame_passes : strayState.dev.io.rxDrop 0 strayFrame false false = none := by decide +kernel

/-- The model leaves the error of a stamp unsaid (`Config.stampError`), so the arrival stands as it is on both sides. -/
theorem strayFrame_class : classify (strayState.dev.tick 0).io 0 (strayFrame.take (strayFrame.length - 4)) = .flow 0 false (strayPkt strayArrival) := rfl

theorem strayPkt_noRtp (v : View) (f late : Nat) (due : Option Nat) (a : Nat) : flowReason v f late due (strayPkt a) = some 0 :=
  if_pos (.inl (show beAt (List.replicate 18 0) 0 1 / 64 ≠ 2 by decide))

theorem exec_macRxFrame (p : Fin 128) (bytes : List Byte) (trunc phy : Bool) (dt : Nat) (s : State) :
    exec (.macRxFrame p bytes trunc phy dt) s = s.run fun d => ((d.tick dt).frame p bytes trunc phy).settle := rfl

theorem strayAfter_hbm : ((strayState.dev.tick 0).frame 0 strayFrame false false).settle.st.hbm = [] := by decide +kernel

/-- Refutes O57: a packet of flow 0 is dropped under check 0, and the store that waits to be given back takes its byte of HBM with it when the command
settles. -/
theorem not_flowPacketsAreChecked : ¬ Obligations.FlowPacketsAreChecked := by
  unfold Obligations.FlowPacketsAreChecked
  intro hchecked
  obtain ⟨hdrop, -⟩ := hchecked 0 strayFrame false 0 0 0 (strayPkt strayArrival) strayRt strayState (by decide) strayFrame_passes (by decide) (by decide)
    strayFrame_class (by decide) rfl rfl rfl rfl rfl (by decide)
  obtain ⟨-, -, -, -, -, hkept⟩ := (hdrop (strayPkt_noRtp ..)).after (exec_macRxFrame ..)
  exact absurd (strayAfter_hbm.symm.trans hkept) (by decide)

end Sys2Proof.Machine

/-! Seen reports and membership reports (R183, R184, R187): what a report leaves in its ring or counter, and that what a port sends leaves the registers of the
Sieves. -/
namespace Sys2Proof.Machine

/-! Words written one after the other. -/

section
variable (p : PageRef) (base : Nat)

/-- The registers beside the words. -/
theorem Io.reg_putWords_off {off : Nat} (ws : List Word) : ∀ (io : Io) (k : Nat), off < base + 4 * k ∨ base + 4 * (k + ws.length) ≤ off →
    ((ws.zipIdx k).foldl (fun io e => io.put p (base + 4 * e.2) e.1) io).reg p off = io.reg p off := by
  induction ws with
  | nil => exact fun _ _ _ => rfl
  | cons x xs ih =>
    intro io k h
    rw [List.length_cons] at h
    rw [List.zipIdx_cons, List.foldl_cons, ih _ _ (by omega), Io.reg_put_off _ _ (by omega)]

/-- Each word is in its place. -/
theorem Io.reg_putWords {j : Nat} (ws : List Word) : ∀ (io : Io) (k : Nat), k ≤ j → j < k + ws.length →
    some (((ws.zipIdx k).foldl (fun io e => io.put p (base + 4 * e.2) e.1) io).reg p (base + 4 * j)) = ws[j - k]? := by
  induction ws with
  | nil => exact fun _ k h h' => absurd h' (by simp; omega)
  | cons x xs ih =>
    intro io k h h'
    rw [List.length_cons] at h'
    rw [List.zipIdx_cons, List.foldl_cons]
    rcases h.eq_or_lt with rfl | hlt
    · rw [Io.reg_putWords_off _ _ _ _ _ (.inl (by omega)), Io.reg_put_self, Nat.sub_self, List.getElem?_cons_zero]
    · rw [ih _ _ hlt (by omega), show j - k = j - (k + 1) + 1 by omega, List.getElem?_cons_succ]

end

/-! Seen reports (R183, R184). -/

/-- The entry of the seen ring that is written next. -/
def Io.seenTail (io : Io) (t : Fin 16) : Nat := io.fld (.siev t) Reg.SIEV_SEEN_TAIL 0 7

/-- The ring has no room: the entry after it is the head. -/
abbrev Io.seenFull (io : Io) (t : Fin 16) : Prop := (io.seenTail t + 1) % 128 = io.fld (.siev t) Reg.SIEV_SEEN_HEAD 0 7

/-- The sequence number of the next report. -/
def Io.seenSeq (io : Io) (t : Fin 16) : Nat := io.fld (.siev t) Reg.SIEV_SEEN_TAIL 16 16

/-- The ring is full: the report is counted and announced. -/
def Io.seenSuppressed (io : Io) (t : Fin 16) : Io := (io.count48 (.siev t) Reg.SIEV_SEEN_SUPPRESSED_LO 1).raise (.siev t) 9

/-- The words of the report are in the ring. -/
def Io.seenStored (io : Io) (t : Fin 16) (w : Watch) : Io :=
  (seenWords (io.seenSeq t) w).zipIdx.foldl (fun y e => y.put (.siev t) (0x2000 + 64 * io.seenTail t + 4 * e.2) e.1) io

/-- The tail moves on with the sequence number, and the report is announced. -/
def Io.seenWritten (io : Io) (t : Fin 16) (w : Watch) : Io :=
  ((io.seenStored t w).put (.siev t) Reg.SIEV_SEEN_TAIL
    (Word.of ((io.seenTail t + 1) % 128 + (io.seenSeq t + 1) % 2 ^ 16 * 2 ^ 16))).raise (.siev t) 2

/-- The report of the one watch of a tile, once its time has come. -/
theorem seenReport_due {t : Fin 16} {w : Watch} {io : Io} {sv : Sieve} (hone : sv.watches = [w]) (htile : w.tile = t.val) (hnew : w.reported = none)
    (hdue : w.first.arrival + 10000000 ≤ io.now) (hrun : io.running (.siev t) = true) :
    seenReport t 0 io sv = (if io.seenFull t then io.seenSuppressed t else io.seenWritten t w,
      { sv with watches := [{ w with reported := some io.now }] }) := by
  have hfirst : (sv.watchesOf t)[0]? = some w := by simp [Sieve.watchesOf, hone, htile]
  have hready : ¬ (w.reported.isSome = true ∨ io.now < w.first.arrival + 10000000 ∨ (!io.running (.siev t)) = true) := by
    simp [hnew, hrun, hdue]
  have hwatches : sv.watches.map (fun x => if x = w then { x with reported := some io.now } else x) = [{ w with reported := some io.now }] := by simp [hone]
  unfold seenReport
  simp only [hfirst, if_neg hready, hwatches]
  by_cases hfull : io.seenFull t
  · rw [if_pos hfull]
    exact if_pos hfull
  · rw [if_neg hfull]
    exact if_neg hfull

section
variable (io : Io) (t : Fin 16) (w : Watch)

theorem Io.seenSuppressed_shows :
    (io.seenSuppressed t).wide (.siev t) Reg.SIEV_SEEN_SUPPRESSED_LO = sat 48 (io.wide (.siev t) Reg.SIEV_SEEN_SUPPRESSED_LO + 1)
      ∧ (io.seenSuppressed t).flag (.siev t) Reg.EVT_PEND 9 = true
      ∧ (io.seenSuppressed t).reg (.siev t) Reg.SIEV_SEEN_TAIL = io.reg (.siev t) Reg.SIEV_SEEN_TAIL := by
  refine ⟨?_, ?_, ?_⟩
  · rw [Io.seenSuppressed, Io.wide_raise _ _ (by simp) (show _ < 0x4000 by decide) (by decide), Io.wide_count48]
  · rw [Io.seenSuppressed, Io.pend_raise _ _ (by decide), decide_eq_true rfl, Bool.true_or]
  · rw [Io.seenSuppressed, Io.reg_raise_off _ _ _ (by decide) (by decide), Io.count48, Io.reg_putWide_off _ _ _ _ (by decide) (by decide)]

theorem Io.seenTail_lt : io.seenTail t < 128 := bits_lt _ 0 7

theorem Io.seenWritten_words {j : Nat} (h : j < 16) :
    some ((io.seenWritten t w).reg (.siev t) (0x2000 + 64 * io.seenTail t + 4 * j)) = (seenWords (io.seenSeq t) w)[j]? := by
  have htail := io.seenTail_lt t
  rw [Io.seenWritten, Io.reg_raise _ _ (show _ < 0x4000 by omega) (by simp) (.inr (show _ ≠ 0x28 by omega)),
    Io.reg_put_off _ _ (show _ ≠ 0x4c by omega), Io.seenStored]
  exact Io.reg_putWords _ _ _ _ 0 (Nat.zero_le j) (show j < 0 + 16 by omega)

theorem Io.seenWritten_tail : (io.seenWritten t w).fld (.siev t) Reg.SIEV_SEEN_TAIL 0 7 = (io.seenTail t + 1) % 128
    ∧ (io.seenWritten t w).fld (.siev t) Reg.SIEV_SEEN_TAIL 16 16 = (io.seenSeq t + 1) % 2 ^ 16 := by
  have hword : (io.seenWritten t w).reg (.siev t) Reg.SIEV_SEEN_TAIL = Word.of ((io.seenTail t + 1) % 128 + (io.seenSeq t + 1) % 2 ^ 16 * 2 ^ 16) := by
    rw [Io.seenWritten, Io.reg_raise_off _ _ _ (by decide) (by decide), Io.reg_put_self]
  rw [Io.fld, Io.fld, hword, bits_of _ _ _ (by omega), bits_of _ _ _ (by omega)]
  omega

theorem Io.seenWritten_event : (io.seenWritten t w).flag (.siev t) Reg.EVT_PEND 2 = true := by
  rw [Io.seenWritten, Io.pend_raise _ _ (by decide), decide_eq_true rfl, Bool.true_or]

end

section
variable {t : Fin 16} {dt : Nat} {w : Watch} {s : State} (hone : s.dev.sv.watches = [w]) (htile : w.tile = t.val) (hnew : w.reported = none)
  (hdue : w.first.arrival + 10000000 ≤ (s.dev.tick dt).io.now) (hrun : s.dev.io.running (.siev t) = true)
include hone htile hnew hdue hrun

theorem runs_seenReport_written (hroom : ¬ s.dev.io.seenFull t) :
    Runs (.seenReport t 0 dt) s fun d d' =>
      (∀ j < 16, some (d'.io.reg (.siev t) (0x2000 + 64 * s.dev.io.seenTail t + 4 * j)) = (seenWords (s.dev.io.seenSeq t) w)[j]?)
        ∧ d'.io.fld (.siev t) Reg.SIEV_SEEN_TAIL 0 7 = (s.dev.io.seenTail t + 1) % 128
        ∧ d'.io.fld (.siev t) Reg.SIEV_SEEN_TAIL 16 16 = (s.dev.io.seenSeq t + 1) % 2 ^ 16
        ∧ d'.io.flag (.siev t) Reg.EVT_PEND 2 = true ∧ d'.sv.watches = [{ w with reported := some (d.tick dt).io.now }] := by
  have hreport := seenReport_due (io := s.dev.io.tick dt) hone htile hnew hdue hrun
  rw [if_neg (show ¬ (s.dev.io.tick dt).seenFull t from hroom)] at hreport
  refine Runs.intro (f := fun d => (d.tick dt).onSv (seenReport t 0)) rfl ?_
  rw [Dev.onSv_io, Dev.onSv_sv, Dev.tick_io, Dev.tick_sv, hreport]
  obtain ⟨htail, hseq⟩ := (s.dev.io.tick dt).seenWritten_tail t w
  exact ⟨fun j hj => (s.dev.io.tick dt).seenWritten_words t w hj, htail, hseq, (s.dev.io.tick dt).seenWritten_event t w, rfl⟩

theorem runs_seenReport_suppressed (hfull : s.dev.io.seenFull t) :
    Runs (.seenReport t 0 dt) s fun d d' =>
      d'.io.wide (.siev t) Reg.SIEV_SEEN_SUPPRESSED_LO = sat 48 (d.io.wide (.siev t) Reg.SIEV_SEEN_SUPPRESSED_LO + 1)
        ∧ d'.io.flag (.siev t) Reg.EVT_PEND 9 = true ∧ d'.io.reg (.siev t) Reg.SIEV_SEEN_TAIL = d.io.reg (.siev t) Reg.SIEV_SEEN_TAIL := by
  have hreport := seenReport_due (io := s.dev.io.tick dt) hone htile hnew hdue hrun
  rw [if_pos (show (s.dev.io.tick dt).seenFull t from hfull)] at hreport
  refine Runs.intro (f := fun d => (d.tick dt).onSv (seenReport t 0)) rfl ?_
  rw [Dev.onSv_io, Dev.tick_io, Dev.tick_sv, hreport]
  exact (s.dev.io.tick dt).seenSuppressed_shows t

end

/-! Sending on a port writes its MAC and MSEC pages and raises events there (R149, R158). -/

/-- The place is a register of the MAC or the MSEC page of a port. -/
def Place.ofPort (p : Fin 128) : Place → Bool
  | .page (.mac q) _ => decide (q = p)
  | .page (.msec q) _ => decide (q = p)
  | _ => false

/-- The address is one that sending on a port may write. -/
def sendPlace (p : Fin 128) (a : Nat) : Bool := eventPlace a || (placeOf a).ofPort p

section
variable {p : Fin 128}

theorem sendPlace_event {a : Nat} (h : eventPlace a = true) : sendPlace p a = true := by rw [sendPlace, h, Bool.true_or]

theorem sendPlace_mac {off : Nat} (h : off < 0x1000) : sendPlace p (regAddr (.mac p) off) = true := by
  rw [sendPlace, placeOf_regAddr (.mac p) off h, Place.ofPort, decide_eq_true rfl, Bool.or_true]

theorem sendPlace_msec {off : Nat} (h : off < 0x1000) : sendPlace p (regAddr (.msec p) off) = true := by
  rw [sendPlace, placeOf_regAddr (.msec p) off h, Place.ofPort, decide_eq_true rfl, Bool.or_true]

theorem sendPlace_siev (t : Fin 16) {off : Nat} (h : off < 0x4000) : sendPlace p (regAddr (.siev t) off) = false := by
  rw [sendPlace, eventPlace_page (p := .siev t) h (by simp), placeOf_regAddr (.siev t) off h]
  rfl

variable (io : Io)

theorem Io.Same.count48_mac {off : Nat} (n : Nat) (h : off + 4 < 0x1000) : Io.Same (sendPlace p) io (io.count48 (.mac p) off n) :=
  .putWide _ _ (sendPlace_mac (by omega)) (sendPlace_mac h)

theorem Io.Same.count48_msec {off : Nat} (n : Nat) (h : off + 4 < 0x1000) : Io.Same (sendPlace p) io (io.count48 (.msec p) off n) :=
  .putWide _ _ (sendPlace_msec (by omega)) (sendPlace_msec h)

theorem Io.Same.raise_mac (b : Nat) : Io.Same (sendPlace p) io (io.raise (.mac p) b) :=
  .raise (fun _ => sendPlace_event) _ _ (sendPlace_mac (by decide))

theorem Io.Same.raise_msec (b : Nat) : Io.Same (sendPlace p) io (io.raise (.msec p) b) :=
  .raise (fun _ => sendPlace_event) _ _ (sendPlace_msec (by decide))

theorem Io.Same.recordOpen_msec (code : Nat) : Io.Same (sendPlace p) io (io.recordOpen (.msec p) code) :=
  (Io.Same.recordErr (fun _ => sendPlace_event) io code _ (sendPlace_msec (by decide)) (sendPlace_msec (by decide)) (sendPlace_msec (by decide))).trans
    (.took _)

/-- The packet number of an association advances, or its last has been used (R160). -/
theorem Io.Same.advancePn {n : Nat} (hn : n < 20) : Io.Same (sendPlace p) io (io.advancePn p n) := by
  have hsa : ∀ {w}, w < 8 → sendPlace p (regAddr (.msec p) (saReg n w)) = true := fun hw => sendPlace_msec (by unfold saReg; omega)
  have hnumber : ∀ pn, Io.Same (sendPlace p) io (io.setSaPn p n pn) := fun pn =>
    (Io.Same.put io _ (hsa (w := 1) (by decide))).trans (.put _ _ (hsa (w := 2) (by decide)))
  unfold Io.advancePn
  extract_lets xpn pn top part thr marked
  split
  · exact ((Io.Same.put io _ (hsa (w := 0) (by decide))).trans (.recordOpen_msec _ _)).trans (.raise_msec _ _)
  · split
    · exact (hnumber _).trans (.raise_msec _ _)
    · exact hnumber _

theorem Io.Same.msecSend (key : Nat → Option (List Byte)) (bs : List Byte) : Io.Same (sendPlace p) io (msecSend key p bs io).2 := by
  have han : io.fld (.msec p) Reg.MSEC_TX_AN 0 2 < 20 := (bits_lt _ 0 2).trans (by decide)
  unfold Machine.msecSend
  dsimp only
  split
  · exact .refl _ _
  · split
    · split
      · exact (Io.Same.count48_msec io 1 (by decide)).trans (.advancePn _ han)
      · exact .count48_msec _ _ (by decide)
    · exact .count48_msec _ _ (by decide)

theorem Io.Same.macSend (key : Nat → Option (List Byte)) (bs : List Byte) : Io.Same (sendPlace p) io (macSend key p bs io) := by
  unfold Machine.macSend
  split
  · exact .refl _ _
  · have hsec := Io.Same.msecSend (p := p) io key bs
    split
    next hsent =>
      rwa [hsent] at hsec
    next hsent =>
      rw [hsent] at hsec
      dsimp only
      split
      · exact (hsec.trans (.count48_mac _ _ (by decide))).trans (.raise_mac _ _)
      · exact ((hsec.trans (.count48_mac _ _ (by decide))).trans (.count48_mac _ _ (by decide))).trans (.emit _ _)

/-- Sending leaves the counters of the Sieves. -/
theorem Io.wide_macSend (key : Nat → Option (List Byte)) (bs : List Byte) (t : Fin 16) {off : Nat} (h : off + 4 < 0x4000) :
    (Machine.macSend key p bs io).wide (.siev t) off = io.wide (.siev t) off :=
  have hsend := Io.Same.macSend (p := p) io key bs
  Io.wide_of_reg (hsend.reg (sendPlace_siev t (by omega))) (hsend.reg (sendPlace_siev t h))

end

/-! Membership reports (R187). -/

/-- A word of the IPv6 source address of a port's reports. -/
def Io.linkLocal (io : Io) (p : Fin 128) (j : Nat) : Word := io.reg (.siev (portTile p)) (Reg.SIEV_PORT_LL0 + 32 * (p.val % 8) + 4 * j)

/-- What is left of a report that has been sent (R187). -/
def Report.sent (r : Report) (up : Nat) : List Report := if r.left ≤ 1 then [] else [{ r with left := r.left - 1, since := up }]

section
variable {key : Nat → Option (List Byte)} {p : Fin 128} {r : Report} {io : Io} {sv : Sieve} (hone : sv.reports = [r]) (hport : r.port = p.val)
  (hrun : io.running (.siev (portTile p)) = true) (hup : io.stage p = 9)
include hone hport hrun hup

/-- The one report of a port, while its Sieve runs and its link is up: suppressed, or sent and counted. -/
theorem membershipReport_cases : ∃ frame, membershipReport key p 0 io sv =
    (if r.ipv6 = true ∧ beNat ((List.range 4).flatMap fun j => wordBytes (io.linkLocal p j)) = 0 then
        io.count48 (.siev (portTile p)) Reg.SIEV_MLD_SUPPRESSED_LO 1
      else (macSend key p frame io).count48 (.siev (portTile p)) Reg.SIEV_IGMP_TX_LO 1,
      { sv with reports := r.sent io.up }) := by
  have hfirst : (sv.reports.filter (fun x => decide (x.port = p.val)))[0]? = some r := by simp [hone, hport]
  have hready : ¬ (!io.running (.siev (portTile p)) || decide (io.stage p ≠ 9)) = true := by
    rw [hrun, hup]
    decide
  have hreports : (sv.reports.flatMap fun x => if x = r then (if x.left ≤ 1 then [] else [{ x with left := x.left - 1, since := io.up }]) else [x])
      = r.sent io.up := by simp [hone, Report.sent]
  unfold membershipReport
  simp only [hfirst, if_neg hready, hreports]
  by_cases hnone : r.ipv6 = true ∧ beNat ((List.range 4).flatMap fun j => wordBytes (io.linkLocal p j)) = 0
  · exact ⟨[], by rw [if_pos hnone]; exact if_pos hnone⟩
  · exact ⟨_, by rw [if_neg hnone]; exact if_neg hnone⟩

theorem membershipReport_v4 (hv4 : r.ipv6 = false) : ∃ frame, membershipReport key p 0 io sv =
    ((macSend key p frame io).count48 (.siev (portTile p)) Reg.SIEV_IGMP_TX_LO 1, { sv with reports := r.sent io.up }) := by
  obtain ⟨frame, hreport⟩ := membershipReport_cases (key := key) hone hport hrun hup
  exact ⟨frame, hreport.trans (by rw [if_neg (by simp [hv4])])⟩

theorem membershipReport_noSource (hv6 : r.ipv6 = true) (hnone : ∀ j < 4, io.linkLocal p j = 0) : membershipReport key p 0 io sv =
    (io.count48 (.siev (portTile p)) Reg.SIEV_MLD_SUPPRESSED_LO 1, { sv with reports := r.sent io.up }) := by
  have hzero : ((List.range 4).flatMap fun j => wordBytes (io.linkLocal p j)) = List.replicate 16 0 := by
    simp only [List.range_succ, List.range_zero, List.nil_append, List.cons_append, List.flatMap_cons, List.flatMap_nil, hnone, Nat.reduceLT]
    decide
  obtain ⟨frame, hreport⟩ := membershipReport_cases (key := key) hone hport hrun hup
  exact hreport.trans (by rw [if_pos ⟨hv6, hzero ▸ by decide⟩])

end

section
variable {p : Fin 128} {dt : Nat} {r : Report} {s : State} (hone : s.dev.sv.reports = [r]) (hport : r.port = p.val)
  (hrun : s.dev.io.running (.siev (portTile p)) = true) (hup : s.dev.io.stage p = 9)
include hone hport hrun hup

theorem runs_membershipReport_sent (hv4 : r.ipv6 = false) : Runs (.membershipReport p 0 dt) s fun d d' =>
    d'.io.wide (.siev (portTile p)) Reg.SIEV_IGMP_TX_LO = sat 48 (d.io.wide (.siev (portTile p)) Reg.SIEV_IGMP_TX_LO + 1)
      ∧ d'.sv.reports = r.sent (d.tick dt).io.up := by
  obtain ⟨frame, hreport⟩ := membershipReport_v4 (key := (s.dev.tick dt).macKey) (io := s.dev.io.tick dt) hone hport hrun hup hv4
  refine Runs.intro (f := fun d => (d.tick dt).onSv (membershipReport (d.tick dt).macKey p 0)) rfl ?_
  rw [Dev.onSv_io, Dev.onSv_sv, Dev.tick_io, Dev.tick_sv, hreport]
  dsimp only
  rw [Io.wide_count48, Io.wide_macSend _ _ _ _ (by decide)]
  exact ⟨rfl, rfl⟩

theorem runs_membershipReport_suppressed (hv6 : r.ipv6 = true) (hnone : ∀ j < 4, s.dev.io.linkLocal p j = 0) :
    Runs (.membershipReport p 0 dt) s fun d d' =>
      d'.io.wide (.siev (portTile p)) Reg.SIEV_MLD_SUPPRESSED_LO = sat 48 (d.io.wide (.siev (portTile p)) Reg.SIEV_MLD_SUPPRESSED_LO + 1)
        ∧ d'.io.out = d.io.out := by
  have hreport := membershipReport_noSource (key := (s.dev.tick dt).macKey) (io := s.dev.io.tick dt) hone hport hrun hup hv6 hnone
  refine Runs.intro (f := fun d => (d.tick dt).onSv (membershipReport (d.tick dt).macKey p 0)) rfl ?_
  rw [Dev.onSv_io, Dev.tick_io, Dev.tick_sv, hreport]
  exact ⟨Io.wide_count48 _ _ _ _, rfl⟩

end

/-- Settles O59, by one rule for each fate of a report. -/
theorem reportsAreWritten : Obligations.ReportsAreWritten := by
  unfold Obligations.ReportsAreWritten
  intro t p dt w r s pg tail seq q
  exact ⟨fun hone htile hnew hdue hrun => ⟨runs_seenReport_written hone htile hnew hdue hrun, runs_seenReport_suppressed hone htile hnew hdue hrun⟩,
    fun hone hport hrun hup => ⟨runs_membershipReport_sent hone hport hrun hup, runs_membershipReport_suppressed hone hport hrun hup⟩⟩

end Sys2Proof.Machine

/-! What follows a change of presence touches routing alone (R235): the ROUT page, the fast-path entries and events. -/
namespace Sys2Proof.Machine

/-- The place is a register of the ROUT page. -/
def Place.ofRouting : Place → Bool
  | .page .rout _ => true
  | _ => false

/-- The address is one that a switch of the fast path may write: of events, of the ROUT page or of the fast-path entries on. -/
def routingPlace (a : Nat) : Bool := eventPlace a || (placeOf a).ofRouting || decide (0x5000000 ≤ a)

theorem routingPlace_event {a : Nat} (h : eventPlace a = true) : routingPlace a = true := by rw [routingPlace, h, Bool.true_or, Bool.true_or]

theorem routingPlace_rout {off : Nat} (h : off < pageSpan .rout) : routingPlace (regAddr .rout off) = true := by
  rw [routingPlace, placeOf_regAddr .rout off h, Place.ofRouting, Bool.or_true, Bool.true_or]

theorem routingPlace_fast (e w : Nat) : routingPlace (fastAddr e w) = true := by
  rw [routingPlace, decide_eq_true (show 0x5000000 ≤ fastAddr e w by unfold fastAddr; omega), Bool.or_true]

theorem routingPlace_siev (t : Fin 16) {off : Nat} (h : off < 0x4000) : routingPlace (regAddr (.siev t) off) = false := by
  have hlow : ¬ 0x5000000 ≤ regAddr (.siev t) off := by
    simp only [regAddr, pageBase]
    omega
  rw [routingPlace, eventPlace_page (p := .siev t) h (by simp), placeOf_regAddr (.siev t) off h, decide_eq_false hlow]
  rfl

/-- The flow tables. -/
theorem routingPlace_table {a : Nat} (h : 0x2300000 ≤ a) (h' : a < 0x2400000) : routingPlace a = false := by
  have hevent : eventPlace a = false := by
    by_contra hc
    have hbelow := belowTables_event (a := a) (by simpa using hc)
    rw [belowTables, decide_eq_true_eq] at hbelow
    omega
  have hplace : (placeOf a).ofRouting = false := by
    unfold placeOf
    rw [if_neg (by omega), if_neg (by omega), if_neg (by omega), if_neg (by omega), if_neg (by omega), if_pos h']
    rfl
  rw [routingPlace, hevent, hplace, decide_eq_false (by omega)]
  rfl

section
variable {io : Io} {rt : Routing}

theorem routingSame_raise (b : Nat) : Io.Same routingPlace io (io.raise .rout b) :=
  .raise (fun _ => routingPlace_event) _ _ (routingPlace_rout (by decide))

theorem routingSame_count : Io.Same routingPlace io (io.count48 .rout Reg.ROUT_LOSS_SW_LO 1) :=
  .putWide _ _ (routingPlace_rout (by decide)) (routingPlace_rout (by decide))

theorem routingSame_log (idx : Nat) (fp : Bool) (slot event : Nat) : Io.Same routingPlace io (io.routLog idx fp slot event) :=
  .logTo _ _ _ _ _ _ _ (by simp) (by decide) (routingPlace_rout (by decide)) fun i hi => routingPlace_rout (by simp [pageSpan]; omega)

theorem routingSame_lossTo (e : Nat) (f : Option Nat) (a : Nat) (b : Bool) : Io.Same routingPlace io (fpLossTo e f a b io rt).1 :=
  .wr _ _ (routingPlace_fast _ _)

/-- A loss that leaves an entry without a flow is counted, logged and raised. -/
theorem routingSame_silent (e : Nat) :
    Io.Same routingPlace io (((io.count48 .rout Reg.ROUT_LOSS_SW_LO 1).routLog e true 0 8).raise .rout 5) :=
  (routingSame_count.trans (routingSame_log ..)).trans (routingSame_raise _)

theorem routingSame_lost (f a : Nat) : Io.Same routingPlace io (fpFlowLost f a io rt).1 := by
  refine .foldl₁ (x := (io, rt)) (fun x e => ?_) _
  obtain ⟨io, rt⟩ := x
  dsimp only
  split
  · split
    · split
      · exact routingSame_count.trans (routingSame_lossTo ..)
      · exact routingSame_silent e
    · exact routingSame_silent e
  · exact .refl _ _

theorem routingSame_back (f a : Nat) : Io.Same routingPlace io (fpFlowBack f a io rt).1 := by
  refine .foldl₁ (x := (io, rt)) (fun x e => ?_) _
  obtain ⟨io, rt⟩ := x
  dsimp only
  split
  · exact .refl _ _
  · split
    · exact (routingSame_log ..).trans (routingSame_lossTo ..)
    · split <;> exact .refl _ _

end

/-- A step that leaves everything but routing alone. -/
structure Dev.OnlyRoutes (d d' : Dev) : Prop where
  io : Io.Same routingPlace d.io d'.io
  sv : d'.sv = d.sv

theorem Dev.OnlyRoutes.refl (d : Dev) : Dev.OnlyRoutes d d := ⟨.refl _ _, rfl⟩

theorem Dev.OnlyRoutes.trans {d e f : Dev} (h : Dev.OnlyRoutes d e) (k : Dev.OnlyRoutes e f) : Dev.OnlyRoutes d f := ⟨h.io.trans k.io, k.sv.trans h.sv⟩

section
variable {d d' : Dev} (h : Dev.OnlyRoutes d d')
include h

/-- Routing leaves the status words of the flows. -/
theorem Dev.OnlyRoutes.fs (f : Fin 4096) {w : Nat} (hw : w < 64) : d'.io.fs f w = d.io.fs f w :=
  h.io.rd _ (routingPlace_table (by unfold flowAddr; omega) (by unfold flowAddr; omega))

theorem Dev.OnlyRoutes.flowState (f : Fin 4096) : d'.io.flowState f = d.io.flowState f := congrArg (bits · 0 3) (h.fs f (by decide))

/-- Routing leaves the events of the Sieves. -/
theorem Dev.OnlyRoutes.pend_flowPage (io : Io) (f i : Nat) : d'.io.flag (io.flowPage f) Reg.EVT_PEND i = d.io.flag (io.flowPage f) Reg.EVT_PEND i :=
  congrArg (bit · i) (h.io.reg (routingPlace_siev _ (by decide)))

end

/-- What a change of presence through `f` sets in motion comes after `f` and touches routing alone. -/
theorem Dev.watching_onlyRoutes (d : Dev) (f : Dev → Dev) : Dev.OnlyRoutes (f d) (d.watching f) := by
  unfold Dev.watching
  dsimp only
  split
  · exact .refl _
  · refine foldl_keeps (P := fun x => Dev.OnlyRoutes (f d) x) _ (fun x g h => h.trans ?_) _ _ (.refl _)
    split
    · exact .refl _
    · split
      · exact ⟨routingSame_back .., rfl⟩
      · exact ⟨routingSame_lost .., rfl⟩

end Sys2Proof.Machine

/-! Status words of a flow (R169, R190): what each write leaves in them, and that an event of a flow touches the page of its Sieve alone. -/
namespace Sys2Proof.Machine

/-- The address lies below the flow tables or is one of the words `ws` of flow `f`. -/
def flowPlace (f : Nat) (ws : List Nat) (a : Nat) : Bool := belowTables a || ws.any fun w => decide (a = flowAddr f w)

section
variable {f : Nat} {ws : List Nat}

theorem flowPlace_below {a : Nat} (h : belowTables a = true) : flowPlace f ws a = true := by rw [flowPlace, h, Bool.true_or]

theorem flowPlace_word {w : Nat} (h : w ∈ ws) : flowPlace f ws (flowAddr f w) = true := by
  rw [flowPlace, List.any_eq_true.2 ⟨w, h, decide_eq_true rfl⟩, Bool.or_true]

theorem flowPlace_other {w : Nat} (h : w ∉ ws) : flowPlace f ws (flowAddr f w) = false := by
  have hbelow : belowTables (flowAddr f w) = false := decide_eq_false (by unfold flowAddr; omega)
  have hword : ∀ x ∈ ws, ¬ flowAddr f w = flowAddr f x := fun x hx he => h (by
    unfold flowAddr at he
    rwa [show w = x by omega])
  rw [flowPlace, hbelow, Bool.false_or, List.any_eq_false]
  exact fun x hx => by simp [hword x hx]

/-- The status words beside those written. -/
theorem Io.Same.fs {io io' : Io} (h : Io.Same (flowPlace f ws) io io') {w : Nat} (hw : w ∉ ws) : io'.fs f w = io.fs f w := h.rd _ (flowPlace_other hw)

theorem Io.Same.below {io io' : Io} (h : Io.Same belowTables io io') : Io.Same (flowPlace f ws) io io' := h.mono fun _ => flowPlace_below

end

/-- What stays below the tables leaves every status word. -/
theorem Io.Same.fs_below {io io' : Io} (h : Io.Same belowTables io io') (f w : Nat) : io'.fs f w = io.fs f w :=
  Io.Same.fs (ws := []) (f := f) h.below (by simp)

/-! The page of a flow, its type and its window follow the captured words, which no status word is. -/

section
variable {io io' : Io} {f : Nat}

theorem Io.flowPage_congr (h : io'.fs f 1 = io.fs f 1) : io'.flowPage f = io.flowPage f :=
  congrArg (fun w => PageRef.siev (Fin.ofNat 16 (bits w 0 7 / 8))) h

theorem View.flowType_congr (h : io'.fs f 0 = io.fs f 0) : io'.live.flowType f = io.live.flowType f := congrArg (bits · 1 3) h

theorem View.flowWin_congr (h : io'.fs f 2 = io.fs f 2) : io'.live.flowWin f = io.live.flowWin f :=
  congrArg (fun w => if bits w 0 15 = 0 then 1000 else bits w 0 15) h

end

/-! Writes of status words. -/

section
variable (io : Io) (f : Nat)

@[simp] theorem Io.fs_setFs_self (w : Nat) (v : Word) : (io.setFs f w v).fs f w = v := Io.rd_wr_self _ _ _

@[simp] theorem Io.fs_setFs_off {w x : Nat} (v : Word) (h : x ≠ w) : (io.setFs f w v).fs f x = io.fs f x :=
  Io.rd_wr_ne _ _ (by unfold flowAddr; omega)

/-- The pages lie below the tables. -/
theorem Io.reg_setFs_siev (w : Nat) (v : Word) (t : Fin 16) {off : Nat} (h : off < 0x4000) : (io.setFs f w v).reg (.siev t) off = io.reg (.siev t) off :=
  Io.rd_wr_ne _ _ (by simp only [flowAddr, regAddr, pageBase]; omega)

theorem Io.flowPage_setFs {w : Nat} (v : Word) (h : 1 ≠ w) : (io.setFs f w v).flowPage f = io.flowPage f :=
  Io.flowPage_congr (io.fs_setFs_off f v h)

theorem Io.flowWin_setFs {w : Nat} (v : Word) (h : 2 ≠ w) : (io.setFs f w v).live.flowWin f = io.live.flowWin f :=
  View.flowWin_congr (io.fs_setFs_off f v h)

theorem sat_toNat {n : Nat} (h : n ≤ 32) (x : Nat) : (Word.of (sat n x)).toNat = sat n x := by
  have hlt : sat n x < 2 ^ 32 := (sat_lt n x).trans_le (Nat.pow_le_pow_right (by decide) h)
  rw [Word.of, BitVec.toNat_ofNat, Nat.mod_eq_of_lt hlt]

theorem Io.fs_flowCount (w : Nat) : ((io.flowCount f w).fs f w).toNat = sat 32 ((io.fs f w).toNat + 1) := by
  rw [Io.flowCount, Io.fs_setFs_self, sat_toNat (by decide)]

theorem Io.fs_flowCount_off {w x : Nat} (h : x ≠ w) : (io.flowCount f w).fs f x = io.fs f x := Io.fs_setFs_off _ _ _ h

variable {f} {ws : List Nat}

theorem Io.Same.setFs_word {w : Nat} (v : Word) (h : w ∈ ws) : Io.Same (flowPlace f ws) io (io.setFs f w v) := .wr _ _ (flowPlace_word h)

theorem Io.Same.flowCount_word {w : Nat} (h : w ∈ ws) : Io.Same (flowPlace f ws) io (io.flowCount f w) := .setFs_word _ _ h

theorem Io.Same.setFlowTime_words {w : Nat} (t : Nat) (h : w ∈ ws) (h' : w + 1 ∈ ws) : Io.Same (flowPlace f ws) io (io.setFlowTime f w t) :=
  (Io.Same.setFs_word io _ h).trans (.setFs_word _ _ h')

end

/-! Events of a flow (R190). -/

section
variable (io : Io) (f event detail b : Nat)

theorem Io.Same.flowLog_below : Io.Same belowTables io (io.flowLog f event detail) :=
  .logTo _ _ _ _ _ _ _ (by simp) (by decide) (belowTables_siev _ (by decide)) fun i hi =>
    belowTables_siev _ (show Reg.SIEV_FLOW_LOG + i < 0x4000 by unfold Reg.SIEV_FLOW_LOG; omega)

theorem Io.Same.flowEvent_below : Io.Same belowTables io (io.flowEvent f event detail b) :=
  (Io.Same.flowLog_below io f event detail).trans (.raise_siev _ _ _)

@[simp] theorem Io.fs_flowEvent (g w : Nat) : (io.flowEvent f event detail b).fs g w = io.fs g w := (Io.Same.flowEvent_below ..).fs_below g w

@[simp] theorem Io.flowPage_flowEvent (g : Nat) : (io.flowEvent f event detail b).flowPage g = io.flowPage g :=
  Io.flowPage_congr (io.fs_flowEvent ..)

/-- The log lies apart from the header of its page. -/
theorem Io.reg_flowLog (t : Fin 16) {off : Nat} (h : off < 0x40) : (io.flowLog f event detail).reg (.siev t) off = io.reg (.siev t) off := by
  have hne : ∀ (u : Fin 16) (x : Nat), 0x40 ≤ x → x < 0x4000 → (!decide (regAddr (.siev u) x = regAddr (.siev t) off)) = true := fun u x hlo hhi => by
    rw [decide_eq_false (by simp only [regAddr, pageBase]; omega)]
    rfl
  refine Io.Same.reg (T := fun a => !decide (a = regAddr (.siev t) off)) ?_ (by simp)
  exact .logTo _ _ _ _ _ _ _ (by simp) (by decide) (hne _ _ (by decide) (by decide)) fun i hi =>
    hne _ _ (by unfold Reg.SIEV_FLOW_LOG; omega) (by unfold Reg.SIEV_FLOW_LOG; omega)

/-- An event of a flow is pending from then on, as is what was pending on the page. -/
theorem Io.pend_flowEvent {pg : PageRef} (hpg : io.flowPage f = pg) {i : Nat} (hb : b < 32) :
    (io.flowEvent f event detail b).flag pg Reg.EVT_PEND i = (decide (i = b) || io.flag pg Reg.EVT_PEND i) := by
  rw [← hpg, Io.flowEvent, Io.pend_raise _ _ hb, Io.flag, Io.flowPage, Io.reg_flowLog _ _ _ _ _ (by decide), ← Io.flowPage, ← Io.flag]

end

/-! What settling leaves. -/

theorem belowTables_settle {a : Nat} (h : settlePlace a = true) : belowTables a = true := by
  rw [settlePlace, Bool.or_eq_true] at h
  refine h.elim belowTables_event fun hplace => decide_eq_true (Nat.lt_of_not_le fun hle => ?_)
  unfold placeOf at hplace
  rw [if_neg (by omega), if_neg (by omega), if_neg (by omega), if_neg (by omega), if_neg (by omega)] at hplace
  split_ifs at hplace <;> exact Bool.noConfusion hplace

@[simp] theorem Dev.settle_fs (d : Dev) (f w : Nat) : d.settle.io.fs f w = d.io.fs f w := Io.Same.fs_below (d.settle_same.mono fun _ => belowTables_settle) f w

/-- What is kept of a flow once it has been changed. -/
@[simp] theorem Sieve.rt_upd (sv : Sieve) (f : Nat) (g : FlowRt → FlowRt) : (sv.upd f g).rt f = (sv.rt f).map g := by
  unfold Sieve.rt Sieve.upd
  cases hfind : FMap.find sv.flows f with
  | none => exact hfind
  | some r => exact FMap.find_insert_self ..

end Sys2Proof.Machine

/-! The timers of a flow beside the merge: frames that have waited, the average skew and lost legs (R175, R180, R181). -/
namespace Sys2Proof.Machine

/-! Frame discards (R175). -/

section
variable {d : Dev} {f : Nat} {r : FlowRt} {a : Assembly} {t : Nat} (hrt : d.sv.rt f = some r) (hframes : r.frames = [a]) (hlater : a.laterAt = some t)
include hrt hframes hlater

theorem Dev.discardFrames_due (hdue : t + d.io.live.flowWin f * 1000 ≤ d.io.now) :
    (d.discardFrames f).io = d.io.flowCount f 40 ∧ ((d.discardFrames f).sv.rt f).map (fun r => r.frames) = some [] := by
  simp [Dev.discardFrames, hrt, hframes, hlater, hdue, frameDrop]

theorem Dev.discardFrames_early (hearly : d.io.now < t + d.io.live.flowWin f * 1000) :
    (d.discardFrames f).io = d.io ∧ ((d.discardFrames f).sv.rt f).map (fun r => r.frames) = some [a] := by
  simp [Dev.discardFrames, hrt, hframes, hlater, hearly]

end

section
variable {f : Fin 4096} {r : FlowRt} {a : Assembly} {t dt : Nat} {s : State} (hrt : s.dev.sv.rt f = some r) (hframes : r.frames = [a])
  (hlater : a.laterAt = some t)
include hrt hframes hlater

theorem runs_frameDiscard_due (hdue : t + s.dev.io.live.flowWin f * 1000 ≤ (s.dev.tick dt).io.now) : Runs (.frameDiscard f dt) s fun d d' =>
    (d'.sv.rt f).map (fun r => r.frames) = some [] ∧ (d'.io.fs f 40).toNat = sat 32 ((d.io.fs f 40).toNat + 1) := by
  obtain ⟨hio, hgone⟩ := Dev.discardFrames_due (d := s.dev.tick dt) hrt hframes hlater hdue
  refine Runs.settle (f := fun d => (d.tick dt).discardFrames f) rfl ⟨?_, ?_⟩
  · rw [Dev.settle_sv, hgone]
  · rw [Dev.settle_fs, hio, Io.fs_flowCount]
    rfl

theorem runs_frameDiscard_early (hearly : (s.dev.tick dt).io.now < t + s.dev.io.live.flowWin f * 1000) : Runs (.frameDiscard f dt) s fun d d' =>
    (d'.sv.rt f).map (fun r => r.frames) = some [a] ∧ d'.io.fs f 40 = d.io.fs f 40 := by
  obtain ⟨hio, hkept⟩ := Dev.discardFrames_early (d := s.dev.tick dt) hrt hframes hlater hearly
  refine Runs.settle (f := fun d => (d.tick dt).discardFrames f) rfl ⟨?_, ?_⟩
  · rw [Dev.settle_sv, hkept]
  · rw [Dev.settle_fs, hio]
    rfl

end

/-! The average skew (R180). -/

/-- SKEW_US takes an average of skews. -/
def Io.skewShown (io : Io) (f : Nat) (avg : Int) : Io := io.setFs f 32 (setBits (io.fs f 32) 16 16 (unsigned 16 avg))

/-- An average is raised the first time that it exceeds the window. -/
def Io.skewJudged (io : Io) (f : Nat) (avg : Int) (raised : Bool) : Io :=
  if decide (avg.natAbs > io.live.flowWin f) && !raised then io.flowEvent f 5 (sat 8 (avg.natAbs / 1000)) 7 else io

theorem unsigned_lt (n : Nat) (x : Int) : unsigned n x < 2 ^ n := by
  unfold unsigned
  have hpos : (0 : Int) < 2 ^ n := by positivity
  have hlt := Int.emod_lt_of_pos x hpos
  have hnonneg := Int.emod_nonneg x hpos.ne'
  zify
  rwa [Int.toNat_of_nonneg hnonneg]

section
variable {f : Nat} {io : Io} {sv : Sieve} {r : FlowRt} (hrt : sv.rt f = some r) (hsome : r.skews ≠ [])
include hrt hsome

theorem skewAverage_io : (skewAverage f io sv).1 =
    (io.skewShown f (clampInt (-32768) 32767 (avgSkew r.skews))).skewJudged f (clampInt (-32768) 32767 (avgSkew r.skews))
      r.skewRaised := by
  simp only [skewAverage, hrt, List.isEmpty_eq_false_iff.2 hsome, Bool.false_eq_true, if_false]
  rfl

theorem skewAverage_skews : ((skewAverage f io sv).2.rt f).map (fun r => r.skews) = some [] := by
  simp only [skewAverage, hrt, List.isEmpty_eq_false_iff.2 hsome, Bool.false_eq_true, if_false, Sieve.rt_upd, Option.map_some]

end

section
variable (io : Io) (f : Nat) (avg : Int) (raised : Bool)

theorem Io.fs_skewJudged (w : Nat) : (io.skewJudged f avg raised).fs f w = io.fs f w := by
  unfold Io.skewJudged
  split
  · exact Io.fs_flowEvent ..
  · rfl

theorem Io.bits_skewShown : bits ((io.skewShown f avg).fs f 32) 16 16 = unsigned 16 avg := by
  rw [Io.skewShown, Io.fs_setFs_self, bits_setBits_self _ _ _ _ (by decide), Nat.mod_eq_of_lt (unsigned_lt 16 avg)]

theorem Io.pend_skewJudged {pg : PageRef} (hpg : io.flowPage f = pg) (hwide : io.live.flowWin f < avg.natAbs) :
    (io.skewJudged f avg false).flag pg Reg.EVT_PEND 7 = true := by
  rw [Io.skewJudged, decide_eq_true hwide, if_pos (by decide), Io.pend_flowEvent _ _ _ _ _ hpg (by decide), decide_eq_true rfl, Bool.true_or]

end

theorem runs_mirrorSkew {f : Fin 4096} {r : FlowRt} {dt : Nat} {s : State} (hrt : s.dev.sv.rt f = some r) (hsome : r.skews ≠ []) :
    Runs (.mirrorSkew f dt) s fun d d' =>
      let avg := clampInt (-32768) 32767 (avgSkew r.skews)
      bits (d'.io.fs f 32) 16 16 = unsigned 16 avg ∧ (d'.sv.rt f).map (fun r => r.skews) = some []
        ∧ (d.io.live.flowWin f < avg.natAbs → r.skewRaised = false → d'.io.flag (d.io.flowPage f) Reg.EVT_PEND 7 = true) := by
  refine Runs.intro (f := fun d => (d.tick dt).onSv (skewAverage f)) rfl ?_
  rw [Dev.onSv_io, Dev.onSv_sv, Dev.tick_io, Dev.tick_sv, skewAverage_io hrt hsome]
  refine ⟨?_, skewAverage_skews hrt hsome, fun hwide hnew => ?_⟩
  · rw [Io.fs_skewJudged, Io.bits_skewShown]
  · rw [hnew]
    exact Io.pend_skewJudged _ _ _ (Io.flowPage_setFs _ _ _ (by decide)) ((Io.flowWin_setFs _ _ _ (by decide)).trans_lt hwide)

/-! Lost legs (R181). -/

/-- The bit of word 32 that shows a leg up. -/
abbrev legBit (legB : Bool) : Nat := if legB then 4 else 3

/-- The leg is marked lost. -/
def FlowRt.lose (legB : Bool) (r : FlowRt) : FlowRt := if legB then { r with lostB := true } else { r with lostA := true }

/-- A lost leg is counted, shown and announced. -/
def Io.legDown (io : Io) (f : Nat) (legB : Bool) : Io :=
  ((io.setFs f 43 (setBits (io.fs f 43) 16 16 (sat 16 (bits (io.fs f 43) 16 16 + 1)))).setLeg f legB false).flowEvent f 3 (b2n legB) 5

/-- An absence is counted, shown and announced. -/
def Io.absent (io : Io) (f : Nat) : Io :=
  ((io.setFs f 43 (setBits (io.fs f 43) 0 16 (sat 16 (bits (io.fs f 43) 0 16 + 1)))).setFlowState f 3).flowEvent f 1 0 3

theorem legLost_now {f : Nat} {legB : Bool} {io : Io} {sv : Sieve} {r : FlowRt} (hrt : sv.rt f = some r)
    (hup : (if legB then r.lostB else r.lostA) = false) :
    legLost f legB io sv = (flowAbsent f (io.legDown f legB) (sv.upd f (FlowRt.lose legB)), sv.upd f (FlowRt.lose legB)) := by
  simp only [legLost, hrt, hup, Bool.false_eq_true, if_false]
  rfl

theorem flowAbsent_eq {f : Nat} (io : Io) {sv : Sieve} {r : FlowRt} (hrt : sv.rt f = some r) :
    flowAbsent f io sv = if r.lostA && (r.lostB || !io.live.flowMirror f) && decide (io.flowState f ≠ 3) then io.absent f else io := by
  simp only [flowAbsent, hrt]
  rfl

section
variable (io : Io) (f : Nat) (legB : Bool)

theorem Io.legDown_counts : bits ((io.legDown f legB).fs f 43) 16 16 = sat 16 (bits (io.fs f 43) 16 16 + 1)
    ∧ bits ((io.legDown f legB).fs f 43) 0 16 = bits (io.fs f 43) 0 16 := by
  have hword : (io.legDown f legB).fs f 43 = setBits (io.fs f 43) 16 16 (sat 16 (bits (io.fs f 43) 16 16 + 1)) := by
    rw [Io.legDown, Io.fs_flowEvent, Io.setLeg, Io.fs_setFs_off _ _ _ (by decide), Io.fs_setFs_self]
  rw [hword, bits_setBits_self _ _ _ _ (by decide), Nat.mod_eq_of_lt (sat_lt _ _), bits_setBits_ne _ _ _ _ _ _ (by decide) (.inl (by decide))]
  exact ⟨rfl, rfl⟩

theorem Io.legDown_shows : bit ((io.legDown f legB).fs f 32) (legBit legB) = false ∧ (io.legDown f legB).flowState f = io.flowState f := by
  have hbit : legBit legB = 3 ∨ legBit legB = 4 := by cases legB <;> decide
  have hword : (io.legDown f legB).fs f 32 = setBit (io.fs f 32) (legBit legB) false := by
    rw [Io.legDown, Io.fs_flowEvent, Io.setLeg, Io.fs_setFs_self, Io.fs_setFs_off _ _ _ (by decide)]
  rw [Io.flowState, hword, bit_setBit_self _ _ _ (by omega), bits_setBit_ne _ _ _ _ _ (by omega) (.inl (by omega))]
  exact ⟨rfl, rfl⟩

theorem Io.legDown_captured {w : Nat} (h : w < 32) : (io.legDown f legB).fs f w = io.fs f w := by
  rw [Io.legDown, Io.fs_flowEvent, Io.setLeg, Io.fs_setFs_off _ _ _ (by omega), Io.fs_setFs_off _ _ _ (by omega)]

/-- Neither word 32 nor word 43 says which page serves the flow. -/
theorem Io.flowPage_setFs_both (v w : Word) : ((io.setFs f 43 v).setFs f 32 w).flowPage f = io.flowPage f := by
  rw [Io.flowPage_setFs _ _ _ (by decide), Io.flowPage_setFs _ _ _ (by decide)]

theorem Io.legDown_page : (io.legDown f legB).flowPage f = io.flowPage f := Io.flowPage_congr (io.legDown_captured f legB (by decide))

theorem Io.legDown_event : (io.legDown f legB).flag (io.flowPage f) Reg.EVT_PEND 5 = true := by
  rw [Io.legDown, Io.setLeg, Io.pend_flowEvent _ _ _ _ _ (io.flowPage_setFs_both f _ _) (by decide), decide_eq_true rfl, Bool.true_or]

theorem Io.absent_counts : bits ((io.absent f).fs f 43) 0 16 = sat 16 (bits (io.fs f 43) 0 16 + 1)
    ∧ bits ((io.absent f).fs f 43) 16 16 = bits (io.fs f 43) 16 16 := by
  have hword : (io.absent f).fs f 43 = setBits (io.fs f 43) 0 16 (sat 16 (bits (io.fs f 43) 0 16 + 1)) := by
    rw [Io.absent, Io.fs_flowEvent, Io.setFlowState, Io.fs_setFs_off _ _ _ (by decide), Io.fs_setFs_self]
  rw [hword, bits_setBits_self _ _ _ _ (by decide), Nat.mod_eq_of_lt (sat_lt _ _), bits_setBits_ne _ _ _ _ _ _ (by decide) (.inr (by decide))]
  exact ⟨rfl, rfl⟩

theorem Io.absent_shows : (io.absent f).flowState f = 3 ∧ ∀ i, 3 ≤ i → bit ((io.absent f).fs f 32) i = bit (io.fs f 32) i := by
  have hword : (io.absent f).fs f 32 = setBits (io.fs f 32) 0 3 3 := by
    rw [Io.absent, Io.fs_flowEvent, Io.setFlowState, Io.fs_setFs_self, Io.fs_setFs_off _ _ _ (by decide)]
  rw [Io.flowState, hword, bits_setBits_self _ _ _ _ (by decide)]
  exact ⟨rfl, fun i hi => bit_setBits_ne _ _ _ _ _ (by decide) (.inr hi)⟩

theorem Io.absent_pend {pg : PageRef} (hpg : io.flowPage f = pg) (i : Nat) :
    (io.absent f).flag pg Reg.EVT_PEND i = (decide (i = 3) || io.flag pg Reg.EVT_PEND i) := by
  rw [Io.absent, Io.setFlowState, Io.pend_flowEvent _ _ _ _ _ ((io.flowPage_setFs_both f _ _).trans hpg) (by decide), ← hpg, Io.flag, Io.flowPage,
    Io.reg_setFs_siev _ _ _ _ _ (by decide), Io.reg_setFs_siev _ _ _ _ _ (by decide), Io.flag]

end

/-- The flow is judged after a leg is lost: either way the leg stays counted, down and announced. -/
theorem flowAbsent_keeps (io : Io) (f : Nat) (sv : Sieve) {pg : PageRef} (hpg : io.flowPage f = pg) :
    bits ((flowAbsent f io sv).fs f 43) 16 16 = bits (io.fs f 43) 16 16
      ∧ (∀ i, 3 ≤ i → bit ((flowAbsent f io sv).fs f 32) i = bit (io.fs f 32) i)
      ∧ (io.flag pg Reg.EVT_PEND 5 = true → (flowAbsent f io sv).flag pg Reg.EVT_PEND 5 = true) := by
  cases hrt : sv.rt f with
  | none => simp [flowAbsent, hrt]
  | some r =>
    rw [flowAbsent_eq io hrt]
    split
    · exact ⟨(io.absent_counts f).2, (io.absent_shows f).2, fun h => by rw [io.absent_pend f hpg, h, Bool.or_true]⟩
    · exact ⟨rfl, fun _ _ => rfl, id⟩

section
variable {f : Nat} {io : Io} {sv : Sieve} {r : FlowRt} (hrt : sv.rt f = some r)
include hrt

theorem legLost_shows {legB : Bool} (hup : (if legB then r.lostB else r.lostA) = false) :
    bits ((legLost f legB io sv).1.fs f 43) 16 16 = sat 16 (bits (io.fs f 43) 16 16 + 1) ∧ bit ((legLost f legB io sv).1.fs f 32) (legBit legB) = false
      ∧ (legLost f legB io sv).1.flag (io.flowPage f) Reg.EVT_PEND 5 = true
      ∧ ((legLost f legB io sv).2.rt f).map (fun r => if legB then r.lostB else r.lostA) = some true := by
  rw [legLost_now hrt hup]
  obtain ⟨hcount, hleg, hpend⟩ := flowAbsent_keeps (io.legDown f legB) f (sv.upd f (FlowRt.lose legB)) (io.legDown_page f legB)
  refine ⟨hcount.trans (io.legDown_counts f legB).1, (hleg _ ?_).trans (io.legDown_shows f legB).1, hpend (io.legDown_event f legB), ?_⟩
  · cases legB <;> decide
  · rw [Sieve.rt_upd, hrt]
    cases legB <;> rfl

/-- The last leg of a flow without MIRROR. -/
theorem legLost_absent (hup : r.lostA = false) (hmirror : io.live.flowMirror f = false) (hstate : io.flowState f ≠ 3) :
    (legLost f false io sv).1.flowState f = 3 ∧ bits ((legLost f false io sv).1.fs f 43) 0 16 = sat 16 (bits (io.fs f 43) 0 16 + 1)
      ∧ (legLost f false io sv).1.flag (io.flowPage f) Reg.EVT_PEND 3 = true := by
  have hrt' : (sv.upd f (FlowRt.lose false)).rt f = some (r.lose false) := by rw [Sieve.rt_upd, hrt, Option.map_some]
  have hmirror' : (io.legDown f false).live.flowMirror f = false :=
    (congrArg (bit · 5) (io.legDown_captured f false (w := 0) (by decide))).trans hmirror
  have hlast : ((r.lose false).lostA && ((r.lose false).lostB || !(io.legDown f false).live.flowMirror f)
      && decide ((io.legDown f false).flowState f ≠ 3)) = true := by
    rw [hmirror', (io.legDown_shows f false).2, decide_eq_true hstate, Bool.not_false, Bool.or_true]
    rfl
  rw [legLost_now (legB := false) hrt hup, flowAbsent_eq _ hrt', if_pos hlast]
  refine ⟨((io.legDown f false).absent_shows f).1, ?_, ?_⟩
  · rw [((io.legDown f false).absent_counts f).1, (io.legDown_counts f false).2]
  · rw [Io.absent_pend _ _ (io.legDown_page f false), decide_eq_true rfl, Bool.true_or]

end

section
variable {f : Fin 4096} {legB : Bool} {r : FlowRt} {dt : Nat} {s : State}

theorem exec_legLost (f : Fin 4096) (legB : Bool) (dt : Nat) (s : State) : exec (.legLost f legB dt) s = s.run fun d =>
    if legOverdue f legB (d.tick dt).io (d.tick dt).sv then (d.tick dt).watching (fun d => d.onSv (legLost f legB)) else d.tick dt := rfl

theorem runs_legLost_early (hearly : legOverdue f legB (s.dev.tick dt).io s.dev.sv = false) : Runs (.legLost f legB dt) s fun d d' => d' = d.tick dt :=
  Runs.intro (exec_legLost ..) (if_neg (by rw [Dev.tick_sv, hearly]; decide))

theorem runs_legLost_due (hrt : s.dev.sv.rt f = some r) (hdue : legOverdue f legB (s.dev.tick dt).io s.dev.sv = true)
    (hup : (if legB then r.lostB else r.lostA) = false) : Runs (.legLost f legB dt) s fun d d' =>
      bits (d'.io.fs f 43) 16 16 = sat 16 (bits (d.io.fs f 43) 16 16 + 1) ∧ bit (d'.io.fs f 32) (legBit legB) = false
        ∧ d'.io.flag (d.io.flowPage f) Reg.EVT_PEND 5 = true ∧ (d'.sv.rt f).map (fun r => if legB then r.lostB else r.lostA) = some true
        ∧ (legB = false → d.io.live.flowMirror f = false → d.io.flowState f ≠ 3 →
            d'.io.flowState f = 3 ∧ bits (d'.io.fs f 43) 0 16 = sat 16 (bits (d.io.fs f 43) 0 16 + 1)
              ∧ d'.io.flag (d.io.flowPage f) Reg.EVT_PEND 3 = true) := by
  refine Runs.intro (exec_legLost ..) ?_
  rw [if_pos (by rw [Dev.tick_sv, hdue])]
  have hroutes := (s.dev.tick dt).watching_onlyRoutes fun d => d.onSv (legLost f legB)
  rw [hroutes.fs f (by decide), hroutes.fs f (by decide), hroutes.sv, hroutes.pend_flowPage, hroutes.pend_flowPage, hroutes.flowState]
  obtain ⟨hcount, hleg, hevent, hmark⟩ := legLost_shows (io := s.dev.io.tick dt) hrt hup
  refine ⟨hcount, hleg, hevent, hmark, fun hA => ?_⟩
  subst hA
  exact legLost_absent (io := s.dev.io.tick dt) hrt hup

end

end Sys2Proof.Machine

/-! What depacketization leaves alone (R175 to R177): beside the pages and six status words of the flow it changes only which frames are being assembled, not
what the merge holds. -/
namespace Sys2Proof.Machine

/-- The status words that depacketization writes: STATE, the frames published and discarded, and the timestamp and time of the last one. -/
def frameWords : List Nat := [32, 39, 40, 44, 45, 46]

/-- What the merge keeps of a flow: the packets that it holds, and the number that is due. -/
def Sieve.merging (sv : Sieve) (f : Nat) : Option (List HeldPkt × Option Nat) := (sv.rt f).map fun r => (r.held, r.nextSeq)

theorem Sieve.merging_upd (sv : Sieve) (f : Nat) {g : FlowRt → FlowRt} (h : ∀ r, (g r).held = r.held ∧ (g r).nextSeq = r.nextSeq) :
    (sv.upd f g).merging f = sv.merging f := by
  have hg : (fun r : FlowRt => ((g r).held, (g r).nextSeq)) = fun r => (r.held, r.nextSeq) := funext fun r => Prod.ext (h r).1 (h r).2
  rw [Sieve.merging, Sieve.rt_upd, Option.map_map]
  exact congrArg (fun k => (sv.rt f).map k) hg

section
variable (io : Io) (f : Nat)

theorem frameSame_returned : Io.Same (flowPlace f frameWords) io (io.flowReturned f) := by
  unfold Io.flowReturned
  split
  · exact (Io.Same.setFs_word io _ (by decide)).trans (Io.Same.flowEvent_below ..).below
  · exact .refl _ _

/-- A slot that is opened, or the discard for want of one (R202). -/
theorem frameSame_openSlot (i : Nat) (st : Stores) : Io.Same belowTables io (openSlot i io st).2.1 := by
  have hfstr : ∀ {off}, off < 0x1000 → belowTables (regAddr .fstr off) = true := fun h => decide_eq_true (by simp only [regAddr, pageBase]; omega)
  have hcount : Io.Same belowTables io (io.count48 .fstr 0x88 1) := .putWide _ _ (hfstr (by decide)) (hfstr (by decide))
  unfold openSlot
  split
  · exact .refl _ _
  · split
    · exact .refl _ _
    · extract_lets y quiet
      refine hcount.trans ?_
      change Io.Same belowTables y (if quiet then y.raise .fstr 3 else y)
      split
      · exact .raise (fun _ => belowTables_event) _ _ (hfstr (by decide))
      · exact .refl _ _

theorem frameSame_openFor (h : Nat) (want : Bool) (st : Stores) : Io.Same belowTables io (openFor h want io st).2.1 := by
  unfold openFor
  split
  · exact frameSame_openSlot ..
  · exact .refl _ _

theorem frameSame_begin (ts media : Nat) (first : Option Nat) (st : Stores) : Io.Same (flowPlace f frameWords) io (beginFrame f ts media first io st).2.1 :=
  ((frameSame_openFor io _ _ st).trans (frameSame_openFor ..)).below

theorem frameSame_later (as : List Assembly) (st : Stores) : Io.Same (flowPlace f frameWords) io (laterArrived f io st as).1 := by
  induction as generalizing io st with
  | nil => exact .refl _ _
  | cons a as ih =>
    rw [laterArrived]
    split
    · exact ih io st
    · exact (Io.Same.flowCount_word io (by decide)).trans (ih _ _)

theorem frameSame_publish (a : Assembly) (st : Stores) : Io.Same (flowPlace f frameWords) io (framePublish f a io st).1 := by
  unfold framePublish
  dsimp only
  split
  · exact .flowCount_word io (by decide)
  · exact (((Io.Same.flowCount_word io (by decide)).trans (.setFs_word _ _ (by decide))).trans
      (.setFlowTime_words _ _ (by decide) (by decide))).trans (frameSame_returned ..)

theorem framePublish_noSdi (a : Assembly) (st : Stores) (h : io.live.flowType f ≠ 5) : (framePublish f a io st).2.2 = none := by
  unfold framePublish
  dsimp only
  split
  · rfl
  · rfl

end

/-- What comes of a released packet of flow `f`. -/
structure Depacketized (f : Nat) (io : Io) (sv : Sieve) (x : Io × Stores × Sieve × Option SdiFrame) : Prop where
  same : Io.Same (flowPlace f frameWords) io x.1
  merging : x.2.2.1.merging f = sv.merging f
  noSdi : io.live.flowType f ≠ 5 → x.2.2.2 = none

section
variable {f : Nat} {io io' : Io} {sv sv' : Sieve} {x : Io × Stores × Sieve × Option SdiFrame}

/-- The status words are none that say the type. -/
theorem View.flowType_frame (h : Io.Same (flowPlace f frameWords) io io') : io'.live.flowType f = io.live.flowType f :=
  View.flowType_congr (h.fs (by decide))

theorem Depacketized.after (h : Depacketized f io' sv' x) (hio : Io.Same (flowPlace f frameWords) io io') (hsv : sv'.merging f = sv.merging f) :
    Depacketized f io sv x :=
  ⟨hio.trans h.same, h.merging.trans hsv, fun ht => h.noSdi (by rwa [View.flowType_frame hio])⟩

variable (f io sv)

theorem settleFrame_depacketized (a : Assembly) (frames : List Assembly) (st : Stores) : Depacketized f io sv (settleFrame f a frames io st sv) := by
  unfold settleFrame
  split
  · exact ⟨frameSame_publish .., Sieve.merging_upd _ _ fun _ => ⟨rfl, rfl⟩, framePublish_noSdi _ _ _ _⟩
  · exact ⟨.refl _ _, Sieve.merging_upd _ _ fun _ => ⟨rfl, rfl⟩, fun _ => rfl⟩

theorem depacketize_depacketized (seq : Nat) (pkt : Pkt) (st : Stores) : Depacketized f io sv (depacketize f seq pkt io st sv) := by
  unfold depacketize
  extract_lets v typ bs ts
  split
  · exact ⟨.refl _ _, rfl, fun _ => rfl⟩
  · rename_i r _
    extract_lets newer first mark
    have hmark : (sv.upd f mark).merging f = sv.merging f := Sieve.merging_upd _ _ fun _ => ⟨rfl, rfl⟩
    have hframe : ∀ (a : Assembly) (frames : List Assembly) (st : Stores), Depacketized f io sv (settleFrame f a frames io st (sv.upd f mark)) :=
      fun a frames st => (settleFrame_depacketized f io _ a frames st).after (.refl _ _) hmark
    have hbegun : ∀ {y : Io} (a : Assembly) (frames : List Assembly) (st st' : Stores), Io.Same (flowPlace f frameWords) io y →
        Depacketized f io sv (settleFrame f a frames (beginFrame f ts (mediaTime (v.flowClock f) pkt.arrival ts) first y st).2.1 st' (sv.upd f mark)) :=
      fun a frames st st' hy => (settleFrame_depacketized f _ _ a frames st').after (hy.trans (frameSame_begin ..)) hmark
    split
    · exact ⟨frameSame_returned .., hmark, fun _ => rfl⟩
    · split
      · split
        · exact ⟨(((Io.Same.flowCount_word io (by decide)).trans (.setFs_word _ _ (by decide))).trans
            (.setFlowTime_words _ _ (by decide) (by decide))).trans (frameSame_returned ..), hmark, fun _ => rfl⟩
        · exact ⟨.refl _ _, hmark, fun _ => rfl⟩
      · split
        · exact hframe ..
        · split
          · split
            · exact hframe ..
            · split
              · exact hbegun _ _ _ _ (frameSame_later ..)
              · exact ⟨.refl _ _, rfl, fun _ => rfl⟩
          · split
            · exact hbegun _ _ _ _ (.refl _ _)
            · exact ⟨.refl _ _, rfl, fun _ => rfl⟩

end

/-- A released packet of video, of ancillary data or of TYPE 1, where the fast path keeps nothing: it is depacketized, and that is all. -/
theorem Dev.released_plain {d : Dev} {f : Nat} (k : HeldPkt) (hfast : d.rt.fast = []) (htype : [0, 1, 4].contains (d.io.live.flowType f) = true) :
    Io.Same (flowPlace f frameWords) d.io (d.released f k).io ∧ (d.released f k).sv.merging f = d.sv.merging f := by
  obtain ⟨hsame, hmerging, hsdi⟩ := depacketize_depacketized f d.io d.sv k.seq k.pkt d.st
  have htypes : d.io.live.flowType f = 0 ∨ d.io.live.flowType f = 1 ∨ d.io.live.flowType f = 4 := by simpa using htype
  have hreaders : fpReaders f d.rt = [] := by rw [fpReaders, hfast]; rfl
  have hvideo : ¬ ((depacketize f k.seq k.pkt d.io d.st d.sv).1.live.flowType f = 2 ∨ (depacketize f k.seq k.pkt d.io d.st d.sv).1.live.flowType f = 3) := by
    rw [View.flowType_frame hsame]
    omega
  simp only [Dev.released, hsdi (by omega), if_neg hvideo, hreaders, List.foldl_nil]
  exact ⟨hsame, hmerging⟩

end Sys2Proof.Machine

/-! The merge of a mirrored flow (R179): a number is lost when its window has passed, and what it held back is released. -/
namespace Sys2Proof.Machine

section
variable {f : Nat} {io : Io} {sv : Sieve}

theorem mergeLost_still (h : mergeOverdue f io sv = false) (k : Nat) : mergeLost f io sv k = ([], io, sv) := by
  cases k with
  | zero => rfl
  | succ k => rw [mergeLost, h]; rfl

/-- The number due is passed over. -/
def FlowRt.skipDue (r : FlowRt) : FlowRt := { r with nextSeq := r.nextSeq.map (· + 1) }

/-- A number is lost, what its loss lets go is released, and the next number is looked at. -/
theorem mergeLost_due (h : mergeOverdue f io sv = true) (k : Nat) : mergeLost f io sv (k + 1) =
    (let x := mergeRelease f (io.flowCount f 41) (sv.upd f FlowRt.skipDue)
     let y := mergeLost f x.2.1 x.2.2 k
     (x.1 ++ y.1, y.2)) := by
  rw [mergeLost, h]
  rfl

/-- A number is lost, and the packet after it is released: it counts again where leg B alone has supplied it. -/
def Io.gapLost (io : Io) (f : Nat) (h : HeldPkt) : Io := if h.legB then (io.flowCount f 41).flowCount f 42 else io.flowCount f 41

variable {r : FlowRt} {h : HeldPkt} {n : Nat} (hrt : sv.rt f = some r) (hheld : r.held = [h]) (hnext : r.nextSeq = some n)
include hrt hheld hnext

/-- The one packet held is released when its number is due. -/
theorem mergeRelease_held (hseq : h.seq = n) : mergeRelease f io sv =
    ([h], if h.legB then io.flowCount f 42 else io, sv.upd f fun r => { r with nextSeq := some (n + 1), held := [] }) := by
  have hrun : releaseRun 1 n [h] = ([h], n + 1, []) := by simp [releaseRun, hseq]
  simp only [mergeRelease, hrt, hnext, hheld, List.length_singleton, hrun, List.foldl_cons, List.foldl_nil]

omit hheld hnext in
theorem mergeOverdue_noneHeld (hnone : r.held = []) : mergeOverdue f io sv = false := by
  simp only [mergeOverdue, hrt, FlowRt.gapSince, hnone]
  cases r.nextSeq <;> rfl

theorem mergeLost_gap (hdue : mergeOverdue f io sv = true) (hseq : h.seq = n + 1) (k : Nat) :
    ∃ sv', mergeLost f io sv (k + 1) = ([h], io.gapLost f h, sv') ∧ sv'.merging f = some ([], some (n + 2)) := by
  have hskip : (sv.upd f FlowRt.skipDue).rt f = some r.skipDue := by rw [Sieve.rt_upd, hrt, Option.map_some]
  have hrelease := mergeRelease_held (io := io.flowCount f 41) hskip hheld (show r.skipDue.nextSeq = some (n + 1) by rw [FlowRt.skipDue, hnext]; rfl) hseq
  generalize hsv : (sv.upd f FlowRt.skipDue).upd f (fun r => { r with nextSeq := some (n + 1 + 1), held := [] }) = sv' at hrelease
  have hrt' : sv'.rt f = some { r.skipDue with nextSeq := some (n + 1 + 1), held := [] } := by rw [← hsv, Sieve.rt_upd, hskip, Option.map_some]
  have hstill := mergeLost_still (io := io.gapLost f h) (mergeOverdue_noneHeld hrt' rfl) k
  refine ⟨sv', ?_, by rw [Sieve.merging, hrt', Option.map_some]⟩
  simp only [mergeLost_due hdue, hrelease]
  exact congrArg (fun y : List HeldPkt × Io × Sieve => ([h] ++ y.1, y.2)) hstill

end

section
variable (io : Io) (f : Nat) (h : HeldPkt)

theorem Io.gapLost_same : Io.Same (flowPlace f [41, 42]) io (io.gapLost f h) := by
  unfold Io.gapLost
  split
  · exact (Io.Same.flowCount_word io (by decide)).trans (.flowCount_word _ (by decide))
  · exact .flowCount_word io (by decide)

theorem Io.gapLost_counts : ((io.gapLost f h).fs f 41).toNat = sat 32 ((io.fs f 41).toNat + 1) := by
  unfold Io.gapLost
  split
  · rw [Io.fs_flowCount_off _ _ (by decide), Io.fs_flowCount]
  · rw [Io.fs_flowCount]

end

/-- The window of a number is looked at, and what is released goes on (R179). -/
def Dev.mergeAdvanced (d : Dev) (f : Nat) : Dev :=
  match mergeLost f d.io d.sv 65536 with
  | (hs, io, sv) => { d with io := io, sv := sv }.releasedAll f hs

theorem Dev.mergeAdvanced_still {d : Dev} {f : Nat} (h : mergeOverdue f d.io d.sv = false) : d.mergeAdvanced f = d := by
  rw [Dev.mergeAdvanced, mergeLost_still h]
  rfl

theorem Dev.mergeAdvanced_gap {d : Dev} {f n : Nat} {r : FlowRt} {h : HeldPkt} (hrt : d.sv.rt f = some r) (hdue : mergeOverdue f d.io d.sv = true)
    (hheld : r.held = [h]) (hnext : r.nextSeq = some n) (hseq : h.seq = n + 1) (hfast : d.rt.fast = [])
    (htype : [0, 1, 4].contains (d.io.live.flowType f) = true) :
    ((d.mergeAdvanced f).io.fs f 41).toNat = sat 32 ((d.io.fs f 41).toNat + 1) ∧ (d.mergeAdvanced f).sv.merging f = some ([], some (n + 2)) := by
  obtain ⟨sv', hlost, hmerging⟩ := mergeLost_gap hrt hheld hnext hdue hseq 65535
  have htype' : [0, 1, 4].contains ((d.io.gapLost f h).live.flowType f) = true := by
    rwa [View.flowType_congr ((d.io.gapLost_same f h).fs (by decide))]
  obtain ⟨hsame, hkept⟩ := Dev.released_plain (d := { d with io := d.io.gapLost f h, sv := sv' }) h hfast htype'
  rw [Dev.mergeAdvanced, hlost]
  refine ⟨?_, hkept.trans hmerging⟩
  change ((({ d with io := d.io.gapLost f h, sv := sv' } : Dev).released f h).io.fs f 41).toNat = _
  rw [hsame.fs (by decide), Io.gapLost_counts]

section
variable {f : Fin 4096} {dt : Nat} {s : State}

theorem exec_mirrorSeqLost (f : Fin 4096) (dt : Nat) (s : State) : exec (.mirrorSeqLost f dt) s =
    s.settled fun d => (d.tick dt).watching fun d => d.mergeAdvanced f := rfl

theorem runs_mirrorSeqLost_still (hstill : mergeOverdue f (s.dev.tick dt).io s.dev.sv = false) : Runs (.mirrorSeqLost f dt) s fun d d' =>
    d'.sv = d.sv ∧ d'.io.fs f 41 = d.io.fs f 41 := by
  have hroutes := (s.dev.tick dt).watching_onlyRoutes fun d => d.mergeAdvanced f
  refine Runs.settle (exec_mirrorSeqLost ..) ?_
  rw [Dev.settle_sv, Dev.settle_fs, hroutes.sv, hroutes.fs f (by decide), Dev.mergeAdvanced_still hstill]
  exact ⟨rfl, rfl⟩

theorem runs_mirrorSeqLost_gap {n : Nat} {r : FlowRt} {h : HeldPkt} (hrt : s.dev.sv.rt f = some r)
    (hdue : mergeOverdue f (s.dev.tick dt).io s.dev.sv = true) (hheld : r.held = [h]) (hnext : r.nextSeq = some n) (hseq : h.seq = n + 1)
    (hfast : s.dev.rt.fast = []) (htype : [0, 1, 4].contains (s.dev.io.live.flowType f) = true) : Runs (.mirrorSeqLost f dt) s fun d d' =>
      (d'.io.fs f 41).toNat = sat 32 ((d.io.fs f 41).toNat + 1) ∧ (d'.sv.rt f).map (fun r => (r.held, r.nextSeq)) = some ([], some (n + 2)) := by
  have hroutes := (s.dev.tick dt).watching_onlyRoutes fun d => d.mergeAdvanced f
  refine Runs.settle (exec_mirrorSeqLost ..) ?_
  rw [Dev.settle_sv, Dev.settle_fs, hroutes.sv, hroutes.fs f (by decide)]
  exact Dev.mergeAdvanced_gap (d := s.dev.tick dt) hrt hdue hheld hnext hseq hfast htype

end

/-- Settles O58, by one rule for each timer of a flow that acts or is early. -/
theorem flowTimersAct : Obligations.FlowTimersAct := by
  unfold Obligations.FlowTimersAct
  intro f legB n t dt h a r s hrt
  exact ⟨fun hdue hheld hnext hseq hfast _ htype => runs_mirrorSeqLost_gap hrt hdue hheld hnext hseq hfast htype, runs_mirrorSeqLost_still,
    fun hframes hlater => ⟨runs_frameDiscard_due hrt hframes hlater, runs_frameDiscard_early hrt hframes hlater⟩, runs_mirrorSkew hrt,
    runs_legLost_due hrt, runs_legLost_early⟩

end Sys2Proof.Machine

/-! A line whose frame and whose live state differ in format (R54, R308, R330). What is refuted of the outputs' statement is that a line of a frame without 4:2:0 is
kept packed. `Dev.composeAt` encodes a line in the format that is live, not in the one that its frame began with, and the two can differ: an output that is
disabled drains to the end of its frame, and its pending commits apply at the instant of disabling (R54). With 4:2:0 live, the first line of a pair waits for
its second in place of being kept. -/
namespace Sys2Proof.Machine

/-- Output 0 drains, with a live raster of 1,080 lines at 60 frames per second in 4:2:0. -/
def reformattedIo : Io :=
  ((((Io.reset.put (.outc 0) Reg.PAGE_STAT 6).put (.outc 0) Reg.OUTC_OUT_FMT 2).put (.outc 0) Reg.OUTC_RASTER (Word.of (1920 + 1080 * 2 ^ 16))).put (.outc 0)
    Reg.OUTC_VTIMING 1125).put (.outc 0) Reg.OUTC_RATE 60

/-- A frame of that raster that began in 4:2:2 and has composed no line yet. -/
def reformattedFrame : OutRt := { OutRt.fresh reformattedIo.live 0 0 with fmt := 0, inFrame := true }

/-- The output is in that frame. -/
def reformattedState : State :=
  { State.reset with dev := { Dev.reset with io := reformattedIo, sc := { Scanout.reset with outs := [(0, reformattedFrame)] } } }

/-- The part once its first line has been composed, 20 ms later. -/
def reformattedLine : Dev := (reformattedState.dev.tick 20000000).rasterLine 0 [] []

theorem reformattedLine_unkept :
    (reformattedLine.outRt 0).map (fun r => (FMap.find r.picture (reformattedFrame.tm.pictureLine 0)).isSome) = some false := by decide +kernel

/-- Refutes O52: the first line of a frame in 4:2:2 is composed and not kept, since 4:2:0 is live. -/
theorem not_outputsScan : ¬ Obligations.OutputsScan := by
  unfold Obligations.OutputsScan
  intro h
  have hdue : reformattedFrame.tm.lineStart 0 (reformattedFrame.tm.rasterLine 0) ≤ reformattedFrame.clock (reformattedState.dev.io.tick 20000000) := by
    decide +kernel
  obtain ⟨t, hexec, -, -, hkept, -⟩ :=
    ((h 0 reformattedFrame [] [] 0 20000000 reformattedState rfl).2 (by decide) rfl).1 (by decide) hdue
  have hdev : t.dev = reformattedLine.settle := by
    have hnext : Host.Outcome.next { reformattedState with dev := reformattedLine.settle } = Host.Outcome.next t := hexec
    injection hnext with hstate
    rw [← hstate]
  have hout : reformattedLine.settle.outRt 0 = reformattedLine.outRt 0 := by
    rw [Dev.outRt, Dev.outRt, (Dev.settle_only _).sc]
  have hkept := hkept rfl rfl (by decide)
  rw [hdev] at hkept
  exact absurd ((congrArg _ hout).symm.trans hkept) (reformattedLine_unkept ▸ by decide)

end Sys2Proof.Machine

/-! Bytes of the frame stores (R209, R211): a write of bytes is read back and leaves every other byte of every handle, and a slot that changes leaves the others. -/
namespace Sys2Proof.Machine

section
variable {α : Type} [DecidableEq α] {dflt : Nat → α} {key : Nat → Nat}

/-- Values written one after the other leave every other key alone. -/
theorem FMap.get_writes_off {a : Nat} (xs : List α) : ∀ (m : FMap α) (n : Nat), (∀ j < xs.length, a ≠ key (n + j)) →
    FMap.get dflt ((xs.zipIdx n).foldl (fun m e => FMap.set dflt m (key e.2) e.1) m) a = FMap.get dflt m a := by
  induction xs with
  | nil => exact fun _ _ _ => rfl
  | cons x xs ih =>
    intro m n h
    rw [List.length_cons] at h
    rw [List.zipIdx_cons, List.foldl_cons, ih _ _ fun j hj => Nat.add_right_comm n 1 j ▸ h (j + 1) (by omega)]
    exact FMap.get_set_ne _ _ (h 0 (by omega))

/-- Each of them is read at its key. -/
theorem FMap.get_writes (hkey : Function.Injective key) {j : Nat} (xs : List α) : ∀ (m : FMap α) (n : Nat), FMap.wf dflt m = true → (hj : j < xs.length) →
    FMap.get dflt ((xs.zipIdx n).foldl (fun m e => FMap.set dflt m (key e.2) e.1) m) (key (n + j)) = xs[j] := by
  induction xs generalizing j with
  | nil => exact fun _ _ _ hj => absurd hj (Nat.not_lt_zero _)
  | cons x xs ih =>
    intro m n w hj
    rw [List.zipIdx_cons, List.foldl_cons]
    cases j with
    | zero =>
      rw [FMap.get_writes_off _ _ _ fun i _ h => absurd (hkey h) (by omega)]
      exact FMap.get_set_self _ _ w
    | succ j =>
      rw [show n + (j + 1) = n + 1 + j by omega]
      exact ih _ _ (FMap.wf_set _ _ w) (Nat.lt_of_succ_lt_succ hj)

end

namespace Stores
variable {st : Stores} {i off : Nat} {bs : List Byte}

theorem byte_write_off {j o : Nat} (h : ∀ m < bs.length, hbmKey j o ≠ hbmKey i (off + m)) : (st.write i off bs).byte j o = st.byte j o :=
  FMap.get_writes_off (key := fun m => hbmKey i (off + m)) bs st.hbm 0 (by simpa using h)

theorem bytes_write (h : st.wf = true) : (st.write i off bs).bytes i off bs.length = bs := by
  refine List.ext_getElem (by simp [bytes]) fun j hj hj' => ?_
  have hkey : Function.Injective fun m => hbmKey i (off + m) := fun a b hab => by simpa [hbmKey] using hab
  have hread := FMap.get_writes hkey bs st.hbm 0 h hj'
  rw [Nat.zero_add] at hread
  simp only [bytes, List.getElem_map, List.getElem_range]
  exact hread

@[simp] theorem table_write : (st.write i off bs).table = st.table := rfl

theorem find_modify (f : Store → Store) : FMap.find (st.modify i f).table i = (FMap.find st.table i).map f := by
  unfold modify
  split
  next g hg => rw [FMap.find_insert_self, hg, Option.map_some]
  next hg => rw [hg, Option.map_none]

end Stores

theorem getElem?_modifyAt {α : Type} (f : α → α) (xs : List α) (k : Nat) : (modifyAt f k xs)[k]? = xs[k]?.map f := by
  induction xs generalizing k with
  | nil => cases k <;> rfl
  | cons x xs ih =>
    cases k with
    | zero => rfl
    | succ k => exact ih k

end Sys2Proof.Machine

/-! Aperture accesses (R209, R211): a write that lands goes to its handle alone, and one that is dropped shows in FSTR. -/
namespace Sys2Proof.Machine

/-- A log lies in its ring and its head: the registers below both stay. -/
theorem Io.reg_logTo_below (io : Io) (p : PageRef) {head base off : Nat} (n words : Nat) (ws : List Word) (hh : off < head) (hb : off < base) :
    (io.logTo p head base n words ws).reg p off = io.reg p off := by
  unfold Io.logTo
  rw [Io.reg_put_off _ _ hh.ne]
  refine foldl_keeps (P := fun x => x.reg p off = io.reg p off) _ (fun x e h => ?_) _ io rfl
  rwa [Io.reg_put_off _ _ (by omega)]

theorem Io.reg_fstrLog (io : Io) (i slot event fn : Nat) {off : Nat} (h : off < 0x100) : (io.fstrLog i slot event fn).reg .fstr off = io.reg .fstr off :=
  io.reg_logTo_below _ _ _ _ h (h.trans (by decide))

/-- A write that may not land is counted and recorded (R211). -/
def Io.apRefused (io : Io) (fn addr : Nat) : Io := (io.count48 .fstr Reg.FSTR_AP_DROP_LO 1).recordErr .fstr 0x0819 (addr / 2 ^ 24 % 2 ^ 12 + fn * 2 ^ 12)

/-- The index of the handle that a write names, 0 where the aperture maps nothing. -/
def Stores.apIndex (st : Stores) (fn addr : Nat) : Nat :=
  match st.apTarget fn addr with
  | some (h, _, _) => h % 65536
  | none => 0

/-- No write has been dropped within the last second. -/
def Stores.apQuiet (st : Stores) (up : Nat) : Bool :=
  match st.dropAt with
  | some t => decide (t + 1000000000 ≤ up)
  | none => true

/-- It is logged with event 2, the first within a second. -/
def Io.apLogged (io : Io) (i fn : Nat) : Io := (io.fstrLog i 0 2 fn).raise .fstr 2

/-- What a dropped write leaves in FSTR. -/
def Io.apDropped (io : Io) (st : Stores) (fn addr : Nat) : Io :=
  if st.apQuiet (io.apRefused fn addr).up then (io.apRefused fn addr).apLogged (st.apIndex fn addr) fn else io.apRefused fn addr

section
variable (io : Io) (st : Stores) (fn addr i : Nat)

theorem Io.apRefused_shows : (io.apRefused fn addr).wide .fstr Reg.FSTR_AP_DROP_LO = sat 48 (io.wide .fstr Reg.FSTR_AP_DROP_LO + 1)
    ∧ (io.apRefused fn addr).fld .fstr Reg.ERR_CODE 0 16 = 0x0819
    ∧ (io.apRefused fn addr).reg .fstr Reg.ERR_INFO = Word.of (addr / 2 ^ 24 % 2 ^ 12 + fn * 2 ^ 12) := by
  refine ⟨?_, Io.code_recordErr _ _ _ (by decide), Io.reg_recordErr_info ..⟩
  rw [← Io.wide_count48]
  exact Io.wide_of_reg (Io.reg_recordErr_off _ _ _ _ (by decide) (by decide) (by decide) (by decide))
    (Io.reg_recordErr_off _ _ _ _ (by decide) (by decide) (by decide) (by decide))

theorem Io.reg_apLogged {off : Nat} (h : off < 0x100) (hn : off ≠ Reg.EVT_PEND) : (io.apLogged i fn).reg .fstr off = io.reg .fstr off :=
  (Io.reg_raise_off _ _ _ h hn).trans (io.reg_fstrLog _ _ _ _ h)

theorem Io.apLogged_pend : (io.apLogged i fn).flag .fstr Reg.EVT_PEND 2 = true := by
  rw [Io.apLogged, Io.pend_raise _ _ (by decide)]
  rfl

theorem Io.reg_apDropped {off : Nat} (h : off < 0x100) (hn : off ≠ Reg.EVT_PEND) :
    (io.apDropped st fn addr).reg .fstr off = (io.apRefused fn addr).reg .fstr off := by
  unfold Io.apDropped
  split
  · exact Io.reg_apLogged _ _ _ h hn
  · rfl

end

section
variable {fn : Fin 64} {addr : Nat} {b : Byte} {bytes : List Byte} {s : State}

theorem exec_apWrite (fn : Fin 64) (addr : Nat) (bytes : List Byte) (s : State) :
    exec (.apWrite fn addr bytes) s = s.runIf (Instr.wellFormed (.apWrite fn addr bytes)) fun d => d.onSt (apWrite fn addr bytes) := rfl

theorem apWrite_lands {i k off : Nat} {io : Io} {st : Stores} (h : st.apLands fn addr bytes.length = some (i, k, off)) :
    apWrite fn addr bytes io st = (io, (st.modify i (fun g => g.setSlot k (fun x => { x with state := 1 }))).write i off bytes) := by
  rw [apWrite, h]

theorem apWrite_dropped {io : Io} {st : Stores} (h : st.apLands fn addr bytes.length = none) :
    apWrite fn addr bytes io st = (io.apDropped st fn addr, { st with dropAt := some (io.apDropped st fn addr).up }) := by
  rw [apWrite, h]
  rfl

theorem runs_apWrite_lands {i k off : Nat} {x : Slot} {g : Store} (h : s.dev.st.apLands fn addr (b :: bytes).length = some (i, k, off))
    (hg : FMap.find s.dev.st.table i = some g) (hx : g.slots[k]? = some x) (hwf : s.dev.st.wf = true) :
    Runs (.apWrite fn addr (b :: bytes)) s fun d d' =>
      d'.st.bytes i off (b :: bytes).length = b :: bytes
        ∧ (∀ j o, (∀ m < (b :: bytes).length, hbmKey j o ≠ hbmKey i (off + m)) → d'.st.byte j o = d.st.byte j o)
        ∧ ((FMap.find d'.st.table i).bind (fun g => g.slots[k]?)) = some { x with state := 1 } ∧ d'.io = d.io := by
  refine Runs.well (exec_apWrite ..) rfl ?_
  simp only [Dev.onSt_st, Dev.onSt_io, apWrite_lands h]
  refine ⟨Stores.bytes_write (Stores.wf_of_hbm hwf (by simp)), fun j o hne => ?_, ?_, trivial⟩
  · rw [Stores.byte_write_off hne, Stores.byte, Stores.hbm_modify, Stores.byte]
  · rw [Stores.table_write, Stores.find_modify, hg, Option.map_some, Option.bind_some, Store.setSlot, getElem?_modifyAt, hx, Option.map_some]

theorem runs_apWrite_dropped (h : s.dev.st.apLands fn addr (b :: bytes).length = none) : Runs (.apWrite fn addr (b :: bytes)) s fun d d' =>
    d'.st.hbm = d.st.hbm ∧ d'.st.table = d.st.table
      ∧ d'.io.wide .fstr Reg.FSTR_AP_DROP_LO = sat 48 (d.io.wide .fstr Reg.FSTR_AP_DROP_LO + 1) ∧ d'.io.fld .fstr Reg.ERR_CODE 0 16 = 0x0819
      ∧ d'.io.reg .fstr Reg.ERR_INFO = Word.of (addr / 2 ^ 24 % 2 ^ 12 + fn.val * 2 ^ 12)
      ∧ (d.st.dropAt = none → d'.io.flag .fstr Reg.EVT_PEND 2 = true) := by
  refine Runs.well (exec_apWrite ..) rfl ?_
  simp only [Dev.onSt_st, Dev.onSt_io, apWrite_dropped h]
  refine ⟨trivial, trivial, ?_⟩
  have kept := fun off (h : off < 0x100) (hn : off ≠ Reg.EVT_PEND) => s.dev.io.reg_apDropped s.dev.st fn addr h hn
  obtain ⟨hcount, hcode, hinfo⟩ := s.dev.io.apRefused_shows fn addr
  refine ⟨(Io.wide_of_reg (kept _ (by decide) (by decide)) (kept _ (by decide) (by decide))).trans hcount,
    (congrArg (bits · 0 16) (kept _ (by decide) (by decide))).trans hcode, (kept _ (by decide) (by decide)).trans hinfo, fun hnone => ?_⟩
  rw [Io.apDropped, if_pos (by rw [Stores.apQuiet, hnone])]
  exact Io.apLogged_pend ..

theorem runs_apRead {len : Nat} (h : 0 < len) : Runs (.apRead fn addr len none) s fun d d' =>
    d' = d.onIo (fun io => io.emit (.readBytes (d.st.apBytes fn addr len) (d.st.apPoisoned fn addr len)))
      ∧ (d.st.maps = [] → d.st.apBytes fn addr len = List.replicate len 0) := by
  refine Runs.well (f := fun d => d.onIo (fun io => io.emit (.readBytes (d.st.apBytes fn addr len) (d.st.apPoisoned fn addr len)))) rfl
    (decide_eq_true h) ⟨rfl, fun hmaps => ?_⟩
  have hnone : ∀ a, s.dev.st.apTarget fn a = none := fun a => by simp [Stores.apTarget, hmaps]
  simp [Stores.apBytes, hnone, List.map_const']

end
end Sys2Proof.Machine

/-! The queries of the frame stores (R217, R218). -/
namespace Sys2Proof.Machine

theorem bit_of (x i : Nat) (h : x < 2 ^ 32) : bit (Word.of x) i = decide (x / 2 ^ i % 2 = 1) := by
  rw [bit, Word.of, BitVec.toNat_ofNat, Nat.mod_eq_of_lt h, Nat.testBit_eq_decide_div_mod_eq]

theorem b2n_le (b : Bool) : b2n b ≤ 1 := by cases b <;> decide

theorem decide_b2n (b : Bool) : decide (b2n b = 1) = b := by cases b <;> rfl

theorem Dev.queryWords_free {d : Dev} {i : Nat} (h : FMap.find d.st.table i = none) : d.queryWords i = [i + d.st.genOf i * 2 ^ 16, 0, 0, 0, 0, 0, 0] := by
  rw [Dev.queryWords, h]

/-- The word of a store's owner, shape and flags (R218). -/
def Store.ownerWord (g : Store) : Nat :=
  g.owner + g.kind * 2 ^ 8 + g.writer * 2 ^ 10 + g.slots.length * 2 ^ 12 + b2n g.auth * 2 ^ 15 + b2n g.fence * 2 ^ 16 + b2n g.freeing * 2 ^ 17

theorem Dev.queryWords_allocated {d : Dev} {i : Nat} {g : Store} (h : FMap.find d.st.table i = some g) : d.queryWords i =
    [i + g.gen * 2 ^ 16 + 2 ^ 31, g.ownerWord, sat 16 g.slotG + sat 16 (d.refs i g) * 2 ^ 16,
      (g.slots.zipIdx.map (fun x => (x.1.state + min 3 (d.slotRefs i x.2 g) * 4) * 2 ^ (4 * x.2))).sum, g.width + g.height * 2 ^ 16,
      g.format + g.keySlot * 2 ^ 16, g.published] := by
  rw [Dev.queryWords, h]
  rfl

/-- A query that is taken leaves each word in its place. -/
theorem Dev.fstrQuery_word {d : Dev} {v : Word} (ha : d.io.accepts .fstr Reg.FSTR_QUERY v = true) {j w : Nat}
    (hw : (d.queryWords (bits v 0 16))[j]? = some w) : (d.fstrQuery v).io.reg .fstr (Reg.FSTR_QUERY_DATA + 4 * j) = Word.of w := by
  obtain ⟨hj, -⟩ := List.getElem?_eq_some_iff.1 hw
  have hword := Io.reg_putWords .fstr Reg.FSTR_QUERY_DATA ((d.queryWords (bits v 0 16)).map Word.of) (d.io.regWrite 0 .fstr Reg.FSTR_QUERY v) 0 (Nat.zero_le j)
    (by simpa using hj)
  rw [Nat.sub_zero, List.getElem?_map, hw, Option.map_some, List.zipIdx_map, List.foldl_map, Option.some_inj] at hword
  rw [Dev.fstrQuery, if_pos ha]
  exact hword

theorem Dev.fstrQuery_st (d : Dev) (v : Word) : (d.fstrQuery v).st = d.st := by
  unfold Dev.fstrQuery
  split <;> rfl

theorem Store.ownerWord_fields {g : Store} (ho : g.owner < 64) (hk : g.kind < 4) (hw : g.writer < 4) (hs : g.slots.length < 8) :
    bits (Word.of g.ownerWord) 0 6 = g.owner ∧ bits (Word.of g.ownerWord) 12 3 = g.slots.length ∧ bit (Word.of g.ownerWord) 16 = g.fence
      ∧ bit (Word.of g.ownerWord) 17 = g.freeing := by
  have ha := b2n_le g.auth
  have hf := b2n_le g.fence
  have hr := b2n_le g.freeing
  have hlt : g.ownerWord < 2 ^ 32 := by unfold Store.ownerWord; omega
  have hfence : g.ownerWord / 2 ^ 16 % 2 = b2n g.fence := by unfold Store.ownerWord; omega
  have hfreeing : g.ownerWord / 2 ^ 17 % 2 = b2n g.freeing := by unfold Store.ownerWord; omega
  rw [bits_of _ _ _ hlt, bits_of _ _ _ hlt, bit_of _ _ hlt, bit_of _ _ hlt, hfence, hfreeing, decide_b2n, decide_b2n]
  refine ⟨?_, ?_, rfl, rfl⟩ <;> (unfold Store.ownerWord; omega)

section
variable {v : Word} {s : State}

theorem runs_fstrQuery_free (ha : s.dev.io.accepts .fstr Reg.FSTR_QUERY v = true) (h : FMap.find s.dev.st.table (bits v 0 16) = none) :
    Runs (.fstrQuery v) s fun d d' =>
      d'.io.reg .fstr Reg.FSTR_QUERY_DATA = Word.of (bits v 0 16 + d.st.genOf (bits v 0 16) * 2 ^ 16)
        ∧ ∀ j < 6, d'.io.reg .fstr (Reg.FSTR_QUERY_DATA + 4 * (j + 1)) = 0 := by
  refine Runs.intro (f := fun d => d.fstrQuery v) rfl ⟨?_, fun j hj => ?_⟩
  · exact Dev.fstrQuery_word (j := 0) ha (by rw [Dev.queryWords_free h]; rfl)
  · refine Dev.fstrQuery_word ha ?_
    rw [Dev.queryWords_free h, List.getElem?_cons_succ]
    interval_cases j <;> rfl

theorem runs_fstrQuery_allocated {g : Store} (ha : s.dev.io.accepts .fstr Reg.FSTR_QUERY v = true) (h : FMap.find s.dev.st.table (bits v 0 16) = some g)
    (hgen : g.gen < 2 ^ 15) (ho : g.owner < 64) (hk : g.kind < 4) (hw : g.writer < 4) (hs : g.slots.length < 8) : Runs (.fstrQuery v) s fun d d' =>
      d'.io.flag .fstr Reg.FSTR_QUERY_DATA 31 = true ∧ d'.io.fld .fstr Reg.FSTR_QUERY_DATA 16 15 = g.gen
        ∧ d'.io.fld .fstr (Reg.FSTR_QUERY_DATA + 4) 0 6 = g.owner ∧ d'.io.fld .fstr (Reg.FSTR_QUERY_DATA + 4) 12 3 = g.slots.length
        ∧ d'.io.flag .fstr (Reg.FSTR_QUERY_DATA + 4) 16 = g.fence ∧ d'.io.flag .fstr (Reg.FSTR_QUERY_DATA + 4) 17 = g.freeing
        ∧ d'.io.fld .fstr (Reg.FSTR_QUERY_DATA + 8) 16 16 = sat 16 (d.refs (bits v 0 16) g)
        ∧ d'.io.reg .fstr (Reg.FSTR_QUERY_DATA + 24) = Word.of g.published ∧ d'.st = d.st := by
  have word : ∀ {j w}, _ = some w → _ := fun {j w} hw => Dev.fstrQuery_word (j := j) (w := w) ha (Dev.queryWords_allocated h ▸ hw)
  have handle : (s.dev.fstrQuery v).io.reg .fstr Reg.FSTR_QUERY_DATA = Word.of (bits v 0 16 + g.gen * 2 ^ 16 + 2 ^ 31) := word (j := 0) rfl
  have owner : (s.dev.fstrQuery v).io.reg .fstr (Reg.FSTR_QUERY_DATA + 4) = Word.of g.ownerWord := word (j := 1) rfl
  have refs : (s.dev.fstrQuery v).io.reg .fstr (Reg.FSTR_QUERY_DATA + 8) = Word.of (sat 16 g.slotG + sat 16 (s.dev.refs (bits v 0 16) g) * 2 ^ 16) :=
    word (j := 2) rfl
  have hi := bits_lt v 0 16
  have hg := sat_lt 16 g.slotG
  have hr := sat_lt 16 (s.dev.refs (bits v 0 16) g)
  obtain ⟨howner, hslots, hfence, hfreeing⟩ := Store.ownerWord_fields ho hk hw hs
  refine Runs.intro (f := fun d => d.fstrQuery v) rfl ?_
  simp only [Io.flag, Io.fld, handle, owner, refs]
  refine ⟨?_, ?_, howner, hslots, hfence, hfreeing, ?_, word (j := 6) rfl, Dev.fstrQuery_st ..⟩
  · rw [bit_of _ _ (by omega)]
    exact decide_eq_true (by omega)
  · rw [bits_of _ _ _ (by omega)]
    omega
  · rw [bits_of _ _ _ (by omega)]
    omega

theorem exec_fstrMapQuery (ha : s.dev.io.accepts .fstr Reg.FSTR_MAP_QUERY v = true) {P : Dev → Dev → Prop}
    (h : P s.dev (s.dev.onIo fun io => fstrMapQuery v io s.dev.st)) : Runs (.fstrMapQuery v) s P := by
  refine Runs.intro (f := fun d => d.mapQueryWrite v) rfl ?_
  rw [Dev.mapQueryWrite, Dev.onIo, if_pos ha]
  exact h

theorem runs_fstrMapQuery_mapped {h off : Nat} {w : Bool} (ha : s.dev.io.accepts .fstr Reg.FSTR_MAP_QUERY v = true)
    (hm : FMap.find s.dev.st.maps (bits v 12 6 * 4096 + bits v 0 12) = some (h, off, w)) : Runs (.fstrMapQuery v) s fun d d' =>
      d'.io.reg .fstr Reg.FSTR_MAP_DATA0 = Word.of h ∧ d'.io.reg .fstr Reg.FSTR_MAP_DATA1 = Word.of (off + b2n w * 2 ^ 24) ∧ d'.st = d.st := by
  refine exec_fstrMapQuery ha ?_
  simp only [fstrMapQuery, hm, Dev.onIo_io, Dev.onIo_st]
  exact ⟨(Io.reg_put_off _ _ (by decide)).trans (Io.reg_put_self ..), Io.reg_put_self .., trivial⟩

theorem runs_fstrMapQuery_unmapped (ha : s.dev.io.accepts .fstr Reg.FSTR_MAP_QUERY v = true)
    (hm : FMap.find s.dev.st.maps (bits v 12 6 * 4096 + bits v 0 12) = none) : Runs (.fstrMapQuery v) s fun d d' =>
      d'.io.reg .fstr Reg.FSTR_MAP_DATA0 = 0 ∧ d'.io.reg .fstr Reg.FSTR_MAP_DATA1 = 0 ∧ d'.st = d.st := by
  refine exec_fstrMapQuery ha ?_
  simp only [fstrMapQuery, hm, Dev.onIo_io, Dev.onIo_st]
  exact ⟨(Io.reg_put_off _ _ (by decide)).trans (Io.reg_put_self ..), Io.reg_put_self .., trivial⟩

end

/-- Settles O31: an aperture write lands (`Stores.bytes_write`, `Stores.byte_write_off`) or is refused (`Io.apRefused_shows`), and a query that is taken leaves the
words of its snapshot (`Dev.fstrQuery_word`). -/
theorem apertureTraffic : Obligations.ApertureTraffic := by
  unfold Obligations.ApertureTraffic
  refine ⟨fun fn addr len i k off b bytes x g s => ⟨runs_apWrite_lands, runs_apWrite_dropped, runs_apRead⟩, fun v g h off w s => ⟨fun ha => ?_, fun ha => ?_⟩⟩
  · exact ⟨runs_fstrQuery_free ha, runs_fstrQuery_allocated ha⟩
  · exact ⟨runs_fstrMapQuery_mapped ha, runs_fstrMapQuery_unmapped ha⟩

end Sys2Proof.Machine

/-! Where the store's work writes (R441 to R453, R457 to R468): the pages of the store, the keys, the Larder and MACsec, and the places of replies. What a repair asks of
the Larder and of the store therefore keeps every other register (R214, R434). -/
namespace Sys2Proof.Machine

/-- The page shows the store, the keys, the Larder or MACsec associations. -/
def storePage : PageRef → Bool
  | .nvs | .keys | .lard | .msec _ => true
  | _ => false

/-- Among the addresses are all that the store's work may write. -/
structure AdmitsStoreWork (T : Nat → Bool) : Prop where
  reply : ∀ a, replyPlace a = true → T a = true
  page : ∀ p off, storePage p = true → off < 0x1000 → T (regAddr p off) = true

namespace AdmitsStoreWork
variable {T : Nat → Bool} (hT : AdmitsStoreWork T)
include hT

theorem event (a : Nat) (h : eventPlace a = true) : T a = true := hT.reply a (replyPlace_event h)

section
variable {p : PageRef} (hp : storePage p = true) (io : Io)
include hp

theorem put {off : Nat} (h : off < 0x1000) (v : Word) : Io.Same T io (io.put p off v) := .put _ _ (hT.page _ _ hp h)
theorem setFlag {off : Nat} (h : off < 0x1000) (i : Nat) (b : Bool) : Io.Same T io (io.setFlag p off i b) := hT.put hp io h _
theorem setFld {off : Nat} (h : off < 0x1000) (lo len v : Nat) : Io.Same T io (io.setFld p off lo len v) := hT.put hp io h _
theorem count48 {off : Nat} (h : off + 4 < 0x1000) (n : Nat) : Io.Same T io (io.count48 p off n) :=
  .putWide _ _ (hT.page _ _ hp (by omega)) (hT.page _ _ hp h)
theorem raise (b : Nat) : Io.Same T io (io.raise p b) := .raise hT.event _ _ (hT.page _ _ hp (by decide))
theorem recordErr (code info : Nat) : Io.Same T io (io.recordErr p code info) :=
  .recordErr hT.event _ _ _ (hT.page _ _ hp (by decide)) (hT.page _ _ hp (by decide)) (hT.page _ _ hp (by decide))
theorem recordOpen (code : Nat) : Io.Same T io (io.recordOpen p code) := (hT.recordErr hp io _ _).trans (.took _)

/-- An error is recorded and its event raised, or there is none. -/
theorem recordIf (c : Prop) [Decidable c] (code b : Nat) : Io.Same T io (if c then (io.recordOpen p code).raise p b else io) := by
  split
  · exact (hT.recordOpen hp io _).trans (hT.raise hp _ _)
  · exact .refl _ _

end

omit hT in
theorem tookMany (io : Io) (n : Nat) : Io.Same T io (io.tookMany n) := ⟨fun _ _ => rfl, rfl, rfl, rfl, rfl, rfl, rfl, rfl, [], rfl⟩

theorem showNv (io : Io) (n : Nvs) : Io.Same T io (io.showNv n) :=
  (((hT.setFlag rfl io (by decide) _ _).trans (hT.setFlag rfl _ (by decide) _ _)).trans (hT.setFld rfl _ (by decide) _ _ _)).trans (hT.put rfl _ (by decide) _)

theorem lowSupply (io : Io) : Io.Same T io io.lowSupply := (hT.recordErr rfl io _ _).trans (hT.raise rfl _ _)

theorem showLc (io : Io) (state : Nat) (destroying : Bool) (target : Nat) (ks : Keys) (transitions time : Nat) :
    Io.Same T io (io.showLc state destroying target ks transitions time) := (hT.put rfl io (by decide) _).trans (hT.put rfl _ (by decide) _)

theorem dropAssociations (io : Io) : Io.Same T io io.dropAssociations := by
  refine .foldl (fun io p => ?_) _ io
  have saOff : ∀ io : Io, ∀ n ∈ List.range 20, Io.Same T io (if io.saOn p n then io.saOff p n else io) := fun io n hn => by
    split
    · exact hT.put rfl _ (by have := List.mem_range.1 hn; unfold saReg; omega) _
    · exact .refl _ _
  exact (Io.Same.foldl_mem _ saOff io).trans (hT.recordIf rfl _ _ _ _)

theorem uncorr (x : Nv) (a : Nat) : Io.Same T x.io (x.uncorr a).io :=
  ((hT.count48 rfl x.io (by decide) _).trans (hT.recordErr rfl _ _ _)).trans (hT.raise rfl _ _)

theorem uncorrIf (x : Nv) (a : Nat) (c : Prop) [Decidable c] : Io.Same T x.io (if c then x.uncorr a else x).io := by
  split
  · exact hT.uncorr x a
  · exact .refl _ _

omit hT in
/-- An answer shows nothing in the registers. -/
theorem answer {io : Io} {x : Nv} (h : Io.Same T io x.io) (src : Option (Nat × Nat)) (r : Reply) : Io.Same T io (x.reply src r).io :=
  x.reply_io src r ▸ h

omit hT in
/-- A compaction that is begun shows nothing there either. -/
theorem compactIf {io : Io} {x : Nv} (h : Io.Same T io x.io) (sys : Bool) : Io.Same T io (x.compactIf sys).io := x.compactIf_io sys ▸ h

omit hT in
/-- Two outcomes of a job. -/
theorem ite {α : Type} {io : Io} {c : Prop} [Decidable c] {y z : Nv × α} (hy : Io.Same T io y.1.io) (hz : Io.Same T io z.1.io) :
    Io.Same T io (if c then y else z).1.io := by
  split
  · exact hy
  · exact hz

theorem readRecord (x : Nv) (src : Option (Nat × Nat)) (slot addr : Nat) : Io.Same T x.io (x.readRecord src slot addr).io := by
  unfold Nv.readRecord
  dsimp only
  split
  · exact answer (hT.recordIf rfl _ _ _ _) _ _
  · exact answer ((hT.recordIf rfl _ _ _ _).trans (.emit _ _)) _ _

theorem read (x : Nv) (src : Option (Nat × Nat)) (mode target len addr : Nat) : Io.Same T x.io (x.read src mode target len addr).io := by
  unfold Nv.read
  dsimp only
  split
  · exact answer ((hT.uncorrIf x _ _).trans (.emit _ _)) _ _
  · split
    · exact hT.readRecord ..
    · split
      · exact answer (.refl _ _) _ _
      · split
        · exact answer ((hT.recordIf rfl _ _ _ _).trans (.emit _ _)) _ _
        · exact answer (hT.recordIf rfl _ _ _ _) _ _

theorem destroy (x : Nv) (target : Nat) : Io.Same T x.io (x.destroy target).io :=
  (((hT.dropAssociations x.io).trans (hT.put rfl _ (by decide) _)).trans (hT.setFlag rfl _ (by decide) _ _)).trans (hT.setFld rfl _ (by decide) _ _ _)

theorem plan (x : Nv) (j : NvJob) : Io.Same T x.io (x.plan j).1.io := by
  unfold Nv.plan
  split
  case h_1 => exact hT.read ..
  case h_4 => exact ite (hT.uncorrIf x _ _) (hT.uncorrIf x _ _)
  case h_5 => split <;> exact .refl _ _
  case h_6 =>
    split
    · exact .refl _ _
    · exact ite (tookMany _ _) (ite (.refl _ _) (tookMany _ _))
  case h_7 =>
    split
    · exact hT.lowSupply _
    · exact .refl _ _
    · exact (hT.destroy x _).trans (tookMany _ _)
  all_goals exact .refl _ _

theorem finish (x : Nv) (j : NvJob) : Io.Same T x.io (x.finish j).1.io := by
  unfold Nv.finish
  split
  case h_2 | h_3 => exact answer (.refl _ _) _ _
  case h_4 => exact ite (.refl _ _) (compactIf (answer (.refl _ _) _ _) _)
  case h_5 => exact compactIf (answer (.refl _ _) _ _) _
  case h_6 => exact answer (hT.put rfl x.io (by decide) _) _ _
  case h_7 =>
    exact ite (.refl _ _) (ite (.refl _ _) (answer (((hT.showLc x.io _ _ _ _ _ _).trans (hT.raise rfl _ _)).trans (hT.put rfl _ (by decide) _)) _ _))
  case h_8 => exact hT.count48 rfl _ (by decide) _
  case h_10 => exact hT.raise rfl _ _
  all_goals exact .refl _ _

theorem starve (x : Nv) (j : NvJob) : Io.Same T x.io (x.starve j).io := answer (x := { x with io := x.io.lowSupply }) (hT.lowSupply x.io) _ _

/-- A turn of the pump ends it, or goes on from what a job has left. -/
theorem pump (n : Nat) (x : Nv) : Io.Same T x.io (x.pump n).io := by
  induction n generalizing x with
  | zero => exact .refl _ _
  | succ n ih =>
    have goes : ∀ y : Nv, Io.Same T x.io y.io → Io.Same T x.io (y.pump n).io := fun y h => h.trans (ih y)
    unfold Nv.pump
    split
    · exact .refl _ _
    · split
      next j _ _ =>
        split
        · split
          · exact .refl _ _
          · split
            · dsimp only
              split <;> exact goes _ (hT.finish x j)
            · split
              · exact goes _ (hT.starve x j)
              · exact .refl _ _
        · split
          · split
            · exact goes _ (hT.lowSupply _)
            · exact .refl _ _
          · split
            · exact goes _ (.refl _ _)
            · dsimp only
              split
              · exact goes _ (answer (hT.plan x j) _ _)
              · split
                · exact goes _ ((hT.plan x j).trans (hT.starve ((x.plan j).1.setHead _) j))
                · exact goes _ (hT.plan x j)
      · split
        · exact .refl _ _
        · split
          · exact hT.lowSupply _
          · exact .refl _ _

theorem run (x : Nv) : Io.Same T x.io x.run.io := (hT.pump _ x).trans (hT.showNv _ _)

theorem complete (d : Dev) (q tag : Nat) (r : Reply) : Io.Same T d.io (d.complete q tag r).io := .complete hT.reply ..

theorem countMap (d : Dev) : Io.Same T d.io d.countMap.io := by
  unfold Dev.countMap
  split
  · exact .refl _ _
  · exact hT.put rfl _ (by decide) _

/-- The part writes no more than the work on the store does. -/
theorem onNv (d : Dev) {f : Nv → Nv} (h : ∀ x, Io.Same T x.io (f x).io) : Io.Same T d.io (d.onNv f).io := by
  unfold Dev.onNv
  extract_lets x e
  have work : Io.Same T d.io e.io := h { io := d.io, nv := d.nvs, ks := d.keys, done := [] }
  have answered : Io.Same T e.io (x.done.foldl (fun (d : Dev) (r : (Nat × Nat) × Reply) => d.complete r.1.1 r.1.2 r.2) e).io :=
    Dev.foldl_rel (.refl T) .trans (fun d r => hT.complete d ..) x.done e
  refine (work.trans answered).trans (.trans ?_ (hT.countMap _))
  rw [Dev.markNv_io]
  exact .refl _ _

/-- Nor than the work on the Larder and what that asks of the store. -/
theorem onLar (d : Dev) {f : Lar → Lar} (h : ∀ x, Io.Same T x.io (f x).io) : Io.Same T d.io (d.onLar f).io := by
  unfold Dev.onLar
  extract_lets x e
  split
  · exact h d.lar
  · exact (h d.lar).trans (hT.onNv e hT.run)

theorem repair (x : Lar) (kind state location : Nat) : Io.Same T x.io (x.repair kind state location).io := by
  unfold Lar.repair
  split
  · exact .refl _ _
  · exact hT.put rfl _ (by decide) _

end AdmitsStoreWork
end Sys2Proof.Machine

/-! Errors of HBM (R212 to R214, R219): a read that meets errors counts and latches them, and the repair that may follow leaves counters and latched events alone. -/
namespace Sys2Proof.Machine

/-- The addresses beside the pages of the stacks. -/
def offStacks (a : Nat) : Bool :=
  match placeOf a with
  | .page (.hbmc _) _ => false
  | _ => true

theorem offStacks_page {p : PageRef} {off : Nat} (h : off < pageSpan p) : offStacks (regAddr p off) = true ↔ ∀ k, p ≠ .hbmc k := by
  rw [offStacks, placeOf_regAddr p off h]
  cases p <;> simp

theorem offStacks_hbmc (k : Fin 4) {off : Nat} (h : off < 0x1000) : offStacks (regAddr (.hbmc k) off) = false :=
  Bool.eq_false_iff.2 fun ht => (offStacks_page (p := .hbmc k) h).1 ht k rfl

theorem offStacks_reply {a : Nat} (h : replyPlace a = true) : offStacks a = true := by
  unfold replyPlace eventPlace Place.replies at h
  unfold offStacks
  split
  next heq => simp [heq] at h
  next => rfl

theorem admitsStoreWork_offStacks : AdmitsStoreWork offStacks where
  reply _ := offStacks_reply
  page p off hp h := (offStacks_page (h.trans_le (le_pageSpan p))).2 fun k hk => by
    subst hk
    exact Bool.noConfusion hp

/-- The counters of a stack (0x58 to 0x64) are as they were, and what its events have latched stays latched. -/
structure Io.StackKept (k : Fin 4) (io io' : Io) : Prop where
  counter : ∀ off, 0x58 ≤ off → off < 0x68 → io'.reg (.hbmc k) off = io.reg (.hbmc k) off
  latched : ∀ i, io.flag (.hbmc k) Reg.EVT_PEND i = true → io'.flag (.hbmc k) Reg.EVT_PEND i = true

namespace Io.StackKept
variable {k : Fin 4} {io io' : Io}

theorem refl (k : Fin 4) (io : Io) : StackKept k io io := ⟨fun _ _ _ => rfl, fun _ h => h⟩

theorem trans {io'' : Io} (h : StackKept k io io') (h' : StackKept k io' io'') : StackKept k io io'' :=
  ⟨fun off hlo hhi => (h'.counter off hlo hhi).trans (h.counter off hlo hhi), fun i hi => h'.latched i (h.latched i hi)⟩

/-- It is enough that these registers are the same. -/
theorem ofReg (hpend : io'.reg (.hbmc k) Reg.EVT_PEND = io.reg (.hbmc k) Reg.EVT_PEND)
    (h : ∀ off, 0x58 ≤ off → off < 0x68 → io'.reg (.hbmc k) off = io.reg (.hbmc k) off) : StackKept k io io' :=
  ⟨h, fun i hi => by rwa [Io.flag, hpend]⟩

theorem ofSame (h : Io.Same offStacks io io') : StackKept k io io' :=
  ofReg (h.reg (offStacks_hbmc k (by decide))) fun _ _ hhi => h.reg (offStacks_hbmc k (by omega))

theorem put (io : Io) {off : Nat} (v : Word) (hn : Reg.EVT_PEND ≠ off) (h : off < 0x58 ∨ 0x68 ≤ off) : StackKept k io (io.put (.hbmc k) off v) :=
  ofReg (Io.reg_put_off _ _ hn) fun _ _ _ => Io.reg_put_off _ _ (by omega)

theorem log (io : Io) (e : HbmError) (kind : Nat) : StackKept e.stack io (io.hbmLog e kind) :=
  have below : ∀ {off : Nat}, off < 0x100 → (io.hbmLog e kind).reg (.hbmc e.stack) off = io.reg (.hbmc e.stack) off :=
    fun h => io.reg_logTo_below _ _ _ _ (h.trans (by decide)) h
  ofReg (below (by decide)) fun _ _ hhi => below (hhi.trans (by decide))

theorem raise (io : Io) {b : Nat} (hb : b < 32) : StackKept k io (io.raise (.hbmc k) b) where
  counter off hlo hhi := Io.reg_raise_off _ _ _ (by omega) (Nat.lt_of_lt_of_le (by decide) hlo).ne'
  latched i hi := by rw [Io.pend_raise _ _ hb, hi, Bool.or_true]

theorem recordOpen (io : Io) (code : Nat) : StackKept k io (io.recordOpen (.hbmc k) code) where
  counter off hlo hhi := Io.reg_recordErr_off _ _ _ _ (by omega) (Nat.lt_of_lt_of_le (by decide) hlo).ne' (Nat.lt_of_lt_of_le (by decide) hlo).ne'
    (Nat.lt_of_lt_of_le (by decide) hlo).ne'
  latched i hi := io.pend_recordOpen _ _ hi

theorem corrected (h : StackKept k io io') : io'.wide (.hbmc k) Reg.HBMC_CORR_LO = io.wide (.hbmc k) Reg.HBMC_CORR_LO :=
  Io.wide_of_reg (h.counter _ (by decide) (by decide)) (h.counter _ (by decide) (by decide))

theorem uncorrectable (h : StackKept k io io') : io'.wide (.hbmc k) Reg.HBMC_UNCORR_LO = io.wide (.hbmc k) Reg.HBMC_UNCORR_LO :=
  Io.wide_of_reg (h.counter _ (by decide) (by decide)) (h.counter _ (by decide) (by decide))

end Io.StackKept

section
variable (e : HbmError) (io : Io) (st : Stores)

/-- A soft repair, or a bank without spare rows (R214, R215). -/
theorem softRepair_kept : Io.StackKept e.stack io (softRepair e io st).1 := by
  unfold softRepair
  dsimp only
  split
  · exact (((Io.StackKept.put _ _ (by decide) (by decide)).trans (.put _ _ (by decide) (by decide))).trans (.log _ _ _)).trans (.raise _ (by decide))
  · exact ((Io.StackKept.log _ _ _).trans (.recordOpen _ _)).trans (.raise _ (by decide))

@[simp] theorem Stores.modify_poisoned (i : Nat) (f : Store → Store) : (st.modify i f).poisoned = st.poisoned := by
  unfold Stores.modify
  split <;> rfl

theorem softRepair_poisoned : (softRepair e io st).2.1.poisoned = st.poisoned := by
  unfold softRepair
  dsimp only
  split
  · rfl
  · exact foldl_keeps (P := fun x : Stores => x.poisoned = st.poisoned) _ (fun x b h => (x.modify_poisoned ..).trans h) _ _ rfl

/-- A row with correctable errors: counted, whatever follows (R214, R219). -/
theorem hbmError_corrected (hc : 0 < e.corrected) (hu : e.uncorrectable = false) :
    Io.StackKept e.stack (io.count48 (.hbmc e.stack) Reg.HBMC_CORR_LO e.corrected) (hbmError e io st).1 := by
  unfold hbmError
  extract_lets pg io₁ times row st₁ reached io₂
  have counted : Io.StackKept e.stack (io.count48 pg Reg.HBMC_CORR_LO e.corrected) io₁ := by
    rw [show io₁ = (io.count48 pg Reg.HBMC_CORR_LO e.corrected).hbmLog e 0 from if_neg hc.ne']
    exact .log _ _ _
  have noticed : Io.StackKept e.stack io₁ io₂ := by
    unfold io₂
    split
    · exact .raise _ (by decide)
    · exact .refl _ _
  rw [if_neg (by simp [hu])]
  split
  · exact (counted.trans noticed).trans (softRepair_kept ..)
  · exact counted.trans noticed

/-- An uncorrectable error: counted, its event latched, its blocks poisoned, whatever repair follows (R213). -/
theorem hbmError_uncorrectable (hu : e.uncorrectable = true) :
    (hbmError e io st).1.wide (.hbmc e.stack) Reg.HBMC_UNCORR_LO = sat 48 (io.wide (.hbmc e.stack) Reg.HBMC_UNCORR_LO + 1)
      ∧ (hbmError e io st).1.flag (.hbmc e.stack) Reg.EVT_PEND 3 = true ∧ ∀ b ∈ e.blocks, (hbmError e io st).2.1.poisoned.contains b = true := by
  unfold hbmError
  extract_lets pg io₁ times row st₁ reached io₂ io₃
  have counted : io₁.wide pg Reg.HBMC_UNCORR_LO = io.wide pg Reg.HBMC_UNCORR_LO := by
    unfold io₁
    split
    · rfl
    · exact ((Io.StackKept.log _ _ _).uncorrectable).trans (Io.wide_count48_off _ _ _ (by decide))
  have noticed : io₂.wide pg Reg.HBMC_UNCORR_LO = io₁.wide pg Reg.HBMC_UNCORR_LO := by
    unfold io₂
    split
    · exact (Io.StackKept.raise _ (by decide)).uncorrectable
    · rfl
  have shown : io₃.wide pg Reg.HBMC_UNCORR_LO = sat 48 (io.wide pg Reg.HBMC_UNCORR_LO + 1) := by
    rw [← counted, ← noticed, ← Io.wide_count48]
    exact (((Io.StackKept.log _ _ _).trans (.recordOpen _ _)).trans (.raise _ (by decide))).uncorrectable
  have latched : io₃.flag pg Reg.EVT_PEND 3 = true := by
    unfold io₃
    rw [Io.pend_raise _ _ (by decide)]
    rfl
  rw [if_pos hu]
  refine ⟨((softRepair_kept ..).uncorrectable).trans shown, (softRepair_kept ..).latched _ latched, fun b hb => ?_⟩
  rw [softRepair_poisoned, List.contains_eq_mem, decide_eq_true_iff, List.mem_eraseDups]
  exact List.mem_append_left _ hb

variable (d : Dev)

/-- The repair map takes the row, which only the store's work follows (R434). -/
theorem Dev.hbmError_kept (k : Fin 4) : Io.StackKept k (Machine.hbmError e d.io d.st).1 (d.hbmError e).io := by
  unfold Dev.hbmError
  dsimp only
  split
  · refine .ofSame ?_
    exact admitsStoreWork_offStacks.onLar { d with io := (Machine.hbmError e d.io d.st).1, st := (Machine.hbmError e d.io d.st).2.1 } fun x =>
      admitsStoreWork_offStacks.repair x ..
  · exact .refl _ _

theorem Dev.hbmError_st : (d.hbmError e).st = (Machine.hbmError e d.io d.st).2.1 := by
  unfold Dev.hbmError
  dsimp only
  split
  · exact (Dev.onLar_only _ _).st
  · rfl

end

end Sys2Proof.Machine

/-! Commands of the stacks (R212, R215, R216). -/
namespace Sys2Proof.Machine

section
variable {k : Fin 4} {e : HbmError} {dt : Nat} {s : State}

theorem Io.StackKept.scrubDone (io : Io) (k : Fin 4) : Io.StackKept k io (io.scrubDone k) :=
  (Io.StackKept.put _ _ (by decide) (by decide)).trans (.put _ _ (by decide) (by decide))

theorem Runs.hbmScrub {errs : List HbmError} {P : Dev → Dev → Prop} (h : s.dev.io.trained k = true)
    (p : P s.dev (((errs.filter (fun e => e.stack = k)).foldl (fun (d : Dev) e => d.hbmError e) (s.dev.tick dt)).onIo (fun io => io.scrubDone k))) :
    Runs (.hbmScrub k errs dt) s P := by
  refine Runs.intro (f := fun d => _) rfl ?_
  rw [if_pos (show (s.dev.tick dt).io.trained k = true from h)]
  exact p

theorem runs_hbmScrub_clean (h : s.dev.io.trained k = true) : Runs (.hbmScrub k [] dt) s fun d d' =>
    d'.io.fld (.hbmc k) Reg.HBMC_SCRUB_STAT 16 16 = sat 16 (d.io.fld (.hbmc k) Reg.HBMC_SCRUB_STAT 16 16 + 1) ∧ d'.st = d.st := by
  refine .hbmScrub h ⟨?_, rfl⟩
  rw [List.filter_nil, List.foldl_nil, Dev.onIo_io, Io.scrubDone, Io.fld_addSat _ _ _ _ _ _ (by decide), Io.fld, Io.reg_setFld_self,
    bits_setBits_ne _ _ _ _ _ _ (by decide) (by decide)]
  rfl

theorem runs_hbmScrub_corrected (h : s.dev.io.trained k = true) (hk : e.stack = k) (hc : 0 < e.corrected) (hu : e.uncorrectable = false) :
    Runs (.hbmScrub k [e] dt) s fun d d' =>
      d'.io.wide (.hbmc k) Reg.HBMC_CORR_LO = sat 48 (d.io.wide (.hbmc k) Reg.HBMC_CORR_LO + e.corrected) ∧ d'.st.hbm = d.st.hbm := by
  subst hk
  refine .hbmScrub h ?_
  rw [List.filter_cons_of_pos (by simp), List.filter_nil, List.foldl_cons, List.foldl_nil, Dev.onIo_io, Dev.onIo_st, Dev.hbmError_st]
  have kept := ((hbmError_corrected e (s.dev.tick dt).io (s.dev.tick dt).st hc hu).trans (Dev.hbmError_kept ..)).trans (.scrubDone _ _)
  exact ⟨(kept.corrected).trans (Io.wide_count48 ..), hbmError_hbm ..⟩

theorem runs_hbmScrub_uncorrectable (h : s.dev.io.trained k = true) (hk : e.stack = k) (hu : e.uncorrectable = true) :
    Runs (.hbmScrub k [e] dt) s fun d d' =>
      d'.io.wide (.hbmc k) Reg.HBMC_UNCORR_LO = sat 48 (d.io.wide (.hbmc k) Reg.HBMC_UNCORR_LO + 1) ∧ (∀ b ∈ e.blocks, d'.st.poisoned.contains b = true)
        ∧ d'.io.flag (.hbmc k) Reg.EVT_PEND 3 = true ∧ d'.st.hbm = d.st.hbm := by
  subst hk
  refine .hbmScrub h ?_
  rw [List.filter_cons_of_pos (by simp), List.filter_nil, List.foldl_cons, List.foldl_nil, Dev.onIo_io, Dev.onIo_st, Dev.hbmError_st]
  obtain ⟨counted, latched, poisoned⟩ := hbmError_uncorrectable e (s.dev.tick dt).io (s.dev.tick dt).st hu
  have kept := (Dev.hbmError_kept e (s.dev.tick dt) e.stack).trans (.scrubDone _ _)
  exact ⟨(kept.uncorrectable).trans counted, poisoned, kept.latched _ latched, hbmError_hbm ..⟩

/-! A pseudo-channel that fails whole (R215). -/

theorem Dev.reg_checkCapacity (d : Dev) {p : PageRef} {off : Nat} (hs : off < pageSpan p) (hp : p ≠ .evt) (h : p ≠ .top ∨ off ≠ Reg.EVT_PEND) :
    d.checkCapacity.io.reg p off = d.io.reg p off := by
  unfold Dev.checkCapacity
  dsimp only
  split
  · exact Io.reg_raise _ _ hs hp h
  · rfl

theorem Dev.checkCapacity_st (d : Dev) : d.checkCapacity.st = d.st := by
  unfold Dev.checkCapacity
  dsimp only
  split <;> rfl

theorem Runs.pchLost {c : Fin 32} {P : Dev → Dev → Prop} (h : s.dev.io.trained k = true)
    (p : P s.dev ((s.dev.tick dt).onSt (Machine.pchLost k c)).checkCapacity) : Runs (.pchLost k c dt) s P := by
  refine Runs.intro (f := fun d => _) rfl ?_
  rw [if_pos (show (s.dev.tick dt).io.trained k = true from h)]
  exact p

/-- What the failure leaves in the page of its stack. -/
def Io.pchFailed (io : Io) (k : Fin 4) (c : Fin 32) : Io := ((io.recordErr (.hbmc k) 0x1312 c.val).raise (.hbmc k) 6).addSat (.hbmc k) Reg.HBMC_STAT 8 5 1

theorem pchLost_fresh {c : Fin 32} {io : Io} {st : Stores} (h : st.lost.contains (k.val, c.val) = false) : Machine.pchLost k c io st =
    ((io.pchFailed k c).put .top Reg.TOP_ADM_HBM_FLOOR (Word.of (((io.pchFailed k c).reg .top Reg.TOP_ADM_HBM_FLOOR).toNat - 25792)),
      { st with lost := (k.val, c.val) :: st.lost }) := by
  rw [Machine.pchLost, h]
  rfl

theorem Io.pchFailed_floor (io : Io) (k : Fin 4) (c : Fin 32) : (io.pchFailed k c).reg .top Reg.TOP_ADM_HBM_FLOOR = io.reg .top Reg.TOP_ADM_HBM_FLOOR := by
  have off : ∀ {off : Nat} (io : Io) (v : Word), off < 0x1000 → (io.put (.hbmc k) off v).reg .top Reg.TOP_ADM_HBM_FLOOR = io.reg .top Reg.TOP_ADM_HBM_FLOOR :=
    fun io v h => Io.reg_put_page io v h (by decide) (by simp)
  have event : ∀ (io : Io) (b : Nat), (io.raise (.hbmc k) b).reg .top Reg.TOP_ADM_HBM_FLOOR = io.reg .top Reg.TOP_ADM_HBM_FLOOR :=
    fun io b => Io.reg_raise io b (by decide) (by simp) (.inl (by simp))
  rw [Io.pchFailed, Io.addSat, Io.setFld, off _ _ (by decide), event, Io.recordErr, event, off _ _ (by decide), off _ _ (by decide)]

theorem Io.pchFailed_shows (io : Io) (k : Fin 4) (c : Fin 32) : (io.pchFailed k c).fld (.hbmc k) Reg.ERR_CODE 0 16 = 0x1312
    ∧ (io.pchFailed k c).reg (.hbmc k) Reg.ERR_INFO = Word.of c.val ∧ (io.pchFailed k c).flag (.hbmc k) Reg.EVT_PEND 6 = true := by
  refine ⟨?_, ?_, ?_⟩
  · rw [Io.fld, Io.pchFailed, Io.addSat, Io.reg_setFld_off _ _ _ _ (by decide), Io.reg_raise_off _ _ _ (by decide) (by decide)]
    exact Io.code_recordErr _ _ _ (by decide)
  · rw [Io.pchFailed, Io.addSat, Io.reg_setFld_off _ _ _ _ (by decide), Io.reg_raise_off _ _ _ (by decide) (by decide), Io.reg_recordErr_info]
  · rw [Io.flag, Io.pchFailed, Io.addSat, Io.reg_setFld_off _ _ _ _ (by decide), Io.reg_raise_pend, bit_setBit_self _ _ _ (by decide)]

theorem runs_pchLost_fresh {c : Fin 32} (h : s.dev.io.trained k = true) (hnew : s.dev.st.lost.contains (k.val, c.val) = false) :
    Runs (.pchLost k c dt) s fun d d' =>
      d'.io.reg .top Reg.TOP_ADM_HBM_FLOOR = Word.of ((d.io.reg .top Reg.TOP_ADM_HBM_FLOOR).toNat - 25792)
        ∧ d'.io.fld (.hbmc k) Reg.ERR_CODE 0 16 = 0x1312 ∧ d'.io.reg (.hbmc k) Reg.ERR_INFO = Word.of c.val ∧ d'.io.flag (.hbmc k) Reg.EVT_PEND 6 = true
        ∧ d'.st = { d.st with lost := (k.val, c.val) :: d.st.lost } := by
  refine .pchLost h ?_
  obtain ⟨hcode, hinfo, hpend⟩ := (s.dev.io.tick dt).pchFailed_shows k c
  have stack : ∀ {off : Nat}, off < 0x1000 →
      ((s.dev.tick dt).onSt (Machine.pchLost k c)).checkCapacity.io.reg (.hbmc k) off = ((s.dev.io.tick dt).pchFailed k c).reg (.hbmc k) off := fun hoff => by
    rw [Dev.reg_checkCapacity _ hoff (by simp) (.inl (by simp)), Dev.onSt_io, Dev.tick_st, pchLost_fresh hnew]
    exact Io.reg_put_page _ _ (by decide) hoff (by simp)
  refine ⟨?_, ?_, (stack (by decide)).trans hinfo, ?_, ?_⟩
  · rw [Dev.reg_checkCapacity _ (by decide) (by simp) (.inr (by decide)), Dev.onSt_io, Dev.tick_st, pchLost_fresh hnew, Io.reg_put_self, Io.pchFailed_floor]
    rfl
  · rw [Io.fld, stack (by decide)]
    exact hcode
  · rw [Io.flag, stack (by decide)]
    exact hpend
  · rw [Dev.checkCapacity_st, Dev.onSt_st, Dev.tick_st, pchLost_fresh hnew]

theorem runs_pchLost_again {c : Fin 32} (h : s.dev.io.trained k = true) (hold : s.dev.st.lost.contains (k.val, c.val) = true) :
    Runs (.pchLost k c dt) s fun d d' => d'.io.reg .top Reg.TOP_ADM_HBM_FLOOR = d.io.reg .top Reg.TOP_ADM_HBM_FLOOR ∧ d'.st = d.st := by
  have kept : ∀ io, Machine.pchLost k c io s.dev.st = (io, s.dev.st) := fun io => if_pos hold
  refine .pchLost h ⟨?_, ?_⟩
  · rw [Dev.reg_checkCapacity _ (by decide) (by simp) (.inr (by decide)), Dev.onSt_io, Dev.tick_st, kept]
    rfl
  · rw [Dev.checkCapacity_st, Dev.onSt_st, Dev.tick_st, kept]

/-! Temperature (R216). -/

theorem Io.hbmTemp_shows (io : Io) (k : Fin 4) (celsius : Nat) : (io.hbmTemp k celsius).fld (.hbmc k) Reg.HBMC_TEMP 0 8 = celsius % 256
    ∧ (io.hbmTemp k celsius).flag (.hbmc k) Reg.HBMC_STAT 1
      = (if celsius > 85 then true else if celsius < 80 then false else io.flag (.hbmc k) Reg.HBMC_STAT 1)
    ∧ (celsius > 85 → io.flag (.hbmc k) Reg.HBMC_STAT 1 = false → (io.hbmTemp k celsius).flag (.hbmc k) Reg.EVT_PEND 7 = true) := by
  have stat : (io.setFld (.hbmc k) Reg.HBMC_TEMP 0 8 celsius).flag (.hbmc k) Reg.HBMC_STAT 1 = io.flag (.hbmc k) Reg.HBMC_STAT 1 := by
    rw [Io.flag, Io.reg_setFld_off _ _ _ _ (by decide), Io.flag]
  have temp : (io.setFld (.hbmc k) Reg.HBMC_TEMP 0 8 celsius).fld (.hbmc k) Reg.HBMC_TEMP 0 8 = celsius % 256 := Io.fld_setFld_self _ _ _ _ _ _ (by decide)
  have flagged : ∀ b, ((io.setFld (.hbmc k) Reg.HBMC_TEMP 0 8 celsius).setFlag (.hbmc k) Reg.HBMC_STAT 1 b).fld (.hbmc k) Reg.HBMC_TEMP 0 8 = celsius % 256 :=
    fun b => (congrArg (bits · 0 8) (Io.reg_setFlag_off _ _ _ (by decide))).trans temp
  unfold Io.hbmTemp
  dsimp only
  rw [stat]
  by_cases hhot : celsius > 85
  · by_cases hon : io.flag (.hbmc k) Reg.HBMC_STAT 1 = false
    · rw [if_pos ⟨hhot, hon⟩, if_pos hhot]
      refine ⟨(congrArg (bits · 0 8) (Io.reg_raise_off _ _ _ (by decide) (by decide))).trans (flagged _), ?_, fun _ _ => ?_⟩
      · rw [Io.flag, Io.reg_raise_off _ _ _ (by decide) (by decide)]
        exact Io.flag_setFlag_self _ _ _ _ _ (by decide)
      · rw [Io.pend_raise _ _ (by decide)]
        rfl
    · rw [if_neg fun h => hon h.2, if_neg (by omega), if_pos hhot]
      exact ⟨temp, stat.trans (Bool.eq_true_of_not_eq_false hon), fun _ h => absurd h hon⟩
  · rw [if_neg fun h => hhot h.1, if_neg hhot]
    by_cases hcool : celsius < 80
    · rw [if_pos hcool, if_pos hcool]
      exact ⟨flagged _, Io.flag_setFlag_self _ _ _ _ _ (by decide), fun h => absurd h hhot⟩
    · rw [if_neg hcool, if_neg hcool]
      exact ⟨temp, stat, fun h => absurd h hhot⟩

theorem runs_refresh2x {celsius : Nat} (h : s.dev.io.trained k = true) : Runs (.refresh2x k celsius dt) s fun d d' =>
    d'.io.fld (.hbmc k) Reg.HBMC_TEMP 0 8 = celsius % 256
      ∧ d'.io.flag (.hbmc k) Reg.HBMC_STAT 1 = (if celsius > 85 then true else if celsius < 80 then false else d.io.flag (.hbmc k) Reg.HBMC_STAT 1)
      ∧ (celsius > 85 → d.io.flag (.hbmc k) Reg.HBMC_STAT 1 = false → d'.io.flag (.hbmc k) Reg.EVT_PEND 7 = true) := by
  refine Runs.intro (f := fun d => _) rfl ?_
  rw [if_pos (show (s.dev.tick dt).io.trained k = true from h)]
  exact (s.dev.io.tick dt).hbmTemp_shows k celsius

end

/-- Settles O32: a scrub pass by what an HBM error leaves in its stack's page (`hbmError_corrected`, `hbmError_uncorrectable`) and that a repair keeps that
(`Dev.hbmError_kept`), a lost pseudo-channel by `Io.pchFailed_shows`, the temperature by `Io.hbmTemp_shows`. -/
theorem stacksScrubAndFail : Obligations.StacksScrubAndFail := by
  unfold Obligations.StacksScrubAndFail
  exact fun k c e celsius dt s h => ⟨runs_hbmScrub_clean h, runs_hbmScrub_corrected h, runs_hbmScrub_uncorrectable h, runs_pchLost_fresh h, runs_pchLost_again h,
    runs_refresh2x h⟩

end Sys2Proof.Machine

/-! Packets held for a switch, on an egress flow with a captured word that is none of its own (R231, R335). FP_SWITCHED is raised before the held packets go, and the first
of them takes up the captured words that wait in `EgrRt.pending` (`egressPending`). Every run keeps header words of the egress flow's own entry there
(`Dev.egressCaptured`), but nothing in the statement asks this of `sc.egr`: a value of EVT_PEND of the ROUT page that waits there is written over the event just
raised. No other clause is refuted here. -/
namespace Sys2Proof.Machine

/-- An RTP packet with no payload. -/
def heldPkt : Pkt :=
  { port := 0, vlan := none, ipv6 := false, dst := [], src := [], udpSrc := 0, udpDst := 0, payload := 0x80 :: List.replicate 11 0, arrival := 0 }

/-- Entry 0 has turned from flow 0 to flow 1, and holds the packet since instant 0. -/
def holdingFp : FpRt :=
  { FpRt.fresh with carried := some 1, turning := some (some 0, 0), held := [heldPkt], heldAt := some 0, released := false, announced := false }

/-- Egress flow 0 is to take up the value 0 of EVT_PEND of the ROUT page at its next packet. -/
def strayingEgr : EgrRt := { EgrRt.fresh with pending := [(regAddr .rout Reg.EVT_PEND, 0)] }

/-- The machine with that entry and that egress flow, which is valid. -/
def silencedState : State :=
  { State.reset with
    dev := { Dev.reset with
      io := Io.reset.wr (egrAddr 0 0) 1
      rt := { Routing.reset with fast := [(0, holdingFp)] }
      sc := { Scanout.reset with egr := [(0, strayingEgr)] } } }

/-- The part once the hold has ended. -/
def Dev.holdEnded (e dt : Nat) (d : Dev) : Dev :=
  let r := fpHoldTimeout (d.tick dt).macKey e (d.tick dt).io (d.tick dt).sc (d.tick dt).rt
  { d.tick dt with io := r.1, sc := r.2.1, rt := r.2.2 }

theorem exec_fpHoldTimeout (e : Fin 4096) (dt : Nat) (s : State) : exec (.fpHoldTimeout e dt) s = s.run (Dev.holdEnded e dt) := rfl

theorem silenced_notPending : (silencedState.dev.holdEnded 0 1000000).io.flag .rout Reg.EVT_PEND 2 = false := by decide +kernel

/-- Refutes O60: 1 ms after entry 0 held its packet the packet goes, and what egress flow 0 takes up with it clears FP_SWITCHED in EVT_PEND. -/
theorem not_fastPathEntriesSwitch : ¬ Obligations.FastPathEntriesSwitch := by
  unfold Obligations.FastPathEntriesSwitch
  intro hentries
  obtain ⟨-, -, hhold, -⟩ := hentries 0 0 0 0 1000000 { seq := none, frame := 0, flow := none, backup := false, vals := [] } [heldPkt] silencedState
  have hended : Runs (.fpHoldTimeout 0 1000000) silencedState _ := (hhold rfl rfl rfl).1 (by decide)
  obtain ⟨-, -, -, hraised⟩ := hended.after (exec_fpHoldTimeout ..)
  exact Bool.noConfusion (silenced_notPending.symm.trans (hraised (List.cons_ne_nil _ _) rfl))

end Sys2Proof.Machine

/-! Stockpot planes, vector fields and job queries (R278, R291, R313, R314): what a finished build makes of its run, the field that a completed estimation adds, and the
words that a job query leaves. -/
namespace Sys2Proof.Machine

/-- A write at one offset leaves every page's registers at another offset. -/
theorem Io.reg_put_beside (io : Io) {p q : PageRef} {a b : Nat} (v : Word) (ha : a < pageSpan p) (hb : b < pageSpan q) (h : b ≠ a) :
    (io.put p a v).reg q b = io.reg q b := Io.rd_put_ne io v (regAddr_ne hb ha (.inr h))

/-! The Stockpot figures (R323). -/

theorem reg_showStock (o : Nat) (io : Io) (sc : Scanout) (t : Fin 16) {off : Nat} (h : off < 0x1000) (hu : off ≠ Reg.COMP_STOCK_USED)
    (hs : off ≠ Reg.COMP_STOCK_SPILL) (hp : off ≠ Reg.COMP_STOCK_PLANES) : (showStock o io sc).reg (.comp t) off = io.reg (.comp t) off :=
  foldl_keeps (P := fun y => y.reg (.comp t) off = io.reg (.comp t) off) _ (fun y i hy => by
    have beside : ∀ (y : Io) {u : Fin 16} {b : Nat} (w : Word), b < 0x1000 → off ≠ b → (y.put (.comp u) b w).reg (.comp t) off = y.reg (.comp t) off :=
      fun y _ _ w hb hne => y.reg_put_beside w hb h hne
    rw [beside _ _ (by decide) hp, beside _ _ (by decide) hs, beside _ _ (by decide) hu, hy]) _ io rfl

theorem builds_showStock (o : Nat) (io : Io) (sc : Scanout) (t : Fin 16) :
    (showStock o io sc).wide (.comp t) Reg.COMP_STOCK_BUILDS_LO = io.wide (.comp t) Reg.COMP_STOCK_BUILDS_LO :=
  Io.wide_of_reg (reg_showStock o io sc t (by decide) (by decide) (by decide) (by decide))
    (reg_showStock o io sc t (by decide) (by decide) (by decide) (by decide))

theorem pend_showStock (o : Nat) (io : Io) (sc : Scanout) (t : Fin 16) (i : Nat) :
    (showStock o io sc).flag (.comp t) Reg.EVT_PEND i = io.flag (.comp t) Reg.EVT_PEND i :=
  congrArg (bit · i) (reg_showStock o io sc t (by decide) (by decide) (by decide) (by decide))

/-! Finished builds (R313, R314). -/

/-- The run of an output that holds a layer. -/
abbrev Scanout.runHolding (sc : Scanout) (o l : Nat) : Option Run := sc.runs.find? (fun x => decide (x.out = o) && x.members.contains l)

/-- The runs with that of the same members as `x` replaced. -/
def Scanout.replaceRun (sc : Scanout) (o : Nat) (x y : Run) : Scanout :=
  { sc with runs := sc.runs.map (fun r => if r.out = o ∧ r.members = x.members then y else r) }

/-- What a plane of `kib` KiB takes of the half of its die; the rest of it spills. -/
abbrev Scanout.stockHere (sc : Scanout) (o kib : Nat) : Nat := min kib (stockHalf - sc.stockUsed (o / 256))

/-- KiB in the spill once a plane of `kib` KiB is there. -/
abbrev Scanout.spillWith (sc : Scanout) (o kib : Nat) : Nat := sc.stockSpilled 0 + sc.stockSpilled 1 + (kib - sc.stockHere o kib)

/-- The run whose plane is built and has taken its space. -/
def Run.built (x : Run) (here spill : Nat) : Run := { x with plane := x.plane + 1, newKib := here, newSpill := spill }

/-- The run whose built plane found no space. -/
def Run.unplaced (x : Run) : Run :=
  { x with plane := x.plane - 1, full := true, newImage := [], shown := if x.plane = 4 then [] else x.shown }

section
variable {o l : Nat} {sc : Scanout} {x y : Run}

theorem Scanout.runHolding_replaceRun (h : sc.runHolding o l = some x) (hout : y.out = x.out) (hmem : y.members = x.members) :
    (sc.replaceRun o x y).runHolding o l = some y := by
  obtain ⟨hxout, hxmem⟩ : x.out = o ∧ x.members.contains l = true := by simpa using List.find?_some h
  have same : ∀ r : Run, (decide ((if r.out = o ∧ r.members = x.members then y else r).out = o)
      && (if r.out = o ∧ r.members = x.members then y else r).members.contains l) = (decide (r.out = o) && r.members.contains l) := by
    intro r
    split
    next hr => rw [hout, hmem, hxout, hr.1, hr.2]
    next => rfl
  simp only [Scanout.runHolding, Scanout.replaceRun, List.find?_map, Function.comp_def, same]
  rw [show sc.runs.find? _ = some x from h, Option.map_some, if_pos ⟨hxout, rfl⟩]

variable {io : Io} {kib : Nat}

/-- The build is not passed over (R313, R316). -/
theorem build_goesOn (hbuilds : x.plane = 1 ∨ x.plane = 4) (hcool : io.level < 2) :
    (!(decide (x.plane = 1) || decide (x.plane = 4)) || decide (2 ≤ io.level)) = false := by
  rw [← Bool.decide_or, decide_eq_true hbuilds, decide_eq_false (Nat.not_le.2 hcool)]
  rfl

variable (h : sc.runHolding o l = some x) (hbuilds : x.plane = 1 ∨ x.plane = 4) (hcool : io.level < 2)
include h hbuilds hcool

theorem stockBuilt_placed (hfits : sc.spillWith o kib ≤ stockSpill) : stockBuilt o l kib io sc =
    let here := sc.stockHere o kib
    let sc' := sc.replaceRun o x (x.built here (kib - here))
    let counted := io.count48 (.comp (compTile o)) Reg.COMP_STOCK_BUILDS_LO 1
    (showStock o (if kib - here = 0 then counted else counted.raise (.comp (compTile o)) 2) sc', sc') := by
  simp only [stockBuilt, h, build_goesOn hbuilds hcool, decide_eq_true hfits]
  rfl

theorem stockBuilt_unplaced (hfull : stockSpill < sc.spillWith o kib) :
    stockBuilt o l kib io sc = (io.raise (.comp (compTile o)) 3, sc.replaceRun o x x.unplaced) := by
  simp only [stockBuilt, h, build_goesOn hbuilds hcool, decide_eq_false (Nat.not_le.2 hfull)]
  rfl

end

section
variable {o : Fin 512} {l : Fin 4096} {kib : Nat} (dt : Nat) {x : Run} {s : State} (h : s.dev.sc.runHolding o l = some x)
  (hbuilds : x.plane = 1 ∨ x.plane = 4) (hcool : s.dev.io.level < 2)
include h hbuilds hcool

theorem runs_stockBuildDone_placed (hfits : s.dev.sc.spillWith o kib ≤ stockSpill) : Runs (.stockBuildDone o l kib dt) s fun d d' =>
    (d'.sc.runHolding o l).map (fun y => (y.plane, y.newKib, y.newSpill)) = some (x.plane + 1, d.sc.stockHere o kib, kib - d.sc.stockHere o kib)
      ∧ d'.io.wide (.comp (compTile o)) Reg.COMP_STOCK_BUILDS_LO = sat 48 (d.io.wide (.comp (compTile o)) Reg.COMP_STOCK_BUILDS_LO + 1)
      ∧ (kib ≠ d.sc.stockHere o kib → d'.io.flag (.comp (compTile o)) Reg.EVT_PEND 2 = true) := by
  refine Runs.intro (f := fun d => (d.tick dt).onSc (stockBuilt o l kib)) rfl ?_
  have hbuilt := stockBuilt_placed (io := s.dev.io.tick dt) h hbuilds hcool hfits
  simp only [Dev.onSc, Dev.tick_io, Dev.tick_sc, hbuilt]
  refine ⟨?_, ?_, fun hspill => ?_⟩
  · exact congrArg (Option.map _) (Scanout.runHolding_replaceRun (y := x.built _ _) h rfl rfl)
  · rw [builds_showStock]
    split
    · exact Io.wide_count48 ..
    · rw [Io.wide_raise _ _ (by simp) (show _ < 0x1000 by decide) (by decide)]
      exact Io.wide_count48 ..
  · have hle : s.dev.sc.stockHere o kib ≤ kib := Nat.min_le_left ..
    rw [pend_showStock, if_neg (by omega), Io.flag, Io.reg_raise_pend, bit_setBit_self _ _ _ (by decide)]

theorem runs_stockBuildDone_unplaced (hfull : stockSpill < s.dev.sc.spillWith o kib) : Runs (.stockBuildDone o l kib dt) s fun _ d' =>
    (d'.sc.runHolding o l).map (fun y => (y.plane, y.full)) = some (x.plane - 1, true) ∧ d'.io.flag (.comp (compTile o)) Reg.EVT_PEND 3 = true := by
  refine Runs.intro (f := fun d => (d.tick dt).onSc (stockBuilt o l kib)) rfl ?_
  have hbuilt := stockBuilt_unplaced (io := s.dev.io.tick dt) h hbuilds hcool hfull
  simp only [Dev.onSc, Dev.tick_io, Dev.tick_sc, hbuilt]
  constructor
  · exact congrArg (Option.map _) (Scanout.runHolding_replaceRun (y := x.unplaced) h rfl rfl)
  · rw [Io.flag, Io.reg_raise_pend, bit_setBit_self _ _ _ (by decide)]

end

/-! Completed estimations (R278). -/

/-- The state of a route slot: 1 its source, 2 its backup (R226). -/
abbrev View.slotState (v : View) (o slot : Nat) : Nat := bits (v.get (routeAddr o (192 + slot))) 0 3

section
variable {o l : Nat} {sc : Scanout} {f : FrcRt}

theorem Scanout.frc_place (h : sc.frc o l = some f) : f.out = o ∧ f.layer = l := by
  simpa using List.find?_some h

theorem Scanout.frc_setFrc : (sc.setFrc f).frc f.out f.layer = some f := List.find?_cons_of_pos (by simp)

/-- The stage once it has the vector field `n` of a pair. -/
def FrcRt.withField (f : FrcRt) (a c : Cand) (n : Nat) : FrcRt := { f with fields := f.fields ++ [(a.media, c.media, n)] }

theorem estimated_pair {io : Io} {st : Stores} {next : Instant} {slot : Nat} {src : Source} {a c : Cand} (hf : sc.frc o l = some f) (hmode : f.mode = 3)
    (hslot : io.live.slotOf o l = some slot) (hstate : io.live.slotState o slot = 1 ∨ io.live.slotState o slot = 2)
    (hsrc : io.live.sourceOf st o slot (decide (io.live.slotState o slot = 2)) = some src)
    (hpair : nextPair io.live l src next f = some (a, c)) :
    estimated o l io st sc next = { sc.setFrc (f.withField a c sc.nextField) with nextField := sc.nextField + 1 } := by
  simp only [estimated, hf, hslot, if_pos (And.intro hmode hstate), hsrc, hpair, FrcRt.withField]

end

theorem runs_estimationDone {o : Fin 512} {l : Fin 4096} {slot : Nat} (dt : Nat) {f : FrcRt} {r : OutRt} {src : Source} {a c : Cand} {s : State}
    (hout : s.dev.outRt o = some r) (hf : s.dev.sc.frc o l = some f) (hmode : f.mode = 3) (hslot : s.dev.io.live.slotOf o l = some slot)
    (hstate : s.dev.io.live.slotState o slot = 1 ∨ s.dev.io.live.slotState o slot = 2)
    (hsrc : s.dev.io.live.sourceOf s.dev.st o slot (decide (s.dev.io.live.slotState o slot = 2)) = some src)
    (hpair : nextPair s.dev.io.live l src (r.tm.instantOf (r.frame + 1) 0) f = some (a, c)) : Runs (.estimationDone o l dt) s fun d d' =>
      (d'.sc.frc o l).map (fun f' => f'.fields) = some (f.fields ++ [(a.media, c.media, d.sc.nextField)]) ∧ d'.sc.nextField = d.sc.nextField + 1 := by
  refine Runs.settle (f := fun d => match (d.tick dt).outRt o with
    | some r => { d.tick dt with sc := estimated o l (d.tick dt).io (d.tick dt).st (d.tick dt).sc (r.tm.instantOf (r.frame + 1) 0) }
    | none => d.tick dt) rfl ?_
  have hticked : (s.dev.tick dt).outRt o = some r := hout
  have hfield := estimated_pair (io := s.dev.io.tick dt) hf hmode hslot hstate hsrc hpair
  obtain ⟨ho, hl⟩ := Scanout.frc_place hf
  simp only [(Dev.settle_only _).sc, hticked, Dev.tick_io, Dev.tick_st, Dev.tick_sc, hfield]
  have hset : (s.dev.sc.setFrc (f.withField a c s.dev.sc.nextField)).frc o l = some (f.withField a c s.dev.sc.nextField) := by
    rw [← ho, ← hl]
    exact Scanout.frc_setFrc
  exact ⟨congrArg (Option.map FrcRt.fields) hset, trivial⟩

/-! Job queries (R291). -/

section
variable {e : Fin 144} {v : Word} {io : Io} {sc : Scanout}

/-- The words of the stage that a job entry names; zeros for an entry that is not valid. -/
def Scanout.jobWords (sc : Scanout) (view : View) (job : Word) : List Word :=
  if bit job 31 then
    match sc.frc (bits job 12 9) (bits job 0 12) with
    | some f => f.words (view.layerMode f.layer)
    | none => List.replicate 7 0
  else List.replicate 7 0

/-- The job entry that a query of an engine names. -/
abbrev Io.queriedJob (io : Io) (e : Fin 144) (v : Word) : Word := io.reg (.prsm e) (Reg.PRSM_JOB + 4 * bits v 0 6)

theorem Scanout.length_jobWords (view : View) (job : Word) : (sc.jobWords view job).length = 7 := by
  unfold Scanout.jobWords
  split
  · split <;> rfl
  · rfl

theorem liveRow_frcJobSel (e : Fin 144) : ∃ r, LiveRow (.frc e) Reg.FRC_JOB_SEL 0x3F r := ⟨_, rfl, rfl, rfl, rfl⟩

theorem laycAddr_ne_frc (l w : Nat) (e : Fin 144) {off : Nat} (h : off < 0x1000) : laycAddr l w ≠ regAddr (.frc e) off := by
  simp only [laycAddr, regAddr, pageBase]
  omega

/-- A write of an FRC register leaves the layers alone. -/
theorem Io.layerMode_put_frc (l : Nat) {off : Nat} (w : Word) (h : off < 0x1000) : (io.put (.frc e) off w).live.layerMode l = io.live.layerMode l :=
  congrArg (bits · 0 2) (Io.rd_put_ne io w (laycAddr_ne_frc l 24 e h))

theorem Io.queriedJob_put_frc {off : Nat} (w : Word) (h : off < 0x1000) : (io.put (.frc e) off w).queriedJob e v = io.queriedJob e v :=
  have hv := bits_lt v 0 6
  Io.reg_put_page io w h (show _ < 0x1000 by unfold Reg.PRSM_JOB; omega) (by simp)

theorem frcJobSel_eq (ha : io.accepts (.frc e) Reg.FRC_JOB_SEL v = true) : frcJobSel e v io sc =
    (sc.jobWords io.live (io.queriedJob e v)).zipIdx.foldl (fun io x => io.put (.frc e) (Reg.FRC_JOB_STAT + 4 * x.2) x.1)
      (io.regWrite 0 (.frc e) Reg.FRC_JOB_SEL v) := by
  obtain ⟨r, hr⟩ := liveRow_frcJobSel e
  have hwords : ∀ w, sc.jobWords (io.put (.frc e) Reg.FRC_JOB_SEL w).live ((io.put (.frc e) Reg.FRC_JOB_SEL w).queriedJob e v)
      = sc.jobWords io.live (io.queriedJob e v) := fun w => by
    simp only [Scanout.jobWords, Io.layerMode_put_frc _ w (show Reg.FRC_JOB_SEL < 0x1000 by decide),
      Io.queriedJob_put_frc w (show Reg.FRC_JOB_SEL < 0x1000 by decide)]
  rw [frcJobSel, ha, hr.regWrite ha, ← hwords]
  rfl

/-- Each word of the snapshot is in its place. -/
theorem reg_frcJobSel (ha : io.accepts (.frc e) Reg.FRC_JOB_SEL v = true) {i : Nat} (h : i < 7) :
    some ((frcJobSel e v io sc).reg (.frc e) (Reg.FRC_JOB_STAT + 4 * i)) = (sc.jobWords io.live (io.queriedJob e v))[i]? := by
  rw [frcJobSel_eq ha, Io.reg_putWords _ _ _ _ 0 (Nat.zero_le i) (by rwa [Nat.zero_add, Scanout.length_jobWords]), Nat.sub_zero]

end

section
variable {e : Fin 144} {v : Word} {s : State} (ha : s.dev.io.accepts (.frc e) Reg.FRC_JOB_SEL v = true)
include ha

theorem runs_frcJobSel_valid {f : FrcRt} (hvalid : bit (s.dev.io.queriedJob e v) 31 = true)
    (hf : s.dev.sc.frc (bits (s.dev.io.queriedJob e v) 12 9) (bits (s.dev.io.queriedJob e v) 0 12) = some f) : Runs (.frcJobSel e v) s fun d d' =>
      (List.range 7).map (fun i => d'.io.reg (.frc e) (Reg.FRC_JOB_STAT + 4 * i)) = f.words (d.io.live.layerMode f.layer) := by
  refine Runs.ofIo (f := fun io => frcJobSel e v io s.dev.sc) rfl (List.ext_getElem? fun i => ?_)
  have hwords : s.dev.sc.jobWords s.dev.io.live (s.dev.io.queriedJob e v) = f.words (s.dev.io.live.layerMode f.layer) := by
    rw [Scanout.jobWords, if_pos hvalid, hf]
  rw [← hwords]
  by_cases hi : i < 7
  · rw [← reg_frcJobSel ha hi, List.getElem?_map, List.getElem?_range hi]
    rfl
  · rw [List.getElem?_eq_none (by simpa using hi), List.getElem?_eq_none (by rw [Scanout.length_jobWords]; exact Nat.not_lt.1 hi)]

theorem runs_frcJobSel_free (hfree : bit (s.dev.io.queriedJob e v) 31 = false) : Runs (.frcJobSel e v) s fun _ d' =>
    ∀ i < 7, d'.io.reg (.frc e) (Reg.FRC_JOB_STAT + 4 * i) = 0 := by
  refine Runs.ofIo (f := fun io => frcJobSel e v io s.dev.sc) rfl fun i hi => Option.some_inj.1 ?_
  have hwords : s.dev.sc.jobWords s.dev.io.live (s.dev.io.queriedJob e v) = List.replicate 7 0 := if_neg (Bool.eq_false_iff.1 hfree)
  rw [Dev.onIo_io, reg_frcJobSel ha hi, hwords, List.getElem?_replicate, if_pos hi]

end

/-- Settles O54: a finished build by whether its plane finds space (`stockBuilt_placed`, `stockBuilt_unplaced`), an estimation by the field that its pair adds
(`estimated_pair`), a job query by the words that it leaves in their places (`reg_frcJobSel`). -/
theorem planesAndFieldsComplete : Obligations.PlanesAndFieldsComplete := by
  unfold Obligations.PlanesAndFieldsComplete
  intro o l e kib slot dt x f r src a c v s
  exact ⟨fun hrun hbuilds hcool => ⟨runs_stockBuildDone_placed dt hrun hbuilds hcool, runs_stockBuildDone_unplaced dt hrun hbuilds hcool⟩,
    runs_estimationDone dt,
    fun ha => ⟨runs_frcJobSel_valid ha, runs_frcJobSel_free ha⟩⟩

end Sys2Proof.Machine

/-! The Loupe cannot be turned off (R348, R38): from READY onwards its page ignores both writes, and nothing that settles touches the page. -/
namespace Sys2Proof.Machine

/-- A write that would end the Loupe is ignored: with reason 1 under CTL_LOCK, else with reason 0. -/
theorem Dev.disableWrite_loup {d : Dev} (hready : d.io.ready = true) (reset : Bool) :
    d.disableWrite .loup reset = d.onIo fun io => io.ignored .loup Reg.PAGE_CTL (b2n (d.io.flag .loup Reg.PAGE_LOCK 0)) := by
  unfold Dev.disableWrite
  split
  next hlock => rw [hlock]; rfl
  next hlock => rw [Bool.eq_false_iff.2 hlock, if_pos ⟨rfl, hready⟩]; rfl

theorem Dev.settle_reg_loup (d : Dev) {off : Nat} (h : off < 0x1000) : d.settle.io.reg .loup off = d.io.reg .loup off :=
  d.settle_same.reg ((settlePlace_page (p := .loup) h (by simp)).trans rfl)

/-- An ignored write leaves its record and nothing else of the page's header. -/
theorem runs_loup_ignored {c : Instr} {s : State} {reset : Bool} (hc : exec c s = s.settled fun d => d.disableWrite .loup reset)
    (hready : s.dev.io.ready = true) : Runs c s fun d d' =>
      d'.io.reg .loup Reg.PAGE_CTL = d.io.reg .loup Reg.PAGE_CTL ∧ d'.io.stateOf .loup = d.io.stateOf .loup ∧ d'.io.drains = d.io.drains
        ∧ d'.io.fld .loup Reg.ERR_CODE 0 16 = codeIgnored .loup ∧ d'.io.flag .loup Reg.EVT_PEND 0 = true
        ∧ d'.io.reg .loup Reg.ERR_INFO = Word.of (Reg.PAGE_CTL + b2n (d.io.flag .loup Reg.PAGE_LOCK 0) * 2 ^ 14) := by
  refine Runs.settle hc ?_
  rw [Dev.disableWrite_loup hready]
  generalize b2n (s.dev.io.flag .loup Reg.PAGE_LOCK 0) = reason
  have hreg : ∀ off < 0x1000, (s.dev.onIo fun io => io.ignored .loup Reg.PAGE_CTL reason).settle.io.reg .loup off
      = (s.dev.io.ignored .loup Reg.PAGE_CTL reason).reg .loup off := fun off h => Dev.settle_reg_loup _ h
  have hkept : Io.Same (fun _ => true) s.dev.io (s.dev.io.ignored .loup Reg.PAGE_CTL reason) := .ignored (fun _ _ => rfl) _ _ _ rfl rfl rfl
  have hstat := Io.reg_recordErr_off s.dev.io .loup (codeIgnored .loup) (Reg.PAGE_CTL % 2 ^ 14 + reason * 2 ^ 14) (off := Reg.PAGE_STAT)
    (by decide) (by decide) (by decide) (by decide)
  refine ⟨?_, ?_, ?_, ?_, ?_, ?_⟩
  · exact (hreg _ (by decide)).trans (Io.reg_recordErr_off _ _ _ _ (by decide) (by decide) (by decide) (by decide))
  · exact congrArg (bits · 1 3) ((hreg _ (by decide)).trans hstat)
  · exact (Dev.settle_same _).drains.trans hkept.drains
  · exact (congrArg (bits · 0 16) (hreg _ (by decide))).trans (Io.code_recordErr _ _ _ (codeIgnored_lt _))
  · exact (Io.flag_of_reg (hreg _ (by decide)) 0).trans (by rw [Io.ignored, Io.pend_recordErr]; rfl)
  · exact (hreg _ (by decide)).trans (Io.reg_recordErr_info ..)

/-- Settles O10: both writes of PAGE_CTL come to `Dev.disableWrite`, which ignores them (`Dev.disableWrite_loup`). -/
theorem theLoupeStaysOn : Obligations.TheLoupeStaysOn := by
  unfold Obligations.TheLoupeStaysOn
  rintro c s (rfl | rfl) hready
  · exact runs_loup_ignored (reset := false) rfl hready
  · exact runs_loup_ignored (reset := true) rfl hready

end Sys2Proof.Machine

/-! Checked rectangles (R345 to R347, R350): what the check of a FIXED rectangle shows and counts, and what RELEARN leaves of the expected values. -/
namespace Sys2Proof.Machine

section
variable (io : Io)

@[simp] theorem Io.tick_live (dt : Nat) : (io.tick dt).live = io.live := rfl

theorem Io.reg_count48_page {p q : PageRef} {a b : Nat} (n : Nat) (ha : a + 4 < pageSpan p) (hb : b < pageSpan q) (h : q ≠ p) :
    (io.count48 p a n).reg q b = io.reg q b :=
  (Io.reg_put_page _ _ ha hb h).trans (Io.reg_put_page _ _ (by omega) hb h)

theorem Io.wide_put_page {p q : PageRef} {a b : Nat} (v : Word) (ha : a < pageSpan p) (hb : b + 4 < pageSpan q) (h : q ≠ p) :
    (io.put p a v).wide q b = io.wide q b :=
  Io.wide_of_reg (Io.reg_put_page _ _ ha (by omega) h) (Io.reg_put_page _ _ ha hb h)

/-- The address is one that the Loupe's log may write: its head or its ring. -/
def loupLogPlace (a : Nat) : Bool :=
  decide (a = regAddr .loup Reg.LOUP_LOG_HEAD ∨ regAddr .loup Reg.LOUP_LOG ≤ a ∧ a < regAddr .loup Reg.LOUP_LOG + 512)

theorem Io.Same.loupLog (o r method frame : Nat) : Io.Same loupLogPlace io (io.loupLog o r method frame) :=
  .logTo _ _ _ _ _ _ _ (by simp) (by decide) (decide_eq_true (.inl rfl)) fun i hi =>
    decide_eq_true (.inr (by simp only [regAddr, Reg.LOUP_LOG]; omega))

theorem loupLogPlace_outc (o : Fin 512) (off : Nat) : loupLogPlace (regAddr (.outc o) off) = false :=
  decide_eq_false (by simp only [regAddr, pageBase, Reg.LOUP_LOG, Reg.LOUP_LOG_HEAD]; omega)

/-- Between its head and its ring lie the counters. -/
theorem loupLogPlace_between {off : Nat} (h : Reg.LOUP_LOG_HEAD < off) (h' : off < Reg.LOUP_LOG) : loupLogPlace (regAddr .loup off) = false :=
  decide_eq_false (by simp only [regAddr]; omega)

end

/-- A check of a rectangle is shown: its value, the count of the rectangle and that of the Loupe. -/
def Io.checkShown (io : Io) (o : Fin 512) (r value : Nat) : Io :=
  ((io.put (.outc o) (0x280 + 8 * r) (Word.of value)).addSat (.outc o) (0x284 + 8 * r) 16 16 1).count48 .loup Reg.LOUP_CHECKS_LO 1

/-- A mismatch of a driver's rectangle is shown: the counts, the log and event 26. -/
def Io.mismatchShown (io : Io) (o : Fin 512) (r method frame : Nat) : Io :=
  (((io.addSat (.outc o) (0x284 + 8 * r) 0 16 1).count48 .loup Reg.LOUP_MISMATCHES_LO 1).loupLog o r method frame).raise (.outc o) 26

section
variable (io : Io) (o : Fin 512) {r : Nat} (hr : r < 7) (method frame value : Nat)
include hr

theorem loupeCount_driver (bad : Bool) : loupeCount o r method frame value bad io =
    if bad then (io.checkShown o r value).mismatchShown o r method frame else io.checkShown o r value := by
  cases bad
  · simp [loupeCount, outPage_val, Io.checkShown]
  · simp [loupeCount, outPage_val, Io.checkShown, Io.mismatchShown, hr]

theorem Io.checkShown_value : (io.checkShown o r value).reg (.outc o) (0x280 + 8 * r) = Word.of value := by
  rw [Io.checkShown, Io.reg_count48_page _ _ (by decide) (show _ < 0x1000 by omega) (by simp), Io.addSat, Io.reg_setFld_off _ _ _ _ (by omega),
    Io.reg_put_self]

theorem Io.checkShown_pend : (io.checkShown o r value).reg (.outc o) Reg.EVT_PEND = io.reg (.outc o) Reg.EVT_PEND := by
  have h : Reg.EVT_PEND < 0x280 := by decide
  rw [Io.checkShown, Io.reg_count48_page _ _ (by decide) (lt_pageSpan (by decide) _) (by simp), Io.addSat, Io.reg_setFld_off _ _ _ _ (by omega),
    Io.reg_put_off _ _ (by omega)]

theorem Io.checkShown_checks : (io.checkShown o r value).wide .loup Reg.LOUP_CHECKS_LO = sat 48 (io.wide .loup Reg.LOUP_CHECKS_LO + 1) := by
  rw [Io.checkShown, Io.wide_count48, Io.addSat, Io.setFld, Io.wide_put_page _ _ (show _ < 0x1000 by omega) (by decide) (by simp),
    Io.wide_put_page _ _ (show _ < 0x1000 by omega) (by decide) (by simp)]

theorem Io.checkShown_mismatches : (io.checkShown o r value).wide .loup Reg.LOUP_MISMATCHES_LO = io.wide .loup Reg.LOUP_MISMATCHES_LO := by
  rw [Io.checkShown, Io.wide_count48_off _ _ _ (.inr (by decide)), Io.addSat, Io.setFld,
    Io.wide_put_page _ _ (show _ < 0x1000 by omega) (by decide) (by simp), Io.wide_put_page _ _ (show _ < 0x1000 by omega) (by decide) (by simp)]

theorem Io.mismatchShown_value : (io.mismatchShown o r method frame).reg (.outc o) (0x280 + 8 * r) = io.reg (.outc o) (0x280 + 8 * r) := by
  have hEvt : Reg.EVT_PEND < 0x280 := by decide
  rw [Io.mismatchShown, Io.reg_raise _ _ (show _ < 0x1000 by omega) (by simp) (.inr (by omega)), (Io.Same.loupLog ..).reg (loupLogPlace_outc ..),
    Io.reg_count48_page _ _ (by decide) (show _ < 0x1000 by omega) (by simp), Io.addSat, Io.reg_setFld_off _ _ _ _ (by omega)]

omit hr in
/-- The log and the event leave the counters of the Loupe. -/
theorem Io.mismatchShown_counter {off : Nat} (h : Reg.LOUP_LOG_HEAD < off) (h' : off + 4 < Reg.LOUP_LOG) :
    (io.mismatchShown o r method frame).wide .loup off
      = ((io.addSat (.outc o) (0x284 + 8 * r) 0 16 1).count48 .loup Reg.LOUP_MISMATCHES_LO 1).wide .loup off := by
  have hlog : Reg.LOUP_LOG < pageSpan .loup := by decide
  have hreg : ∀ x, Reg.LOUP_LOG_HEAD < x → x < Reg.LOUP_LOG → (io.mismatchShown o r method frame).reg .loup x
      = ((io.addSat (.outc o) (0x284 + 8 * r) 0 16 1).count48 .loup Reg.LOUP_MISMATCHES_LO 1).reg .loup x := fun x hlo hhi =>
    (Io.reg_raise _ _ (hhi.trans hlog) (by simp) (.inl (by simp))).trans ((Io.Same.loupLog ..).reg (loupLogPlace_between hlo hhi))
  exact Io.wide_of_reg (hreg _ h (by omega)) (hreg _ (by omega) h')

theorem Io.mismatchShown_checks : (io.mismatchShown o r method frame).wide .loup Reg.LOUP_CHECKS_LO = io.wide .loup Reg.LOUP_CHECKS_LO := by
  rw [Io.mismatchShown_counter _ _ _ _ (by decide) (by decide), Io.wide_count48_off _ _ _ (.inl (by decide)), Io.addSat, Io.setFld,
    Io.wide_put_page _ _ (show _ < 0x1000 by omega) (by decide) (by simp)]

theorem Io.mismatchShown_mismatches :
    (io.mismatchShown o r method frame).wide .loup Reg.LOUP_MISMATCHES_LO = sat 48 (io.wide .loup Reg.LOUP_MISMATCHES_LO + 1) := by
  rw [Io.mismatchShown_counter _ _ _ _ (by decide) (by decide), Io.wide_count48, Io.addSat, Io.setFld,
    Io.wide_put_page _ _ (show _ < 0x1000 by omega) (by decide) (by simp)]

omit hr in
theorem Io.mismatchShown_event : (io.mismatchShown o r method frame).flag (.outc o) Reg.EVT_PEND 26 = true := Io.raised _ _ (by decide)

end

section
variable {io : Io} {sc : Scanout} {o : Fin 512} {k : Fin 8} {t value : Nat} {rt : OutRt} {rect : Rect}

/-- The value that the entry of a rectangle expects. -/
abbrev View.expected (v : View) (o k : Nat) : Nat := (v.outc o (Reg.OUTC_LPE_EXP + 16 * k)).toNat

/-- A result of a FIXED rectangle that is due is counted, with a mismatch where the value is not the expected one, and the rectangle is done for the frame. -/
theorem loupeResult_fixed (hout : FMap.find sc.outs o = some rt) (hrect : io.live.loupeRect o k = some rect) (hk : k.val < 7)
    (hmethod : (io.live.loupeMethod o).1 ≠ 0) (hin : rt.inFrame = true) (hheld : rt.held = false) (hacted : io.acted o = 0)
    (hnew : sc.loupe.done.contains (rectKey o k) = false) (hfixed : bits (io.live.outc o (Reg.OUTC_LPE_CTL + 16 * k)) 1 2 = 0)
    (hdue : loupeDue rt.tm rt.frame (io.live.loupeMethod o).1 rect ≤ t) (hcrc : rectCrc rt.pic rt.picture rect = some value) :
    (loupeResult o k t io sc).1 = loupeCount o k (io.live.loupeMethod o).1 rt.frame value (decide (value ≠ io.live.expected o k)) io
      ∧ (loupeResult o k t io sc).2.loupe.done = rectKey o k :: sc.loupe.done := by
  have hgo : ¬ ((io.live.loupeMethod o).1 = 0 ∨ (!rt.inFrame) = true ∨ rt.held = true ∨ io.acted o ≠ 0 ∨ sc.loupe.done.contains (rectKey o k) = true
      ∨ t < loupeDue rt.tm rt.frame (io.live.loupeMethod o).1 rect) := by
    simp only [hmethod, hin, hheld, hacted, hnew, Nat.not_lt.2 hdue, Bool.not_true, Bool.false_eq_true, ne_eq, not_true_eq_false, or_self,
      not_false_eq_true]
  simp only [loupeResult, hout, hrect, if_neg hgo, hcrc, if_pos hk, rectMismatch, if_pos hfixed, and_self]

end

theorem runs_loupeResult_fixed {o : Fin 512} {k : Fin 8} {r : OutRt} {rect : Rect} {value dt : Nat} {s : State} (hout : s.dev.outRt o = some r)
    (hrect : s.dev.io.live.loupeRect o k = some rect) (hk : k.val < 7) (hmethod : (s.dev.io.live.loupeMethod o).1 ≠ 0) (hin : r.inFrame = true)
    (hheld : r.held = false) (hacted : s.dev.io.acted o = 0) (hnew : s.dev.sc.loupe.done.contains (rectKey o k) = false)
    (hfixed : bits (s.dev.io.live.outc o (Reg.OUTC_LPE_CTL + 16 * k)) 1 2 = 0)
    (hdue : loupeDue r.tm r.frame (s.dev.io.live.loupeMethod o).1 rect ≤ r.clock (s.dev.io.tick dt)) (hcrc : rectCrc r.pic r.picture rect = some value) :
    Runs (.loupeResult o k dt) s fun d d' =>
      d'.io.reg (.outc o) (0x280 + 8 * k) = Word.of value ∧ d'.io.wide .loup Reg.LOUP_CHECKS_LO = sat 48 (d.io.wide .loup Reg.LOUP_CHECKS_LO + 1)
        ∧ d'.sc.loupe.done.contains (rectKey o k) = true
        ∧ (value = d.io.live.expected o k → d'.io.flag (.outc o) Reg.EVT_PEND 26 = d.io.flag (.outc o) Reg.EVT_PEND 26)
        ∧ (value ≠ d.io.live.expected o k → d'.io.flag (.outc o) Reg.EVT_PEND 26 = true
            ∧ d'.io.wide .loup Reg.LOUP_MISMATCHES_LO = sat 48 (d.io.wide .loup Reg.LOUP_MISMATCHES_LO + 1)) := by
  obtain ⟨hio, hdone⟩ := loupeResult_fixed (io := s.dev.io.tick dt) (sc := s.dev.sc) hout hrect hk hmethod hin hheld hacted hnew hfixed hdue hcrc
  have hticked : (s.dev.tick dt).outRt o = some r := hout
  refine Runs.intro (f := fun d => match (d.tick dt).outRt o with
    | some rt => (d.tick dt).onSc fun io sc => loupeResult o k (rt.clock io) io sc
    | none => d.tick dt) rfl ?_
  simp only [hticked, Dev.onSc_io, Dev.onSc_sc, Dev.tick_io, Dev.tick_sc]
  rw [hio, hdone, loupeCount_driver _ _ hk, Io.tick_live]
  by_cases heq : value = s.dev.io.live.expected o k
  · rw [if_neg (by simp [heq])]
    exact ⟨Io.checkShown_value _ _ hk _, Io.checkShown_checks _ _ hk _, by simp, fun _ => Io.flag_of_reg (Io.checkShown_pend _ _ hk _) 26,
      fun hne => absurd heq hne⟩
  · rw [if_pos (by simp [heq])]
    exact ⟨(Io.mismatchShown_value _ _ hk _ _).trans (Io.checkShown_value _ _ hk _),
      (Io.mismatchShown_checks _ _ hk _ _).trans (Io.checkShown_checks _ _ hk _), by simp, fun h => absurd h heq,
      fun _ => ⟨Io.mismatchShown_event .., (Io.mismatchShown_mismatches _ _ hk _ _).trans
        (congrArg (sat 48 <| · + 1) (Io.checkShown_mismatches _ _ hk _))⟩⟩

theorem FMap.find_keep {α : Type} (p : Nat → Bool) (m : FMap α) (a : Nat) : FMap.find (FMap.keep p m) a = if p a then FMap.find m a else none := by
  induction m with
  | nil => simp [FMap.keep]
  | cons e m ih =>
    obtain ⟨k, v⟩ := e
    have ih : FMap.find (m.filter fun e => p e.1) a = if p a then FMap.find m a else none := ih
    rw [FMap.keep, List.filter_cons]
    by_cases hk : p k = true
    · rw [if_pos hk, FMap.find_cons, FMap.find_cons, ih]
      by_cases ha : a = k
      · simp [ha, hk]
      · simp [ha]
    · rw [if_neg hk, ih, FMap.find_cons]
      by_cases ha : a = k
      · simp [ha, hk]
      · simp [ha]

/-- RELEARN forgets the expected values of the rectangles that it selects. -/
theorem Scanout.expect_relearn (sc : Scanout) (o : Nat) (which : Nat → Bool) {i : Nat} (hi : i < 8) :
    FMap.find (sc.relearn o which).loupe.expect (rectKey o i) = if which i then none else FMap.find sc.loupe.expect (rectKey o i) := by
  have hout : rectKey o i / 8 = o := by unfold rectKey; omega
  have hrect : rectKey o i % 8 = i := by unfold rectKey; omega
  rw [Scanout.relearn, FMap.find_keep, hout, hrect]
  cases which i <;> simp

theorem runs_outcLpeRelearn {o : Fin 512} {v : Word} {s : State} (ha : s.dev.io.accepts (.outc o) Reg.OUTC_LPE_RELEARN v = true) :
    Runs (.outcLpeRelearn o v) s fun d d' =>
      ∀ i < 7, FMap.find d'.sc.loupe.expect (rectKey o i) = if bit v i then none else FMap.find d.sc.loupe.expect (rectKey o i) := by
  refine Runs.intro (f := fun d => d.onSc (loupeRelearn o v)) rfl fun i hi => ?_
  rw [Dev.onSc_sc, loupeRelearn, outPage_val, if_pos ha, Scanout.expect_relearn _ _ _ (by omega), decide_eq_true hi, Bool.true_and]

/-- Settles O53: a due check by `loupeResult_fixed` and what `Io.checkShown` and `Io.mismatchShown` leave, RELEARN by `Scanout.expect_relearn`. -/
theorem rectanglesAreChecked : Obligations.RectanglesAreChecked := by
  unfold Obligations.RectanglesAreChecked
  intro o k r rect value v dt s
  exact ⟨runs_loupeResult_fixed, runs_outcLpeRelearn⟩

end Sys2Proof.Machine

/-! Packets of egress flows and host frames (R338, R340, R342): what a sent packet shows in its entry and in the SCAN page, and what becomes of a transmit slot. -/
namespace Sys2Proof.Machine

/-! Sending on a port and the words of an egress entry leave the SCAN pages. -/

/-- The address lies outside the SCAN page of a tile. -/
def offScan (t : Fin 16) (a : Nat) : Bool := decide (a < pageBase (.scan t) ∨ pageBase (.scan t) + 0x1000 ≤ a)

section
variable {t : Fin 16}

theorem offScan_reg {off : Nat} (h : off < 0x1000) : offScan t (regAddr (.scan t) off) = false :=
  decide_eq_false (by unfold regAddr; omega)

theorem offScan_egr (e w : Nat) : offScan t (egrAddr e w) = true :=
  decide_eq_true (by simp only [egrAddr, pageBase]; omega)

theorem sendPlace_scan (p : Fin 128) {off : Nat} (h : off < 0x1000) : sendPlace p (regAddr (.scan t) off) = false := by
  rw [sendPlace, eventPlace_page (p := .scan t) h (by simp), placeOf_regAddr (.scan t) off h]
  rfl

theorem offScan_send {p : Fin 128} {a : Nat} (h : sendPlace p a = true) : offScan t a = true := by
  refine decide_eq_true (by_contra fun hin => ?_)
  have ha : a = regAddr (.scan t) (a - pageBase (.scan t)) := by unfold regAddr; omega
  rw [ha, sendPlace_scan p (by omega)] at h
  exact Bool.noConfusion h

variable (io : Io)

theorem Io.Same.macSend_scan (key : Nat → Option (List Byte)) (p : Fin 128) (bs : List Byte) : Io.Same (offScan t) io (Machine.macSend key p bs io) :=
  (Io.Same.macSend io key bs).mono fun _ => offScan_send

theorem Io.Same.setEs_scan (e w : Nat) (v : Word) : Io.Same (offScan t) io (io.setEs e w v) := .wr _ _ (offScan_egr e w)

theorem Io.Same.egrCount48_scan (e w n : Nat) : Io.Same (offScan t) io (io.egrCount48 e w n) :=
  (Io.Same.setEs_scan io ..).trans (.setEs_scan ..)

end

/-! A packet leaves (R337, R338, R340). -/

theorem Io.es_setEs_self (io : Io) (e w : Nat) (v : Word) : (io.setEs e w v).es e w = v := Io.rd_wr_self ..

theorem Io.es_setEs_off (io : Io) (e : Nat) {w x : Nat} (v : Word) (h : x ≠ w) : (io.setEs e w v).es e x = io.es e x :=
  Io.rd_wr_ne _ _ (by unfold egrAddr; omega)

theorem Scanout.egrRt_setEgr (sc : Scanout) (e : Nat) (r : EgrRt) : (sc.setEgr e r).egrRt e = r := by
  rw [Scanout.egrRt, Scanout.setEgr, FMap.find_insert_self, Option.getD_some]

section
variable (key : Nat → Option (List Byte)) (e seq : Nat) (ends : Bool) (packet : List Byte) (io : Io) (sc : Scanout)

/-- The status words of a flow that sends: packets, bytes, the last sequence number and timestamp, STATE (R334). -/
def Io.egrSending (io : Io) (e seq ts bytes : Nat) : Io :=
  ((((io.egrCount48 e 33 1).egrCount48 e 35 bytes).setEs e 38 (Word.of seq)).setEs e 39 (Word.of ts)).setEgrState e 1

/-- They stand so once a packet has left, and the last one of a frame counts the frame. -/
def Io.egrShown (io : Io) (e seq : Nat) (ends : Bool) (ts bytes : Nat) : Io :=
  let shown := io.egrSending e seq ts bytes
  if ends then shown.setEs e 37 (Word.of (sat 32 ((shown.es e 37).toNat + 1))) else shown

theorem Io.egrShown_es {w : Nat} (ts bytes : Nat) (h : w ≠ 37) : (io.egrShown e seq ends ts bytes).es e w = (io.egrSending e seq ts bytes).es e w := by
  cases ends
  · rfl
  · exact Io.es_setEs_off _ _ _ h

theorem Io.egrShown_seq (ts bytes : Nat) : (io.egrShown e seq ends ts bytes).es e 38 = Word.of seq := by
  rw [Io.egrShown_es _ _ _ _ _ _ (by decide), Io.egrSending, Io.setEgrState, Io.es_setEs_off _ _ _ (by decide), Io.es_setEs_off _ _ _ (by decide),
    Io.es_setEs_self]

theorem Io.egrShown_sending (ts bytes : Nat) : bits ((io.egrShown e seq ends ts bytes).es e 32) 0 2 = 1 := by
  rw [Io.egrShown_es _ _ _ _ _ _ (by decide), Io.egrSending, Io.setEgrState, Io.es_setEs_self, bits_setBits_self _ _ _ _ (by decide)]
  rfl

theorem Io.Same.egrShown_scan {t : Fin 16} (ts bytes : Nat) : Io.Same (offScan t) io (io.egrShown e seq ends ts bytes) := by
  have hsending : Io.Same (offScan t) io (io.egrSending e seq ts bytes) :=
    ((((Io.Same.egrCount48_scan io e 33 1).trans (.egrCount48_scan _ e 35 bytes)).trans (.setEs_scan ..)).trans (.setEs_scan ..)).trans (.setEs_scan ..)
  cases ends
  · exact hsending
  · exact hsending.trans (.setEs_scan ..)

/-- A packet leaves on one leg or two, and its flow shows it. -/
theorem egressSend_eq : ∃ sent ts bytes, (∀ t : Fin 16, Io.Same (offScan t) io sent)
    ∧ egressSend key e seq ends packet io sc
      = (sent.egrShown e seq ends ts bytes, sc.setEgr e { sc.egrRt e with ident := ((sc.egrRt e).ident + 1) % 2 ^ 16 }) := by
  refine ⟨_, _, _, fun t => ?_, rfl⟩
  split
  · exact (Io.Same.macSend_scan ..).trans (.macSend_scan ..)
  · exact .macSend_scan ..

end

section
variable {key : Nat → Option (List Byte)} {e o : Nat} {x : Ready} {io : Io} {aud : Audio} {sc : Scanout} {r : OutRt}

theorem View.packetTile_of_frameOut {v : View} (h : v.frameOut e = some o) : v.packetTile e = Fin.ofNat 16 (o / 32) := by
  rw [View.packetTile, h]

/-- The packet of a flow takes its sequence number, and its tile counts it. -/
theorem packetSend_shows (hout : io.live.frameOut e = some o) : let y := packetSend key e x io sc
    (y.2.egrRt e).seq = ((sc.egrRt e).seq + 1) % 2 ^ 32 ∧ (y.2.egrRt e).sent = (sc.egrRt e).sent + 1
      ∧ y.1.es e 38 = Word.of (sc.egrRt e).seq ∧ bits (y.1.es e 32) 0 2 = 1
      ∧ y.1.wide (.scan (Fin.ofNat 16 (o / 32))) Reg.SCAN_PKTS_TX_LO = sat 48 (io.wide (.scan (Fin.ofNat 16 (o / 32))) Reg.SCAN_PKTS_TX_LO + 1) := by
  rw [packetSend, View.packetTile_of_frameOut hout]
  generalize Fin.ofNat 16 (o / 32) = t
  dsimp only
  obtain ⟨sent, ts, bytes, hsame, hsend⟩ := egressSend_eq key e (sc.egrRt e).seq x.ends
    (rtpHeader x.marker (bits (io.live.egr e 25) 0 7) ((sc.egrRt e).seq % 65536) x.ts (io.live.egr e 26).toNat ++ x.body)
    (io.count48 (.scan t) Reg.SCAN_PKTS_TX_LO 1) sc
  rw [hsend]
  dsimp only
  rw [Scanout.egrRt_setEgr, Scanout.egrRt_setEgr]
  have hscan := (hsame t).trans (Io.Same.egrShown_scan e (sc.egrRt e).seq x.ends sent ts bytes)
  refine ⟨rfl, rfl, Io.egrShown_seq .., Io.egrShown_sending .., ?_⟩
  rw [Io.wide_of_reg (hscan.reg (offScan_reg (by decide))) (hscan.reg (offScan_reg (by decide))), Io.wide_count48]

theorem packetTx_due (hvalid : io.live.egrValid e = true) (hfeed : io.live.egrFeed e ≠ 3) (hframe : io.live.frameOut e = some o)
    (hout : FMap.find sc.outs o = some r) (hbusy : (sc.egrRt e).busy = true)
    (hready : frameReady io.live aud e r (sc.egrRt e).seq (sc.egrRt e).sent = some x) (hdue : x.due ≤ r.clock io) :
    packetTx key e io aud sc = packetSend key e x io sc := by
  simp [packetTx, sendNext, hvalid, hfeed, hframe, hout, hbusy, hready, hdue]

end

theorem runs_packetTx_due {e : Fin 4096} {o : Nat} {r : OutRt} {x : Ready} {dt : Nat} {s : State} (hvalid : s.dev.io.live.egrValid e = true)
    (hfeed : s.dev.io.live.egrFeed e ≠ 3) (hframe : s.dev.io.live.frameOut e = some o) (hout : FMap.find s.dev.sc.outs o = some r)
    (hbusy : (s.dev.sc.egrRt e).busy = true)
    (hready : frameReady s.dev.io.live s.dev.aud e r (s.dev.sc.egrRt e).seq (s.dev.sc.egrRt e).sent = some x)
    (hdue : x.due ≤ r.clock (s.dev.io.tick dt)) : Runs (.packetTx e dt) s fun d d' =>
      (d'.sc.egrRt e).seq = ((d.sc.egrRt e).seq + 1) % 2 ^ 32 ∧ (d'.sc.egrRt e).sent = (d.sc.egrRt e).sent + 1
        ∧ d'.io.es e 38 = Word.of (d.sc.egrRt e).seq ∧ bits (d'.io.es e 32) 0 2 = 1
        ∧ d'.io.wide (.scan (Fin.ofNat 16 (o / 32))) Reg.SCAN_PKTS_TX_LO
          = sat 48 (d.io.wide (.scan (Fin.ofNat 16 (o / 32))) Reg.SCAN_PKTS_TX_LO + 1) := by
  refine Runs.intro (f := fun d => (d.tick dt).onSc fun io sc => packetTx (d.tick dt).macKey e io (d.tick dt).aud sc) rfl ?_
  rw [Dev.onSc_io, Dev.onSc_sc, Dev.tick_io, Dev.tick_sc, Dev.tick_aud,
    packetTx_due (io := s.dev.io.tick dt) hvalid hfeed hframe hout hbusy hready hdue]
  exact packetSend_shows (io := s.dev.io.tick dt) hframe

/-! The host transmit ring (R342). -/

/-- A slot names a port of its tile that is configured, and a frame that may be sent. -/
def Io.htxOk (io : Io) (t : Fin 16) (port len : Nat) : Bool := decide (port / 8 = t.val) && io.portConfigured port && decide (60 ≤ len ∧ len ≤ 2032)

/-- The frame of a slot is sent and counted, and its stamp is handed back where the slot asks for it. -/
def htxGone (key : Nat → Option (List Byte)) (t : Fin 16) (slot : List Byte) (addr : Nat) (io : Io) : Io :=
  let port := portIx (leAt slot 0 4 % 128)
  let sent := macSend key port ((slot.drop 16).take (leAt slot 4 4 % 2 ^ 14)) io
  let stamped := if (leAt slot 0 4).testBit 8 then sent.emit (.hostWrite (addr + 8) (leBytes 8 (sent.stamp port Reg.MAC_TS_TX_ADJ % 2 ^ 64))) else sent
  stamped.count48 (.scan t) Reg.SCAN_HTX_SENT_LO 1

/-- A slot that may not be sent is counted and recorded. -/
def Io.htxSkipped (io : Io) (t : Fin 16) : Io := ((io.count48 (.scan t) Reg.SCAN_HTX_BAD_LO 1).recordOpen (.scan t) 0x0C18).raise (.scan t) 2

/-- The next slot of the ring is taken. -/
def Io.htxTaken (io : Io) (t : Fin 16) : Io :=
  io.put (.scan t) Reg.SCAN_HTX_HEAD (Word.of (((io.reg (.scan t) Reg.SCAN_HTX_HEAD).toNat + 1) % 2 ^ io.fld (.scan t) Reg.SCAN_HTX_CFG 1 4))

section
variable {key : Nat → Option (List Byte)} {t : Fin 16} {slot : List Byte} {io : Io} {sc : Scanout}

/-- Where the slot at the head of a ring lies. -/
abbrev Io.htxSlot (io : Io) (t : Fin 16) : Nat := io.wide (.scan t) Reg.SCAN_HTX_BASE_LO + 2048 * (io.reg (.scan t) Reg.SCAN_HTX_HEAD).toNat

/-- A running ring with a slot to send takes it, sends or skips it, and hands it back. -/
theorem htxSend_takes (hrun : io.running (.scan t) = true) (hon : io.flag (.scan t) Reg.SCAN_HTX_CFG 0 = true)
    (hslots : (io.reg (.scan t) Reg.SCAN_HTX_HEAD).toNat ≠ (io.reg (.scan t) Reg.SCAN_HTX_TAIL).toNat % 2 ^ io.fld (.scan t) Reg.SCAN_HTX_CFG 1 4)
    (hquiet : ∀ at_, FMap.find sc.htxAt t = some at_ → at_ + 10000 ≤ io.up) :
    (htxSend key t slot io sc).1 =
      (if (io.htxTaken t).htxOk t (leAt slot 0 4 % 128) (leAt slot 4 4 % 2 ^ 14) then htxGone key t slot (io.htxSlot t) (io.htxTaken t)
        else (io.htxTaken t).htxSkipped t).emit (.hostWrite (io.htxSlot t) (leBytes 4 (leAt slot 0 4 % 2 ^ 31 + 2 ^ 31))) := by
  refine (congrArg Prod.fst (if_neg ?_)).trans rfl
  rintro (h | h | h | h)
  · simp [hrun] at h
  · simp [hon] at h
  · exact hslots h
  · split at h
    next at_ hat => simp [hquiet at_ hat] at h
    next => exact Bool.noConfusion h

theorem Io.htxTaken_off {off : Nat} (h : off ≠ Reg.SCAN_HTX_HEAD) : (io.htxTaken t).reg (.scan t) off = io.reg (.scan t) off := Io.reg_put_off _ _ h

/-- The ring leaves the ports alone. -/
theorem Io.htxTaken_ok (port len : Nat) : (io.htxTaken t).htxOk t port len = io.htxOk t port len := by
  have hstat : (io.htxTaken t).running (.pcs (Fin.ofNat 128 port)) = io.running (.pcs (Fin.ofNat 128 port)) := by
    rw [Io.running, Io.stateOf, Io.fld, Io.htxTaken, Io.reg_put_page _ _ (show _ < 0x1000 by decide) (show _ < 0x1000 by decide) (by simp)]
    rfl
  rw [Io.htxOk, Io.portConfigured, hstat]
  rfl

theorem Io.htxOk_iff (port len : Nat) : io.htxOk t port len = true ↔ port / 8 = t.val ∧ io.portConfigured port = true ∧ 60 ≤ len ∧ len ≤ 2032 := by
  simp [Io.htxOk, and_assoc]

variable (io)

/-- Sending leaves the SCAN page, and the count of sent slots is beside the head of the ring. -/
theorem htxGone_shows (addr : Nat) : (htxGone key t slot addr io).reg (.scan t) Reg.SCAN_HTX_HEAD = io.reg (.scan t) Reg.SCAN_HTX_HEAD
    ∧ (htxGone key t slot addr io).wide (.scan t) Reg.SCAN_HTX_SENT_LO = sat 48 (io.wide (.scan t) Reg.SCAN_HTX_SENT_LO + 1) := by
  unfold htxGone
  extract_lets port sent stamped
  have hsent : Io.Same (offScan t) io sent := .macSend_scan ..
  have hsame : Io.Same (offScan t) io stamped := by
    unfold stamped
    split
    · exact hsent.trans (.emit _ _)
    · exact hsent
  have hreg : ∀ off < 0x1000, stamped.reg (.scan t) off = io.reg (.scan t) off := fun off h => hsame.reg (offScan_reg h)
  constructor
  · rw [Io.count48, Io.reg_putWide_off _ _ _ _ (by decide) (by decide), hreg _ (by decide)]
  · rw [Io.wide_count48, Io.wide_of_reg (hreg _ (by decide)) (hreg _ (by decide))]

theorem Io.htxSkipped_shows : (io.htxSkipped t).reg (.scan t) Reg.SCAN_HTX_HEAD = io.reg (.scan t) Reg.SCAN_HTX_HEAD
    ∧ (io.htxSkipped t).wide (.scan t) Reg.SCAN_HTX_BAD_LO = sat 48 (io.wide (.scan t) Reg.SCAN_HTX_BAD_LO + 1)
    ∧ (io.htxSkipped t).fld (.scan t) Reg.ERR_CODE 0 16 = 0x0C18 ∧ (io.htxSkipped t).flag (.scan t) Reg.EVT_PEND 2 = true := by
  have hreg : ∀ off, 0x40 ≤ off → off < 0x100 → (io.htxSkipped t).reg (.scan t) off = (io.count48 (.scan t) Reg.SCAN_HTX_BAD_LO 1).reg (.scan t) off :=
    fun off hlo hhi => (Io.reg_raise_off _ _ _ hhi (by unfold Reg.EVT_PEND; omega)).trans
      (Io.reg_recordErr_off _ _ _ _ hhi (by unfold Reg.EVT_PEND; omega) (by unfold Reg.ERR_CODE; omega) (by unfold Reg.ERR_INFO; omega))
  refine ⟨?_, ?_, ?_, Io.raised _ _ (by decide)⟩
  · rw [hreg _ (by decide) (by decide), Io.count48, Io.reg_putWide_off _ _ _ _ (by decide) (by decide)]
  · rw [Io.wide_of_reg (hreg _ (by decide) (by decide)) (hreg _ (by decide) (by decide)), Io.wide_count48]
  · rw [Io.htxSkipped, Io.fld, Io.reg_raise_off _ _ _ (by decide) (by decide)]
    exact Io.code_recordErr _ _ _ (by decide)

end

theorem runs_htxSend {t : Fin 16} {slot : List Byte} {dt : Nat} {s : State} (hshape : Instr.wellFormed (.htxSend t slot dt) = true)
    (hrun : s.dev.io.running (.scan t) = true) (hon : s.dev.io.flag (.scan t) Reg.SCAN_HTX_CFG 0 = true) :
    let head := (s.dev.io.reg (.scan t) Reg.SCAN_HTX_HEAD).toNat
    let size := 2 ^ s.dev.io.fld (.scan t) Reg.SCAN_HTX_CFG 1 4
    let port := leAt slot 0 4 % 128
    let len := leAt slot 4 4 % 2 ^ 14
    head ≠ (s.dev.io.reg (.scan t) Reg.SCAN_HTX_TAIL).toNat % size → (∀ at_, FMap.find s.dev.sc.htxAt t = some at_ → at_ + 10000 ≤ s.dev.io.up + dt) →
    Runs (.htxSend t slot dt) s fun d d' =>
      d'.io.reg (.scan t) Reg.SCAN_HTX_HEAD = Word.of ((head + 1) % size)
        ∧ d'.io.out.head? = some (.hostWrite (d.io.htxSlot t) (leBytes 4 (leAt slot 0 4 % 2 ^ 31 + 2 ^ 31)))
        ∧ (port / 8 = t.val → d.io.portConfigured port = true → 60 ≤ len → len ≤ 2032 →
            d'.io.wide (.scan t) Reg.SCAN_HTX_SENT_LO = sat 48 (d.io.wide (.scan t) Reg.SCAN_HTX_SENT_LO + 1))
        ∧ (port / 8 ≠ t.val ∨ d.io.portConfigured port = false ∨ len < 60 ∨ 2032 < len →
            d'.io.wide (.scan t) Reg.SCAN_HTX_BAD_LO = sat 48 (d.io.wide (.scan t) Reg.SCAN_HTX_BAD_LO + 1)
              ∧ d'.io.fld (.scan t) Reg.ERR_CODE 0 16 = 0x0C18 ∧ d'.io.flag (.scan t) Reg.EVT_PEND 2 = true) := by
  intro head size port len hslots hquiet
  refine Runs.well (f := fun d => (d.tick dt).onSc fun io sc => htxSend (d.tick dt).macKey t slot io sc) rfl hshape ?_
  rw [Dev.onSc_io, Dev.tick_io, Dev.tick_sc, htxSend_takes (io := s.dev.io.tick dt) hrun hon hslots hquiet, Io.htxTaken_ok]
  have hticked : (s.dev.io.tick dt).htxOk t port len = s.dev.io.htxOk t port len := rfl
  have hhead : ((s.dev.io.tick dt).htxTaken t).reg (.scan t) Reg.SCAN_HTX_HEAD = Word.of ((head + 1) % size) := Io.reg_put_self ..
  have hwide : ∀ off, off ≠ Reg.SCAN_HTX_HEAD → off + 4 ≠ Reg.SCAN_HTX_HEAD →
      ((s.dev.io.tick dt).htxTaken t).wide (.scan t) off = s.dev.io.wide (.scan t) off := fun off h h' =>
    Io.wide_of_reg (io' := (s.dev.io.tick dt).htxTaken t) (Io.htxTaken_off h) (Io.htxTaken_off h')
  rw [hticked]
  by_cases hok : s.dev.io.htxOk t port len = true
  · obtain ⟨hgoneHead, hgoneCount⟩ := htxGone_shows (key := (s.dev.tick dt).macKey) (t := t) (slot := slot) ((s.dev.io.tick dt).htxTaken t)
      ((s.dev.io.tick dt).htxSlot t)
    obtain ⟨hport, hconf, hlo, hhi⟩ := Io.htxOk_iff port len |>.1 hok
    rw [if_pos hok]
    refine ⟨hgoneHead.trans hhead, rfl, fun _ _ _ _ => ?_, fun hbad => absurd hbad ?_⟩
    · exact hgoneCount.trans (by rw [hwide _ (by decide) (by decide)])
    · simp [hport, hconf, hlo, hhi]
  · obtain ⟨hskipHead, hskipCount, hskipCode, hskipEvent⟩ := ((s.dev.io.tick dt).htxTaken t).htxSkipped_shows (t := t)
    rw [if_neg hok]
    refine ⟨hskipHead.trans hhead, rfl, fun hport hconf hlo hhi => absurd (Io.htxOk_iff port len |>.2 ⟨hport, hconf, hlo, hhi⟩) hok, fun _ => ?_⟩
    exact ⟨hskipCount.trans (by rw [hwide _ (by decide) (by decide)]), hskipCode, hskipEvent⟩

end Sys2Proof.Machine

/-! The association that a port transmits with (R160). -/
namespace Sys2Proof.Machine

section
variable {p : Fin 128} {v : Word}

/-- A field whose bits are all stored takes its value from the write. -/
theorem LiveRow.bits_merge {q : PageRef} {off mask lo len : Nat} {r : Row} (h : LiveRow q off mask r) (old v : Word) (hlen : lo + len ≤ 32)
    (hmask : ∀ i < len, bit (Word.of mask) (lo + i) = true) : bits (r.merge old v) lo len = bits v lo len := by
  refine Nat.eq_of_testBit_eq fun i => ?_
  rw [testBit_bits, testBit_bits]
  by_cases hi : i < len
  · have hbit := bit_merge r old v (i := lo + i) (by omega)
    rw [h.mask, hmask i hi, if_pos rfl] at hbit
    exact congrArg _ hbit
  · simp [hi]

theorem liveRow_txAn (p : Fin 128) : ∃ r, LiveRow (.msec p) Reg.MSEC_TX_AN 0x3 r := ⟨_, rfl, rfl, rfl, rfl⟩

theorem Io.txAnWrite_on {io : Io} (ha : io.accepts (.msec p) Reg.MSEC_TX_AN v = true) (hon : io.saOn p (bits v 0 2) = true) :
    io.txAnWrite p v = (io.regWrite 0 (.msec p) Reg.MSEC_TX_AN v).raise (.msec p) 7 := by
  simp [Io.txAnWrite, ha, hon]

theorem Io.txAnWrite_off {io : Io} (ha : io.accepts (.msec p) Reg.MSEC_TX_AN v = true) (hoff : io.saOn p (bits v 0 2) = false) :
    io.txAnWrite p v = (io.ignored (.msec p) Reg.MSEC_TX_AN 0).recordOpen (.msec p) 0x0515 := by
  simp [Io.txAnWrite, ha, hoff]

variable {s : State} (ha : s.dev.io.accepts (.msec p) Reg.MSEC_TX_AN v = true)
include ha

theorem runs_msecTxAnWrite_selects (hon : s.dev.io.saOn p (bits v 0 2) = true) : Runs (.msecTxAnWrite p v) s fun _ d' =>
    d'.io.fld (.msec p) Reg.MSEC_TX_AN 0 2 = bits v 0 2 ∧ d'.io.flag (.msec p) Reg.EVT_PEND 7 = true := by
  obtain ⟨r, hr⟩ := liveRow_txAn p
  refine Runs.ofIo (f := fun io => io.txAnWrite p v) rfl ?_
  rw [Dev.onIo_io, Io.txAnWrite_on ha hon, hr.regWrite ha]
  refine ⟨?_, Io.raised _ _ (by decide)⟩
  rw [Io.fld, Io.reg_raise_off _ _ _ (by decide) (by decide), Io.reg_put_self]
  exact hr.bits_merge _ _ (by decide) (by decide)

theorem runs_msecTxAnWrite_refused (hoff : s.dev.io.saOn p (bits v 0 2) = false) : Runs (.msecTxAnWrite p v) s fun d d' =>
    d'.io.reg (.msec p) Reg.MSEC_TX_AN = d.io.reg (.msec p) Reg.MSEC_TX_AN ∧ d'.io.fld (.msec p) Reg.ERR_CODE 0 16 = 0x0515 := by
  have hkept : ∀ (io : Io) (code info : Nat), (io.recordErr (.msec p) code info).reg (.msec p) Reg.MSEC_TX_AN = io.reg (.msec p) Reg.MSEC_TX_AN :=
    fun io code info => Io.reg_recordErr_off _ _ _ _ (by decide) (by decide) (by decide) (by decide)
  refine Runs.ofIo (f := fun io => io.txAnWrite p v) rfl ?_
  rw [Dev.onIo_io, Io.txAnWrite_off ha hoff]
  exact ⟨(hkept _ _ _).trans (hkept _ _ _), Io.code_recordErr _ _ _ (by decide)⟩

end

/-- Settles O55: a packet by `packetTx_due` and `packetSend_shows`, a transmit slot by `htxSend_takes` and what sending or skipping it shows, an association by whether
the write finds EN (`Io.txAnWrite_on`, `Io.txAnWrite_off`). -/
theorem packetsLeave : Obligations.PacketsLeave := by
  unfold Obligations.PacketsLeave
  exact ⟨fun e o r x t slot dt s => ⟨runs_packetTx_due, runs_htxSend⟩, fun p v s ha => ⟨runs_msecTxAnWrite_selects ha, runs_msecTxAnWrite_refused ha⟩⟩

end Sys2Proof.Machine
